-- ==== Sys2Proof/Word.lean ====
section
/-!
DEFINITION. The word types of the machine (R54: registers of 64 bits; R80: instructions of 32 bits; R434: registers of the
register space of 32 bits) and bytes.
-/
namespace Sys2Proof

/-- One byte of a memory. -/
abbrev Byte := BitVec 8
/-- One 32-bit word: an instruction or a register of the register space. -/
abbrev Word := BitVec 32
/-- One 64-bit word: a general register of an engine. -/
abbrev DWord := BitVec 64

end Sys2Proof
end

