-- ==== Sys2Proof/Syntax.lean ====
section
/-!
DEFINITION. The commands of the device, one constructor for each row of the operation table, and the plain data they carry.
A command carries what its row's rule needs: which unit it concerns, which engine writes, the value written, what a converter
measured or a line brought.
-/
namespace Sys2Proof

/-- The place of an operand that a command's row once took from outside and the state now holds itself: it carries nothing, and
no meaning reads it. -/
abbrev NoOperand := Unit

/-- A scope (R41): its kind and its instance within the kind. -/
structure Scope where
  kind : BitVec 4
  inst : BitVec 12
deriving DecidableEq, Repr

/-- A request record (R28). -/
structure Req where
  origId : BitVec 16
  opcode : BitVec 16
  reqId : BitVec 32
  scope : Scope
  periodKind : BitVec 4
  periodSeq : BitVec 12
  indirect : Bool
  replyWanted : Bool
  payloadLen : BitVec 8
  payload : BitVec 128
deriving DecidableEq, Repr

/-- Where a request goes: queue Q0 to Q3 of an engine, or T4's inbound mailbox (R71, R74). -/
inductive QId where
  | queue (e : Fin 8) (q : Fin 4)
  | mailbox
deriving DecidableEq, Repr

/-- Who hands a request to a queue: an engine through its send window (R72), the protocol adapter of an engine's external
parties, or the service port (R71). -/
inductive Sender where
  | engine (e : Fin 8)
  | adapter
  | service
deriving DecidableEq, Repr

/-- A conversion of a temperature input (R271): its value in 0.125 degC, or an open or short circuit. -/
inductive TsReading where
  | value (v : BitVec 16)
  | openCircuit
  | shortCircuit
deriving DecidableEq, Repr

/-- The frame a SLOT_TICK starts, as the image assigns slots to jobs (the table steps that the spec states for it). -/
inductive Job where
  /-- An image's own table. -/
  | plain
  /-- T6: a cycle of scan class k begins, k its slot (R365); `load` is the share of the last cycle in use. -/
  | scan (load : Nat)
  /-- T6: the kicked cycle of SC6 or SC7 ends. -/
  | scanEnd
  /-- T0: an allocation frame (R216). -/
  | alloc
  /-- T4: a meter frame (R320). -/
  | meter
  /-- T1: the session table (R257). -/
  | sessions
  /-- T5: a cable thermal frame (R272). -/
  | cooling
  /-- T6: buffer estimation (R236). -/
  | buffer
  /-- T7: its event ring goes into the archive (R431). -/
  | archive
  /-- T2 or T3: a control frame (R16). -/
  | control
  /-- T7: an ECC error report (R19): the engine whose SRAM the byte at the address lies in, none for LPDDR4X; whether it was corrected. -/
  | ecc (sram : Option (Fin 8)) (addr : Nat) (correctable : Bool)
deriving DecidableEq, Repr

/-- An ISO 15118-20 request of a vessel (R254), with the elements that the session reads; `rest` stands for every other element but the header's
TimeStamp, so that two equal requests compare equal (R267). Currents in Q1.30 of 4,096 A, voltages in V or mV as named. -/
inductive VMsg where
  | appProtocol (dc : Bool) (rest : Nat)
  | sessionSetup (resume : Bool) (rest : Nat)
  | authorizationSetup (rest : Nat)
  | authorization (pnc : Bool) (rest : Nat)
  | service (dcOnly : Bool) (rest : Nat)
  | chargeParameters (iMax : BitVec 32) (volts : BitVec 16) (rest : Nat)
  | schedule (energy departure : BitVec 32) (rest : Nat)
  | cableCheck (rest : Nat)
  | preCharge (mV : Nat) (rest : Nat)
  | powerStart (rest : Nat)
  | powerStop (rest : Nat)
  | chargeLoop (current : BitVec 32) (rest : Nat)
  | welding (rest : Nat)
  | sessionStop (rest : Nat)
  | certificateInstallation (rest : Nat)
  /-- A message outside R254. -/
  | unsupported (rest : Nat)
  /-- No message: the handshake or a record fails, with a TLS alert code (R255). -/
  | tlsFail (alert : BitVec 8)
deriving DecidableEq, Repr

/-- What T0 finds for a token (R258, R266). -/
structure AuthResult where
  accepted : Bool
  critical : Bool
  token : BitVec 32
deriving DecidableEq, Repr

/-- What one upstream frame time of a lane brings (R158 to R170): nothing decodable; or 40 line bits, the first one lowest, with the round trip in
0.25 ns that is measured if they are the READY of GO 128. -/
inductive UpFrame where
  | silent
  | line (bits : BitVec 40) (rtt : BitVec 10)
deriving DecidableEq, Repr

/-- What the tests of boot steps 5 and 7 find (R148, R149): how often the training of LPDDR4X failed; the engines whose SRAM fails its built-in
test; a known-answer test of a crypto unit failed; the lanes whose loopback failed. Read only when a release takes place during boot. -/
structure BootTests where
  dramFails : Fin 3
  sramBad : BitVec 8
  cryptoBad : Bool
  lanesBad : BitVec 32
deriving DecidableEq, Repr

/-- What a source answers for a point (R362, R367): an integer that the source holds in so many bits, a binary32 or binary64 number, 8 octets taken as they are, an exception
response, or the acknowledgement of a write. -/
inductive Answer where
  | int (v : Int) (bits : Nat)
  | real32 (b : BitVec 32)
  | real64 (b : BitVec 64)
  | octets (b : BitVec 64)
  | exception
  | ack
deriving DecidableEq, Repr

/-- An answer decoded by T6's table step from a received frame: the point and what the source says. -/
structure PointAnswer where
  point : BitVec 20
  ans : Answer
deriving DecidableEq, Repr

/-- A unit with a receive and a transmit ring (R375): Ethernet port, UART, power-line modem. -/
inductive RingUnit where
  | eth (n : Fin 6)
  | uart (u : Fin 4)
  | plc
deriving DecidableEq, Repr

/-- A source of Modbus commands (R369): TCP client k with its connection count and the MBAP transaction, or the master on a UART. -/
inductive ModbusSrc where
  | tcp (k : Fin 256) (conn tid : BitVec 16)
  | rtu (u : Fin 4)
deriving DecidableEq, Repr

/-- A frame on a CAN bus (R383): identifier with its extended and remote bits, flags, data length code, data; `own` one that the
controller itself sent. -/
structure CanFrame where
  id : BitVec 31
  flags : BitVec 3
  dlc : Fin 16
  data : List Byte
  own : Bool
deriving DecidableEq, Repr

/-- The downlink burst that T6 forms for a cycle (R398): pedestal, profile, mode, tone map, rate, phases, payload symbols, granted
pedestal. -/
structure PlcPlan where
  peer : BitVec 8
  profile : Fin 2
  mode : Fin 3
  tmap : BitVec 8
  rate : Fin 2
  phases : Fin 8
  symbols : BitVec 16
  grant : BitVec 16
deriving DecidableEq, Repr


/-- The commands of the device: one constructor per row of the operation table. -/
inductive Instr where
  /-- REQUEST_ARRIVAL (R33). -/
  | requestArrival (sender : Sender) (q : QId) (r : Req)
  /-- REGISTER_WRITE (R9). -/
  | registerWrite (e : Fin 8) (addr : Nat) (v : BitVec 32)
  /-- QUEUE_DISABLE (R47). -/
  | queueDisable (w e : Fin 8) (q : Fin 4)
  /-- QUEUE_ENABLE (R47). -/
  | queueEnable (w e : Fin 8) (q : Fin 4)
  /-- SLOT_TICK (R63). -/
  | slotTick (e : Fin 8) (k : Fin 8) (job : Job)
  /-- KICK (R62). -/
  | kick (w e : Fin 8) (k : Fin 8)
  /-- SLOT_ENABLE (R62). -/
  | slotEnable (w e : Fin 8) (k : Fin 8) (rowSizeM1 : BitVec 6) (rowCountM1 : BitVec 12) (offset : BitVec 8)
  /-- SLOT_DISABLE (R67). -/
  | slotDisable (w e : Fin 8) (k : Fin 8)
  /-- STAGED_RELEASE (R90). -/
  | stagedRelease (e : Fin 8)
  /-- ENGINE_RUN (R77). -/
  | engineRun (e : Fin 8) (run : Bool)
  /-- ENGINE_RESTART (R77). -/
  | engineRestart (e : Fin 8)
  /-- ENGINE_RESTART_RELEASE (R77). -/
  | engineRestartRelease (e : Fin 8) (image : NoOperand)
  /-- HALT_REQ (R419). -/
  | haltReq (e : Fin 8) (v : Bool)
  /-- SINGLE_STEP (R419). -/
  | singleStep (e : Fin 8)
  /-- POWER_ENGINE_WATCHDOG (R76). -/
  | powerEngineWatchdog (upper : Bool)
  /-- HEARTBEAT_MISSED (R76). -/
  | heartbeatMissed (e : Fin 8)
  /-- WARDEN_WATCHDOG (R21). -/
  | wardenWatchdog
  /-- WARDEN_RESET (R152). -/
  | wardenReset
  /-- ADD (R87). -/
  | add (e : Fin 8) (rd rs1 rs2 : Fin 32)
  /-- SUB (R87). -/
  | sub (e : Fin 8) (rd rs1 rs2 : Fin 32)
  /-- AND (R87). -/
  | and (e : Fin 8) (rd rs1 rs2 : Fin 32)
  /-- OR (R87). -/
  | or (e : Fin 8) (rd rs1 rs2 : Fin 32)
  /-- XOR (R87). -/
  | xor (e : Fin 8) (rd rs1 rs2 : Fin 32)
  /-- SLL (R87). -/
  | sll (e : Fin 8) (rd rs1 rs2 : Fin 32)
  /-- SRL (R87). -/
  | srl (e : Fin 8) (rd rs1 rs2 : Fin 32)
  /-- SRA (R87). -/
  | sra (e : Fin 8) (rd rs1 rs2 : Fin 32)
  /-- SLT (R87). -/
  | slt (e : Fin 8) (rd rs1 rs2 : Fin 32)
  /-- SLTU (R87). -/
  | sltu (e : Fin 8) (rd rs1 rs2 : Fin 32)
  /-- MIN (R87). -/
  | min (e : Fin 8) (rd rs1 rs2 : Fin 32)
  /-- MAX (R87). -/
  | max (e : Fin 8) (rd rs1 rs2 : Fin 32)
  /-- MINU (R87). -/
  | minu (e : Fin 8) (rd rs1 rs2 : Fin 32)
  /-- MAXU (R87). -/
  | maxu (e : Fin 8) (rd rs1 rs2 : Fin 32)
  /-- SEXTW (R87). -/
  | sextw (e : Fin 8) (rd rs1 : Fin 32)
  /-- MUL (R87). -/
  | mul (e : Fin 8) (rd rs1 rs2 : Fin 32)
  /-- MULH (R87). -/
  | mulh (e : Fin 8) (rd rs1 rs2 : Fin 32)
  /-- MULHU (R87). -/
  | mulhu (e : Fin 8) (rd rs1 rs2 : Fin 32)
  /-- DIV (R87). -/
  | div (e : Fin 8) (rd rs1 rs2 : Fin 32)
  /-- DIVU (R87). -/
  | divu (e : Fin 8) (rd rs1 rs2 : Fin 32)
  /-- REM (R87). -/
  | rem (e : Fin 8) (rd rs1 rs2 : Fin 32)
  /-- REMU (R87). -/
  | remu (e : Fin 8) (rd rs1 rs2 : Fin 32)
  /-- ADDI (R87). -/
  | addi (e : Fin 8) (rd rs1 : Fin 32) (imm : BitVec 16)
  /-- ANDI (R87). -/
  | andi (e : Fin 8) (rd rs1 : Fin 32) (imm : BitVec 16)
  /-- ORI (R87). -/
  | ori (e : Fin 8) (rd rs1 : Fin 32) (imm : BitVec 16)
  /-- XORI (R87). -/
  | xori (e : Fin 8) (rd rs1 : Fin 32) (imm : BitVec 16)
  /-- SLTI (R87). -/
  | slti (e : Fin 8) (rd rs1 : Fin 32) (imm : BitVec 16)
  /-- SLTIU (R87). -/
  | sltiu (e : Fin 8) (rd rs1 : Fin 32) (imm : BitVec 16)
  /-- LUI (R87). -/
  | lui (e : Fin 8) (rd : Fin 32) (imm : BitVec 16)
  /-- SHORI (R87). -/
  | shori (e : Fin 8) (rd rs1 : Fin 32) (imm : BitVec 16)
  /-- JAL (R81). -/
  | jal (e : Fin 8) (rd : Fin 32) (imm : BitVec 16)
  /-- JALR (R81). -/
  | jalr (e : Fin 8) (rd rs1 : Fin 32) (imm : BitVec 16)
  /-- SLLI (R87). -/
  | slli (e : Fin 8) (rd rs1 : Fin 32) (sh : BitVec 6)
  /-- SRLI (R87). -/
  | srli (e : Fin 8) (rd rs1 : Fin 32) (sh : BitVec 6)
  /-- SRAI (R87). -/
  | srai (e : Fin 8) (rd rs1 : Fin 32) (sh : BitVec 6)
  /-- LB (R88). -/
  | lb (e : Fin 8) (rt base : Fin 32) (off : BitVec 16)
  /-- LBU (R88). -/
  | lbu (e : Fin 8) (rt base : Fin 32) (off : BitVec 16)
  /-- LH (R88). -/
  | lh (e : Fin 8) (rt base : Fin 32) (off : BitVec 16)
  /-- LHU (R88). -/
  | lhu (e : Fin 8) (rt base : Fin 32) (off : BitVec 16)
  /-- LW (R88). -/
  | lw (e : Fin 8) (rt base : Fin 32) (off : BitVec 16)
  /-- LWU (R88). -/
  | lwu (e : Fin 8) (rt base : Fin 32) (off : BitVec 16)
  /-- LD (R88). -/
  | ld (e : Fin 8) (rt base : Fin 32) (off : BitVec 16)
  /-- SB (R88). -/
  | sb (e : Fin 8) (rt base : Fin 32) (off : BitVec 16)
  /-- SH (R88). -/
  | sh (e : Fin 8) (rt base : Fin 32) (off : BitVec 16)
  /-- SW (R88). -/
  | sw (e : Fin 8) (rt base : Fin 32) (off : BitVec 16)
  /-- SD (R88). -/
  | sd (e : Fin 8) (rt base : Fin 32) (off : BitVec 16)
  /-- CCLEAN (R60). -/
  | cclean (e : Fin 8) (base : Fin 32) (off : BitVec 16)
  /-- CINV (R60). -/
  | cinv (e : Fin 8) (base : Fin 32) (off : BitVec 16)
  /-- BEQ (R81). -/
  | beq (e : Fin 8) (rs1 rs2 : Fin 32) (off : BitVec 16)
  /-- BNE (R81). -/
  | bne (e : Fin 8) (rs1 rs2 : Fin 32) (off : BitVec 16)
  /-- BLT (R81). -/
  | blt (e : Fin 8) (rs1 rs2 : Fin 32) (off : BitVec 16)
  /-- BGE (R81). -/
  | bge (e : Fin 8) (rs1 rs2 : Fin 32) (off : BitVec 16)
  /-- BLTU (R81). -/
  | bltu (e : Fin 8) (rs1 rs2 : Fin 32) (off : BitVec 16)
  /-- BGEU (R81). -/
  | bgeu (e : Fin 8) (rs1 rs2 : Fin 32) (off : BitVec 16)
  /-- QADD (R86). -/
  | qadd (e : Fin 8) (rd rs1 rs2 : Fin 32)
  /-- QSUB (R86). -/
  | qsub (e : Fin 8) (rd rs1 rs2 : Fin 32)
  /-- QNEG (R86). -/
  | qneg (e : Fin 8) (rd rs1 : Fin 32)
  /-- QABS (R86). -/
  | qabs (e : Fin 8) (rd rs1 : Fin 32)
  /-- QMUL (R86). -/
  | qmul (e : Fin 8) (rd rs1 rs2 : Fin 32) (n : BitVec 5)
  /-- QMAC (R86). -/
  | qmac (e : Fin 8) (rd rs1 rs2 : Fin 32) (n : BitVec 5)
  /-- QMSU (R86). -/
  | qmsu (e : Fin 8) (rd rs1 rs2 : Fin 32) (n : BitVec 5)
  /-- MACW (R86). -/
  | macw (e : Fin 8) (rd rs1 rs2 : Fin 32)
  /-- QRND (R86). -/
  | qrnd (e : Fin 8) (rd rs1 : Fin 32) (n : BitVec 5)
  /-- QSAT (R86). -/
  | qsat (e : Fin 8) (rd rs1 : Fin 32) (n : BitVec 5)
  /-- QSHL (R86). -/
  | qshl (e : Fin 8) (rd rs1 : Fin 32) (n : BitVec 5)
  /-- QDIV (R86). -/
  | qdiv (e : Fin 8) (rd rs1 rs2 : Fin 32) (n : BitVec 5)
  /-- MFS (R87). -/
  | mfs (e : Fin 8) (rd : Fin 32) (n : BitVec 5)
  /-- MTS (R85). -/
  | mts (e : Fin 8) (rd : Fin 32) (rs1 : Fin 32)
  /-- FENCE (R83). -/
  | fence (e : Fin 8)
  /-- FENCE_COMPLETE (R83). -/
  | fenceComplete (e : Fin 8)
  /-- TRET (R89). -/
  | tret (e : Fin 8) (rs1 : Fin 32)
  /-- BRK (R89). -/
  | brk (e : Fin 8)
  /-- HEARTBEAT (R76). -/
  | heartbeat (e : Fin 8)
  /-- RDDT (R87). -/
  | rddt (e : Fin 8) (rd : Fin 32)
  /-- UCMD (R90). -/
  | ucmd (e : Fin 8) (rd rs1 rs2 : Fin 32) (imm : BitVec 9)
  /-- UCMD_STAGED (R90). -/
  | ucmdStaged (e : Fin 8) (rd rs1 rs2 : Fin 32) (imm : BitVec 9)
  /-- UCMD_SCRUB (R90). -/
  | ucmdScrub (e : Fin 8) (rd rs1 rs2 : Fin 32) (imm : BitVec 10)
  /-- UWAIT (R93). -/
  | uwait (e : Fin 8) (rd rs1 rs2 : Fin 32) (imm : BitVec 11)
  /-- UWAIT_MET (R93). -/
  | uwaitMet (e : Fin 8)
  /-- UWAIT_TIMEOUT (R93). -/
  | uwaitTimeout (e : Fin 8)
  /-- EVPOST (R95). -/
  | evpost (e : Fin 8) (cls : BitVec 5) (rs1 rs2 : Fin 32) (num : BitVec 9)
  /-- EVPOST_CLEAR (R95). -/
  | evpostClear (e : Fin 8) (cls : BitVec 5) (rs1 rs2 : Fin 32) (num : BitVec 9)
  /-- RQTAKE (R73). -/
  | rqtake (e : Fin 8) (rd rs1 : Fin 32) (imm : BitVec 11)
  /-- RQDONE (R96). -/
  | rqdone (e : Fin 8) (rs1 rs2 : Fin 32) (imm : BitVec 11)
  /-- RQDEPTH (R87). -/
  | rqdepth (e : Fin 8) (rd : Fin 32)
  /-- RINSE (R97). -/
  | rinse (e : Fin 8) (rd rs1 : Fin 32) (imm : BitVec 11)
  /-- STEP (R98). -/
  | step (e : Fin 8) (rd : Fin 32) (k : Fin 8)
  /-- LOCK_WINDOW_END (R102). -/
  | lockWindowEnd (diff tune err : Int) (grid : Nat)
  /-- REFERENCE_ABSENCE (R102). -/
  | referenceAbsence
  /-- ACQ_FAIL (R102). -/
  | acqFail
  /-- RELEASE (R103). -/
  | release (boot : BootTests)
  /-- REALIGN (R109). -/
  | realign (w : Fin 8)
  /-- RELOCK (R109). -/
  | relock (w : Fin 8)
  /-- COAST_FORCE (R107). -/
  | coastForce (w : Fin 8)
  /-- PLL_EN_WRITE (R109). -/
  | pllEnWrite (w : Fin 8) (en : Bool)
  /-- PPS_EDGE (R112). -/
  | ppsEdge (count : Nat) (boot : BootTests)
  /-- PPS_MISSING (R112). -/
  | ppsMissing
  /-- FEED_SWITCHOVER (R116). -/
  | feedSwitchover
  /-- SWITCHOVER_END (R116). -/
  | switchoverEnd
  /-- STANDBY_FEED_TEST (R117). -/
  | standbyFeedTest (mV : NoOperand) (revUA mOhm : Nat) (cut : Bool)
  /-- SELFTEST_NOW (R117). -/
  | selftestNow (w : Fin 8) (mV : NoOperand) (revUA mOhm : Nat) (cut : Bool)
  /-- FEED_OUT_OF_RANGE (R118). -/
  | feedOutOfRange (f : Fin 2)
  /-- FEED_COLLAPSE (R118). -/
  | feedCollapse (f : Fin 2)
  /-- PFW (R119). -/
  | pfw
  /-- HOLDUP_END (R122). -/
  | holdupEnd (higher : Nat)
  /-- VHOLD_FLOOR (R122). -/
  | vholdFloor
  /-- CAP_MEASURED (R123). -/
  | capMeasured (cap : Nat)
  /-- HOLD_LOST (R123). -/
  | holdLost
  /-- HOLDUP_BUDGET_UPDATE (R124). -/
  | holdupBudgetUpdate (v : Nat)
  /-- NV_WRITE (R125). -/
  | nvWrite (w n : Fin 8) (lenM1 : BitVec 14)
  /-- NV_RESOLVE (R129). -/
  | nvResolve (w n : Fin 8) (lenM1 : BitVec 14)
  /-- NV_PAYLOAD_COPIED (R126). -/
  | nvPayloadCopied (n : Fin 8)
  /-- NV_WRITE_DONE (R128). -/
  | nvWriteDone (n : Fin 8)
  /-- NV_RESOLVE_DONE (R129). -/
  | nvResolveDone (n : Fin 8)
  /-- HK_CONVERSION (R131). -/
  | hkConversion (v : Int)
  /-- DIE_THROTTLE_CLAMP (R134). -/
  | dieThrottleClamp
  /-- SHUTDOWN_POWER_OFF (R135). -/
  | shutdownPowerOff
  /-- SHUTDOWN_LATCH_RELEASE (R135). -/
  | shutdownLatchRelease
  /-- KEEPALIVE_CHANGEOVER (R137). -/
  | keepaliveChangeover (onVbak : Bool)
  /-- KEEPALIVE_LOST (R137). -/
  | keepaliveLost
  /-- RTC_SEC_WRITE (R138). -/
  | rtcSecWrite (w : Fin 8) (v : BitVec 32)
  /-- RTC_COMMIT (R138). -/
  | rtcCommit
  /-- TAMPER_PULSE (R139). -/
  | tamperPulse (j : Fin 2) (now : Fin 3)
  /-- MODE_WRITE (R141). -/
  | modeWrite (w : Fin 8) (v : BitVec 32)
  /-- POWER_ON_RESET (R142). -/
  | powerOnReset (va vb : Nat)
  /-- BOOT_ACQ_RETRY (R149). -/
  | bootAcqRetry (xin : Bool) (refinKHz : Nat)
  /-- SOFTWARE_RESET (R152). -/
  | softwareReset (w : Fin 8)
  /-- EXTERNAL_RESET (R152). -/
  | externalReset
  /-- ESTOP_CHANNEL_LOW (R154). -/
  | estopChannelLow (b : Bool)
  /-- ESTOP_CHANNEL_HIGH (R155). -/
  | estopChannelHigh (b : Bool)
  /-- ESTOP_DISCREPANCY (R155). -/
  | estopDiscrepancy
  /-- ESTOP_REARM (R156). -/
  | estopRearm (w : Fin 8)
  /-- UPSTREAM_FRAME (R168). -/
  | upstreamFrame (n : Fin 32) (f : UpFrame)
  /-- TELEMETRY_LOST (R163). -/
  | telemetryLost (n : Fin 32) (k : Fin 8)
  /-- DOWNSTREAM_FRAME (R166). -/
  | downstreamFrame (n : Fin 32)
  /-- AUX_DECIMATE (R161). -/
  | auxDecimate (n : Fin 32) (y0 y1 : NoOperand)
  /-- LANE_LOSS (R167). -/
  | laneLoss (n : Fin 32)
  /-- LANE_TRAIN (R171). -/
  | laneTrain (w : Fin 8) (n : Fin 32)
  /-- TRAINING_FAIL (R169). -/
  | trainingFail (n : Fin 32) (code : NoOperand)
  /-- LANE_PARK (R167). -/
  | lanePark (w : Fin 8) (n : Fin 32)
  /-- LANE_DISABLE (R171). -/
  | laneDisable (w : Fin 8) (n : Fin 32)
  /-- LANE_ENABLE (R171). -/
  | laneEnable (w : Fin 8) (n : Fin 32)
  /-- LANE_OFF (R171). -/
  | laneOff (n : Fin 32)
  /-- VEND_ITEM_READ (R163). -/
  | vendItemRead (e : Fin 8) (n : Fin 32)
  /-- PHASE_RISE (R175). -/
  | phaseRise (n : Fin 256) (yi yo yd iAvg : NoOperand)
  /-- PHASE_FALL (R175). -/
  | phaseFall (n : Fin 256)
  /-- PHASE_SAMPLE (R192). -/
  | phaseSample (n : Fin 256) (afterFall y flagged : NoOperand)
  /-- SENSE_FAILURE (R193). -/
  | senseFailure (n : Fin 256) (src run ones : NoOperand)
  /-- PHU_ENABLE (R179). -/
  | phuEnable (w : Fin 8) (n : Fin 256)
  /-- PHU_DISABLE (R180). -/
  | phuDisable (w : Fin 8) (n : Fin 256)
  /-- PHU_RETRY (R181). -/
  | phuRetry (w : Fin 8) (n : Fin 256)
  /-- PHU_CLEAR (R181). -/
  | phuClear (w : Fin 8) (n : Fin 256)
  /-- PLEAT_WRITE (R182). -/
  | pleatWrite (w : Fin 8) (n : Fin 256) (v : BitVec 32)
  /-- CONTROL_FRAME_BOUNDARY (R182). -/
  | controlFrameBoundary
  /-- ILIM_WRITE (R199). -/
  | ilimWrite (w c : Fin 8) (v : BitVec 32)
  /-- GRACE_EXPIRE (R199). -/
  | graceExpire (c : Fin 8)
  /-- PORT_LIM_WRITE (R203). -/
  | portLimWrite (w : Fin 8) (p : Fin 4) (v : BitVec 32)
  /-- TAP_UPDATE (R204). -/
  | tapUpdate (d : Fin 12) (yv yi : Nat) (yb : NoOperand)
  /-- MATCH (R205). -/
  | matchHeld (c : Fin 8)
  /-- ZERO (R205). -/
  | zero (c : Fin 8)
  /-- CONNECTOR_RINSE (R214). -/
  | connectorRinse (w c : Fin 8)
  /-- CONN_DISABLE (R215). -/
  | connDisable (w c : Fin 8)
  /-- IMD_AGE (R208). -/
  | imdAge (c : Fin 8)
  /-- COIL_COMMAND (R212). -/
  | coilCommand (w : Fin 8) (k : Fin 128) (v : BitVec 32)
  /-- COIL_PULL_END (R209). -/
  | coilPullEnd (k : Fin 128)
  /-- FEEDBACK_CHANGE (R210). -/
  | feedbackChange (k : Fin 128) (closed : Bool)
  /-- COIL_FEEDBACK_TIMEOUT (R210). -/
  | coilFeedbackTimeout (k : Fin 128)
  /-- COIL_MISMATCH (R210). -/
  | coilMismatch (k : Fin 128)
  /-- COIL_OPEN (R210). -/
  | coilOpen (k : Fin 128)
  /-- MEN_WRITE (R330). -/
  | menWrite (w c : Fin 8) (en : Bool)
  /-- SET_V (R198). -/
  | setV (sd : Sender) (e : Fin 8) (r : Req)
  /-- SET_I (R198). -/
  | setI (sd : Sender) (e : Fin 8) (r : Req)
  /-- SET_LIMIT (R198). -/
  | setLimit (sd : Sender) (e : Fin 8) (r : Req)
  /-- POWER_REQ (R220). -/
  | powerReq (sd : Sender) (r : Req)
  /-- POWER_RELEASE (R220). -/
  | powerRelease (sd : Sender) (r : Req)
  /-- HEADROOM (R220). -/
  | headroom (sd : Sender) (r : Req)
  /-- BUFFER_AVAIL (R220). -/
  | bufferAvail (sd : Sender) (r : Req)
  /-- SITE_LIMIT (R221). -/
  | siteLimit (sd : Sender) (r : Req)
  /-- AUTHORIZE (R266). -/
  | authorize (sd : Sender) (r : Req) (a : AuthResult)
  /-- TX_EVENT (R266). -/
  | txEvent (sd : Sender) (r : Req)
  /-- TIME_SET (R378). -/
  | timeSet (sd : Sender) (r : Req)
  /-- AUTH_NONCE (R247). -/
  | authNonce (sd : Sender) (r : Req)
  /-- AUTH_VERIFY (R247). -/
  | authVerify (sd : Sender) (r : Req)
  /-- STRING_SW (R306). -/
  | stringSw (sd : Sender) (r : Req)
  /-- REMOTE_START (R266). -/
  | remoteStart (sd : Sender) (r : Req)
  /-- REMOTE_STOP (R266). -/
  | remoteStop (sd : Sender) (r : Req)
  /-- SET_AVAILABLE (R266). -/
  | setAvailable (sd : Sender) (r : Req)
  /-- UNLOCK (R266). -/
  | unlock (sd : Sender) (r : Req)
  /-- SET_CEILING (R266). -/
  | setCeiling (sd : Sender) (r : Req)
  /-- VESSEL_REQUEST (R267). -/
  | vesselRequest (c : Fin 8) (msg : VMsg)
  /-- OCPP_CALL (R268). -/
  | ocppCall (k : Fin 16) (msg : Nat) (r : Req) (tls : Option (BitVec 8))
  /-- LINE_SAMPLE (R250). -/
  | lineSample (c : Fin 8) (cpl prx : Int)
  /-- LOCK_PULSE (R252). -/
  | lockPulse (w c : Fin 8)
  /-- UNLOCK_PULSE (R252). -/
  | unlockPulse (w c : Fin 8)
  /-- LOCK_PULSE_END (R252). -/
  | lockPulseEnd (c : Fin 8)
  /-- LOCK_FEEDBACK_CHANGE (R252). -/
  | lockFeedbackChange (c : Fin 8) (high : Bool)
  /-- LOCK_TIMEOUT (R252). -/
  | lockTimeout (c : Fin 8)
  /-- T1S_LINK_CHANGE (R253). -/
  | t1sLinkChange (c : Fin 8) (up : Bool)
  /-- SESSION_DISABLE (R269). -/
  | sessionDisable (w c : Fin 8)
  /-- TS_CONVERSION (R271). -/
  | tsConversion (t : Fin 64) (r : TsReading)
  /-- AI_CONVERSION (R271). -/
  | aiConversion (a : Fin 16) (v : BitVec 16)
  /-- FQ_UPDATE (R271). -/
  | fqUpdate (q : Fin 8) (freq pulses : BitVec 16)
  /-- LS_COMMAND (R297). -/
  | lsCommand (w : Fin 8) (n : Fin 32) (on : Bool)
  /-- LS_RETRY (R296). -/
  | lsRetry (w : Fin 8) (n : Fin 32)
  /-- LS_CLEAR (R297). -/
  | lsClear (w : Fin 8) (n : Fin 32)
  /-- LS_LATCH (R297). -/
  | lsLatch (w : Fin 8) (n : Fin 32)
  /-- LS_TRIP (R295). -/
  | lsTrip (n : Fin 32) (mA : Nat)
  /-- LS_INRUSH_END (R294). -/
  | lsInrushEnd (n : Fin 32)
  /-- LS_OVERLOAD (R295). -/
  | lsOverload (n : Fin 32)
  /-- LS_OPEN_LOAD (R298). -/
  | lsOpenLoad (n : Fin 32)
  /-- LS_SENSE_CONVERSION (R299). -/
  | lsSenseConversion (n : Fin 32) (code : Nat)
  /-- LS_UNDERVOLTAGE (R300). -/
  | lsUndervoltage (r : Fin 2)
  /-- LS_UV_RECOVER (R300). -/
  | lsUvRecover (r : Fin 2)
  /-- LS_UV_RESTART (R300). -/
  | lsUvRestart (r : Fin 2)
  /-- GROUP_TEMP_MEASURE (R301). -/
  | groupTempMeasure (g : Fin 4) (t : BitVec 12)
  /-- SHED_STEP (R302). -/
  | shedStep (g : Fin 4)
  /-- LS_ADOPT (R304). -/
  | lsAdopt (w : Fin 8)
  /-- VSW_LOST (R305). -/
  | vswLost
  /-- METER_RUN (R317). -/
  | meterRun (w : Fin 8)
  /-- METER_CUT (R319). -/
  | meterCut (w : Fin 8)
  /-- CUT_BOUNDARY (R319). -/
  | cutBoundary
  /-- BLOCK_END (R317). -/
  | blockEnd
  /-- BLOCK_DELIVERY (R318). -/
  | blockDelivery
  /-- METER_ACK (R321). -/
  | meterAck (w : Fin 8)
  /-- CAL_LOCK (R322). -/
  | calLock (w : Fin 8)
  /-- MET_INPUT_FAIL (R311). -/
  | metInputFail (m : Fin 48) (stuck densOut : Bool)
  /-- CH_BACK (R311). -/
  | chBack (m : Fin 48)
  /-- MET_BOOT_INPUT_TEST (R311). -/
  | metBootInputTest (failed : BitVec 48)
  /-- HALF_CYCLE_END (R315). -/
  | halfCycleEnd (e : Fin 6)
  /-- HARMONIC_WINDOW (R326). -/
  | harmonicWindow (intake : Fin 2) (freq lag npe zs : Nat) (harm : List (BitVec 16))
  /-- SEG_DATA_ACCESS (R313). -/
  | segDataAccess (e : Fin 8) (write : Option (BitVec 32))
  /-- BLOCK_READ_LATCH (R440). -/
  | blockReadLatch (e : Fin 8)
  /-- TX_OPEN (R344). -/
  | txOpen (sd : Sender) (r : Req)
  /-- TX_CLOSE (R343). -/
  | txClose (sd : Sender) (r : Req)
  /-- TX_CONFIRM (R343). -/
  | txConfirm (sd : Sender) (r : Req)
  /-- TARIFF_LOAD (R337). -/
  | tariffLoad (sd : Sender) (r : Req)
  /-- UTC_OFFSET (R335). -/
  | utcOffset (sd : Sender) (r : Req)
  /-- CREDIT_SET (R343). -/
  | creditSet (sd : Sender) (r : Req)
  /-- RECORD_READ (R349). -/
  | recordRead (sd : Sender) (r : Req)
  /-- TX_UNCONFIRMED (R343). -/
  | txUnconfirmed (sd : Sender) (r : Req)
  /-- FLUSH (R352). -/
  | flush (sd : Sender) (r : Req)
  /-- RELAY_CLEAR (R345). -/
  | relayClear (sd : Sender) (r : Req)
  /-- RECORD_SIGNED (R349). -/
  | recordSigned
  /-- DSP_STEP_PRESS (R357). -/
  | dspStepPress (c : Fin 8)
  /-- POINT_WRITE (R371). -/
  | pointWrite (sd : Sender) (r : Req)
  /-- SCAN_NOW (R370). -/
  | scanNow (sd : Sender) (r : Req)
  /-- OVERRIDE (R371). -/
  | override (sd : Sender) (r : Req)
  /-- HIST_READ (R370). -/
  | histRead (sd : Sender) (r : Req)
  /-- MODBUS_WRITE (R368). -/
  | modbusWrite (src : ModbusSrc) (addr : Nat) (v : BitVec 64)
  /-- MODBUS_READ (R368). -/
  | modbusRead (src : ModbusSrc) (addr : Nat)
  /-- DT_STEP (R377). -/
  | dtStep (w : Fin 8) (v : BitVec 32)
  /-- DT_SLEW (R377). -/
  | dtSlew (w : Fin 8) (v : BitVec 32)
  /-- DT_READ_LATCH (R440). -/
  | dtReadLatch (e : Fin 8)
  /-- PHC_STEP (R376). -/
  | phcStep (w : Fin 8) (p : Fin 2) (v : BitVec 32)
  /-- PHC_SECOND (R376). -/
  | phcSecond (p : Fin 2)
  /-- PHC_READ_LATCH (R440). -/
  | phcReadLatch (e : Fin 8) (p : Fin 2)
  /-- RING_INDEX_WRITE (R375). -/
  | ringIndexWrite (w : Fin 8) (u : RingUnit) (tx : Bool) (v : BitVec 32)
  /-- ETH_FRAME_RECEIVED (R375). -/
  | ethFrameReceived (n : Fin 6) (frame : List Byte) (bad ptpEvent : Bool) (ans : List PointAnswer)
  /-- ETH_FRAME_SENT (R375). -/
  | ethFrameSent (n : Fin 6) (ptpEvent : Bool)
  /-- ETH_LINK_CHANGE (R374). -/
  | ethLinkChange (n : Fin 6) (link : Bool) (speed : Fin 3)
  /-- ETH_DISABLE (R375). -/
  | ethDisable (w : Fin 8) (n : Fin 6) (begun : Bool)
  /-- UART_FRAME_END (R368). -/
  | uartFrameEnd (u : Fin 4) (frame : List Byte) (bad : Bool) (ans : List PointAnswer)
  /-- UART_DISABLE (R47). -/
  | uartDisable (w : Fin 8) (u : Fin 4) (begun : Bool)
  /-- BT_GO (R373). -/
  | btGo (w : Fin 8) (b : Fin 2) (v : BitVec 32)
  /-- BT_ABORT (R47). -/
  | btAbort (w : Fin 8) (b : Fin 2)
  /-- BT_DONE (R373). -/
  | btDone (b : Fin 2) (good : Bool) (retries : Nat)
  /-- CAN_ENABLE (R382). -/
  | canEnable (w n : Fin 8) (v : BitVec 32)
  /-- CAN_DISABLE (R389). -/
  | canDisable (w n : Fin 8)
  /-- CAN_FRAME_RECEIVED (R384). -/
  | canFrameReceived (n : Fin 8) (f : CanFrame)
  /-- CAN_TX_COMMIT (R385). -/
  | canTxCommit (w n : Fin 8) (sw : BitVec 6)
  /-- CAN_TX_DONE (R385). -/
  | canTxDone (n : Fin 8)
  /-- CAN_ATTEMPT_FAIL (R386). -/
  | canAttemptFail (n : Fin 8) (err : Option (Fin 7 × Bool)) (raise : Bool)
  /-- CAN_DISCARD (R387). -/
  | canDiscard (w n : Fin 8) (begun : Bool)
  /-- CAN_RECOVER (R388). -/
  | canRecover (w n : Fin 8)
  /-- CAN_RECOVERY_COMPLETE (R388). -/
  | canRecoveryComplete (n : Fin 8)
  /-- PLC_CYCLE_START (R398). -/
  | plcCycleStart (plan : Option PlcPlan) (noise : BitVec 16)
  /-- PLC_BURST_RECEIVED (R399). -/
  | plcBurstReceived (buf : List Byte) (fixed impulses : Nat)
  /-- PLC_BURST_SENT (R398). -/
  | plcBurstSent (sent : Bool)
  /-- PLC_DISABLE (R402). -/
  | plcDisable (w : Fin 8)
  /-- FUSE_PROGRAM (R410). -/
  | fuseProgram (w : Fin 8) (prog : BitVec 3) (key : BitVec 2)
  /-- FUSE_PROGRAM_DONE (R410). -/
  | fuseProgramDone
  /-- ROLLBACK_RAISE (R414). -/
  | rollbackRaise (w : Fin 8)
  /-- DBG_GRANT (R421). -/
  | dbgGrant (w : Fin 8) (level : BitVec 2)
  /-- DBG_REVOKE (R421). -/
  | dbgRevoke (w : Fin 8)
  /-- FREEZE_GO (R424). -/
  | freezeGo (w : Fin 8)
  /-- PAUSE_OK (R424). -/
  | pauseOk (w : Fin 8)
  /-- PAUSE_TIMEOUT (R424). -/
  | pauseTimeout
  /-- FREEZE_DIVIDERS_STOP (R424). -/
  | freezeDividersStop
  /-- FREEZE_LIMIT (R427). -/
  | freezeLimit
  /-- ARCH_SEAL_NOW (R431). -/
  | archSealNow (w : Fin 8)
  /-- NONCE_EXPIRY (R408). -/
  | nonceExpiry
  /-- AUTH_LATCH_EXPIRY (R408). -/
  | authLatchExpiry
  /-- LOCKOUT_END (R409). -/
  | lockoutEnd
  /-- SESSION_IDLE_TIMEOUT (R416). -/
  | sessionIdleTimeout
  /-- TRST (R416). -/
  | trst
  /-- BYPASS (R415). -/
  | bypass (tdi : Nat)
  /-- IDCODE (R415). -/
  | idcode
  /-- SAMPLE_PRELOAD (R415). -/
  | samplePreload (balls v : Nat)
  /-- EXTEST (R415). -/
  | extest (v : Nat)
  /-- SVC (R416). -/
  | svc (r : Option Req)
  /-- SVC_BUF (R415). -/
  | svcBuf (idx : BitVec 10) (write : Bool) (data : BitVec 32)
  /-- DBG_ACCESS (R421). -/
  | dbgAccess (addr : BitVec 32) (e : Fin 8) (write : Bool) (data : BitVec 32)
  /-- CAST_SEL (R426). -/
  | castSel (chain : BitVec 8)
  /-- CAST_DATA (R426). -/
  | castData
  /-- THAW (R427). -/
  | thaw
  /-- SVC_OPEN (R416). -/
  | svcOpen (sd : Sender) (r : Req)
  /-- SVC_CLOSE (R416). -/
  | svcClose (sd : Sender) (r : Req)
  /-- CHALLENGE (R408). -/
  | challenge (sd : Sender) (r : Req)
  /-- AUTHORISE (R408). -/
  | authorise (sd : Sender) (r : Req)
  /-- DEBUG_LEVEL (R421). -/
  | debugLevel (sd : Sender) (r : Req)
  /-- SERVICE_MODE (R417). -/
  | serviceMode (sd : Sender) (r : Req)
  /-- FREEZE (R423). -/
  | freeze (sd : Sender) (r : Req)
  /-- IMAGE_WRITE (R417). -/
  | imageWrite (sd : Sender) (r : Req)
  /-- IMAGE_COMMIT (R417). -/
  | imageCommit (sd : Sender) (r : Req)
  /-- PLINTH_WRITE (R417). -/
  | plinthWrite (sd : Sender) (r : Req)
  /-- PROVISION (R411). -/
  | provision (sd : Sender) (r : Req)
  /-- SEC_READ (R417). -/
  | secRead (sd : Sender) (r : Req)
  /-- KEY_READ (R417). -/
  | keyRead (sd : Sender) (r : Req)
  /-- HOLD_READY (R123). -/
  | holdReady
  /-- VSW_RESTORED (R305). -/
  | vswRestored
  /-- METROLOGY_SAMPLE (R312). -/
  | metrologySample (dens shifted delayed : List Int)
  /-- CAN_RX_ERROR (R386). -/
  | canRxError (n : Fin 8) (code : Fin 7) (dataPhase : Bool) (raise : Fin 9)
  /-- UART_FRAME_SENT (R375). -/
  | uartFrameSent (u : Fin 4)
  /-- CRYSTAL_CHECK (R100). -/
  | crystalCheck (oscillates : Bool) (refinKHz : Nat)
deriving DecidableEq, Repr

end Sys2Proof
end

