-- ==== Sys2Proof/Decode.lean ====
section
/-!
DEFINITION. The command that a word spells by the bits of the operation table. No row of the table gives bits: none.
(The encodings of the engines' instructions, which the table's rows for them do not carry, are in Machine/Tocon.lean.)
-/
namespace Sys2Proof

def decodeTableWord (_nbits _w : Nat) : Option Instr := none

end Sys2Proof
end

