-- ==== Sys2Proof/Config.lean ====
section
/-!
DEFINITION. What an implementation fixes and the spec leaves open: opaque constants, which nothing can evaluate (free values), and
the constants that the assumption log names.
-/
namespace Sys2Proof.Config

/-- The free values: the k-th value that the spec leaves open (log 6). No body: no value of it can be proved. -/
opaque free : Nat → Nat

/-- Revision and manufacturer code that IDCODE shifts out (R415): fixed by the implementation, not stated. -/
opaque idRevision : Nat
opaque idMaker : Nat

/-- Fuse values of VCO band entry 0, kHz (CLK.BAND_LO[0], BAND_HI[0]; log 5). -/
def bandLo_f_lo : Nat := 3998400
def bandHi_f_hi : Nat := 4001600
def bandHi_code : Nat := 0

end Sys2Proof.Config
end

