-- ==== Sys2Proof/Machine/State.lean ====
section
/-!
DEFINITION. The state of the device as plain data, the reasons a step can stop, and the state right after reset.
-/
namespace Sys2Proof.Machine

/-! ## Sparse maps -/

/-- A sparse map from keys to values: the listed pairs, and one default for every unlisted key.
In canonical form the keys rise strictly and no listed value is the default. A memory is such a map of bytes (Host.Cell). -/
abbrev SMap (α : Type) := List (Nat × α)

/-- The value at key k; d where k is not listed. -/
def SMap.get {α : Type} (d : α) : SMap α → Nat → α
  | [], _ => d
  | (a, v) :: t, k => if k = a then v else SMap.get d t k

/-- Insert or replace the pair of key k. -/
def SMap.put {α : Type} : SMap α → Nat → α → SMap α
  | [], k, v => [(k, v)]
  | (a, w) :: t, k, v => if k < a then (k, v) :: (a, w) :: t else if k = a then (k, v) :: t else (a, w) :: SMap.put t k v

/-- The map without key k. -/
def SMap.del {α : Type} : SMap α → Nat → SMap α
  | [], _ => []
  | (a, w) :: t, k => if k = a then SMap.del t k else (a, w) :: SMap.del t k

/-- The map in which key k holds v; the default is not listed. -/
def SMap.set {α : Type} [DecidableEq α] (d : α) (m : SMap α) (k : Nat) (v : α) : SMap α :=
  if v = d then SMap.del m k else SMap.put m k v

/-- The keys rise strictly. -/
def SMap.sorted {α : Type} : SMap α → Bool
  | [] => true
  | [_] => true
  | (a, _) :: (b, w) :: t => a < b && SMap.sorted ((b, w) :: t)

/-- The canonical form: keys rise strictly and no listed value is the default. -/
def SMap.wf {α : Type} [DecidableEq α] (d : α) (m : SMap α) : Bool :=
  SMap.sorted m && m.all fun p => decide (p.2 ≠ d)

/-! ## Register fields -/

/-- One field of a register: its key (32 times the register's byte address, plus its lowest bit), its width and its reset value
(R441). -/
structure Fld where
  key : Nat
  w : Nat
  rst : Nat
deriving DecidableEq, Repr

/-- Access types (R9). No field of the device is of type RS (R437). -/
inductive Acc where
  | rw | ro | w1c | wo
deriving DecidableEq, Repr

/-- What a reset does to a field (R441): lost, kept in the keep-alive or VSW domain, or loaded from the fuses. -/
inductive Keep where
  | lost | kept | fuse
deriving DecidableEq, Repr

/-- Who may write a register (R437 and the register header lines). -/
inductive Wr where
  | nobody | t0 | t1 | t4 | t4Locked | t5 | t6 | t7
  | engCtrl | engSlot | nvw | lane | phu | lead | coil | portLead | lsw | eth | dt | bt | freeze
deriving DecidableEq, Repr

/-- One row of a register table: address of instance 0, number and stride of the instances in both dimensions, writers, fields. -/
structure RegRow where
  base : Nat
  n1 : Nat
  s1 : Nat
  n2 : Nat
  s2 : Nat
  wr : Wr
  fields : Nat → Nat → List (Acc × Keep × Fld)

/-! ## Engines -/

/-- A lint-list entry (R33): a request ID with its stored status (0 PENDING), value and detail. -/
structure LintEntry where
  reqId : BitVec 32
  status : Nat
  value : DWord
  replyWanted : Bool
  detail : Nat
deriving DecidableEq, Repr

/-- The lint list of one originator, newest entry first. -/
structure LintOrig where
  orig : BitVec 16
  entries : List LintEntry
deriving DecidableEq, Repr

/-- A queued request; `copied` is the payload that the mailbox copied for T4 (R28, R74), empty elsewhere. -/
structure Queued where
  req : Req
  copied : List Byte
deriving DecidableEq, Repr

/-- One request queue or the T4 inbound mailbox: its requests, oldest first; those that the image's table step has taken and
serves until they complete; its lint lists, most recently used first. -/
structure Queue where
  items : List Queued
  serving : List Queued
  lints : List LintOrig
deriving DecidableEq, Repr

def Queue.reset : Queue := ⟨[], [], []⟩

/-- A request taken with RQTAKE (R73): where it came from, and whether a newer request has already completed it
DISCARDED (R38). -/
structure Taken where
  q : QId
  item : Queued
  dead : Bool
deriving DecidableEq, Repr

/-- A staged unit command (R90): context, address, value. -/
structure Staged where
  ctx : Nat
  addr : Nat
  value : Word
deriving DecidableEq, Repr

/-- A UWAIT in progress (R93): its register, bit, wanted level, timeout in CK_ENG cycles, and destination register. -/
structure Wait where
  addr : Nat
  bit : Nat
  want : Bool
  timeout : Nat
  rd : Fin 32
  since : Nat                -- the core's cycles times 8 at which the timeout began
deriving DecidableEq, Repr

/-- What a slot's registers give a frame at its tick (R61, R67): base, row size, rows, the frame count and DT of the tick. -/
structure FrameCfg where
  base : Nat
  rowSize : Nat
  rows : Nat
  count : Nat
  dt : Nat
deriving DecidableEq, Repr

def FrameCfg.reset : FrameCfg := ⟨0, 0, 0, 0, 0⟩

/-- The frame of a slot: none, pending, or running or preempted. -/
inductive FrameState where
  | idle | pending | active
deriving DecidableEq, Repr

/-- One table slot (R61 to R67): its frame; what was latched at its last tick; what the running frame uses, and its rows left; a
held kick; an overrun that ends the frame at its next STEP; the STEP at which it was preempted; its timing (R61). -/
structure Slot where
  st : FrameState
  tick : FrameCfg
  cur : FrameCfg
  left : Nat
  held : Bool
  ovr : Bool
  stepRd : Option (Fin 32 × DWord)
  per : Nat                  -- period and offset in force: as the registers stood at the enable or the last tick
  ofs : Nat
  lastAt : Option Nat        -- when the slot last ticked
deriving DecidableEq, Repr

def Slot.reset : Slot := ⟨.idle, FrameCfg.reset, FrameCfg.reset, 0, false, false, none, 0, 0, none⟩

/-- One line of an engine's cache (R60): its line number (address divided by 64), whether it is dirty, its 64 bytes. -/
structure CacheLine where
  line : Nat
  dirty : Bool
  bytes : List Byte
deriving DecidableEq, Repr

/-- What one engine holds besides its registers of the register space. -/
structure Engine where
  bank : SMap DWord          -- key 16 c + r: g1 to g15 of context c (0 to 7 slots, 8 background) (R54)
  shared : SMap DWord        -- key r: g16 to g31 (R54)
  flags : SMap DWord         -- key c: s0 of context c (R55, R85)
  tp : SMap DWord            -- key k: table pointer of slot k (R55)
  pcs : SMap DWord           -- key c: pc of context c (R69)
  ctx : Nat                  -- running context, s1
  cycles : Nat               -- CK_ENG cycles since release times 8 (s4), advanced by the clock tick
  trapPc : DWord             -- s5
  trapVal : DWord            -- s6
  inTrap : List Nat          -- contexts in trap state (R89)
  slots : SMap Slot
  staging : List Staged      -- the staging buffer (R90), oldest first
  releasing : List Staged    -- staged commands of completed frames, released on the next CK_PHU edge
  taken : SMap (Option Taken) -- key c: the request taken in context c (R73)
  wait : Option Wait         -- UWAIT of the running context
  bgWait : Option Wait       -- UWAIT of background code that a frame has preempted (R93)
  fence : Bool               -- FENCE of the running context waits (R83)
  q : SMap Queue             -- Q0 to Q3
  send : SMap (Option Word)  -- words written to the send windows and mailbox window since their last commit, key: address / 4 (R72)
  cache : List CacheLine     -- valid lines, most recently used first (R60)
  resultWrites : Nat         -- writes of the result area since result_ovf was last cleared (R58)
  eventWrites : Nat          -- writes of the event ring since event_ovf was last cleared (R58)
  restarting : Bool          -- between a restart and its release (R77)
  stepDue : Bool             -- a single step has been written (R419)
  hbAt : Nat                 -- tick of the last HEARTBEAT or release (R76)
  dtLatch : Nat              -- per-engine latch of NET.DT (R440): high word
  phcLatch : SMap Nat        -- key 2 p + (j - 1): latched PHC[1], PHC[2] of port p (R440)
  blkLatch : Nat             -- latch of MET.BLOCK_HI (R440)
deriving DecidableEq, Repr

def Engine.reset : Engine :=
  { bank := [], shared := [], flags := [], tp := [], pcs := [], ctx := 8, cycles := 0, trapPc := 0, trapVal := 0,
    inTrap := [], slots := [], staging := [], releasing := [], taken := [], wait := none, bgWait := none, fence := false,
    q := [], send := [], cache := [], resultWrites := 0, eventWrites := 0, restarting := false, stepDue := false, hbAt := 0, dtLatch := 0, phcLatch := [],
    blkLatch := 0 }

/-- A fault's trip (R42): the declaring engine, its class, its scope, and the groups and string relay
channels the scope contained at the declaration; the engines that have still to carry out their discard at the units (R95). -/
structure Trip where
  eng : Nat
  cls : Nat
  scope : Scope
  groups : List Nat
  relays : List Nat
  todo : List Nat
deriving DecidableEq, Repr

/-- A result record handed to an external originator's protocol adapter (R31). -/
structure Result where
  orig : BitVec 16
  status : Nat
  detail : Nat
  reqId : BitVec 32
  value : DWord
deriving DecidableEq, Repr

/-- A history profile (R372): deadband as binary32, minimum interval in ms, maximum interval in s. -/
structure HistProfile where
  deadband : Nat
  minMs : Nat
  maxS : Nat
deriving DecidableEq, Repr

def HistProfile.reset : HistProfile := ⟨0, 0, 0⟩

/-- A CAN command entry (R392): controller, its index there, identifier as in a queue entry, point, response identifier. -/
structure CanCmd where
  ctrl : Nat
  idx : Nat
  id : Nat
  point : Nat
  resp : Nat
deriving DecidableEq, Repr

/-- The points of a string's BMS (R236), 0 where there is none: current, string voltage, lowest and highest cell voltage, mean temperature, discharge and
charge current limit, serial, certificate, challenge, response; and the block-pool slot from which T6 writes the challenge. -/
structure BmsPts where
  cur : Nat
  volt : Nat
  lo : Nat
  hi : Nat
  temp : Nat
  dis : Nat
  chg : Nat
  serial : Nat
  cert : Nat
  chal : Nat
  resp : Nat
  slot : Nat
deriving DecidableEq, Repr

def BmsPts.reset : BmsPts := ⟨0, 0, 0, 0, 0, 0, 0, 0, 0, 0, 0, 0⟩

/-- What the maquette fixes of a battery string (R236): rated capacity in mAh (0: no such string), rated current in mA, v_empty and v_full in uV,
r_ref in uOhm, k_r in 1/1000 per K, eta_c in 1/1000. -/
structure StrCfg where
  cRated : Nat
  iRate : Nat
  vEmpty : Int
  vFull : Int
  rRef : Nat
  kR : Int
  eta : Nat
  cells : Nat                    -- cells in series
  pts : BmsPts
deriving DecidableEq, Repr

def StrCfg.reset : StrCfg := ⟨0, 0, 2900000, 3500000, 250, 15, 995, 0, BmsPts.reset⟩

/-- The site description and the device data (R148 step 10): plain data of the image, not of the hardware. -/
structure Maquette where
  stringRelay : SMap Nat     -- load-switch channel of string s (R306)
  spareCoil : SMap Nat       -- engine in charge of spare coil 120 + i; 7 where unlisted
  modbusMap : SMap Nat       -- the Modbus server map (R368): Modbus address, table and number, to point
  profiles : SMap HistProfile -- history profiles 1 to 15 (R372)
  histBuf : Nat              -- DRAM address from which T6 writes a sealed history block
  canCmds : List CanCmd      -- command entries of the CAN controllers (R392)
  plcBuf : Nat               -- DRAM address of T6's burst buffer
  pedestals : List Nat       -- pedestals on the power line
  eta : Nat                  -- efficiency in 1/1000 (R223)
  margin : Nat               -- margin in 1/1000
  auxMax : Nat               -- kW
  qMax : Nat                 -- kvar
  pHard : Nat                -- hard limits of the site, kW and kVA (R221)
  sHard : Nat
  pPhase : Nat               -- kW of a healthy phase (R222)
  wDefault : Nat             -- kW (R225)
  pMin : Nat                 -- kW (R226)
  dwell : Nat                -- s (R229)
  grantTable : Nat           -- address of the grant table (R232)
  cplMap : SMap Nat          -- key 5 c + b: band b of CPL: 0 idle, 1 vessel ready, 2 charge enable, 3 line fault (R250)
  prxMap : SMap Nat          -- key 5 c + b: band b of PRX: 0 removed, 1 inserted, 3 line fault
  tariffKeys : SMap (List Byte)  -- tariff keys 0 and 1 of the plinth image: X, then Y, big-endian (R336)
  calib : List (Fld × Nat)   -- the calibration of the plinth image: the Locked registers (R322)
  calSeg : List (Nat × Nat)  -- its segment RAM words
  kfac : SMap Nat            -- flow meter of loop k, pulses per litre (R288)
  flowMin : SMap Nat         -- per loop in 0.1 L/min; unlisted: 20 % of f_nom (R290)
  pLow : Nat                 -- p_min, kPa
  leakMax : Nat              -- 0.5 uA
  fanSet : Int               -- 0.125 degC
  cables : SMap (List Nat)   -- per connector: res20 (uOhm), cap_a, rth_a (uK/W), cap_b, rth_bn (uK/W), f_nom (L/min); unlisted: by type (R278)
  contacts : SMap (List Nat) -- per connector: res_ct (uOhm), rth_ct (uK/W), cap_ct (R279)
  strs : SMap StrCfg         -- strings 0 to 15
  rootKeys : SMap (List Byte) -- string certificate root keys 0 to 3 (R246)
  authBuf : Nat              -- DRAM address of T6's 225 bytes for AUTH_VERIFY
  pubKeys : SMap (List Byte) -- public keys of slots 0 to 6 that the device data hold (R406)
  archBuf : Nat              -- DRAM address of T7's archive block (R431)
  imgBuf : Nat               -- DRAM address of the verified main image (R77)
  mboxBuf : Nat              -- address in T4's data SRAM to which an indirect payload is copied (R28)
  imdPts : SMap Nat          -- the insulation monitor's point of each connector, 0 none (R208)
  ctlKp : Int                -- gains of the power engines' current loop, Q1.30
  ctlKi : Int
deriving DecidableEq, Repr

def Maquette.reset : Maquette :=
  { stringRelay := [], spareCoil := [], modbusMap := [], profiles := [], histBuf := 0x100000000, canCmds := [], plcBuf := 0x100001000,
    pedestals := [], eta := 960, margin := 10, auxMax := 0, qMax := 0, pHard := 0, sHard := 0, pPhase := 120, wDefault := 500, pMin := 100,
    dwell := 60, grantTable := 0x100002000,
    cplMap := [], prxMap := [], tariffKeys := [], calib := [], calSeg := [], kfac := [], flowMin := [],
    pLow := 150, leakMax := 24000, fanSet := 280, cables := [], contacts := [], strs := [], rootKeys := [], authBuf := 0x100003000, pubKeys := [],
    archBuf := 0x100004000, imgBuf := 0x110000000, mboxBuf := 0x10018000, imdPts := [], ctlKp := 2 ^ 28, ctlKi := 2 ^ 24 }


/-- The window of R193 over a stream's unflagged bits: bits since the last transition, how many of the last 256 are held, those bits, newest lowest,
and their ones. -/
structure SenseWin where
  run : Nat
  held : Nat
  bits : Nat
  count : Nat
deriving DecidableEq, Repr

def SenseWin.reset : SenseWin := ⟨0, 0, 0, 0⟩

/-- What one phase unit holds besides its registers (R174 to R193). Currents of samples in 2^-19 A. -/
structure PhuInt where
  ripple : Nat                   -- r in 1/4096 A at instant ripAt, while the gate is low (R176)
  ripAt : Nat
  riseAt : Nat
  fallAt : Option Nat            -- the previous fall (R177)
  tOn : Nat                      -- t_on of the last rise, and TON_BASE.max as it stood at that rise (R175)
  maxOn : Nat
  tonActed : Bool                -- the maximum on-time clamp acted in the present cycle
  delayed : Bool                 -- a triggered rise waits for the minimum off-time
  tonRun : Bool                  -- a run of cycles in which the clamp acts (R177)
  toffRun : Bool
  waitSlot : Bool                -- the next rise waits for a slot instant (R179, R181)
  shadow : Option (Nat × Nat)    -- written pleat angle and period, not yet loaded (R182)
  first : Option Int             -- first sample of a counted cycle (R192)
  due : List (Nat × Bool)        -- samples to come, oldest first: instant, and whether it follows a fall
  cyc : Bool                     -- a rise has come since the enable
  iSum : Int                     -- sum and number of the values of i_f in the running cycle (R189)
  iCnt : Nat
  lockIn : Nat                   -- consecutive rises with a small, and with a large, placement error (R184)
  lockOut : Nat
deriving DecidableEq, Repr


def PhuInt.reset : PhuInt :=
  { ripple := 0, ripAt := 0, riseAt := 0, fallAt := none, tOn := 0, maxOn := 0, tonActed := false, delayed := false,
    tonRun := false, toffRun := false, waitSlot := true, shadow := none, first := none, due := [], cyc := false, iSum := 0, iCnt := 0,
    lockIn := 0, lockOut := 0 }

/-- What a lane sends in its training (R169): ALIGN until 64 ALIGNED came, IDENT, GO with its countdown. -/
inductive TrainStep where
  | align (aligned : Nat)
  | ident (sent : Nat) (lo hi : Option (Nat × Nat))   -- IDENT frames sent; value and number of equal values received of each half
  | go (c : Nat)                         -- the next countdown to send
  | done                                 -- GO 0 has been sent
deriving DecidableEq, Repr

/-- One gate edge waiting for its coded instant (R170): instant in CK_PHU ticks, phase, level. -/
structure GateEdge where
  at_ : Nat
  phase : Nat
  level : Bool
deriving DecidableEq, Repr

/-- What one lane holds besides its registers. -/
structure LaneInt where
  slices : List Nat              -- slices of the telemetry word being received (R162)
  seq : Option Nat               -- seq of the last word
  skip : Nat                     -- frames of a word already discarded that are still to come (R162)
  badRun : Nat                   -- consecutive frame times without a valid data frame (R167)
  upAt : Nat                     -- when the last upstream frame time ended, or the lane entered ACTIVE (R168)
  bits : Nat                     -- sense and auxiliary bits of the last valid frame (R168)
  flagged : Bool                 -- the present bits are repeated ones
  hist : SMap Nat                -- bits of stream j, newest lowest: 0 to 7 currents, 8 output voltage, 9 DC link, 10 and 11 auxiliary (R161, R178)
  win : SMap SenseWin            -- windows of streams 0 to 9 (R193)
  auxN : Nat                     -- bits since the last auxiliary results (R161)
  itemAt : SMap Nat              -- when item k was last accepted (R163)
  telem : Bool                   -- trained since reset: stage temperatures are delivered (R163)
  rxRd : Bool                    -- running disparity of the receiver, and of the sender (R158)
  txRd : Bool
  parksLeft : Nat                -- PARK frames still to send after a clear of en (R171)
  train : TrainStep
  trainAt : Nat                  -- the write of CTRL.train (R169)
  goN : Nat                      -- frame times since GO 255 was sent, counting it: GO c is number 256 - c; 0 outside
  echoes : Nat                   -- bit c: READY c has been received since GO c was sent
  delaysKnown : Bool             -- an item 0x0A has been accepted
  vendor : Nat                   -- value of the last cell maker's word (R163)
  level : Nat                    -- gate levels at the end of the last frame sent, bit k phase k
  edges : List GateEdge
  sentAt : Option Nat            -- when the last downstream frame was sent
  sentKind : Nat                 -- last downstream frame: 0 none, 1 data frame, 2 training frame
  sent : Nat                     -- its 32 bits (byte 0 of a training frame is K28.5)
  line : Nat                     -- its 40 line bits, the first sent lowest (R158)
deriving DecidableEq, Repr

def LaneInt.reset : LaneInt :=
  { slices := [], seq := none, skip := 0, badRun := 0, upAt := 0, bits := 0, flagged := false, hist := [], win := [], auxN := 0, itemAt := [],
    telem := false, rxRd := false, txRd := false, parksLeft := 0, train := .align 0, trainAt := 0, goN := 0, echoes := 0,
    delaysKnown := false, vendor := 0, level := 0, edges := [], sentAt := none, sentKind := 0, sent := 0, line := 0 }

/-- What one connector output holds besides its registers. -/
structure ConnInt where
  vref : Int                     -- 2^-16 mV (R196)
  iref : Int                     -- 2^-40 of 4096 A
  vNew : Bool                    -- a target written since the last boundary
  iNew : Bool
  steps : List (Nat × Nat)       -- held steps, oldest first: value, expiry tick (R199)
  matchFrom : Option Nat         -- since when the conditions of match and of zero have held (R205)
  zeroFrom : Option Nat
  imdAt : Nat                    -- last write of IMD (R208)
deriving DecidableEq, Repr

def ConnInt.reset : ConnInt := ⟨0, 0, false, false, [], none, none, 0⟩

/-- The clamp of one destination (connectors 0 to 7, ports 8 to 11): clipping seen in the present control frame, and a run of
frames in which it clips (R202); for a port its two limits in 1/16 A (R203). -/
structure DestInt where
  clipped : Bool
  run : Bool
  fwd : Nat
  rev : Nat
  tapAt : Option Nat             -- last update of its taps (R204)
deriving DecidableEq, Repr

def DestInt.reset : DestInt := ⟨false, false, 0, 0, none⟩

/-- A coil's contact input, whether its feedback has agreed since the last change of on, when the last disagreement ended, when on last
changed, since when a disagreement stands, and whether it has been reported (R209, R210). -/
structure CoilInt where
  input : Bool
  agreed : Bool
  agreedAt : Option Nat
  onAt : Nat
  offFrom : Option Nat
  told : Bool
deriving DecidableEq, Repr

def CoilInt.reset : CoilInt := ⟨false, true, none, 0, none, false⟩

/-- A register write held over the switch-over gap (R116): writer, address, value. -/
structure HeldWrite where
  writer : Nat
  addr : Nat
  value : Nat
deriving DecidableEq, Repr


/-- What the root PLL holds besides its registers (R101 to R112). -/
structure ClkInt where
  acqWindows : Nat               -- windows since the acquisition began
  inLock : Nat                   -- consecutive windows within 2 of this acquisition or return
  hard : Bool                    -- the acquisition or return ends in a release
  pulled : Bool                  -- soft lock: the phase error has come within 250 ps
  relPending : Bool              -- a release is triggered and waits for its edge
  winNo : Nat
  tunes : List Int               -- tuning of the last windows with the loop closed, newest first, at most 4
  trim : Int                     -- 1PPS trim in 2^-15 VCO cycles per second
  phase : List Nat               -- CKO_PHASE of the eight outputs as in force since the last release (R114)
  begun : Bool                   -- an acquisition has begun since the reset (R100)
  acqAt : Nat                    -- when the last acquisition began, and the last one on XIN (R102, R149)
  xinAt : Nat
  relAt : Nat                    -- when the pending release was triggered (R103)
  ppsAt : Nat                    -- the last 1PPS edge, or the beginning of the discipline (R112)
  ppsRun : Bool                  -- an edge has come since then
  frameAt : Option Nat           -- the last control-frame boundary (R182)
deriving DecidableEq, Repr

def ClkInt.reset : ClkInt :=
  { acqWindows := 0, inLock := 0, hard := true, pulled := false, relPending := false, winNo := 0, tunes := [], trim := 0,
    phase := [0, 0, 0, 0, 0, 0, 0, 0], begun := false, acqAt := 0, xinAt := 0, relAt := 0, ppsAt := 0, ppsRun := false, frameAt := none }

/-- The judgement of one feed (R118): judged at all, consecutive passing tests, consecutive skipped path checks. -/
structure FeedInt where
  judged : Bool
  passes : Nat
  skips : Nat
deriving DecidableEq, Repr

def FeedInt.reset : FeedInt := ⟨false, 0, 0⟩

/-- One operation of the NV writer, taken (R125 to R129): a resolve, or a granted write with its slot, sequence, DT, its payload as data
SRAM held it at the grant, and whether the copy into the buffer has been made. -/
structure NvOp where
  ch : Nat
  resolve : Bool
  src : Nat
  len : Nat
  pair : Nat
  tag : Nat
  slot : Nat
  seq : Nat
  dt : Nat
  payload : List Byte
  copied : Bool
deriving DecidableEq, Repr

/-- What the supply block holds besides its registers. -/
structure PwrInt where
  pfwAt : Option Nat             -- tick of PFW
  cause : Nat                    -- shutdown sequence running: 1 die, 2 F4 (R135, R147)
  latch : Bool                   -- shutdown latch held, in the keep-alive domain
  latchSeen : Bool               -- the latch was released since the last boot
  lostSeen : Bool                -- the keep-alive content was lost since the last boot
  div4 : Bool                    -- clocks of T0, T1, T5 and T6 divided by 4 (R120)
  dramAsleep : Bool              -- LPDDR4X in self-refresh (R120)
  gapPfw : Bool                  -- PFW ended the switch-over hold; the diodes go on (R136)
  gapAt : Nat                    -- when the last gap began
  feedA : FeedInt
  feedB : FeedInt
  hkNext : Nat                   -- next housekeeping channel and round (R131)
  hkRound : Nat
  rtcNew : Option Nat            -- RTC seconds written and not yet committed (R138)
  rtcSub : Option Nat            -- RTC fraction written and not yet committed
  rtcFrac : Nat                  -- parts of 1/32,768 s counted, in 1/400,000,000 s times 32,768
  tamperRead : Nat               -- bit j: T7 has not read TAMPER_LOG entry j since it was written (R139)
  tamper : Nat                   -- last judgement of loop j in bits 2 j: 0 intact, 1 open, 2 short
  nv : List NvOp                 -- operations taken, oldest first
  testAt : Nat                   -- the last standby-feed test, or the release of T7 (R117)
  badInGap : Nat                 -- bit f: feed f became unhealthy in the switch-over gap (R136)
  thrAt : Option Nat             -- entry into the throttle level, until the clocks are halved (R134)
  holdEnded : Bool               -- the end of the hold-up has found both feeds low (R122)
  causeAt : Nat                  -- when the shutdown sequence began
  record : Nat                   -- boot failure code in the keep-alive domain (R149); 0 none
deriving DecidableEq, Repr

def PwrInt.reset : PwrInt :=
  { pfwAt := none, cause := 0, latch := false, latchSeen := false, lostSeen := false, div4 := false, dramAsleep := false,
    gapPfw := false, gapAt := 0, feedA := FeedInt.reset, feedB := FeedInt.reset, hkNext := 0, hkRound := 0, rtcNew := none, rtcSub := none, rtcFrac := 0,
    tamperRead := 0, tamper := 0, nv := [], testAt := 0, badInGap := 0, thrAt := none, holdEnded := false, causeAt := 0, record := 0 }

/-- Modes and start-up (R141 to R157): the device in KEEP; the emergency-stop balls; the boot timeline. -/
structure ModeInt where
  keep : Bool                    -- only the keep-alive and VSW domains are powered
  estA : Bool                    -- the emergency-stop balls low, as filtered
  estB : Bool
  estAt : Option (Bool × Nat)    -- the channel that became low first, and when, while the other has not become low since (R155)
  estBoth : Bool                 -- both low together since the discrepancy
  estHigh : Option Nat           -- when the last channel went high; none: never low
  released : Nat                 -- tick of the last reset release
  stepAt : Nat                   -- tick at which the present boot step began
  booted : Bool                  -- step 11 has completed
  warden : Bool                  -- the Warden watchdog clamp has acted: its reset follows
  svcHalt : Bool                 -- an engine was halted or single-stepped in the present stay in SERVICE (R152)
  f3 : Nat                       -- causes of T7's site F3 (R143): bits 0 to 7 an engine, 8 emergency stop, 9 hold_lost, 10 ECC, 11 SRAM at boot, 12 EVPOST
  sramBad : Nat                  -- what the self-tests of this boot have found: engines, lanes (R148)
  lanesBad : Nat
  runReq : Bool                  -- T0's request for RUN waits for T7 (R145)
deriving DecidableEq, Repr

def ModeInt.reset : ModeInt :=
  { keep := false, estA := false, estB := false, estAt := none, estBoth := false, estHigh := none, released := 0, stepAt := 0, booted := false,
    warden := false, svcHalt := false, f3 := 0, sramBad := 0, lanesBad := 0, runReq := false }


/-- What a load-switch channel holds besides its registers: its inrush window, when it tripped, consecutive conversions at or below
2 A and at or above the open-load threshold (R294 to R298). -/
structure LswInt where
  window : Bool
  till : Nat                 -- end of the inrush window
  trippedAt : Nat
  low2A : Nat                -- conversions in a row at or below 2 A, and above it
  high2A : Nat
  highOl : Nat               -- conversions in a row at or above the open-load threshold, and below it
  lowOl : Nat
deriving DecidableEq, Repr

def LswInt.reset : LswInt := ⟨false, 0, 0, 0, 0, 0, 0⟩

/-- The instants that pace the rails' restarts and the groups' shed steps (R300, R302). -/
structure LswPace where
  rails : SMap Nat           -- rail r: the earliest instant of its next restart
  groups : SMap Nat          -- group g: the instant of its next shed step
deriving DecidableEq, Repr

def LswPace.reset : LswPace := ⟨[], []⟩


/-- A PTP hardware clock (R376): nanoseconds since the PTP epoch, fraction in 10^-11 ns, a written step not yet applied. -/
structure PhcInt where
  ns : Nat
  frac : Nat
  step : Option Int
  edge : Bool                    -- the count has passed a second since the last PHC_SECOND
deriving DecidableEq, Repr

def PhcInt.reset : PhcInt := ⟨0, 0, none, false⟩

/-- A Modbus answer sent by the server (R368): orig_id and req_id of the transaction, the exception code of an exception response, the value. -/
structure ModbusAnswer where
  orig : BitVec 16
  reqId : BitVec 32
  exc : Option Nat
  value : DWord
deriving DecidableEq, Repr

/-- A history record (R372): value, point, quality, device time, and the tick at which it was taken, on which intervals count (R5). -/
structure HistRec where
  value : DWord
  point : Nat
  quality : Nat
  dt : Nat
  at_ : Nat
deriving DecidableEq, Repr

def HistRec.reset : HistRec := ⟨0, 0, 0, 0, 0⟩

/-- The Modbus frames of an RTU master (R369): the number of the last one, when it came, its address and the value written. -/
structure RtuLast where
  count : Nat
  at_ : Nat
  frame : Option (Nat × Option Nat)
deriving DecidableEq, Repr

def RtuLast.reset : RtuLast := ⟨0, 0, none⟩

/-- T6's work on the point table and the networks, besides what DRAM holds (R359 to R380). -/
structure NetInt where
  dtStep : Option Int            -- a written step of DT not yet applied (R377)
  phcs : SMap PhcInt
  begun : List Nat               -- ETH ports disabled while a transmit descriptor had begun
  reads : SMap (List Nat)        -- key k: points of class k whose read is unanswered (R366)
  sent : SMap (List Nat)         -- key k: points whose write was sent in the running cycle of class k
  running : List Nat             -- classes whose cycle runs
  missed : SMap Nat              -- consecutive cycles without an acquisition, per point (R363)
  reports : List PointAnswer     -- queued spontaneous reports, oldest first (R365)
  scanNow : List Nat             -- points that SC7 is to read
  answered : List Nat            -- points answered in the running cycle of SC7
  scanIds : List Req             -- the SCAN_NOW requests that the running cycle of SC7 serves
  ext : SMap Nat                 -- the extended raw count of a counter point (R361)
  recs : List HistRec            -- records of the open history block, oldest first
  openAt : Option Nat            -- DT at its opening
  openedAt : Nat                 -- tick of its opening (R5)
  sealed : List (List HistRec × Nat × Nat)  -- sealed blocks awaiting BT0: records, bseq, base
  bseq : Nat
  nextBlk : Nat                  -- next block of the history ring
  histBusy : Bool                -- BT0 writes the oldest sealed block
  lastRec : SMap HistRec         -- the last record of each point
  rtcDue : Bool                  -- a step of DT has not reached the real-time clock (R378)
  rtcAt : Nat                    -- when T7 last wrote that clock
  rtu : SMap RtuLast             -- per UART
deriving DecidableEq, Repr

def NetInt.reset : NetInt :=
  { dtStep := none, phcs := [], begun := [], reads := [], sent := [], running := [], missed := [], reports := [], scanNow := [],
    answered := [], scanIds := [], ext := [], recs := [], openAt := none, openedAt := 0, sealed := [], bseq := 0, nextBlk := 0, histBusy := false, lastRec := [],
    rtcDue := false, rtcAt := 0, rtu := [] }


/-- A frame of a request in a CAN transmit queue (R391): its ring index, the point, where the request came from. -/
structure CanQueued where
  idx : Nat
  point : Nat
  q : QId
  req : Req
deriving DecidableEq, Repr

/-- What a CAN controller and T6's work on it hold besides the registers (R384 to R392). -/
structure CanInt where
  oneShot : Option Nat           -- the queue was discarded while the entry at hw is in transmission: where hw goes after this attempt
  busOffAt : Nat                 -- when bus-off was entered
  recAt : Nat                    -- the write of CTRL.recover
  dropped : Nat                  -- frames dropped since the last RX_OVERFLOW event
  queued : List CanQueued
  answer : SMap Nat              -- key command entry: flags of its last command frame, plus 256 (R392)
deriving DecidableEq, Repr

def CanInt.reset : CanInt := ⟨none, 0, 0, 0, [], []⟩

/-- What a power-line segment of the device carries (R399 to R401). -/
inductive SegBody where
  | sync
  | write (point : Nat) (q : QId) (req : Req)
  | read (point : Nat)
  | result (r : Result)
deriving DecidableEq, Repr

/-- A segment of the device for a pedestal: its lsn once placed, attempts made, whether it is to be placed in a burst, the req_id in
its body. -/
structure PlcSeg where
  lsn : Option Nat
  tries : Nat
  due : Bool
  reqId : Nat
  body : SegBody
deriving DecidableEq, Repr

/-- The link to one pedestal (R399): next lsn, segments not acknowledged, the last 64 lsn accepted (newest first), lsn to acknowledge. -/
structure PlcLink where
  next : Nat
  segs : List PlcSeg
  seen : List Nat
  acks : List Nat
deriving DecidableEq, Repr

def PlcLink.reset : PlcLink := ⟨0, [], [], []⟩

/-- The burst that T6 has given for the running cycle: its ring index, the pedestal, the lsn of its segments (true: numbered in it), the
lsn it acknowledges. -/
structure PlcBurst where
  idx : Nat
  peer : Nat
  placed : List (Nat × Bool)
  acks : List Nat
deriving DecidableEq, Repr

/-- The modem and T6's link layer. -/
structure PlcInt where
  links : SMap PlcLink
  burst : Option PlcBurst
deriving DecidableEq, Repr

def PlcInt.reset : PlcInt := ⟨[], none⟩


/-- A fraction: kW in the algorithm of T0, in lowest terms; den is not 0. -/
structure Frac where
  num : Int
  den : Nat
deriving DecidableEq, Repr

/-- A POWER_REQ in force (R220): its request, whether it is still pending, the vessel's ceiling (Q1.30 of 4,096 A) and voltage, class, energy in
Wh counted from the connector's register, deadline. -/
structure Demand where
  req : Req
  pending : Bool
  ceiling : Nat
  volts : Nat
  cls : Nat
  energy : Nat
  fromReg : Nat
  deadline : Nat
deriving DecidableEq, Repr

/-- A SITE_LIMIT kept for its originator (R221). -/
structure SiteLim where
  orig : BitVec 16
  p : Nat
  q : Nat
  till : Nat
deriving DecidableEq, Repr

/-- The grant of a destination (R230 to R232): allocation, limits in force and held ones, target groups, class (255 not taking part), the
cap and weight of the last frame, since when a group is spare, flags. -/
structure Grant where
  alloc : Int
  fwd : Nat
  rev : Nat
  held : Option (Nat × Nat)
  heldTill : Nat                 -- DT at which the held values are due
  mask : Nat
  cls : Nat
  cap : Frac
  weight : Frac
  spareAt : Option Nat
  shortAt : Option Nat           -- when ALLOC_SHORT was last posted
  flags : Nat
  fc : Nat                       -- the last frame's thermal forecast, Q1.30 of 4,096 A, and capacity of its groups, kW (R230)
  room : Nat
deriving DecidableEq, Repr

def Grant.reset : Grant := ⟨0, 0, 0, none, 0, 0, 255, ⟨0, 1⟩, ⟨0, 1⟩, none, none, 0, 0, 0⟩

/-- A group that moves (R234): from a destination (12: it was free) to another (12: it becomes free); the step it waits for and when
it is due. -/
structure Move where
  grp : Nat
  src : Nat
  dst : Nat
  stage : Nat
  due : Nat
deriving DecidableEq, Repr

/-- What the power engines' control frames keep (R16, R49): key 12 e + d, e 2 or 3, the integrator of a destination's loop and the stage it was in; key d, the
port's target; the phases whose phase fault is declared. Currents in Q1.30 of 4,096 A. -/
structure CtlInt where
  integ : SMap Int
  stage : SMap Nat
  port : SMap Int
  told : List Nat
deriving DecidableEq, Repr

def CtlInt.reset : CtlInt := ⟨[], [], [], []⟩

/-- T0's allocation (R216 to R235). -/
structure AllocInt where
  demands : SMap (Option Demand)
  releases : List (Nat × Req)    -- POWER_RELEASE requests in progress, with the groups still to open
  headroom : SMap (Option (Nat × Nat × Nat))   -- per connector: forecast, rating, tick of receipt
  buffers : SMap (Option (Nat × Nat × Nat × Nat))  -- per port: discharge, charge, voltage, tick of receipt
  limits : List SiteLim          -- received longest ago first
  grants : SMap Grant
  moves : List Move
  closedAt : SMap Nat            -- per group: when its position confirmed closed, plus 1
  holdTill : Nat                 -- raises wait until this tick (R231)
  commits : Nat
  stale : List Nat               -- inputs that are stale: 16 times the row plus the instance
  lastLim : Nat × Nat            -- site limits of the last frame
deriving DecidableEq, Repr

def AllocInt.reset : AllocInt := ⟨[], [], [], [], [], [], [], [], 0, 0, [], (0, 0)⟩


/-- Sums of a metrology channel over the running block: of the magnitudes and squares of stage 3, its largest magnitude, a clipped sample.
Samples in 2^-61 V or A. -/
structure ChanSum where
  abs : Nat
  sq : Nat
  peak : Nat
  clip : Bool
deriving DecidableEq, Repr

def ChanSum.reset : ChanSum := ⟨0, 0, 0, false⟩

/-- Sums of an element over the running block: voltage, current, their squares, p, q; and p and q over the running half-cycle. Products
in 2^-122 W. -/
structure ElemSum where
  v : Int
  i : Int
  vSq : Nat
  iSq : Nat
  p : Int
  q : Int
  halfP : Int
  halfQ : Int
  pos : Bool                     -- side of the hysteresis on which the voltage last was
  crossed : Bool                 -- it has changed sides since the half-cycle began
  len : Nat                      -- samples of the half-cycle
deriving DecidableEq, Repr

def ElemSum.reset : ElemSum := ⟨0, 0, 0, 0, 0, 0, 0, 0, false, false, 0⟩

/-- A grid condition (R327): consecutive windows in which it holds, and in which it may clear. -/
structure GridRun where
  on : Nat
  off : Nat
deriving DecidableEq, Repr

def GridRun.reset : GridRun := ⟨0, 0⟩

/-- The metrology pipeline besides its registers (R308 to R327). -/
structure MetInt where
  startAt : Nat                  -- the start of the running 10 ms of the block grid
  slots : Nat                    -- samples taken in it
  cutDue : Bool                  -- a sample boundary has passed since the cut was written
  acc : SMap Nat                 -- 64 accumulators of the running block with their residues, in 1/(36 2^122) uWh
  tally : SMap Nat               -- uWh since run
  chans : SMap ChanSum
  elems : SMap ElemSum
  block : Nat                    -- number of the running block
  first : Bool                   -- it is the first after run
  rel : Bool                     -- a release fell in it
  closed : List (List Byte)      -- closed blocks awaiting delivery, as result bytes, oldest first
  unacked : Nat                  -- bit h: half h holds a block not acknowledged
  watch : Nat                    -- end of the boot watch of the inputs, 0 none
  backs : SMap Nat               -- input m: since when it may count as free of both conditions, plus 1; 0 where it has not failed
  halves : SMap Nat              -- half-cycles of intake i's reference voltage since its last window
  seg : SMap Nat                 -- segment RAM
  grid : SMap GridRun            -- key 4 i + condition
deriving DecidableEq, Repr

def MetInt.reset : MetInt :=
  { startAt := 0, slots := 0, cutDue := false, acc := [], tally := [], chans := [], elems := [], block := 0, first := true, rel := false, closed := [],
    unacked := 0, watch := 0, backs := [], halves := [], seg := [], grid := [] }


/-- A transaction of a connector (R343 to R347): number, open, prepaid, exhausted, opened in replay, excluded, excluded blocks, registers at the
open, total credit; LT at the open; CREDIT_LOW posted; the ticks of the exhaustion or exclusion from which MEN waits to fall, and of the
release whose feedback is to be checked; the relay-fault block. -/
structure Tx where
  number : Nat
  isOpen : Bool
  prepay : Bool
  exhausted : Bool
  inReplay : Bool
  excluded : Bool
  exclBlocks : Nat
  startImp : Nat
  startExp : Nat
  credit : Int
  openLt : Nat
  endImp : Nat                   -- import register at the close
  low : Bool
  fallAt : Option Nat
  relAt : Option Nat
  blocked : Bool
deriving DecidableEq, Repr

def Tx.reset : Tx := ⟨0, false, false, false, false, false, 0, 0, 0, 0, 0, 0, false, none, none, false⟩

/-- What follows once a record or entry of T4 is written. -/
inductive T4After where
  | nothing
  /-- A request completes DONE. -/
  | complete (req : Req) (value : Nat)
  /-- MEN of the connector is set, and the request completes. -/
  | txOpen (c : Nat) (req : Req) (value : Nat)
  /-- The block is published and acknowledged (R320). -/
  | blockDone (block : List Byte)
  /-- The resume entry is written: flags[0] is published, and the pipeline runs (R322). -/
  | resumed
  /-- The flush or pause entry is written (R325, R352). -/
  | flushed
deriving DecidableEq, Repr

/-- What T4 is to write, in order: a record of 128 bytes that its crypto unit signs first (R348), or a journal entry (R323). -/
inductive T4Item where
  | record (rseq : Nat) (body : List Byte) (after : List T4After)
  | entry (jseq : Nat) (body : List Byte) (after : List T4After)
deriving DecidableEq, Repr

/-- A flush or pause asked of T4 (R325, R352): journal kind 2 or 3, final. -/
structure FlushAsk where
  kind : Nat
  last : Bool
deriving DecidableEq, Repr

/-- A legal display (R356, R357): frames sent, tick of the last one, of the last item change or press, and the frame as sent last. -/
structure Disp where
  count : Nat
  sentAt : Nat
  itemAt : Nat
  frame : List Byte
deriving DecidableEq, Repr

def Disp.reset : Disp := ⟨0, 0, 0, []⟩

/-- T4's billing (R320 to R358). -/
structure BillInt where
  started : Bool                 -- T4 has resolved its journal
  regs : SMap Nat                -- 64 legal registers, uWh or uvarh
  next : Nat                     -- the next block to commit
  tallies : SMap Nat             -- the tallies at the last commit, uWh
  tallyDue : Bool                -- the next commit is a tally commit (R322)
  excl : Nat                     -- bit e: element e excluded in the latest block
  lastDt : Nat                   -- DT at the end of the last committed block
  jseq : Nat                     -- the last journal number
  lt : Nat
  hwm : Nat
  guard : Nat                    -- no boundary up to here is processed again after a change of utcOfs (R335)
  replay : Option Nat            -- LT at which a replay began
  utcOfs : Int                   -- TAI - UTC, s
  newOfs : Option (Int × Req)
  active : List Byte             -- active tariff object; empty: the default tariff
  pend : List Byte               -- pending tariff object; empty: none
  rate : Nat
  diStart : Nat
  diSeq : Nat
  diSamples : Nat
  diFlags : Nat                  -- record flags of the running interval
  bpSeq : Nat
  bpStart : Nat
  bpFlags : Nat
  adjTotal : Nat                 -- daily total, ns
  adjLarge : Nat
  daySamples : Nat
  rateReg : SMap Nat             -- key 8 q + r
  period : SMap Nat
  demand : SMap Nat
  maxDem : SMap (Nat × Nat)      -- W, whole seconds of DT
  txs : SMap Tx
  txNext : Nat
  rseq : Nat                     -- the next record number
  unconf : List (Nat × Nat)      -- closed transactions not confirmed: number, rseq of the end record
  missing : Bool                 -- the flush was missing at the last restart
  stopped : Bool                 -- after a flush or pause no block is committed
  final : Bool
  ask : Option FlushAsk
  todo : List T4Item
  newCredits : List (Nat × Req)  -- CREDIT_SET to apply at the next block
  pubSeq : Nat
  disps : SMap Disp
deriving DecidableEq, Repr

def BillInt.reset : BillInt :=
  { started := false, regs := [], next := 0, tallies := [], tallyDue := false, excl := 0, lastDt := 0, jseq := 0, lt := 0, hwm := 0, guard := 0, replay := none, utcOfs := 0,
    newOfs := none, active := [], pend := [], rate := 0, diStart := 0, diSeq := 0, diSamples := 0, diFlags := 0, bpSeq := 0, bpStart := 0, bpFlags := 0,
    adjTotal := 0, adjLarge := 0, daySamples := 0, rateReg := [], period := [], demand := [], maxDem := [], txs := [], txNext := 1, rseq := 1,
    unconf := [], missing := false, stopped := false, final := false, ask := none, todo := [], newCredits := [], pubSeq := 0, disps := [] }


/-- T1's session on one connector, and its line unit besides the registers (R250 to R262). -/
structure SessInt where
  cpl : Nat × Nat                -- candidate band of CPL and consecutive samples in it
  prx : Nat × Nat
  feedback : Bool                -- level of the lock's feedback input
  pulse : Option (Bool × Nat)    -- output driven: lock or unlock, and the tick at which it falls
  await : Option (Bool × Nat)    -- the pulse whose feedback has not followed, and its tick
  lockFailed : Bool
  step : Nat                     -- step of the lifecycle (R257); 0 none
  stepAt : Nat
  reason : Nat
  pnc : Bool                     -- authorization path (R258)
  critical : Bool
  token : Nat
  held : Option (Nat × Nat)      -- token of a REMOTE_START and the tick until which it is held
  m : Nat                        -- number of the last request (R267)
  last : Option VMsg             -- the last request
  lastAt : Nat                   -- tick of the last response
  loopAt : Nat                   -- tick of the last DC_ChargeLoop
  idle : Bool                    -- SET_I 0 written for a silence of 1 s
  iMax : Nat                     -- vessel current ceiling, Q1.30 of 4,096 A
  volts : Nat
  energy : Nat
  depart : Nat
  started : Bool                 -- PowerDelivery Start has come
  opened : Bool                  -- TX_OPEN issued
  preAt : Option Nat             -- when the precharge contactor was commanded closed
  coilAt : Nat                   -- last command of a contactor
  ended : Bool                   -- POWER_RELEASE, TX_CLOSE and TX_EVENT Ended issued
  ceiling : Option (Nat × Nat)   -- SET_CEILING in force: ceiling, valid until (DT s, 0 until replaced)
  ceilReq : Option Req           -- the SET_CEILING that the next offer completes
  operative : Bool
  availReq : Option Req
  unlockReq : Option Req
  unplugged : Bool               -- UNPLUG_LIVE declared in this session
  isoNotice : Bool               -- the insulation notice stands
  imdSeen : Nat                  -- time and quality of the monitor's point at the last write of IMD
  isoTold : Bool                 -- faults declared while their cause stands: insulation, line, and a contactor's feedback
  lineTold : Bool
  coilTold : Bool
  sentAt : Nat                   -- tick of the last TX_EVENT (R264)
  sentOffer : Nat                -- SESS.OFFER.i_offer at it, A
deriving DecidableEq, Repr

def SessInt.reset : SessInt :=
  { cpl := (0, 0), prx := (0, 0), feedback := false, pulse := none, await := none, lockFailed := false, step := 0, stepAt := 0, reason := 0,
    pnc := false, critical := false, token := 0, held := none, m := 0, last := none, lastAt := 0, loopAt := 0, idle := false, iMax := 0, volts := 0,
    energy := 0, depart := 0, started := false, opened := false, preAt := none, coilAt := 0, ended := false, ceiling := none, ceilReq := none,
    operative := true, availReq := none, unlockReq := none, unplugged := false, isoNotice := false, imdSeen := 0, isoTold := false, lineTold := false, coilTold := false, sentAt := 0, sentOffer := 0 }

/-- A transaction event queued for the back office (R265): connector, 1 Started, 2 Updated, 3 Ended, stoppedReason, transaction number. -/
structure TxEvent where
  conn : Nat
  kind : Nat
  reason : Nat
  number : Nat
deriving DecidableEq, Repr

/-- The OCPP adapter of T0 (R265, R268): events not yet sent, oldest first; per connection the last 64 MessageIds with their req_id, newest
first, and the counter. -/
structure OcppInt where
  events : List TxEvent
  ids : SMap (List (Nat × BitVec 32))
  counter : SMap Nat
deriving DecidableEq, Repr

def OcppInt.reset : OcppInt := ⟨[], [], []⟩


/-- A temperature sensor as T5's checks see it (R273 to R276): consecutive conversions open or short, and out of range; the check (1 wiring,
2 range) that has failed since the last frame; the reading of the last frame; frames below its twin; failed; frames in which every
check passed since; the last valid value; the node at the failure and the largest rise since (2^-32 K); the estimate at the last throttle step. -/
structure Sens where
  bad : Nat
  far : Nat
  hit : Nat
  prev : Option Int
  low : Nat
  failed : Bool
  good : Nat
  last : Option Int
  base : Int
  rise : Int
  at10 : Int
deriving DecidableEq, Repr

def Sens.reset : Sens := ⟨0, 0, 0, none, 0, false, 0, none, 0, 0, 0⟩

/-- A connector's zone: the model has begun; nodes A, B and the two contacts (2^-32 degC); the lowest flow since the first failure, as its
frequency (R275); frames since throttle entry; frames with every sensor below warning, and with the leak reading below its limit;
the budget in 0.025 s; frames since the record was written; the record resolved or asked for. -/
structure Zone where
  begun : Bool
  ta : Int
  tb : Int
  tcP : Int
  tcN : Int
  minFreq : Option Nat
  thrAge : Nat
  calm : Nat
  dry : Nat
  budget : Nat
  saved : Nat
  asked : Bool
deriving DecidableEq, Repr

def Zone.reset : Zone := ⟨false, 0, 0, 0, 0, none, 0, 0, 0, 0, 0, false⟩

/-- A coolant loop: frames with low flow, with flow above the minimum, with low pressure, with a leak reading; run-on frames left; the tick
of a leak's declaration; its outputs are stopped; the dew points of its two connectors (2^-32 degC). -/
structure Loop where
  lowRun : Nat
  okRun : Nat
  pRun : Nat
  leakRun : Nat
  runOn : Nat
  leakAt : Option Nat
  stopped : Bool
  dewA : Option Int
  dewB : Option Int
deriving DecidableEq, Repr

def Loop.reset : Loop := ⟨0, 0, 0, 0, 0, none, false, none, none⟩

/-- T5's cooling (R270 to R292): sensors, zones, loops; LOOP_CTRL adopted from the load switches; NV operations to start (connector, resolve)
and the one that runs; req_id of the next request of T5. -/
structure CoolInt where
  sens : SMap Sens
  zones : SMap Zone
  loops : SMap Loop
  adopted : Bool
  jobs : List (Nat × Bool)
  run : Option (Nat × Bool)
  req : Nat
deriving DecidableEq, Repr

def CoolInt.reset : CoolInt := ⟨[], [], [], false, [], none, 0⟩

/-- A battery string as T6 estimates it (R237 to R248). Charges are in 1/7,200,000,000 mAh, times in ticks. -/
structure Str where
  asked : Bool                   -- its record is resolved or asked for
  resolved : Bool
  record : List Byte              -- the payload resolved; empty: none
  loaded : Bool
  serial : Option Nat            -- BMS serial last read
  seenAt : Nat                   -- last BMS data
  last : Option Int              -- current of the previous sample, mA
  lastAt : Nat
  goodAt : Nat                   -- last good sample
  h : Nat                        -- interval in force, ms; 0 before the first sample
  volts : Nat                    -- string voltage, mV
  temp : Int                     -- 1/1000 degC
  disMax : Nat                   -- BMS limits, mA
  chgMax : Nat
  q : Int
  qIn : Nat
  qOut : Nat
  emptyFrom : Option Nat         -- since when the condition for empty, and for full, has held
  fullFrom : Option Nat
  inSince : Nat                  -- counted in since empty, out since full
  outSince : Nat
  learnAt : Nat
  dtLearn : Nat
  count : Nat                    -- accepted learning results
  checkAt : Nat                  -- last 1 s check
  savedAt : Nat
  raw : Int                      -- change of the raw count in the running 10 s, before eta_c
  authStep : Nat                 -- 0 idle, 1 a nonce is wanted, 2 the challenge is written
  authAt : Nat                   -- when step 1 may begin, or step 2 began
  authDt : Nat                   -- time, as points carry it, of the challenge
  okAt : Nat                     -- last success
deriving DecidableEq, Repr

def Str.reset : Str :=
  { asked := false, resolved := false, record := [], loaded := false, serial := none, seenAt := 0, last := none, lastAt := 0, goodAt := 0, h := 0,
    volts := 0, temp := 25000, disMax := 0, chgMax := 0, q := 0, qIn := 0, qOut := 0, emptyFrom := none, fullFrom := none, inSince := 0,
    outSince := 0, learnAt := 0, dtLearn := 0, count := 0, checkAt := 0, savedAt := 0, raw := 0, authStep := 0, authAt := 0, authDt := 0, okAt := 0 }

/-- A port as T6 reports it: last BUFFER_AVAIL sent; whether discharge and charge were barred, and the connected strings then; the 10 s
window's start, and PORT_QIN and PORT_QOUT there; since when the current is zero; strings to switch. -/
structure BufPort where
  sentAt : Option Nat
  noDis : Bool
  noChg : Bool
  conn : Nat
  winAt : Nat
  qin : Nat
  qout : Nat
  zeroFrom : Option Nat
  switching : Bool
deriving DecidableEq, Repr

def BufPort.reset : BufPort := ⟨none, false, false, 0, 0, 0, 0, none, false⟩

/-- T6's buffer estimation (R236 to R249), with its NV operations and requests as CoolInt has them. -/
structure BufInt where
  strs : SMap Str
  ports : SMap BufPort
  jobs : List (Nat × Bool)
  run : Option (Nat × Bool)
  req : Nat
deriving DecidableEq, Repr

def BufInt.reset : BufInt := ⟨[], [], [], none, 0⟩

/-- The fuses (R404 to R406) and what else no reset touches: public keys of the meter crypto unit per epoch (R407), the preferred main image
(R148 step 6), the tick at which a lockout ends (R409, keep-alive domain). -/
structure Vault where
  provisioned : Bool
  seals : Nat
  unseals : Nat
  retired : Bool
  hashes : SMap (List Byte)      -- slots 0 to 6
  revoked : Nat
  mainCount : Nat
  plinthCount : Nat
  meterKeys : SMap (List Byte)
  preferB : Bool
  lockTill : Nat
  ran : SMap Nat                 -- ticks that the image of slot k has run in IDLE, RUN or HOLD since its first boot (R414)
deriving DecidableEq, Repr

def Vault.reset : Vault := ⟨false, 0, 0, false, [], 0, 0, 0, [], false, 0, []⟩

/-- T7's archive of its event ring (R431): next ring entry to archive, records of the open block (event and argument word), DT at its
opening, sealed blocks awaiting BT1, block number, next block of the ring, BT1 writes the oldest. -/
structure ArchInt where
  ring : Nat
  recs : List (Nat × Nat)
  openAt : Option Nat
  openedAt : Nat                 -- tick of the opening
  sealed : List (List (Nat × Nat) × Nat × Nat)
  bseq : Nat
  busy : Bool
deriving DecidableEq, Repr

def ArchInt.reset : ArchInt := ⟨0, [], none, 0, [], 0, false⟩

/-- Lifecycle, debug, freeze and the service port besides the registers (R404 to R431). -/
structure SecInt where
  latch : Option (Nat × Nat × Nat)    -- authorisation latch: op, arg, tick at which it was set
  nonceAt : Option Nat
  prog : Option (Nat × Nat)      -- fuse programming that runs: operation and key
  hashes : List Byte             -- the 192 bytes of a PROVISION
  waiting : Option (Req × Nat)   -- request that completes at the fuse programming, its operation
  resetDue : Bool                -- a lifecycle fuse has been blown: T7's software reset follows (R411)
  flushAt : Option Nat           -- the final flush that T7 waits for was sent
  sessions : Nat
  lastReq : Nat
  tckAt : Option Nat
  svcRead : Nat                  -- result records of the sessions already shifted out
  bufIdx : Nat
  castChain : Nat
  castWord : Nat
  bsr : Nat                      -- boundary register
  tdo : Nat                      -- what the last data register scan shifted out
  goAt : Nat                     -- write of FREEZE_CTRL.go
  step4At : Option Nat           -- step 4 of the freeze entry
  freezeReq : Option Req
  strNonce : SMap (Option Nat)   -- nonce held for string s (R247)
  arch : ArchInt
  req : Nat                      -- req_id of T7's next request
deriving DecidableEq, Repr

def SecInt.reset : SecInt :=
  { latch := none, nonceAt := none, prog := none, hashes := [], waiting := none, resetDue := false, flushAt := none, sessions := 0, lastReq := 0, tckAt := none, svcRead := 0,
    bufIdx := 0, castChain := 0, castWord := 0, bsr := 0, tdo := 0, goAt := 0, step4At := none, freezeReq := none, strNonce := [], arch := ArchInt.reset, req := 0 }

/-! ## Faults, refusals, the state -/

/-- Reasons to stop with a fault. No meaning of this model raises one: every command of the table has an effect in the spec, and
an engine's access outside its map is a trap, which is a next state (R56, R70). The one constructor names what would be a fault. Safe. -/
inductive Fault where
  | noSuchMemory
deriving DecidableEq, Repr

/-- Reasons to refuse a command. `notModelled` is raised by the dispatch for a row without a meaning, and by nothing else. Safe. -/
inductive Refusal where
  | notModelled (mnemonic : String)
deriving DecidableEq, Repr

/-- The state of the device. -/
structure State where
  /-- time since power-on in CK_PHU ticks of 2.5 ns; advanced by the step on an empty queue -/
  now : Nat
  /-- commands waiting, first in first out -/
  pending : List Instr
  /-- counter that the free values of Config are applied to: the model's own field (log 6) -/
  free : Nat
  /-- every register field of the register space that does not read as its reset value (R434, R441) -/
  fields : SMap Nat
  /-- every memory: key as Ops.physKey gives it -/
  mem : List Host.Cell
  /-- keys of memory bytes that an uncorrectable ECC error has hit and nothing has written since (R19) -/
  ecc : List Nat
  /-- the eight engines -/
  engs : SMap Engine
  /-- T4's inbound mailbox (R74) -/
  mailbox : Queue
  /-- next entry of the outbound ring of 64 result records (R74) -/
  outIdx : Nat
  /-- result records for external originators, oldest first (R31) -/
  outbox : List Result
  /-- completion events for external originators as their adapters receive them, oldest first: event word, argument word (R32, R465) -/
  notices : List (Nat × Nat)
  /-- key 16 k + i: period counter of kind k, instance i (R51) -/
  periods : SMap Nat
  /-- trips in force (R42) -/
  trips : List Trip
  /-- device time DT, ns of TAI, modulo 2^64 (R377) -/
  dtNs : Nat
  /-- fraction of DT in units of 10^-11 ns (R377) -/
  dtFrac : Nat
  /-- the maquette and the device data: what the image and the NOR state about the site (R148 step 10; log 7) -/
  maq : Maquette
  /-- the phase units -/
  phus : SMap PhuInt
  /-- the cell lanes -/
  lanes : SMap LaneInt
  /-- the connector outputs -/
  conns : SMap ConnInt
  /-- the current clamps of the matrix destinations -/
  dests : SMap DestInt
  /-- the coil drivers -/
  coils : SMap CoilInt
  /-- a clamp releases every coil driver: it ends in a reset (R209) -/
  coilsOff : Bool
  /-- the frame epoch in CK_PHU ticks (R103) -/
  epoch : Nat
  /-- the switch-over gap runs (R116) -/
  gap : Bool
  /-- writes held over the gap, oldest first (R116) -/
  held : List HeldWrite
  /-- the root PLL -/
  clk : ClkInt
  /-- supplies, hold-up and keep-alive -/
  pwr : PwrInt
  /-- modes and start-up -/
  mode : ModeInt
  /-- what the control frames of T2 and T3 keep -/
  ctl : CtlInt
  /-- parts of a mAh counted into and out of port p -/
  portCharge : SMap (Nat × Nat)
  /-- the load-switch channels -/
  lsws : SMap LswInt
  /-- bit g: the budget of thermal group g was exceeded at its last measurement (R301) -/
  lsExceeded : Nat
  /-- next SHED_LOG entry -/
  shedNext : Nat
  /-- when the load switches' last paced steps were taken -/
  lsPace : LswPace
  /-- the VSW domain has lost its content and is not yet powered again (R305) -/
  vswLost : Bool
  /-- T6's work on the networks and the point table, and the clocks of the network block -/
  net : NetInt
  /-- Modbus answers sent by the server, oldest first (R368) -/
  modbus : List ModbusAnswer
  /-- the CAN controllers -/
  cans : SMap CanInt
  /-- the power-line link -/
  plc : PlcInt
  /-- result records of the outbox that T6 has answered on CAN and the power line -/
  answered : Nat
  /-- T0: site allocation -/
  alloc : AllocInt
  /-- the metrology pipeline -/
  met : MetInt
  /-- T4: billing and legal records -/
  bill : BillInt
  /-- T1: the sessions of the connectors -/
  sess : SMap SessInt
  /-- req_id of the next request that T1 itself sends -/
  t1Req : Nat
  /-- T0: the back-office link -/
  ocpp : OcppInt
  /-- T5: cable cooling -/
  cool : CoolInt
  /-- T6: the shore buffer battery -/
  buf : BufInt
  /-- fuses, meter keys and what else no reset touches -/
  vault : Vault
  /-- lifecycle, debug, freeze, the service port -/
  sec : SecInt
deriving DecidableEq, Repr

/-- The device right after the release of the power-on reset at its first power-up (R142, R148 step 1, R152, R441): every
register at its reset value, everything else empty, the boot timeline at its first step. -/
def State.reset : State :=
  { now := 0,
    pending := [],
    free := 0,
    fields := [],
    mem := [],
    engs := [],
    mailbox := Queue.reset,
    outIdx := 0,
    outbox := [],
    notices := [],
    ecc := [],
    periods := [],
    trips := [],
    dtNs := 0,
    dtFrac := 0,
    maq := Maquette.reset,
    phus := [],
    lanes := [],
    conns := [],
    dests := [],
    coils := [],
    coilsOff := false,
    epoch := 0,
    gap := false,
    held := [],
    clk := ClkInt.reset,
    pwr := PwrInt.reset,
    mode := ModeInt.reset,
    ctl := CtlInt.reset,
    portCharge := [],
    lsws := [],
    lsExceeded := 0,
    shedNext := 0,
    lsPace := LswPace.reset,
    vswLost := false,
    net := NetInt.reset,
    modbus := [],
    cans := [],
    plc := PlcInt.reset,
    answered := 0,
    alloc := AllocInt.reset,
    met := MetInt.reset,
    bill := BillInt.reset,
    sess := [],
    t1Req := 0,
    ocpp := OcppInt.reset,
    cool := CoolInt.reset,
    buf := BufInt.reset,
    vault := Vault.reset,
    sec := SecInt.reset }

end Sys2Proof.Machine
end

