-- ==== Sys2Proof/Machine/Regs.lean ====
section
/-!
DEFINITION. The register space: the address of every register of the 17 blocks (R434), every field of it with its place,
its width and its reset value (R441), and the table of registers with their access types (R9) and writers (R437).
The names are the manual's: BLOCK_REGISTER and BLOCK_REGISTER_field; i is the instance (or the index of an unstrided
register), j the index inside an instance.
-/
namespace Sys2Proof.Machine

/-- Address of ENG.CTRL (03 register table). -/
def ENG_CTRL (i : Nat) : Nat := 0x40000000 + 0x80 * i
def ENG_CTRL_run (i : Nat) : Fld := ⟨32 * (ENG_CTRL i) + 0, 1, 0⟩
def ENG_CTRL_restart (i : Nat) : Fld := ⟨32 * (ENG_CTRL i) + 1, 1, 0⟩
def ENG_CTRL_halt_req (i : Nat) : Fld := ⟨32 * (ENG_CTRL i) + 2, 1, 0⟩
def ENG_CTRL_single_step (i : Nat) : Fld := ⟨32 * (ENG_CTRL i) + 3, 1, 0⟩
def ENG_CTRL_kick (i : Nat) : Fld := ⟨32 * (ENG_CTRL i) + 8, 8, 0⟩
def ENG_CTRL_q_en (i : Nat) : Fld := ⟨32 * (ENG_CTRL i) + 16, 4, 15⟩
/-- Address of ENG.STATUS (03 register table). -/
def ENG_STATUS (i : Nat) : Nat := 0x40000004 + 0x80 * i
def ENG_STATUS_running (i : Nat) : Fld := ⟨32 * (ENG_STATUS i) + 0, 1, 0⟩
def ENG_STATUS_halted (i : Nat) : Fld := ⟨32 * (ENG_STATUS i) + 1, 1, 0⟩
def ENG_STATUS_double_trap (i : Nat) : Fld := ⟨32 * (ENG_STATUS i) + 2, 1, 0⟩
def ENG_STATUS_throttled (i : Nat) : Fld := ⟨32 * (ENG_STATUS i) + 3, 1, 0⟩
def ENG_STATUS_active (i : Nat) : Fld := ⟨32 * (ENG_STATUS i) + 4, 8, 0⟩
def ENG_STATUS_ctx (i : Nat) : Fld := ⟨32 * (ENG_STATUS i) + 12, 4, 8⟩
def ENG_STATUS_cfg_err (i : Nat) : Fld := ⟨32 * (ENG_STATUS i) + 16, 1, 0⟩
/-- Address of ENG.HB (03 register table). -/
def ENG_HB (i : Nat) : Nat := 0x40000008 + 0x80 * i
def ENG_HB_hb_count (i : Nat) : Fld := ⟨32 * (ENG_HB i) + 0, 32, 0⟩
/-- Address of ENG.TRAP_CAUSE (03 register table). -/
def ENG_TRAP_CAUSE (i : Nat) : Nat := 0x4000000C + 0x80 * i
def ENG_TRAP_CAUSE_cause (i : Nat) : Fld := ⟨32 * (ENG_TRAP_CAUSE i) + 0, 8, 0⟩
def ENG_TRAP_CAUSE_ctx (i : Nat) : Fld := ⟨32 * (ENG_TRAP_CAUSE i) + 8, 4, 0⟩
def ENG_TRAP_CAUSE_count (i : Nat) : Fld := ⟨32 * (ENG_TRAP_CAUSE i) + 12, 20, 0⟩
/-- Address of ENG.TRAP_PC (03 register table). -/
def ENG_TRAP_PC (i : Nat) : Nat := 0x40000010 + 0x80 * i
def ENG_TRAP_PC_pc (i : Nat) : Fld := ⟨32 * (ENG_TRAP_PC i) + 0, 17, 0⟩
/-- Address of ENG.OVERRUN (03 register table). -/
def ENG_OVERRUN (i : Nat) : Nat := 0x40000014 + 0x80 * i
def ENG_OVERRUN_slot_0 (i : Nat) : Fld := ⟨32 * (ENG_OVERRUN i) + 0, 4, 0⟩
def ENG_OVERRUN_slot_1 (i : Nat) : Fld := ⟨32 * (ENG_OVERRUN i) + 4, 4, 0⟩
def ENG_OVERRUN_slot_2 (i : Nat) : Fld := ⟨32 * (ENG_OVERRUN i) + 8, 4, 0⟩
def ENG_OVERRUN_slot_3 (i : Nat) : Fld := ⟨32 * (ENG_OVERRUN i) + 12, 4, 0⟩
def ENG_OVERRUN_slot_4 (i : Nat) : Fld := ⟨32 * (ENG_OVERRUN i) + 16, 4, 0⟩
def ENG_OVERRUN_slot_5 (i : Nat) : Fld := ⟨32 * (ENG_OVERRUN i) + 20, 4, 0⟩
def ENG_OVERRUN_slot_6 (i : Nat) : Fld := ⟨32 * (ENG_OVERRUN i) + 24, 4, 0⟩
def ENG_OVERRUN_slot_7 (i : Nat) : Fld := ⟨32 * (ENG_OVERRUN i) + 28, 4, 0⟩
/-- Address of ENG.QUEUE_STAT (03 register table). -/
def ENG_QUEUE_STAT (i : Nat) : Nat := 0x40000018 + 0x80 * i
def ENG_QUEUE_STAT_result_idx (i : Nat) : Fld := ⟨32 * (ENG_QUEUE_STAT i) + 0, 8, 0⟩
def ENG_QUEUE_STAT_event_idx (i : Nat) : Fld := ⟨32 * (ENG_QUEUE_STAT i) + 8, 8, 0⟩
def ENG_QUEUE_STAT_result_ovf (i : Nat) : Fld := ⟨32 * (ENG_QUEUE_STAT i) + 16, 1, 0⟩
def ENG_QUEUE_STAT_event_ovf (i : Nat) : Fld := ⟨32 * (ENG_QUEUE_STAT i) + 17, 1, 0⟩
/-- Address of ENG.SECT_ID (03 register table). -/
def ENG_SECT_ID (i : Nat) : Nat := 0x4000001C + 0x80 * i
def ENG_SECT_ID_id (i : Nat) : Fld := ⟨32 * (ENG_SECT_ID i) + 0, 32, 0⟩
/-- Address of ENG.SLOT_BASE (03 register table). -/
def ENG_SLOT_BASE (i : Nat) (j : Nat) : Nat := 0x40000020 + 0x80 * i + 0x4 * j
def ENG_SLOT_BASE_base (i : Nat) (j : Nat) : Fld := ⟨32 * (ENG_SLOT_BASE i j) + 0, 32, 0⟩
/-- Address of ENG.SLOT_CFG (03 register table). -/
def ENG_SLOT_CFG (i : Nat) (j : Nat) : Nat := 0x40000040 + 0x80 * i + 0x4 * j
def ENG_SLOT_CFG_en (i : Nat) (j : Nat) : Fld := ⟨32 * (ENG_SLOT_CFG i j) + 0, 1, 0⟩
def ENG_SLOT_CFG_row_size_m1 (i : Nat) (j : Nat) : Fld := ⟨32 * (ENG_SLOT_CFG i j) + 2, 6, 0⟩
def ENG_SLOT_CFG_row_count_m1 (i : Nat) (j : Nat) : Fld := ⟨32 * (ENG_SLOT_CFG i j) + 8, 12, 0⟩
def ENG_SLOT_CFG_offset (i : Nat) (j : Nat) : Fld := ⟨32 * (ENG_SLOT_CFG i j) + 24, 8, 0⟩
/-- Address of ENG.SLOT_PERIOD (03 register table). -/
def ENG_SLOT_PERIOD (i : Nat) (j : Nat) : Nat := 0x40000060 + 0x80 * i + 0x4 * j
def ENG_SLOT_PERIOD_period (i : Nat) (j : Nat) : Fld := ⟨32 * (ENG_SLOT_PERIOD i j) + 0, 32, 0⟩
/-- Address of CLK.CTRL (05 register table). -/
def CLK_CTRL : Nat := 0x40010000
def CLK_CTRL_pll_en : Fld := ⟨32 * (CLK_CTRL) + 0, 1, 1⟩
def CLK_CTRL_relock : Fld := ⟨32 * (CLK_CTRL) + 1, 1, 0⟩
def CLK_CTRL_realign : Fld := ⟨32 * (CLK_CTRL) + 2, 1, 0⟩
def CLK_CTRL_coast_force : Fld := ⟨32 * (CLK_CTRL) + 3, 1, 0⟩
/-- Address of CLK.STATUS (05 register table). -/
def CLK_STATUS : Nat := 0x40010004
def CLK_STATUS_state : Fld := ⟨32 * (CLK_STATUS) + 0, 3, 0⟩
def CLK_STATUS_aligned : Fld := ⟨32 * (CLK_STATUS) + 3, 1, 0⟩
def CLK_STATUS_phu_any : Fld := ⟨32 * (CLK_STATUS) + 4, 1, 0⟩
def CLK_STATUS_src : Fld := ⟨32 * (CLK_STATUS) + 5, 3, 0⟩
def CLK_STATUS_band : Fld := ⟨32 * (CLK_STATUS) + 8, 6, 0⟩
def CLK_STATUS_windows : Fld := ⟨32 * (CLK_STATUS) + 16, 8, 0⟩
/-- Address of CLK.EVENTS (05 register table). -/
def CLK_EVENTS : Nat := 0x40010008
def CLK_EVENTS_lock : Fld := ⟨32 * (CLK_EVENTS) + 0, 1, 0⟩
def CLK_EVENTS_loss : Fld := ⟨32 * (CLK_EVENTS) + 1, 1, 0⟩
def CLK_EVENTS_band_miss : Fld := ⟨32 * (CLK_EVENTS) + 2, 1, 0⟩
def CLK_EVENTS_ref_return : Fld := ⟨32 * (CLK_EVENTS) + 3, 1, 0⟩
def CLK_EVENTS_realign_done : Fld := ⟨32 * (CLK_EVENTS) + 4, 1, 0⟩
def CLK_EVENTS_realign_refused : Fld := ⟨32 * (CLK_EVENTS) + 5, 1, 0⟩
def CLK_EVENTS_pps_missing : Fld := ⟨32 * (CLK_EVENTS) + 6, 1, 0⟩
def CLK_EVENTS_cko_cfg_err : Fld := ⟨32 * (CLK_EVENTS) + 7, 1, 0⟩
def CLK_EVENTS_acq_fail : Fld := ⟨32 * (CLK_EVENTS) + 8, 1, 0⟩
/-- Address of CLK.REF_CFG (05 register table). -/
def CLK_REF_CFG : Nat := 0x4001000C
def CLK_REF_CFG_src : Fld := ⟨32 * (CLK_REF_CFG) + 0, 2, 0⟩
def CLK_REF_CFG_pps_port : Fld := ⟨32 * (CLK_REF_CFG) + 2, 1, 0⟩
/-- Address of CLK.TUNE (05 register table). -/
def CLK_TUNE : Nat := 0x40010010
def CLK_TUNE_offset : Fld := ⟨32 * (CLK_TUNE) + 0, 24, 0⟩
/-- Address of CLK.SLEW_CFG (05 register table). -/
def CLK_SLEW_CFG : Nat := 0x40010014
def CLK_SLEW_CFG_slew_max : Fld := ⟨32 * (CLK_SLEW_CFG) + 0, 8, 100⟩
/-- Address of CLK.PPS_CFG (05 register table). -/
def CLK_PPS_CFG : Nat := 0x40010018
def CLK_PPS_CFG_en : Fld := ⟨32 * (CLK_PPS_CFG) + 0, 1, 0⟩
def CLK_PPS_CFG_epoch_on_pps : Fld := ⟨32 * (CLK_PPS_CFG) + 1, 1, 0⟩
def CLK_PPS_CFG_gain_shift : Fld := ⟨32 * (CLK_PPS_CFG) + 8, 4, 3⟩
/-- Address of CLK.PHASE_ERR (05 register table). -/
def CLK_PHASE_ERR : Nat := 0x4001001C
def CLK_PHASE_ERR_err : Fld := ⟨32 * (CLK_PHASE_ERR) + 0, 16, 0⟩
def CLK_PHASE_ERR_grid_ofs : Fld := ⟨32 * (CLK_PHASE_ERR) + 16, 10, 0⟩
/-- Address of CLK.BAND_LO (05 register table). -/
def CLK_BAND_LO (i : Nat) : Nat := 0x40010040 + 0x4 * i
def CLK_BAND_LO_f_lo (i : Nat) : Fld := ⟨32 * (CLK_BAND_LO i) + 0, 23, (if i = 0 then Config.bandLo_f_lo else 0)⟩
def CLK_BAND_LO_valid (i : Nat) : Fld := ⟨32 * (CLK_BAND_LO i) + 31, 1, (if i = 0 then 1 else 0)⟩
/-- Address of CLK.BAND_HI (05 register table). -/
def CLK_BAND_HI (i : Nat) : Nat := 0x40010080 + 0x4 * i
def CLK_BAND_HI_f_hi (i : Nat) : Fld := ⟨32 * (CLK_BAND_HI i) + 0, 23, (if i = 0 then Config.bandHi_f_hi else 0)⟩
def CLK_BAND_HI_code (i : Nat) : Fld := ⟨32 * (CLK_BAND_HI i) + 24, 6, (if i = 0 then Config.bandHi_code else 0)⟩
/-- Address of CLK.CKO_CFG (05 register table). -/
def CLK_CKO_CFG (i : Nat) : Nat := 0x400100C0 + 0x4 * i
def CLK_CKO_CFG_std (i : Nat) : Fld := ⟨32 * (CLK_CKO_CFG i) + 0, 3, 0⟩
def CLK_CKO_CFG_inv (i : Nat) : Fld := ⟨32 * (CLK_CKO_CFG i) + 3, 1, 0⟩
/-- Address of CLK.CKO_DIV (05 register table). -/
def CLK_CKO_DIV (i : Nat) : Nat := 0x400100E0 + 0x4 * i
def CLK_CKO_DIV_div (i : Nat) : Fld := ⟨32 * (CLK_CKO_DIV i) + 0, 20, 160⟩
/-- Address of CLK.CKO_PHASE (05 register table). -/
def CLK_CKO_PHASE (i : Nat) : Nat := 0x40010100 + 0x4 * i
def CLK_CKO_PHASE_delay (i : Nat) : Fld := ⟨32 * (CLK_CKO_PHASE i) + 0, 20, 0⟩
/-- Address of CLK.LOCK_HIST (05 register table). -/
def CLK_LOCK_HIST (i : Nat) : Nat := 0x40010120 + 0x4 * i
def CLK_LOCK_HIST_diff (i : Nat) : Fld := ⟨32 * (CLK_LOCK_HIST i) + 0, 16, 0⟩
def CLK_LOCK_HIST_seq (i : Nat) : Fld := ⟨32 * (CLK_LOCK_HIST i) + 16, 16, 0⟩
/-- Address of PWR.CTRL (06 register table). -/
def PWR_CTRL : Nat := 0x40020000
def PWR_CTRL_hk_en : Fld := ⟨32 * (PWR_CTRL) + 0, 1, 1⟩
def PWR_CTRL_selftest_en : Fld := ⟨32 * (PWR_CTRL) + 1, 1, 1⟩
def PWR_CTRL_boost_en : Fld := ⟨32 * (PWR_CTRL) + 2, 1, 1⟩
def PWR_CTRL_selftest_now : Fld := ⟨32 * (PWR_CTRL) + 3, 1, 0⟩
/-- Address of PWR.STATUS (06 register table). -/
def PWR_STATUS : Nat := 0x40020004
def PWR_STATUS_pfw : Fld := ⟨32 * (PWR_STATUS) + 0, 1, 0⟩
def PWR_STATUS_active_feed : Fld := ⟨32 * (PWR_STATUS) + 1, 1, 0⟩
def PWR_STATUS_switching : Fld := ⟨32 * (PWR_STATUS) + 2, 1, 0⟩
def PWR_STATUS_hold_ready : Fld := ⟨32 * (PWR_STATUS) + 3, 1, 0⟩
def PWR_STATUS_die_level : Fld := ⟨32 * (PWR_STATUS) + 4, 2, 0⟩
def PWR_STATUS_feed_a_ok : Fld := ⟨32 * (PWR_STATUS) + 6, 1, 0⟩
def PWR_STATUS_feed_b_ok : Fld := ⟨32 * (PWR_STATUS) + 7, 1, 0⟩
/-- Address of PWR.EVENTS (06 register table). -/
def PWR_EVENTS : Nat := 0x40020008
def PWR_EVENTS_pfw : Fld := ⟨32 * (PWR_EVENTS) + 0, 1, 0⟩
def PWR_EVENTS_switchover : Fld := ⟨32 * (PWR_EVENTS) + 1, 1, 0⟩
def PWR_EVENTS_feed_unhealthy : Fld := ⟨32 * (PWR_EVENTS) + 2, 1, 0⟩
def PWR_EVENTS_feed_healthy : Fld := ⟨32 * (PWR_EVENTS) + 3, 1, 0⟩
def PWR_EVENTS_die_warn : Fld := ⟨32 * (PWR_EVENTS) + 4, 1, 0⟩
def PWR_EVENTS_die_throttle : Fld := ⟨32 * (PWR_EVENTS) + 5, 1, 0⟩
def PWR_EVENTS_die_halved : Fld := ⟨32 * (PWR_EVENTS) + 6, 1, 0⟩
def PWR_EVENTS_die_clear : Fld := ⟨32 * (PWR_EVENTS) + 7, 1, 0⟩
def PWR_EVENTS_hold_lost : Fld := ⟨32 * (PWR_EVENTS) + 8, 1, 0⟩
def PWR_EVENTS_hk_limit : Fld := ⟨32 * (PWR_EVENTS) + 9, 1, 0⟩
/-- Address of PWR.FEED_CFG (06 register table). -/
def PWR_FEED_CFG : Nat := 0x4002000C
def PWR_FEED_CFG_r_path_max : Fld := ⟨32 * (PWR_FEED_CFG) + 0, 8, 40⟩
def PWR_FEED_CFG_pulse_en : Fld := ⟨32 * (PWR_FEED_CFG) + 8, 1, 1⟩
/-- Address of PWR.FEED_STAT (06 register table). -/
def PWR_FEED_STAT (i : Nat) : Nat := 0x40020010 + 0x4 * i
def PWR_FEED_STAT_voltage (i : Nat) : Fld := ⟨32 * (PWR_FEED_STAT i) + 0, 16, 0⟩
def PWR_FEED_STAT_current (i : Nat) : Fld := ⟨32 * (PWR_FEED_STAT i) + 16, 16, 0⟩
/-- Address of PWR.FEED_HEALTH (06 register table). -/
def PWR_FEED_HEALTH (i : Nat) : Nat := 0x40020018 + 0x4 * i
def PWR_FEED_HEALTH_healthy (i : Nat) : Fld := ⟨32 * (PWR_FEED_HEALTH i) + 0, 1, 0⟩
def PWR_FEED_HEALTH_v_ok (i : Nat) : Fld := ⟨32 * (PWR_FEED_HEALTH i) + 1, 1, 0⟩
def PWR_FEED_HEALTH_block_ok (i : Nat) : Fld := ⟨32 * (PWR_FEED_HEALTH i) + 2, 1, 0⟩
def PWR_FEED_HEALTH_path_ok (i : Nat) : Fld := ⟨32 * (PWR_FEED_HEALTH i) + 3, 1, 0⟩
def PWR_FEED_HEALTH_path_skipped (i : Nat) : Fld := ⟨32 * (PWR_FEED_HEALTH i) + 4, 1, 0⟩
def PWR_FEED_HEALTH_r_path (i : Nat) : Fld := ⟨32 * (PWR_FEED_HEALTH i) + 8, 8, 0⟩
def PWR_FEED_HEALTH_fails (i : Nat) : Fld := ⟨32 * (PWR_FEED_HEALTH i) + 16, 8, 0⟩
def PWR_FEED_HEALTH_tests (i : Nat) : Fld := ⟨32 * (PWR_FEED_HEALTH i) + 24, 8, 0⟩
/-- Address of PWR.HOLD_STAT (06 register table). -/
def PWR_HOLD_STAT : Nat := 0x40020020
def PWR_HOLD_STAT_vhold : Fld := ⟨32 * (PWR_HOLD_STAT) + 0, 8, 0⟩
def PWR_HOLD_STAT_budget_us : Fld := ⟨32 * (PWR_HOLD_STAT) + 8, 16, 0⟩
def PWR_HOLD_STAT_cap : Fld := ⟨32 * (PWR_HOLD_STAT) + 24, 8, 0⟩
/-- Address of PWR.THERM_STAT (06 register table). -/
def PWR_THERM_STAT : Nat := 0x40020024
def PWR_THERM_STAT_die : Fld := ⟨32 * (PWR_THERM_STAT) + 0, 11, 0⟩
def PWR_THERM_STAT_throttles : Fld := ⟨32 * (PWR_THERM_STAT) + 16, 16, 0⟩
/-- Address of PWR.KEEP_STAT (06 register table). -/
def PWR_KEEP_STAT : Nat := 0x40020028
def PWR_KEEP_STAT_on_vbak : Fld := ⟨32 * (PWR_KEEP_STAT) + 0, 1, 0⟩
def PWR_KEEP_STAT_ka_lost : Fld := ⟨32 * (PWR_KEEP_STAT) + 1, 1, 0⟩
def PWR_KEEP_STAT_vbak_low : Fld := ⟨32 * (PWR_KEEP_STAT) + 2, 1, 0⟩
def PWR_KEEP_STAT_shut_latched : Fld := ⟨32 * (PWR_KEEP_STAT) + 3, 1, 0⟩
def PWR_KEEP_STAT_vbak : Fld := ⟨32 * (PWR_KEEP_STAT) + 8, 8, 0⟩
/-- Address of PWR.TAMPER (06 register table). -/
def PWR_TAMPER : Nat := 0x4002002C
def PWR_TAMPER_loop0_en : Fld := ⟨32 * (PWR_TAMPER) + 0, 1, 0⟩
def PWR_TAMPER_loop1_en : Fld := ⟨32 * (PWR_TAMPER) + 1, 1, 0⟩
def PWR_TAMPER_loop0_ok : Fld := ⟨32 * (PWR_TAMPER) + 2, 1, 0⟩
def PWR_TAMPER_loop1_ok : Fld := ⟨32 * (PWR_TAMPER) + 3, 1, 0⟩
def PWR_TAMPER_log_idx : Fld := ⟨32 * (PWR_TAMPER) + 8, 3, 0⟩
def PWR_TAMPER_log_ovf : Fld := ⟨32 * (PWR_TAMPER) + 11, 1, 0⟩
/-- Address of PWR.RTC_SUB (06 register table). -/
def PWR_RTC_SUB : Nat := 0x40020030
def PWR_RTC_SUB_sub : Fld := ⟨32 * (PWR_RTC_SUB) + 0, 15, 0⟩
/-- Address of PWR.RTC_SEC (06 register table). -/
def PWR_RTC_SEC : Nat := 0x40020034
def PWR_RTC_SEC_sec : Fld := ⟨32 * (PWR_RTC_SEC) + 0, 32, 0⟩
/-- Address of PWR.FUSE_SHADOW (06 register table). -/
def PWR_FUSE_SHADOW : Nat := 0x40020038
def PWR_FUSE_SHADOW_lifecycle : Fld := ⟨32 * (PWR_FUSE_SHADOW) + 0, 3, 0⟩
def PWR_FUSE_SHADOW_last_cause : Fld := ⟨32 * (PWR_FUSE_SHADOW) + 4, 4, 0⟩
/-- Address of PWR.HK_CFG (06 register table). -/
def PWR_HK_CFG : Nat := 0x4002003C
def PWR_HK_CFG_mask : Fld := ⟨32 * (PWR_HK_CFG) + 0, 24, 0⟩
/-- Address of PWR.HK_DATA (06 register table). -/
def PWR_HK_DATA (i : Nat) : Nat := 0x40020040 + 0x4 * i
def PWR_HK_DATA_value (i : Nat) : Fld := ⟨32 * (PWR_HK_DATA i) + 0, 16, 0⟩
def PWR_HK_DATA_round (i : Nat) : Fld := ⟨32 * (PWR_HK_DATA i) + 16, 12, 0⟩
def PWR_HK_DATA_over (i : Nat) : Fld := ⟨32 * (PWR_HK_DATA i) + 28, 1, 0⟩
def PWR_HK_DATA_under (i : Nat) : Fld := ⟨32 * (PWR_HK_DATA i) + 29, 1, 0⟩
def PWR_HK_DATA_valid (i : Nat) : Fld := ⟨32 * (PWR_HK_DATA i) + 31, 1, 0⟩
/-- Address of PWR.NVW_SRC (06 register table). -/
def PWR_NVW_SRC (i : Nat) : Nat := 0x400200A0 + 0x4 * i
def PWR_NVW_SRC_src (i : Nat) : Fld := ⟨32 * (PWR_NVW_SRC i) + 0, 17, 0⟩
/-- Address of PWR.NVW_DST (06 register table). -/
def PWR_NVW_DST (i : Nat) : Nat := 0x400200C0 + 0x4 * i
def PWR_NVW_DST_pair_ofs (i : Nat) : Fld := ⟨32 * (PWR_NVW_DST i) + 0, 16, 0⟩
def PWR_NVW_DST_tag (i : Nat) : Fld := ⟨32 * (PWR_NVW_DST i) + 16, 16, 0⟩
/-- Address of PWR.NVW_CTRL (06 register table). -/
def PWR_NVW_CTRL (i : Nat) : Nat := 0x400200E0 + 0x4 * i
def PWR_NVW_CTRL_len_m1 (i : Nat) : Fld := ⟨32 * (PWR_NVW_CTRL i) + 0, 14, 0⟩
def PWR_NVW_CTRL_op (i : Nat) : Fld := ⟨32 * (PWR_NVW_CTRL i) + 14, 2, 0⟩
def PWR_NVW_CTRL_go (i : Nat) : Fld := ⟨32 * (PWR_NVW_CTRL i) + 16, 1, 0⟩
def PWR_NVW_CTRL_status (i : Nat) : Fld := ⟨32 * (PWR_NVW_CTRL i) + 17, 3, 0⟩
def PWR_NVW_CTRL_slot (i : Nat) : Fld := ⟨32 * (PWR_NVW_CTRL i) + 20, 1, 0⟩
/-- Address of PWR.NVW_SEQ (06 register table). -/
def PWR_NVW_SEQ (i : Nat) : Nat := 0x40020100 + 0x4 * i
def PWR_NVW_SEQ_seq (i : Nat) : Fld := ⟨32 * (PWR_NVW_SEQ i) + 0, 32, 0⟩
/-- Address of PWR.TAMPER_LOG (06 register table). -/
def PWR_TAMPER_LOG (i : Nat) : Nat := 0x40020120 + 0x4 * i
def PWR_TAMPER_LOG_sec (i : Nat) : Fld := ⟨32 * (PWR_TAMPER_LOG i) + 0, 28, 0⟩
def PWR_TAMPER_LOG_loop (i : Nat) : Fld := ⟨32 * (PWR_TAMPER_LOG i) + 28, 2, 0⟩
def PWR_TAMPER_LOG_kind (i : Nat) : Fld := ⟨32 * (PWR_TAMPER_LOG i) + 30, 2, 0⟩
/-- Address of SEC.MODE (07 register table). -/
def SEC_MODE : Nat := 0x40030000
def SEC_MODE_mode : Fld := ⟨32 * (SEC_MODE) + 0, 3, 1⟩
def SEC_MODE_hc_f3 : Fld := ⟨32 * (SEC_MODE) + 8, 1, 0⟩
def SEC_MODE_hc_feed : Fld := ⟨32 * (SEC_MODE) + 9, 1, 0⟩
def SEC_MODE_hc_estop : Fld := ⟨32 * (SEC_MODE) + 10, 1, 0⟩
def SEC_MODE_hc_discrepancy : Fld := ⟨32 * (SEC_MODE) + 11, 1, 0⟩
def SEC_MODE_changes : Fld := ⟨32 * (SEC_MODE) + 16, 16, 0⟩
/-- Address of SEC.BOOT_STAT (07 register table). -/
def SEC_BOOT_STAT : Nat := 0x40030004
def SEC_BOOT_STAT_stage : Fld := ⟨32 * (SEC_BOOT_STAT) + 0, 4, 1⟩
def SEC_BOOT_STAT_fail : Fld := ⟨32 * (SEC_BOOT_STAT) + 4, 3, 0⟩
def SEC_BOOT_STAT_image : Fld := ⟨32 * (SEC_BOOT_STAT) + 7, 1, 0⟩
def SEC_BOOT_STAT_other_rejected : Fld := ⟨32 * (SEC_BOOT_STAT) + 8, 1, 0⟩
def SEC_BOOT_STAT_warm : Fld := ⟨32 * (SEC_BOOT_STAT) + 9, 1, 0⟩
def SEC_BOOT_STAT_boot_ms : Fld := ⟨32 * (SEC_BOOT_STAT) + 16, 16, 0⟩
/-- Address of SEC.RESET_CAUSE (07 register table). -/
def SEC_RESET_CAUSE : Nat := 0x40030008
def SEC_RESET_CAUSE_kind : Fld := ⟨32 * (SEC_RESET_CAUSE) + 0, 3, 0⟩
def SEC_RESET_CAUSE_prev_mode : Fld := ⟨32 * (SEC_RESET_CAUSE) + 8, 3, 0⟩
def SEC_RESET_CAUSE_warm_count : Fld := ⟨32 * (SEC_RESET_CAUSE) + 16, 16, 0⟩
/-- Address of SEC.ESTOP (07 register table). -/
def SEC_ESTOP : Nat := 0x4003000C
def SEC_ESTOP_a_low : Fld := ⟨32 * (SEC_ESTOP) + 0, 1, 0⟩
def SEC_ESTOP_b_low : Fld := ⟨32 * (SEC_ESTOP) + 1, 1, 0⟩
def SEC_ESTOP_tripped : Fld := ⟨32 * (SEC_ESTOP) + 2, 1, 0⟩
def SEC_ESTOP_discrepancy : Fld := ⟨32 * (SEC_ESTOP) + 3, 1, 0⟩
def SEC_ESTOP_rearm : Fld := ⟨32 * (SEC_ESTOP) + 4, 1, 0⟩
def SEC_ESTOP_rearm_refused : Fld := ⟨32 * (SEC_ESTOP) + 5, 1, 0⟩
def SEC_ESTOP_trips : Fld := ⟨32 * (SEC_ESTOP) + 16, 16, 0⟩
/-- Address of SEC.RESET_CTRL (07 register table). -/
def SEC_RESET_CTRL : Nat := 0x40030010
def SEC_RESET_CTRL_warm : Fld := ⟨32 * (SEC_RESET_CTRL) + 0, 1, 0⟩
/-- Address of SEC.LIFECYCLE (21 register table). -/
def SEC_LIFECYCLE : Nat := 0x40030014
def SEC_LIFECYCLE_state : Fld := ⟨32 * (SEC_LIFECYCLE) + 0, 3, 0⟩
def SEC_LIFECYCLE_provisioned : Fld := ⟨32 * (SEC_LIFECYCLE) + 3, 1, 0⟩
def SEC_LIFECYCLE_seals : Fld := ⟨32 * (SEC_LIFECYCLE) + 4, 7, 0⟩
def SEC_LIFECYCLE_unseals : Fld := ⟨32 * (SEC_LIFECYCLE) + 11, 6, 0⟩
def SEC_LIFECYCLE_retired : Fld := ⟨32 * (SEC_LIFECYCLE) + 17, 1, 0⟩
def SEC_LIFECYCLE_final_pending : Fld := ⟨32 * (SEC_LIFECYCLE) + 18, 1, 0⟩
/-- Address of SEC.LC_CTRL (21 register table). -/
def SEC_LC_CTRL : Nat := 0x40030018
def SEC_LC_CTRL_prog : Fld := ⟨32 * (SEC_LC_CTRL) + 0, 3, 0⟩
def SEC_LC_CTRL_key : Fld := ⟨32 * (SEC_LC_CTRL) + 3, 2, 0⟩
def SEC_LC_CTRL_go : Fld := ⟨32 * (SEC_LC_CTRL) + 5, 1, 0⟩
def SEC_LC_CTRL_status : Fld := ⟨32 * (SEC_LC_CTRL) + 6, 2, 0⟩
/-- Address of SEC.EPOCH (21 register table). -/
def SEC_EPOCH : Nat := 0x4003001C
def SEC_EPOCH_epoch : Fld := ⟨32 * (SEC_EPOCH) + 0, 16, 0⟩
/-- Address of SEC.ROLLBACK (21 register table). -/
def SEC_ROLLBACK : Nat := 0x40030020
def SEC_ROLLBACK_main : Fld := ⟨32 * (SEC_ROLLBACK) + 0, 8, 0⟩
def SEC_ROLLBACK_plinth : Fld := ⟨32 * (SEC_ROLLBACK) + 8, 8, 0⟩
def SEC_ROLLBACK_raise_main : Fld := ⟨32 * (SEC_ROLLBACK) + 16, 1, 0⟩
/-- Address of SEC.KEY_STAT (21 register table). -/
def SEC_KEY_STAT : Nat := 0x40030024
def SEC_KEY_STAT_owner : Fld := ⟨32 * (SEC_KEY_STAT) + 0, 1, 0⟩
def SEC_KEY_STAT_va : Fld := ⟨32 * (SEC_KEY_STAT) + 1, 1, 0⟩
def SEC_KEY_STAT_image : Fld := ⟨32 * (SEC_KEY_STAT) + 2, 4, 0⟩
def SEC_KEY_STAT_revoked : Fld := ⟨32 * (SEC_KEY_STAT) + 6, 4, 0⟩
def SEC_KEY_STAT_identity : Fld := ⟨32 * (SEC_KEY_STAT) + 10, 1, 0⟩
def SEC_KEY_STAT_meter : Fld := ⟨32 * (SEC_KEY_STAT) + 11, 1, 0⟩
/-- Address of SEC.SVC_STAT (21 register table). -/
def SEC_SVC_STAT : Nat := 0x40030028
def SEC_SVC_STAT_open : Fld := ⟨32 * (SEC_SVC_STAT) + 0, 1, 0⟩
def SEC_SVC_STAT_tck : Fld := ⟨32 * (SEC_SVC_STAT) + 1, 1, 0⟩
def SEC_SVC_STAT_authorised : Fld := ⟨32 * (SEC_SVC_STAT) + 2, 2, 0⟩
def SEC_SVC_STAT_session : Fld := ⟨32 * (SEC_SVC_STAT) + 8, 8, 0⟩
def SEC_SVC_STAT_idle : Fld := ⟨32 * (SEC_SVC_STAT) + 16, 16, 0⟩
/-- Address of SEC.DBG_STAT (21 register table). -/
def SEC_DBG_STAT : Nat := 0x4003002C
def SEC_DBG_STAT_granted : Fld := ⟨32 * (SEC_DBG_STAT) + 0, 2, 0⟩
def SEC_DBG_STAT_max : Fld := ⟨32 * (SEC_DBG_STAT) + 2, 2, 0⟩
def SEC_DBG_STAT_t4_excl : Fld := ⟨32 * (SEC_DBG_STAT) + 4, 1, 0⟩
def SEC_DBG_STAT_halted : Fld := ⟨32 * (SEC_DBG_STAT) + 5, 8, 0⟩
def SEC_DBG_STAT_halted_since : Fld := ⟨32 * (SEC_DBG_STAT) + 13, 1, 0⟩
/-- Address of SEC.DBG_CTRL (21 register table). -/
def SEC_DBG_CTRL : Nat := 0x40030030
def SEC_DBG_CTRL_grant : Fld := ⟨32 * (SEC_DBG_CTRL) + 0, 2, 0⟩
def SEC_DBG_CTRL_revoke : Fld := ⟨32 * (SEC_DBG_CTRL) + 2, 1, 0⟩
/-- Address of SEC.FREEZE_CTRL (21 register table). -/
def SEC_FREEZE_CTRL : Nat := 0x40030034
def SEC_FREEZE_CTRL_go : Fld := ⟨32 * (SEC_FREEZE_CTRL) + 0, 1, 0⟩
def SEC_FREEZE_CTRL_limit : Fld := ⟨32 * (SEC_FREEZE_CTRL) + 8, 8, 30⟩
/-- Address of SEC.FREEZE_STAT (21 register table). -/
def SEC_FREEZE_STAT : Nat := 0x40030038
def SEC_FREEZE_STAT_state : Fld := ⟨32 * (SEC_FREEZE_STAT) + 0, 2, 0⟩
def SEC_FREEZE_STAT_pause_ok : Fld := ⟨32 * (SEC_FREEZE_STAT) + 2, 1, 0⟩
def SEC_FREEZE_STAT_pause_missing : Fld := ⟨32 * (SEC_FREEZE_STAT) + 3, 1, 0⟩
def SEC_FREEZE_STAT_freezes : Fld := ⟨32 * (SEC_FREEZE_STAT) + 16, 16, 0⟩
/-- Address of SEC.AUTH_STAT (21 register table). -/
def SEC_AUTH_STAT : Nat := 0x4003003C
def SEC_AUTH_STAT_fails : Fld := ⟨32 * (SEC_AUTH_STAT) + 0, 4, 0⟩
def SEC_AUTH_STAT_lockout : Fld := ⟨32 * (SEC_AUTH_STAT) + 4, 1, 0⟩
def SEC_AUTH_STAT_latch : Fld := ⟨32 * (SEC_AUTH_STAT) + 5, 1, 0⟩
def SEC_AUTH_STAT_lock_s : Fld := ⟨32 * (SEC_AUTH_STAT) + 16, 16, 0⟩
/-- Address of SEC.CHAL (21 register table). -/
def SEC_CHAL (i : Nat) : Nat := 0x40030040 + 0x4 * i
def SEC_CHAL_nonce (i : Nat) : Fld := ⟨32 * (SEC_CHAL i) + 0, 32, 0⟩
/-- Address of SEC.ARCH_CTRL (21 register table). -/
def SEC_ARCH_CTRL : Nat := 0x40030060
def SEC_ARCH_CTRL_en : Fld := ⟨32 * (SEC_ARCH_CTRL) + 0, 1, 1⟩
def SEC_ARCH_CTRL_seal_now : Fld := ⟨32 * (SEC_ARCH_CTRL) + 1, 1, 0⟩
/-- Address of SEC.ARCH_STAT (21 register table). -/
def SEC_ARCH_STAT : Nat := 0x40030064
def SEC_ARCH_STAT_next : Fld := ⟨32 * (SEC_ARCH_STAT) + 0, 19, 0⟩
def SEC_ARCH_STAT_wrapped : Fld := ⟨32 * (SEC_ARCH_STAT) + 19, 1, 0⟩
def SEC_ARCH_STAT_lag : Fld := ⟨32 * (SEC_ARCH_STAT) + 20, 8, 0⟩
/-- Address of SEC.FREEZE_DT_LO (21 register table). -/
def SEC_FREEZE_DT_LO : Nat := 0x40030068
def SEC_FREEZE_DT_LO_dt : Fld := ⟨32 * (SEC_FREEZE_DT_LO) + 0, 32, 0⟩
/-- Address of SEC.FREEZE_DT_HI (21 register table). -/
def SEC_FREEZE_DT_HI : Nat := 0x4003006C
def SEC_FREEZE_DT_HI_dt : Fld := ⟨32 * (SEC_FREEZE_DT_HI) + 0, 32, 0⟩
/-- Address of SEC.KEY_HASH (21 register table). -/
def SEC_KEY_HASH (i : Nat) (j : Nat) : Nat := 0x40030080 + 0x20 * i + 0x4 * j
def SEC_KEY_HASH_hash (i : Nat) (j : Nat) : Fld := ⟨32 * (SEC_KEY_HASH i j) + 0, 32, 0⟩
/-- Address of LANE.CTRL (08 register table). -/
def LANE_CTRL (i : Nat) : Nat := 0x40100000 + 0x40 * i
def LANE_CTRL_en (i : Nat) : Fld := ⟨32 * (LANE_CTRL i) + 0, 1, 1⟩
def LANE_CTRL_train (i : Nat) : Fld := ⟨32 * (LANE_CTRL i) + 1, 1, 0⟩
def LANE_CTRL_park (i : Nat) : Fld := ⟨32 * (LANE_CTRL i) + 2, 1, 0⟩
def LANE_CTRL_loopback (i : Nat) : Fld := ⟨32 * (LANE_CTRL i) + 3, 1, 0⟩
/-- Address of LANE.STATUS (08 register table). -/
def LANE_STATUS (i : Nat) : Nat := 0x40100004 + 0x40 * i
def LANE_STATUS_state (i : Nat) : Fld := ⟨32 * (LANE_STATUS i) + 0, 3, 3⟩
def LANE_STATUS_park_cause (i : Nat) : Fld := ⟨32 * (LANE_STATUS i) + 4, 4, 10⟩
def LANE_STATUS_ep_parked (i : Nat) : Fld := ⟨32 * (LANE_STATUS i) + 8, 1, 0⟩
def LANE_STATUS_telem_ok (i : Nat) : Fld := ⟨32 * (LANE_STATUS i) + 9, 1, 0⟩
def LANE_STATUS_phases_en (i : Nat) : Fld := ⟨32 * (LANE_STATUS i) + 16, 8, 0⟩
/-- Address of LANE.EVENTS (08 register table). -/
def LANE_EVENTS (i : Nat) : Nat := 0x40100008 + 0x40 * i
def LANE_EVENTS_trained (i : Nat) : Fld := ⟨32 * (LANE_EVENTS i) + 0, 1, 0⟩
def LANE_EVENTS_train_fail (i : Nat) : Fld := ⟨32 * (LANE_EVENTS i) + 1, 1, 0⟩
def LANE_EVENTS_loss (i : Nat) : Fld := ⟨32 * (LANE_EVENTS i) + 2, 1, 0⟩
def LANE_EVENTS_park (i : Nat) : Fld := ⟨32 * (LANE_EVENTS i) + 3, 1, 0⟩
def LANE_EVENTS_train_refused (i : Nat) : Fld := ⟨32 * (LANE_EVENTS i) + 4, 1, 0⟩
def LANE_EVENTS_telem_lost (i : Nat) : Fld := ⟨32 * (LANE_EVENTS i) + 5, 1, 0⟩
def LANE_EVENTS_ep_fault (i : Nat) : Fld := ⟨32 * (LANE_EVENTS i) + 6, 1, 0⟩
def LANE_EVENTS_ep_id_change (i : Nat) : Fld := ⟨32 * (LANE_EVENTS i) + 7, 1, 0⟩
/-- Address of LANE.TRAIN (08 register table). -/
def LANE_TRAIN (i : Nat) : Nat := 0x4010000C + 0x40 * i
def LANE_TRAIN_target (i : Nat) : Fld := ⟨32 * (LANE_TRAIN i) + 0, 8, 48⟩
def LANE_TRAIN_fail_code (i : Nat) : Fld := ⟨32 * (LANE_TRAIN i) + 16, 3, 0⟩
/-- Address of LANE.LATENCY (08 register table). -/
def LANE_LATENCY (i : Nat) : Nat := 0x40100010 + 0x40 * i
def LANE_LATENCY_rtt (i : Nat) : Fld := ⟨32 * (LANE_LATENCY i) + 0, 10, 0⟩
def LANE_LATENCY_eq (i : Nat) : Fld := ⟨32 * (LANE_LATENCY i) + 10, 7, 0⟩
def LANE_LATENCY_up_age (i : Nat) : Fld := ⟨32 * (LANE_LATENCY i) + 17, 10, 0⟩
/-- Address of LANE.ERRORS (08 register table). -/
def LANE_ERRORS (i : Nat) : Nat := 0x40100014 + 0x40 * i
def LANE_ERRORS_bad_frames (i : Nat) : Fld := ⟨32 * (LANE_ERRORS i) + 0, 16, 0⟩
def LANE_ERRORS_bad_words (i : Nat) : Fld := ⟨32 * (LANE_ERRORS i) + 16, 16, 0⟩
/-- Address of LANE.EP_ID (08 register table). -/
def LANE_EP_ID (i : Nat) : Nat := 0x40100018 + 0x40 * i
def LANE_EP_ID_id (i : Nat) : Fld := ⟨32 * (LANE_EP_ID i) + 0, 32, 0⟩
/-- Address of LANE.EP_STAT (08 register table). -/
def LANE_EP_STAT (i : Nat) : Nat := 0x4010001C + 0x40 * i
def LANE_EP_STAT_value (i : Nat) : Fld := ⟨32 * (LANE_EP_STAT i) + 0, 32, 0⟩
/-- Address of LANE.EP_VER (08 register table). -/
def LANE_EP_VER (i : Nat) : Nat := 0x40100020 + 0x40 * i
def LANE_EP_VER_value (i : Nat) : Fld := ⟨32 * (LANE_EP_VER i) + 0, 32, 0⟩
/-- Address of LANE.AUX (08 register table). -/
def LANE_AUX (i : Nat) : Nat := 0x40100024 + 0x40 * i
def LANE_AUX_aux0 (i : Nat) : Fld := ⟨32 * (LANE_AUX i) + 0, 16, 0⟩
def LANE_AUX_aux1 (i : Nat) : Fld := ⟨32 * (LANE_AUX i) + 16, 16, 0⟩
/-- Address of LANE.VEND_ITEM (08 register table). -/
def LANE_VEND_ITEM (i : Nat) : Nat := 0x40100028 + 0x40 * i
def LANE_VEND_ITEM_item (i : Nat) : Fld := ⟨32 * (LANE_VEND_ITEM i) + 0, 8, 0⟩
def LANE_VEND_ITEM_seq (i : Nat) : Fld := ⟨32 * (LANE_VEND_ITEM i) + 8, 4, 0⟩
/-- Address of LANE.VEND_VALUE (08 register table). -/
def LANE_VEND_VALUE (i : Nat) : Nat := 0x4010002C + 0x40 * i
def LANE_VEND_VALUE_value (i : Nat) : Fld := ⟨32 * (LANE_VEND_VALUE i) + 0, 32, 0⟩
/-- Address of LANE.STAGE_T (08 register table). -/
def LANE_STAGE_T (i : Nat) (j : Nat) : Nat := 0x40100030 + 0x40 * i + 0x4 * j
def LANE_STAGE_T_t_even (i : Nat) (j : Nat) : Fld := ⟨32 * (LANE_STAGE_T i j) + 0, 16, 32768⟩
def LANE_STAGE_T_t_odd (i : Nat) (j : Nat) : Fld := ⟨32 * (LANE_STAGE_T i j) + 16, 16, 32768⟩
/-- Address of PHU.CTRL (09 register table). -/
def PHU_CTRL (i : Nat) : Nat := 0x40200000 + 0x40 * i
def PHU_CTRL_en (i : Nat) : Fld := ⟨32 * (PHU_CTRL i) + 0, 1, 0⟩
def PHU_CTRL_clear (i : Nat) : Fld := ⟨32 * (PHU_CTRL i) + 1, 1, 0⟩
def PHU_CTRL_retry (i : Nat) : Fld := ⟨32 * (PHU_CTRL i) + 2, 1, 0⟩
def PHU_CTRL_burst (i : Nat) : Fld := ⟨32 * (PHU_CTRL i) + 3, 1, 0⟩
def PHU_CTRL_dest (i : Nat) : Fld := ⟨32 * (PHU_CTRL i) + 4, 4, 15⟩
def PHU_CTRL_fhold_en (i : Nat) : Fld := ⟨32 * (PHU_CTRL i) + 8, 1, 1⟩
def PHU_CTRL_i_len (i : Nat) : Fld := ⟨32 * (PHU_CTRL i) + 9, 2, 1⟩
def PHU_CTRL_v_len (i : Nat) : Fld := ⟨32 * (PHU_CTRL i) + 11, 2, 1⟩
def PHU_CTRL_fhold_shift (i : Nat) : Fld := ⟨32 * (PHU_CTRL i) + 13, 3, 4⟩
def PHU_CTRL_fhold_lim (i : Nat) : Fld := ⟨32 * (PHU_CTRL i) + 16, 8, 64⟩
def PHU_CTRL_toff_min (i : Nat) : Fld := ⟨32 * (PHU_CTRL i) + 24, 8, 20⟩
/-- Address of PHU.IREF (09 register table). -/
def PHU_IREF (i : Nat) : Nat := 0x40200004 + 0x40 * i
def PHU_IREF_iref (i : Nat) : Fld := ⟨32 * (PHU_IREF i) + 0, 32, 0⟩
/-- Address of PHU.TON_BASE (09 register table). -/
def PHU_TON_BASE (i : Nat) : Nat := 0x40200008 + 0x40 * i
def PHU_TON_BASE_base (i : Nat) : Fld := ⟨32 * (PHU_TON_BASE i) + 0, 16, 10000⟩
def PHU_TON_BASE_max (i : Nat) : Fld := ⟨32 * (PHU_TON_BASE i) + 16, 16, 9000⟩
/-- Address of PHU.RIPPLE (09 register table). -/
def PHU_RIPPLE (i : Nat) : Nat := 0x4020000C + 0x40 * i
def PHU_RIPPLE_amp (i : Nat) : Fld := ⟨32 * (PHU_RIPPLE i) + 0, 16, 0⟩
def PHU_RIPPLE_slope (i : Nat) : Fld := ⟨32 * (PHU_RIPPLE i) + 16, 16, 0⟩
/-- Address of PHU.PLEAT (09 register table). -/
def PHU_PLEAT (i : Nat) : Nat := 0x40200010 + 0x40 * i
def PHU_PLEAT_angle (i : Nat) : Fld := ⟨32 * (PHU_PLEAT i) + 0, 16, 0⟩
def PHU_PLEAT_period (i : Nat) : Fld := ⟨32 * (PHU_PLEAT i) + 16, 16, 10000⟩
/-- Address of PHU.SENSE (09 register table). -/
def PHU_SENSE (i : Nat) : Nat := 0x40200014 + 0x40 * i
def PHU_SENSE_gain (i : Nat) : Fld := ⟨32 * (PHU_SENSE i) + 0, 16, 0⟩
def PHU_SENSE_ofs (i : Nat) : Fld := ⟨32 * (PHU_SENSE i) + 16, 16, 0⟩
/-- Address of PHU.SHARE (09 register table). -/
def PHU_SHARE (i : Nat) : Nat := 0x40200018 + 0x40 * i
def PHU_SHARE_share (i : Nat) : Fld := ⟨32 * (PHU_SHARE i) + 0, 16, 0⟩
def PHU_SHARE_vratio (i : Nat) : Fld := ⟨32 * (PHU_SHARE i) + 16, 16, 16384⟩
/-- Address of PHU.FAULT (09 register table). -/
def PHU_FAULT (i : Nat) : Nat := 0x4020001C + 0x40 * i
def PHU_FAULT_rise_min (i : Nat) : Fld := ⟨32 * (PHU_FAULT i) + 0, 12, 32⟩
def PHU_FAULT_dens_lo (i : Nat) : Fld := ⟨32 * (PHU_FAULT i) + 12, 8, 16⟩
def PHU_FAULT_dens_hi (i : Nat) : Fld := ⟨32 * (PHU_FAULT i) + 20, 8, 240⟩
/-- Address of PHU.STAGE (09 register table). -/
def PHU_STAGE (i : Nat) : Nat := 0x40200020 + 0x40 * i
def PHU_STAGE_warn (i : Nat) : Fld := ⟨32 * (PHU_STAGE i) + 0, 12, 880⟩
def PHU_STAGE_shut (i : Nat) : Fld := ⟨32 * (PHU_STAGE i) + 12, 12, 1000⟩
def PHU_STAGE_hyst (i : Nat) : Fld := ⟨32 * (PHU_STAGE i) + 24, 8, 80⟩
/-- Address of PHU.STATUS (09 register table). -/
def PHU_STATUS (i : Nat) : Nat := 0x40200024 + 0x40 * i
def PHU_STATUS_enabled (i : Nat) : Fld := ⟨32 * (PHU_STATUS i) + 0, 1, 0⟩
def PHU_STATUS_gate (i : Nat) : Fld := ⟨32 * (PHU_STATUS i) + 1, 1, 0⟩
def PHU_STATUS_latch_open (i : Nat) : Fld := ⟨32 * (PHU_STATUS i) + 2, 1, 0⟩
def PHU_STATUS_latch_sense (i : Nat) : Fld := ⟨32 * (PHU_STATUS i) + 3, 1, 0⟩
def PHU_STATUS_latch_ot (i : Nat) : Fld := ⟨32 * (PHU_STATUS i) + 4, 1, 0⟩
def PHU_STATUS_ot_warn (i : Nat) : Fld := ⟨32 * (PHU_STATUS i) + 5, 1, 0⟩
def PHU_STATUS_sense_src (i : Nat) : Fld := ⟨32 * (PHU_STATUS i) + 6, 2, 0⟩
def PHU_STATUS_locked (i : Nat) : Fld := ⟨32 * (PHU_STATUS i) + 8, 1, 0⟩
def PHU_STATUS_clamp_ton (i : Nat) : Fld := ⟨32 * (PHU_STATUS i) + 9, 1, 0⟩
def PHU_STATUS_clamp_toff (i : Nat) : Fld := ⟨32 * (PHU_STATUS i) + 10, 1, 0⟩
def PHU_STATUS_off_cause (i : Nat) : Fld := ⟨32 * (PHU_STATUS i) + 11, 2, 0⟩
def PHU_STATUS_retry_count (i : Nat) : Fld := ⟨32 * (PHU_STATUS i) + 16, 4, 0⟩
def PHU_STATUS_open_run (i : Nat) : Fld := ⟨32 * (PHU_STATUS i) + 20, 2, 0⟩
/-- Address of PHU.EVENTS (09 register table). -/
def PHU_EVENTS (i : Nat) : Nat := 0x40200028 + 0x40 * i
def PHU_EVENTS_open_phase (i : Nat) : Fld := ⟨32 * (PHU_EVENTS i) + 0, 1, 0⟩
def PHU_EVENTS_sense_fail (i : Nat) : Fld := ⟨32 * (PHU_EVENTS i) + 1, 1, 0⟩
def PHU_EVENTS_ot_warn (i : Nat) : Fld := ⟨32 * (PHU_EVENTS i) + 2, 1, 0⟩
def PHU_EVENTS_ot_warn_clear (i : Nat) : Fld := ⟨32 * (PHU_EVENTS i) + 3, 1, 0⟩
def PHU_EVENTS_ot_shut (i : Nat) : Fld := ⟨32 * (PHU_EVENTS i) + 4, 1, 0⟩
def PHU_EVENTS_ton_max (i : Nat) : Fld := ⟨32 * (PHU_EVENTS i) + 5, 1, 0⟩
def PHU_EVENTS_toff_min (i : Nat) : Fld := ⟨32 * (PHU_EVENTS i) + 6, 1, 0⟩
def PHU_EVENTS_retry_blocked (i : Nat) : Fld := ⟨32 * (PHU_EVENTS i) + 7, 1, 0⟩
def PHU_EVENTS_clear_refused (i : Nat) : Fld := ⟨32 * (PHU_EVENTS i) + 8, 1, 0⟩
def PHU_EVENTS_cfg_err (i : Nat) : Fld := ⟨32 * (PHU_EVENTS i) + 9, 1, 0⟩
def PHU_EVENTS_pleat_lock (i : Nat) : Fld := ⟨32 * (PHU_EVENTS i) + 10, 1, 0⟩
def PHU_EVENTS_pleat_slip (i : Nat) : Fld := ⟨32 * (PHU_EVENTS i) + 11, 1, 0⟩
def PHU_EVENTS_en_refused (i : Nat) : Fld := ⟨32 * (PHU_EVENTS i) + 12, 1, 0⟩
/-- Address of PHU.MEAS (09 register table). -/
def PHU_MEAS (i : Nat) : Nat := 0x4020002C + 0x40 * i
def PHU_MEAS_i_avg (i : Nat) : Fld := ⟨32 * (PHU_MEAS i) + 0, 16, 0⟩
def PHU_MEAS_trim (i : Nat) : Fld := ⟨32 * (PHU_MEAS i) + 16, 16, 0⟩
/-- Address of CONN.CTRL (10 register table). -/
def CONN_CTRL (i : Nat) : Nat := 0x40300000 + 0x100 * i
def CONN_CTRL_en (i : Nat) : Fld := ⟨32 * (CONN_CTRL i) + 0, 1, 0⟩
def CONN_CTRL_rinse (i : Nat) : Fld := ⟨32 * (CONN_CTRL i) + 1, 1, 0⟩
def CONN_CTRL_vbus_cell (i : Nat) : Fld := ⟨32 * (CONN_CTRL i) + 8, 5, 0⟩
/-- Address of CONN.STATUS (10 register table). -/
def CONN_STATUS (i : Nat) : Nat := 0x40300004 + 0x100 * i
def CONN_STATUS_lead (i : Nat) : Fld := ⟨32 * (CONN_STATUS i) + 0, 2, 0⟩
def CONN_STATUS_v_slewing (i : Nat) : Fld := ⟨32 * (CONN_STATUS i) + 2, 1, 0⟩
def CONN_STATUS_i_slewing (i : Nat) : Fld := ⟨32 * (CONN_STATUS i) + 3, 1, 0⟩
def CONN_STATUS_match (i : Nat) : Fld := ⟨32 * (CONN_STATUS i) + 4, 1, 0⟩
def CONN_STATUS_zero (i : Nat) : Fld := ⟨32 * (CONN_STATUS i) + 5, 1, 0⟩
def CONN_STATUS_ov (i : Nat) : Fld := ⟨32 * (CONN_STATUS i) + 6, 1, 0⟩
def CONN_STATUS_limited (i : Nat) : Fld := ⟨32 * (CONN_STATUS i) + 7, 1, 0⟩
def CONN_STATUS_grace (i : Nat) : Fld := ⟨32 * (CONN_STATUS i) + 8, 1, 0⟩
def CONN_STATUS_imd_fresh (i : Nat) : Fld := ⟨32 * (CONN_STATUS i) + 9, 1, 0⟩
def CONN_STATUS_own_mismatch (i : Nat) : Fld := ⟨32 * (CONN_STATUS i) + 10, 1, 0⟩
def CONN_STATUS_dcp (i : Nat) : Fld := ⟨32 * (CONN_STATUS i) + 11, 1, 0⟩
def CONN_STATUS_dcn (i : Nat) : Fld := ⟨32 * (CONN_STATUS i) + 12, 1, 0⟩
def CONN_STATUS_pre (i : Nat) : Fld := ⟨32 * (CONN_STATUS i) + 13, 1, 0⟩
def CONN_STATUS_men (i : Nat) : Fld := ⟨32 * (CONN_STATUS i) + 14, 1, 0⟩
def CONN_STATUS_rev_pol (i : Nat) : Fld := ⟨32 * (CONN_STATUS i) + 15, 1, 0⟩
/-- Address of CONN.EVENTS (10 register table). -/
def CONN_EVENTS (i : Nat) : Nat := 0x40300008 + 0x100 * i
def CONN_EVENTS_v_done (i : Nat) : Fld := ⟨32 * (CONN_EVENTS i) + 0, 1, 0⟩
def CONN_EVENTS_i_done (i : Nat) : Fld := ⟨32 * (CONN_EVENTS i) + 1, 1, 0⟩
def CONN_EVENTS_match (i : Nat) : Fld := ⟨32 * (CONN_EVENTS i) + 2, 1, 0⟩
def CONN_EVENTS_match_lost (i : Nat) : Fld := ⟨32 * (CONN_EVENTS i) + 3, 1, 0⟩
def CONN_EVENTS_zero (i : Nat) : Fld := ⟨32 * (CONN_EVENTS i) + 4, 1, 0⟩
def CONN_EVENTS_ov (i : Nat) : Fld := ⟨32 * (CONN_EVENTS i) + 5, 1, 0⟩
def CONN_EVENTS_reduce (i : Nat) : Fld := ⟨32 * (CONN_EVENTS i) + 6, 1, 0⟩
def CONN_EVENTS_grace_expire (i : Nat) : Fld := ⟨32 * (CONN_EVENTS i) + 7, 1, 0⟩
def CONN_EVENTS_grace_merge (i : Nat) : Fld := ⟨32 * (CONN_EVENTS i) + 8, 1, 0⟩
def CONN_EVENTS_rinse_refused (i : Nat) : Fld := ⟨32 * (CONN_EVENTS i) + 9, 1, 0⟩
def CONN_EVENTS_rev_pol (i : Nat) : Fld := ⟨32 * (CONN_EVENTS i) + 10, 1, 0⟩
def CONN_EVENTS_own_mismatch (i : Nat) : Fld := ⟨32 * (CONN_EVENTS i) + 11, 1, 0⟩
/-- Address of CONN.VSET (10 register table). -/
def CONN_VSET (i : Nat) : Nat := 0x4030000C + 0x100 * i
def CONN_VSET_target (i : Nat) : Fld := ⟨32 * (CONN_VSET i) + 0, 32, 0⟩
/-- Address of CONN.VSLEW (10 register table). -/
def CONN_VSLEW (i : Nat) : Nat := 0x40300010 + 0x100 * i
def CONN_VSLEW_rate (i : Nat) : Fld := ⟨32 * (CONN_VSLEW i) + 0, 16, 500⟩
/-- Address of CONN.ISET (10 register table). -/
def CONN_ISET (i : Nat) : Nat := 0x40300014 + 0x100 * i
def CONN_ISET_target (i : Nat) : Fld := ⟨32 * (CONN_ISET i) + 0, 32, 0⟩
/-- Address of CONN.ISLEW (10 register table). -/
def CONN_ISLEW (i : Nat) : Nat := 0x40300018 + 0x100 * i
def CONN_ISLEW_up (i : Nat) : Fld := ⟨32 * (CONN_ISLEW i) + 0, 16, 100⟩
def CONN_ISLEW_down (i : Nat) : Fld := ⟨32 * (CONN_ISLEW i) + 16, 16, 3000⟩
/-- Address of CONN.VREF (10 register table). -/
def CONN_VREF (i : Nat) : Nat := 0x4030001C + 0x100 * i
def CONN_VREF_vref (i : Nat) : Fld := ⟨32 * (CONN_VREF i) + 0, 32, 0⟩
/-- Address of CONN.IREF (10 register table). -/
def CONN_IREF (i : Nat) : Nat := 0x40300020 + 0x100 * i
def CONN_IREF_iref (i : Nat) : Fld := ⟨32 * (CONN_IREF i) + 0, 32, 0⟩
/-- Address of CONN.ILIM (10 register table). -/
def CONN_ILIM (i : Nat) : Nat := 0x40300024 + 0x100 * i
def CONN_ILIM_limit (i : Nat) : Fld := ⟨32 * (CONN_ILIM i) + 0, 32, 0⟩
/-- Address of CONN.ILIM_REV (10 register table). -/
def CONN_ILIM_REV (i : Nat) : Nat := 0x40300028 + 0x100 * i
def CONN_ILIM_REV_limit (i : Nat) : Fld := ⟨32 * (CONN_ILIM_REV i) + 0, 32, 0⟩
/-- Address of CONN.ILIM_ENF (10 register table). -/
def CONN_ILIM_ENF (i : Nat) : Nat := 0x4030002C + 0x100 * i
def CONN_ILIM_ENF_limit (i : Nat) : Fld := ⟨32 * (CONN_ILIM_ENF i) + 0, 32, 0⟩
/-- Address of CONN.ILIM_REV_ENF (10 register table). -/
def CONN_ILIM_REV_ENF (i : Nat) : Nat := 0x40300030 + 0x100 * i
def CONN_ILIM_REV_ENF_limit (i : Nat) : Fld := ⟨32 * (CONN_ILIM_REV_ENF i) + 0, 32, 0⟩
/-- Address of CONN.SUM_SHARE (10 register table). -/
def CONN_SUM_SHARE (i : Nat) : Nat := 0x40300034 + 0x100 * i
def CONN_SUM_SHARE_s (i : Nat) : Fld := ⟨32 * (CONN_SUM_SHARE i) + 0, 20, 0⟩
def CONN_SUM_SHARE_n_active (i : Nat) : Fld := ⟨32 * (CONN_SUM_SHARE i) + 20, 9, 0⟩
/-- Address of CONN.MEAS_V (10 register table). -/
def CONN_MEAS_V (i : Nat) : Nat := 0x40300038 + 0x100 * i
def CONN_MEAS_V_v (i : Nat) : Fld := ⟨32 * (CONN_MEAS_V i) + 0, 32, 0⟩
/-- Address of CONN.MEAS_I (10 register table). -/
def CONN_MEAS_I (i : Nat) : Nat := 0x4030003C + 0x100 * i
def CONN_MEAS_I_i (i : Nat) : Fld := ⟨32 * (CONN_MEAS_I i) + 0, 32, 0⟩
/-- Address of CONN.MEAS_VBUS (10 register table). -/
def CONN_MEAS_VBUS (i : Nat) : Nat := 0x40300040 + 0x100 * i
def CONN_MEAS_VBUS_v (i : Nat) : Fld := ⟨32 * (CONN_MEAS_VBUS i) + 0, 32, 0⟩
/-- Address of CONN.MATCH_CFG (10 register table). -/
def CONN_MATCH_CFG (i : Nat) : Nat := 0x40300044 + 0x100 * i
def CONN_MATCH_CFG_tol (i : Nat) : Fld := ⟨32 * (CONN_MATCH_CFG i) + 0, 8, 20⟩
def CONN_MATCH_CFG_hold (i : Nat) : Fld := ⟨32 * (CONN_MATCH_CFG i) + 8, 8, 10⟩
def CONN_MATCH_CFG_i_zero (i : Nat) : Fld := ⟨32 * (CONN_MATCH_CFG i) + 16, 12, 32⟩
/-- Address of CONN.OV_LEVEL (10 register table). -/
def CONN_OV_LEVEL (i : Nat) : Nat := 0x40300048 + 0x100 * i
def CONN_OV_LEVEL_level (i : Nat) : Fld := ⟨32 * (CONN_OV_LEVEL i) + 0, 32, 1300000⟩
/-- Address of CONN.GRANT (10 register table). -/
def CONN_GRANT (i : Nat) : Nat := 0x4030004C + 0x100 * i
def CONN_GRANT_cmd (i : Nat) : Fld := ⟨32 * (CONN_GRANT i) + 0, 8, 0⟩
def CONN_GRANT_closed (i : Nat) : Fld := ⟨32 * (CONN_GRANT i) + 8, 8, 0⟩
/-- Address of CONN.IMD (10 register table). -/
def CONN_IMD (i : Nat) : Nat := 0x40300050 + 0x100 * i
def CONN_IMD_r_iso (i : Nat) : Fld := ⟨32 * (CONN_IMD i) + 0, 20, 0⟩
def CONN_IMD_ok (i : Nat) : Fld := ⟨32 * (CONN_IMD i) + 20, 1, 0⟩
def CONN_IMD_age (i : Nat) : Fld := ⟨32 * (CONN_IMD i) + 24, 8, 255⟩
/-- Address of CONN.GRACE_STAT (10 register table). -/
def CONN_GRACE_STAT (i : Nat) : Nat := 0x40300054 + 0x100 * i
def CONN_GRACE_STAT_steps (i : Nat) : Fld := ⟨32 * (CONN_GRACE_STAT i) + 0, 4, 0⟩
def CONN_GRACE_STAT_next_ms (i : Nat) : Fld := ⟨32 * (CONN_GRACE_STAT i) + 16, 11, 0⟩
/-- Address of CONN.TAP_CFG (10 register table). -/
def CONN_TAP_CFG (i : Nat) : Nat := 0x40300058 + 0x100 * i
def CONN_TAP_CFG_i_fs (i : Nat) : Fld := ⟨32 * (CONN_TAP_CFG i) + 0, 16, 4096⟩
def CONN_TAP_CFG_v_fs (i : Nat) : Fld := ⟨32 * (CONN_TAP_CFG i) + 16, 16, 1600⟩
/-- Address of CONN.COUNTS (10 register table). -/
def CONN_COUNTS (i : Nat) : Nat := 0x4030005C + 0x100 * i
def CONN_COUNTS_sessions (i : Nat) : Fld := ⟨32 * (CONN_COUNTS i) + 0, 16, 0⟩
def CONN_COUNTS_reductions (i : Nat) : Fld := ⟨32 * (CONN_COUNTS i) + 16, 8, 0⟩
def CONN_COUNTS_merges (i : Nat) : Fld := ⟨32 * (CONN_COUNTS i) + 24, 8, 0⟩
/-- Address of CONN.OWN (10 register table). -/
def CONN_OWN (i : Nat) (j : Nat) : Nat := 0x40300060 + 0x100 * i + 0x4 * j
def CONN_OWN_own (i : Nat) (j : Nat) : Fld := ⟨32 * (CONN_OWN i j) + 0, 32, 0⟩
/-- Address of CONN.GRACE_STEP (10 register table). -/
def CONN_GRACE_STEP (i : Nat) (j : Nat) : Nat := 0x40300080 + 0x100 * i + 0x4 * j
def CONN_GRACE_STEP_value (i : Nat) (j : Nat) : Fld := ⟨32 * (CONN_GRACE_STEP i j) + 0, 32, 0⟩
/-- Address of MTX.COIL_CMD (10 register table). -/
def MTX_COIL_CMD (i : Nat) : Nat := 0x40310000 + 0x4 * i
def MTX_COIL_CMD_cmd (i : Nat) : Fld := ⟨32 * (MTX_COIL_CMD i) + 0, 1, 0⟩
def MTX_COIL_CMD_pull (i : Nat) : Fld := ⟨32 * (MTX_COIL_CMD i) + 8, 8, 100⟩
def MTX_COIL_CMD_hold (i : Nat) : Fld := ⟨32 * (MTX_COIL_CMD i) + 16, 8, 77⟩
def MTX_COIL_CMD_fb_mode (i : Nat) : Fld := ⟨32 * (MTX_COIL_CMD i) + 24, 2, 1⟩
/-- Address of MTX.COIL_STAT (10 register table). -/
def MTX_COIL_STAT (i : Nat) : Nat := 0x40310200 + 0x4 * i
def MTX_COIL_STAT_on (i : Nat) : Fld := ⟨32 * (MTX_COIL_STAT i) + 0, 1, 0⟩
def MTX_COIL_STAT_fb_closed (i : Nat) : Fld := ⟨32 * (MTX_COIL_STAT i) + 1, 1, 0⟩
def MTX_COIL_STAT_mismatch (i : Nat) : Fld := ⟨32 * (MTX_COIL_STAT i) + 2, 1, 0⟩
def MTX_COIL_STAT_men (i : Nat) : Fld := ⟨32 * (MTX_COIL_STAT i) + 3, 1, 0⟩
def MTX_COIL_STAT_pulling (i : Nat) : Fld := ⟨32 * (MTX_COIL_STAT i) + 4, 1, 0⟩
def MTX_COIL_STAT_fail_close (i : Nat) : Fld := ⟨32 * (MTX_COIL_STAT i) + 8, 1, 0⟩
def MTX_COIL_STAT_fail_open (i : Nat) : Fld := ⟨32 * (MTX_COIL_STAT i) + 9, 1, 0⟩
def MTX_COIL_STAT_refused (i : Nat) : Fld := ⟨32 * (MTX_COIL_STAT i) + 10, 1, 0⟩
def MTX_COIL_STAT_hot (i : Nat) : Fld := ⟨32 * (MTX_COIL_STAT i) + 11, 1, 0⟩
def MTX_COIL_STAT_coil_open (i : Nat) : Fld := ⟨32 * (MTX_COIL_STAT i) + 12, 1, 0⟩
def MTX_COIL_STAT_ops (i : Nat) : Fld := ⟨32 * (MTX_COIL_STAT i) + 16, 16, 0⟩
/-- Address of MTX.PORT_LIM (10 register table). -/
def MTX_PORT_LIM (i : Nat) : Nat := 0x40310400 + 0x4 * i
def MTX_PORT_LIM_fwd (i : Nat) : Fld := ⟨32 * (MTX_PORT_LIM i) + 0, 16, 0⟩
def MTX_PORT_LIM_rev (i : Nat) : Fld := ⟨32 * (MTX_PORT_LIM i) + 16, 16, 0⟩
/-- Address of MTX.PORT_ENF (10 register table). -/
def MTX_PORT_ENF (i : Nat) : Nat := 0x40310410 + 0x4 * i
def MTX_PORT_ENF_fwd (i : Nat) : Fld := ⟨32 * (MTX_PORT_ENF i) + 0, 16, 0⟩
def MTX_PORT_ENF_rev (i : Nat) : Fld := ⟨32 * (MTX_PORT_ENF i) + 16, 16, 0⟩
/-- Address of BUF.PORT_CTRL (12 register table). -/
def BUF_PORT_CTRL (i : Nat) : Nat := 0x40320000 + 0x20 * i
def BUF_PORT_CTRL_en (i : Nat) : Fld := ⟨32 * (BUF_PORT_CTRL i) + 0, 1, 0⟩
def BUF_PORT_CTRL_zero (i : Nat) : Fld := ⟨32 * (BUF_PORT_CTRL i) + 1, 1, 0⟩
/-- Address of BUF.PORT_TAP_CFG (12 register table). -/
def BUF_PORT_TAP_CFG (i : Nat) : Nat := 0x40320004 + 0x20 * i
def BUF_PORT_TAP_CFG_i_fs (i : Nat) : Fld := ⟨32 * (BUF_PORT_TAP_CFG i) + 0, 16, 4096⟩
def BUF_PORT_TAP_CFG_v_fs (i : Nat) : Fld := ⟨32 * (BUF_PORT_TAP_CFG i) + 16, 16, 1600⟩
/-- Address of BUF.PORT_V (12 register table). -/
def BUF_PORT_V (i : Nat) : Nat := 0x40320008 + 0x20 * i
def BUF_PORT_V_v (i : Nat) : Fld := ⟨32 * (BUF_PORT_V i) + 0, 32, 0⟩
/-- Address of BUF.PORT_I (12 register table). -/
def BUF_PORT_I (i : Nat) : Nat := 0x4032000C + 0x20 * i
def BUF_PORT_I_i (i : Nat) : Fld := ⟨32 * (BUF_PORT_I i) + 0, 32, 0⟩
/-- Address of BUF.PORT_QIN (12 register table). -/
def BUF_PORT_QIN (i : Nat) : Nat := 0x40320010 + 0x20 * i
def BUF_PORT_QIN_q (i : Nat) : Fld := ⟨32 * (BUF_PORT_QIN i) + 0, 32, 0⟩
/-- Address of BUF.PORT_QOUT (12 register table). -/
def BUF_PORT_QOUT (i : Nat) : Nat := 0x40320014 + 0x20 * i
def BUF_PORT_QOUT_q (i : Nat) : Fld := ⟨32 * (BUF_PORT_QOUT i) + 0, 32, 0⟩
/-- Address of BUF.PORT_AVAIL (12 register table). -/
def BUF_PORT_AVAIL (i : Nat) : Nat := 0x40320018 + 0x20 * i
def BUF_PORT_AVAIL_dis (i : Nat) : Fld := ⟨32 * (BUF_PORT_AVAIL i) + 0, 16, 0⟩
def BUF_PORT_AVAIL_chg (i : Nat) : Fld := ⟨32 * (BUF_PORT_AVAIL i) + 16, 16, 0⟩
/-- Address of BUF.PORT_FLAGS (12 register table). -/
def BUF_PORT_FLAGS (i : Nat) : Nat := 0x4032001C + 0x20 * i
def BUF_PORT_FLAGS_connected (i : Nat) : Fld := ⟨32 * (BUF_PORT_FLAGS i) + 0, 4, 0⟩
def BUF_PORT_FLAGS_auth (i : Nat) : Fld := ⟨32 * (BUF_PORT_FLAGS i) + 4, 4, 0⟩
def BUF_PORT_FLAGS_empty (i : Nat) : Fld := ⟨32 * (BUF_PORT_FLAGS i) + 8, 4, 0⟩
def BUF_PORT_FLAGS_full (i : Nat) : Fld := ⟨32 * (BUF_PORT_FLAGS i) + 12, 4, 0⟩
def BUF_PORT_FLAGS_learning (i : Nat) : Fld := ⟨32 * (BUF_PORT_FLAGS i) + 16, 4, 0⟩
def BUF_PORT_FLAGS_count_mismatch (i : Nat) : Fld := ⟨32 * (BUF_PORT_FLAGS i) + 20, 1, 0⟩
/-- Address of BUF.STR_SOC (12 register table). -/
def BUF_STR_SOC (i : Nat) : Nat := 0x40320080 + 0x10 * i
def BUF_STR_SOC_soc (i : Nat) : Fld := ⟨32 * (BUF_STR_SOC i) + 0, 16, 0⟩
def BUF_STR_SOC_soh (i : Nat) : Fld := ⟨32 * (BUF_STR_SOC i) + 16, 16, 0⟩
/-- Address of BUF.STR_CAP (12 register table). -/
def BUF_STR_CAP (i : Nat) : Nat := 0x40320084 + 0x10 * i
def BUF_STR_CAP_cap (i : Nat) : Fld := ⟨32 * (BUF_STR_CAP i) + 0, 32, 0⟩
/-- Address of BUF.STR_QREM (12 register table). -/
def BUF_STR_QREM (i : Nat) : Nat := 0x40320088 + 0x10 * i
def BUF_STR_QREM_q (i : Nat) : Fld := ⟨32 * (BUF_STR_QREM i) + 0, 32, 0⟩
/-- Address of BUF.STR_STAT (12 register table). -/
def BUF_STR_STAT (i : Nat) : Nat := 0x4032008C + 0x10 * i
def BUF_STR_STAT_auth (i : Nat) : Fld := ⟨32 * (BUF_STR_STAT i) + 0, 2, 0⟩
def BUF_STR_STAT_suspect (i : Nat) : Fld := ⟨32 * (BUF_STR_STAT i) + 2, 1, 0⟩
def BUF_STR_STAT_uncertain (i : Nat) : Fld := ⟨32 * (BUF_STR_STAT i) + 3, 1, 0⟩
def BUF_STR_STAT_stale (i : Nat) : Fld := ⟨32 * (BUF_STR_STAT i) + 4, 1, 0⟩
def BUF_STR_STAT_fast (i : Nat) : Fld := ⟨32 * (BUF_STR_STAT i) + 5, 1, 0⟩
def BUF_STR_STAT_floor (i : Nat) : Fld := ⟨32 * (BUF_STR_STAT i) + 6, 1, 0⟩
def BUF_STR_STAT_ceiling (i : Nat) : Fld := ⟨32 * (BUF_STR_STAT i) + 7, 1, 0⟩
def BUF_STR_STAT_empty (i : Nat) : Fld := ⟨32 * (BUF_STR_STAT i) + 8, 1, 0⟩
def BUF_STR_STAT_full (i : Nat) : Fld := ⟨32 * (BUF_STR_STAT i) + 9, 1, 0⟩
def BUF_STR_STAT_learning (i : Nat) : Fld := ⟨32 * (BUF_STR_STAT i) + 10, 1, 0⟩
def BUF_STR_STAT_learned (i : Nat) : Fld := ⟨32 * (BUF_STR_STAT i) + 11, 1, 0⟩
def BUF_STR_STAT_learn_count (i : Nat) : Fld := ⟨32 * (BUF_STR_STAT i) + 16, 8, 0⟩
def BUF_STR_STAT_auth_fails (i : Nat) : Fld := ⟨32 * (BUF_STR_STAT i) + 24, 8, 0⟩
/-- Address of SESS.CTRL (13 register table). -/
def SESS_CTRL (i : Nat) : Nat := 0x40400000 + 0x40 * i
def SESS_CTRL_en (i : Nat) : Fld := ⟨32 * (SESS_CTRL i) + 0, 1, 0⟩
def SESS_CTRL_src_en (i : Nat) : Fld := ⟨32 * (SESS_CTRL i) + 1, 1, 1⟩
def SESS_CTRL_t1s_en (i : Nat) : Fld := ⟨32 * (SESS_CTRL i) + 2, 1, 0⟩
def SESS_CTRL_plca_en (i : Nat) : Fld := ⟨32 * (SESS_CTRL i) + 3, 1, 0⟩
def SESS_CTRL_lock_pulse (i : Nat) : Fld := ⟨32 * (SESS_CTRL i) + 4, 1, 0⟩
def SESS_CTRL_unlock_pulse (i : Nat) : Fld := ⟨32 * (SESS_CTRL i) + 5, 1, 0⟩
/-- Address of SESS.STATUS (13 register table). -/
def SESS_STATUS (i : Nat) : Nat := 0x40400004 + 0x40 * i
def SESS_STATUS_state (i : Nat) : Fld := ⟨32 * (SESS_STATUS i) + 0, 4, 0⟩
def SESS_STATUS_cpl_band (i : Nat) : Fld := ⟨32 * (SESS_STATUS i) + 4, 3, 0⟩
def SESS_STATUS_prx_band (i : Nat) : Fld := ⟨32 * (SESS_STATUS i) + 7, 3, 0⟩
def SESS_STATUS_locked (i : Nat) : Fld := ⟨32 * (SESS_STATUS i) + 10, 1, 0⟩
def SESS_STATUS_link (i : Nat) : Fld := ⟨32 * (SESS_STATUS i) + 11, 1, 0⟩
def SESS_STATUS_tls (i : Nat) : Fld := ⟨32 * (SESS_STATUS i) + 12, 1, 0⟩
/-- Address of SESS.EVENTS (13 register table). -/
def SESS_EVENTS (i : Nat) : Nat := 0x40400008 + 0x40 * i
def SESS_EVENTS_cpl_change (i : Nat) : Fld := ⟨32 * (SESS_EVENTS i) + 0, 1, 0⟩
def SESS_EVENTS_prx_change (i : Nat) : Fld := ⟨32 * (SESS_EVENTS i) + 1, 1, 0⟩
def SESS_EVENTS_lock_change (i : Nat) : Fld := ⟨32 * (SESS_EVENTS i) + 2, 1, 0⟩
def SESS_EVENTS_link_up (i : Nat) : Fld := ⟨32 * (SESS_EVENTS i) + 3, 1, 0⟩
def SESS_EVENTS_link_down (i : Nat) : Fld := ⟨32 * (SESS_EVENTS i) + 4, 1, 0⟩
def SESS_EVENTS_lock_timeout (i : Nat) : Fld := ⟨32 * (SESS_EVENTS i) + 5, 1, 0⟩
/-- Address of SESS.CPL_MEAS (13 register table). -/
def SESS_CPL_MEAS (i : Nat) : Nat := 0x4040000C + 0x40 * i
def SESS_CPL_MEAS_v (i : Nat) : Fld := ⟨32 * (SESS_CPL_MEAS i) + 0, 16, 0⟩
/-- Address of SESS.PRX_MEAS (13 register table). -/
def SESS_PRX_MEAS (i : Nat) : Nat := 0x40400010 + 0x40 * i
def SESS_PRX_MEAS_v (i : Nat) : Fld := ⟨32 * (SESS_PRX_MEAS i) + 0, 16, 0⟩
/-- Address of SESS.CPL_CFG (13 register table). -/
def SESS_CPL_CFG (i : Nat) : Nat := 0x40400014 + 0x40 * i
def SESS_CPL_CFG_th0 (i : Nat) : Fld := ⟨32 * (SESS_CPL_CFG i) + 0, 8, 10⟩
def SESS_CPL_CFG_th1 (i : Nat) : Fld := ⟨32 * (SESS_CPL_CFG i) + 8, 8, 35⟩
def SESS_CPL_CFG_th2 (i : Nat) : Fld := ⟨32 * (SESS_CPL_CFG i) + 16, 8, 65⟩
def SESS_CPL_CFG_th3 (i : Nat) : Fld := ⟨32 * (SESS_CPL_CFG i) + 24, 8, 95⟩
/-- Address of SESS.PRX_CFG (13 register table). -/
def SESS_PRX_CFG (i : Nat) : Nat := 0x40400018 + 0x40 * i
def SESS_PRX_CFG_th0 (i : Nat) : Fld := ⟨32 * (SESS_PRX_CFG i) + 0, 8, 10⟩
def SESS_PRX_CFG_th1 (i : Nat) : Fld := ⟨32 * (SESS_PRX_CFG i) + 8, 8, 35⟩
def SESS_PRX_CFG_th2 (i : Nat) : Fld := ⟨32 * (SESS_PRX_CFG i) + 16, 8, 65⟩
def SESS_PRX_CFG_th3 (i : Nat) : Fld := ⟨32 * (SESS_PRX_CFG i) + 24, 8, 95⟩
/-- Address of SESS.LOCK_CFG (13 register table). -/
def SESS_LOCK_CFG (i : Nat) : Nat := 0x4040001C + 0x40 * i
def SESS_LOCK_CFG_gp_lock (i : Nat) : Fld := ⟨32 * (SESS_LOCK_CFG i) + 0, 6, 0⟩
def SESS_LOCK_CFG_gp_unlock (i : Nat) : Fld := ⟨32 * (SESS_LOCK_CFG i) + 6, 6, 0⟩
def SESS_LOCK_CFG_gp_fb (i : Nat) : Fld := ⟨32 * (SESS_LOCK_CFG i) + 12, 6, 0⟩
def SESS_LOCK_CFG_pulse (i : Nat) : Fld := ⟨32 * (SESS_LOCK_CFG i) + 18, 8, 20⟩
def SESS_LOCK_CFG_fb_pol (i : Nat) : Fld := ⟨32 * (SESS_LOCK_CFG i) + 26, 1, 0⟩
/-- Address of SESS.T1S_STAT (13 register table). -/
def SESS_T1S_STAT (i : Nat) : Nat := 0x40400020 + 0x40 * i
def SESS_T1S_STAT_crc_errors (i : Nat) : Fld := ⟨32 * (SESS_T1S_STAT i) + 0, 16, 0⟩
def SESS_T1S_STAT_link_drops (i : Nat) : Fld := ⟨32 * (SESS_T1S_STAT i) + 16, 16, 0⟩
/-- Address of SESS.OFFER (13 register table). -/
def SESS_OFFER (i : Nat) : Nat := 0x40400024 + 0x40 * i
def SESS_OFFER_i_offer (i : Nat) : Fld := ⟨32 * (SESS_OFFER i) + 0, 16, 0⟩
def SESS_OFFER_p_offer (i : Nat) : Fld := ⟨32 * (SESS_OFFER i) + 16, 16, 0⟩
/-- Address of SESS.SESSION (13 register table). -/
def SESS_SESSION (i : Nat) : Nat := 0x40400028 + 0x40 * i
def SESS_SESSION_seq (i : Nat) : Fld := ⟨32 * (SESS_SESSION i) + 0, 16, 0⟩
def SESS_SESSION_msg (i : Nat) : Fld := ⟨32 * (SESS_SESSION i) + 16, 16, 0⟩
/-- Address of SESS.COUNTS (13 register table). -/
def SESS_COUNTS (i : Nat) : Nat := 0x4040002C + 0x40 * i
def SESS_COUNTS_ended_ok (i : Nat) : Fld := ⟨32 * (SESS_COUNTS i) + 0, 16, 0⟩
def SESS_COUNTS_dups (i : Nat) : Fld := ⟨32 * (SESS_COUNTS i) + 16, 8, 0⟩
def SESS_COUNTS_aborted (i : Nat) : Fld := ⟨32 * (SESS_COUNTS i) + 24, 8, 0⟩
/-- Address of COOL.TS (14 register table). -/
def COOL_TS (i : Nat) : Nat := 0x40410000 + 0x4 * i
def COOL_TS_value (i : Nat) : Fld := ⟨32 * (COOL_TS i) + 0, 16, 32768⟩
def COOL_TS_kind (i : Nat) : Fld := ⟨32 * (COOL_TS i) + 16, 2, 0⟩
def COOL_TS_open (i : Nat) : Fld := ⟨32 * (COOL_TS i) + 18, 1, 0⟩
def COOL_TS_short (i : Nat) : Fld := ⟨32 * (COOL_TS i) + 19, 1, 0⟩
def COOL_TS_seq (i : Nat) : Fld := ⟨32 * (COOL_TS i) + 24, 8, 0⟩
/-- Address of COOL.AI (14 register table). -/
def COOL_AI (i : Nat) : Nat := 0x40410100 + 0x4 * i
def COOL_AI_value (i : Nat) : Fld := ⟨32 * (COOL_AI i) + 0, 16, 0⟩
def COOL_AI_mode (i : Nat) : Fld := ⟨32 * (COOL_AI i) + 16, 1, 1⟩
def COOL_AI_under (i : Nat) : Fld := ⟨32 * (COOL_AI i) + 17, 1, 0⟩
def COOL_AI_over (i : Nat) : Fld := ⟨32 * (COOL_AI i) + 18, 1, 0⟩
/-- Address of COOL.AO (14 register table). -/
def COOL_AO (i : Nat) : Nat := 0x40410140 + 0x4 * i
def COOL_AO_set (i : Nat) : Fld := ⟨32 * (COOL_AO i) + 0, 16, 0⟩
def COOL_AO_fault (i : Nat) : Fld := ⟨32 * (COOL_AO i) + 16, 1, 0⟩
/-- Address of COOL.FQ (14 register table). -/
def COOL_FQ (i : Nat) : Nat := 0x40410160 + 0x4 * i
def COOL_FQ_freq (i : Nat) : Fld := ⟨32 * (COOL_FQ i) + 0, 16, 0⟩
def COOL_FQ_count (i : Nat) : Fld := ⟨32 * (COOL_FQ i) + 16, 16, 0⟩
/-- Address of COOL.CT_CFG (14 register table). -/
def COOL_CT_CFG (i : Nat) : Nat := 0x40410180 + 0x18 * i
def COOL_CT_CFG_type (i : Nat) : Fld := ⟨32 * (COOL_CT_CFG i) + 0, 3, 0⟩
def COOL_CT_CFG_boost_en (i : Nat) : Fld := ⟨32 * (COOL_CT_CFG i) + 3, 1, 0⟩
def COOL_CT_CFG_budget_max (i : Nat) : Fld := ⟨32 * (COOL_CT_CFG i) + 16, 16, 9000⟩
/-- Address of COOL.CT_STAT (14 register table). -/
def COOL_CT_STAT (i : Nat) : Nat := 0x40410184 + 0x18 * i
def COOL_CT_STAT_ct_level (i : Nat) : Fld := ⟨32 * (COOL_CT_STAT i) + 0, 2, 0⟩
def COOL_CT_STAT_cd_level (i : Nat) : Fld := ⟨32 * (COOL_CT_STAT i) + 2, 2, 0⟩
def COOL_CT_STAT_latch (i : Nat) : Fld := ⟨32 * (COOL_CT_STAT i) + 4, 1, 0⟩
def COOL_CT_STAT_boost (i : Nat) : Fld := ⟨32 * (COOL_CT_STAT i) + 5, 1, 0⟩
def COOL_CT_STAT_failed (i : Nat) : Fld := ⟨32 * (COOL_CT_STAT i) + 6, 6, 0⟩
def COOL_CT_STAT_cause (i : Nat) : Fld := ⟨32 * (COOL_CT_STAT i) + 12, 3, 0⟩
def COOL_CT_STAT_throttle (i : Nat) : Fld := ⟨32 * (COOL_CT_STAT i) + 15, 1, 0⟩
def COOL_CT_STAT_budget (i : Nat) : Fld := ⟨32 * (COOL_CT_STAT i) + 16, 16, 0⟩
/-- Address of COOL.CT_TEMP (14 register table). -/
def COOL_CT_TEMP (i : Nat) : Nat := 0x40410188 + 0x18 * i
def COOL_CT_TEMP_hot_cd (i : Nat) : Fld := ⟨32 * (COOL_CT_TEMP i) + 0, 16, 0⟩
def COOL_CT_TEMP_hot_ct (i : Nat) : Fld := ⟨32 * (COOL_CT_TEMP i) + 16, 16, 0⟩
/-- Address of COOL.CT_MODEL (14 register table). -/
def COOL_CT_MODEL (i : Nat) : Nat := 0x4041018C + 0x18 * i
def COOL_CT_MODEL_ta (i : Nat) : Fld := ⟨32 * (COOL_CT_MODEL i) + 0, 16, 0⟩
def COOL_CT_MODEL_tb (i : Nat) : Fld := ⟨32 * (COOL_CT_MODEL i) + 16, 16, 0⟩
/-- Address of COOL.CT_FCST (14 register table). -/
def COOL_CT_FCST (i : Nat) : Nat := 0x40410190 + 0x18 * i
def COOL_CT_FCST_t_peak (i : Nat) : Fld := ⟨32 * (COOL_CT_FCST i) + 0, 16, 0⟩
def COOL_CT_FCST_i_fcst (i : Nat) : Fld := ⟨32 * (COOL_CT_FCST i) + 16, 16, 0⟩
/-- Address of COOL.CT_LIMIT (14 register table). -/
def COOL_CT_LIMIT (i : Nat) : Nat := 0x40410194 + 0x18 * i
def COOL_CT_LIMIT_sent (i : Nat) : Fld := ⟨32 * (COOL_CT_LIMIT i) + 0, 16, 0⟩
def COOL_CT_LIMIT_thr (i : Nat) : Fld := ⟨32 * (COOL_CT_LIMIT i) + 16, 16, 65535⟩
/-- Address of COOL.LOOP_CFG (14 register table). -/
def COOL_LOOP_CFG (i : Nat) : Nat := 0x40410240 + 0x10 * i
def COOL_LOOP_CFG_ls_pump (i : Nat) : Fld := ⟨32 * (COOL_LOOP_CFG i) + 0, 5, 0⟩
def COOL_LOOP_CFG_ls_fan (i : Nat) : Fld := ⟨32 * (COOL_LOOP_CFG i) + 5, 5, 0⟩
def COOL_LOOP_CFG_ls_valve_a (i : Nat) : Fld := ⟨32 * (COOL_LOOP_CFG i) + 10, 5, 0⟩
def COOL_LOOP_CFG_ls_valve_b (i : Nat) : Fld := ⟨32 * (COOL_LOOP_CFG i) + 15, 5, 0⟩
def COOL_LOOP_CFG_ls_heat_a (i : Nat) : Fld := ⟨32 * (COOL_LOOP_CFG i) + 20, 5, 0⟩
def COOL_LOOP_CFG_ls_heat_b (i : Nat) : Fld := ⟨32 * (COOL_LOOP_CFG i) + 25, 5, 0⟩
def COOL_LOOP_CFG_pump_ls (i : Nat) : Fld := ⟨32 * (COOL_LOOP_CFG i) + 30, 1, 0⟩
/-- Address of COOL.LOOP_CTRL (14 register table). -/
def COOL_LOOP_CTRL (i : Nat) : Nat := 0x40410244 + 0x10 * i
def COOL_LOOP_CTRL_pump (i : Nat) : Fld := ⟨32 * (COOL_LOOP_CTRL i) + 0, 1, 0⟩
def COOL_LOOP_CTRL_valve_a (i : Nat) : Fld := ⟨32 * (COOL_LOOP_CTRL i) + 1, 1, 0⟩
def COOL_LOOP_CTRL_valve_b (i : Nat) : Fld := ⟨32 * (COOL_LOOP_CTRL i) + 2, 1, 0⟩
def COOL_LOOP_CTRL_fan (i : Nat) : Fld := ⟨32 * (COOL_LOOP_CTRL i) + 3, 1, 0⟩
def COOL_LOOP_CTRL_heat_a (i : Nat) : Fld := ⟨32 * (COOL_LOOP_CTRL i) + 4, 1, 0⟩
def COOL_LOOP_CTRL_heat_b (i : Nat) : Fld := ⟨32 * (COOL_LOOP_CTRL i) + 5, 1, 0⟩
def COOL_LOOP_CTRL_speed (i : Nat) : Fld := ⟨32 * (COOL_LOOP_CTRL i) + 8, 8, 0⟩
def COOL_LOOP_CTRL_runon (i : Nat) : Fld := ⟨32 * (COOL_LOOP_CTRL i) + 16, 16, 0⟩
/-- Address of COOL.LOOP_STAT (14 register table). -/
def COOL_LOOP_STAT (i : Nat) : Nat := 0x40410248 + 0x10 * i
def COOL_LOOP_STAT_flow (i : Nat) : Fld := ⟨32 * (COOL_LOOP_STAT i) + 0, 16, 0⟩
def COOL_LOOP_STAT_press (i : Nat) : Fld := ⟨32 * (COOL_LOOP_STAT i) + 16, 8, 0⟩
def COOL_LOOP_STAT_flow_low (i : Nat) : Fld := ⟨32 * (COOL_LOOP_STAT i) + 24, 1, 0⟩
def COOL_LOOP_STAT_press_low (i : Nat) : Fld := ⟨32 * (COOL_LOOP_STAT i) + 25, 1, 0⟩
def COOL_LOOP_STAT_leak (i : Nat) : Fld := ⟨32 * (COOL_LOOP_STAT i) + 26, 1, 0⟩
def COOL_LOOP_STAT_dew_risk (i : Nat) : Fld := ⟨32 * (COOL_LOOP_STAT i) + 27, 1, 0⟩
/-- Address of COOL.LOOP_TEMP (14 register table). -/
def COOL_LOOP_TEMP (i : Nat) : Nat := 0x4041024C + 0x10 * i
def COOL_LOOP_TEMP_ts (i : Nat) : Fld := ⟨32 * (COOL_LOOP_TEMP i) + 0, 16, 0⟩
def COOL_LOOP_TEMP_dew (i : Nat) : Fld := ⟨32 * (COOL_LOOP_TEMP i) + 16, 16, 0⟩
/-- Address of LSW.CTRL (15 register table). -/
def LSW_CTRL (i : Nat) : Nat := 0x40420000 + 0x20 * i
def LSW_CTRL_cmd (i : Nat) : Fld := ⟨32 * (LSW_CTRL i) + 0, 1, 0⟩
def LSW_CTRL_retry (i : Nat) : Fld := ⟨32 * (LSW_CTRL i) + 1, 1, 0⟩
def LSW_CTRL_clear (i : Nat) : Fld := ⟨32 * (LSW_CTRL i) + 2, 1, 0⟩
def LSW_CTRL_latch (i : Nat) : Fld := ⟨32 * (LSW_CTRL i) + 3, 1, 0⟩
/-- Address of LSW.CFG (15 register table). -/
def LSW_CFG (i : Nat) : Nat := 0x40420004 + 0x20 * i
def LSW_CFG_inrush (i : Nat) : Fld := ⟨32 * (LSW_CFG i) + 0, 6, 50⟩
def LSW_CFG_ol_th (i : Nat) : Fld := ⟨32 * (LSW_CFG i) + 6, 8, 4⟩
def LSW_CFG_shed_prio (i : Nat) : Fld := ⟨32 * (LSW_CFG i) + 14, 3, 0⟩
def LSW_CFG_retry_max (i : Nat) : Fld := ⟨32 * (LSW_CFG i) + 17, 4, 3⟩
/-- Address of LSW.STATUS (15 register table). -/
def LSW_STATUS (i : Nat) : Nat := 0x40420008 + 0x20 * i
def LSW_STATUS_out (i : Nat) : Fld := ⟨32 * (LSW_STATUS i) + 0, 1, 0⟩
def LSW_STATUS_inrush (i : Nat) : Fld := ⟨32 * (LSW_STATUS i) + 1, 1, 0⟩
def LSW_STATUS_tripped (i : Nat) : Fld := ⟨32 * (LSW_STATUS i) + 2, 1, 0⟩
def LSW_STATUS_latched (i : Nat) : Fld := ⟨32 * (LSW_STATUS i) + 3, 1, 0⟩
def LSW_STATUS_latch_cause (i : Nat) : Fld := ⟨32 * (LSW_STATUS i) + 4, 2, 0⟩
def LSW_STATUS_estop_off (i : Nat) : Fld := ⟨32 * (LSW_STATUS i) + 6, 1, 0⟩
def LSW_STATUS_uv_off (i : Nat) : Fld := ⟨32 * (LSW_STATUS i) + 7, 1, 0⟩
def LSW_STATUS_open_load (i : Nat) : Fld := ⟨32 * (LSW_STATUS i) + 8, 1, 0⟩
def LSW_STATUS_overload (i : Nat) : Fld := ⟨32 * (LSW_STATUS i) + 9, 1, 0⟩
def LSW_STATUS_hold (i : Nat) : Fld := ⟨32 * (LSW_STATUS i) + 10, 1, 1⟩
def LSW_STATUS_retry_count (i : Nat) : Fld := ⟨32 * (LSW_STATUS i) + 16, 4, 0⟩
/-- Address of LSW.EVENTS (15 register table). -/
def LSW_EVENTS (i : Nat) : Nat := 0x4042000C + 0x20 * i
def LSW_EVENTS_trip (i : Nat) : Fld := ⟨32 * (LSW_EVENTS i) + 0, 1, 0⟩
def LSW_EVENTS_retry_blocked (i : Nat) : Fld := ⟨32 * (LSW_EVENTS i) + 1, 1, 0⟩
def LSW_EVENTS_retry_early (i : Nat) : Fld := ⟨32 * (LSW_EVENTS i) + 2, 1, 0⟩
def LSW_EVENTS_clear_refused (i : Nat) : Fld := ⟨32 * (LSW_EVENTS i) + 3, 1, 0⟩
def LSW_EVENTS_open_load (i : Nat) : Fld := ⟨32 * (LSW_EVENTS i) + 4, 1, 0⟩
def LSW_EVENTS_overload (i : Nat) : Fld := ⟨32 * (LSW_EVENTS i) + 5, 1, 0⟩
def LSW_EVENTS_shed (i : Nat) : Fld := ⟨32 * (LSW_EVENTS i) + 6, 1, 0⟩
def LSW_EVENTS_uv_off (i : Nat) : Fld := ⟨32 * (LSW_EVENTS i) + 7, 1, 0⟩
def LSW_EVENTS_uv_restart (i : Nat) : Fld := ⟨32 * (LSW_EVENTS i) + 8, 1, 0⟩
def LSW_EVENTS_estop_off (i : Nat) : Fld := ⟨32 * (LSW_EVENTS i) + 9, 1, 0⟩
/-- Address of LSW.SENSE (15 register table). -/
def LSW_SENSE (i : Nat) : Nat := 0x40420010 + 0x20 * i
def LSW_SENSE_i (i : Nat) : Fld := ⟨32 * (LSW_SENSE i) + 0, 12, 0⟩
def LSW_SENSE_seq (i : Nat) : Fld := ⟨32 * (LSW_SENSE i) + 16, 8, 0⟩
/-- Address of LSW.COUNTS (15 register table). -/
def LSW_COUNTS (i : Nat) : Nat := 0x40420014 + 0x20 * i
def LSW_COUNTS_trips (i : Nat) : Fld := ⟨32 * (LSW_COUNTS i) + 0, 16, 0⟩
def LSW_COUNTS_uv_offs (i : Nat) : Fld := ⟨32 * (LSW_COUNTS i) + 16, 8, 0⟩
def LSW_COUNTS_sheds (i : Nat) : Fld := ⟨32 * (LSW_COUNTS i) + 24, 8, 0⟩
/-- Address of LSW.GROUP_CFG (15 register table). -/
def LSW_GROUP_CFG (i : Nat) : Nat := 0x40420400 + 0x4 * i
def LSW_GROUP_CFG_shed_t (i : Nat) : Fld := ⟨32 * (LSW_GROUP_CFG i) + 0, 12, 1120⟩
def LSW_GROUP_CFG_hyst (i : Nat) : Fld := ⟨32 * (LSW_GROUP_CFG i) + 12, 8, 80⟩
/-- Address of LSW.GROUP_STAT (15 register table). -/
def LSW_GROUP_STAT (i : Nat) : Nat := 0x40420410 + 0x4 * i
def LSW_GROUP_STAT_temp (i : Nat) : Fld := ⟨32 * (LSW_GROUP_STAT i) + 0, 12, 0⟩
def LSW_GROUP_STAT_over (i : Nat) : Fld := ⟨32 * (LSW_GROUP_STAT i) + 12, 1, 0⟩
def LSW_GROUP_STAT_steps (i : Nat) : Fld := ⟨32 * (LSW_GROUP_STAT i) + 16, 16, 0⟩
/-- Address of LSW.RAIL_STAT (15 register table). -/
def LSW_RAIL_STAT (i : Nat) : Nat := 0x40420420 + 0x4 * i
def LSW_RAIL_STAT_uv (i : Nat) : Fld := ⟨32 * (LSW_RAIL_STAT i) + 0, 1, 0⟩
def LSW_RAIL_STAT_restarting (i : Nat) : Fld := ⟨32 * (LSW_RAIL_STAT i) + 1, 1, 0⟩
def LSW_RAIL_STAT_uv_count (i : Nat) : Fld := ⟨32 * (LSW_RAIL_STAT i) + 16, 16, 0⟩
/-- Address of LSW.ESTOP_MASK (15 register table). -/
def LSW_ESTOP_MASK : Nat := 0x40420428
def LSW_ESTOP_MASK_mask : Fld := ⟨32 * (LSW_ESTOP_MASK) + 0, 32, 0⟩
/-- Address of LSW.SENSE_SEL (15 register table). -/
def LSW_SENSE_SEL : Nat := 0x4042042C
def LSW_SENSE_SEL_ch : Fld := ⟨32 * (LSW_SENSE_SEL) + 0, 5, 0⟩
def LSW_SENSE_SEL_en : Fld := ⟨32 * (LSW_SENSE_SEL) + 5, 1, 0⟩
/-- Address of LSW.HOLD_STAT (15 register table). -/
def LSW_HOLD_STAT : Nat := 0x40420430
def LSW_HOLD_STAT_hold : Fld := ⟨32 * (LSW_HOLD_STAT) + 0, 1, 1⟩
def LSW_HOLD_STAT_adopt : Fld := ⟨32 * (LSW_HOLD_STAT) + 1, 1, 0⟩
def LSW_HOLD_STAT_lost : Fld := ⟨32 * (LSW_HOLD_STAT) + 2, 1, 0⟩
/-- Address of LSW.ON_MAP (15 register table). -/
def LSW_ON_MAP : Nat := 0x40420434
def LSW_ON_MAP_map : Fld := ⟨32 * (LSW_ON_MAP) + 0, 32, 0⟩
/-- Address of LSW.TRIP_MAP (15 register table). -/
def LSW_TRIP_MAP : Nat := 0x40420438
def LSW_TRIP_MAP_map : Fld := ⟨32 * (LSW_TRIP_MAP) + 0, 32, 0⟩
/-- Address of LSW.LATCH_MAP (15 register table). -/
def LSW_LATCH_MAP : Nat := 0x4042043C
def LSW_LATCH_MAP_map : Fld := ⟨32 * (LSW_LATCH_MAP) + 0, 32, 0⟩
/-- Address of LSW.SHED_LOG (15 register table). -/
def LSW_SHED_LOG (i : Nat) : Nat := 0x40420440 + 0x4 * i
def LSW_SHED_LOG_ch (i : Nat) : Fld := ⟨32 * (LSW_SHED_LOG i) + 0, 5, 0⟩
def LSW_SHED_LOG_faulted (i : Nat) : Fld := ⟨32 * (LSW_SHED_LOG i) + 5, 1, 0⟩
def LSW_SHED_LOG_temp (i : Nat) : Fld := ⟨32 * (LSW_SHED_LOG i) + 8, 12, 0⟩
def LSW_SHED_LOG_seq (i : Nat) : Fld := ⟨32 * (LSW_SHED_LOG i) + 20, 12, 0⟩
/-- Address of LSW.HELD (15 register table). -/
def LSW_HELD (i : Nat) : Nat := 0x40420480 + 0x4 * i
def LSW_HELD_cmd (i : Nat) : Fld := ⟨32 * (LSW_HELD i) + 0, 1, 0⟩
def LSW_HELD_out (i : Nat) : Fld := ⟨32 * (LSW_HELD i) + 1, 1, 0⟩
def LSW_HELD_tripped (i : Nat) : Fld := ⟨32 * (LSW_HELD i) + 2, 1, 0⟩
def LSW_HELD_latched (i : Nat) : Fld := ⟨32 * (LSW_HELD i) + 3, 1, 0⟩
def LSW_HELD_estop_off (i : Nat) : Fld := ⟨32 * (LSW_HELD i) + 4, 1, 0⟩
/-- Address of MET.CTRL (16 register table). -/
def MET_CTRL : Nat := 0x40500000
def MET_CTRL_run : Fld := ⟨32 * (MET_CTRL) + 0, 1, 0⟩
def MET_CTRL_cut : Fld := ⟨32 * (MET_CTRL) + 1, 1, 0⟩
def MET_CTRL_cal_lock : Fld := ⟨32 * (MET_CTRL) + 2, 1, 0⟩
def MET_CTRL_ack : Fld := ⟨32 * (MET_CTRL) + 3, 1, 0⟩
/-- Address of MET.STATUS (16 register table). -/
def MET_STATUS : Nat := 0x40500004
def MET_STATUS_running : Fld := ⟨32 * (MET_STATUS) + 0, 1, 0⟩
def MET_STATUS_cal_locked : Fld := ⟨32 * (MET_STATUS) + 1, 1, 0⟩
def MET_STATUS_cut_pending : Fld := ⟨32 * (MET_STATUS) + 2, 1, 0⟩
def MET_STATUS_half : Fld := ⟨32 * (MET_STATUS) + 3, 1, 0⟩
def MET_STATUS_unacked : Fld := ⟨32 * (MET_STATUS) + 4, 1, 0⟩
def MET_STATUS_samples : Fld := ⟨32 * (MET_STATUS) + 16, 7, 0⟩
/-- Address of MET.EVENTS (16 register table). -/
def MET_EVENTS : Nat := 0x40500008
def MET_EVENTS_block_done : Fld := ⟨32 * (MET_EVENTS) + 0, 1, 0⟩
def MET_EVENTS_ch_fail : Fld := ⟨32 * (MET_EVENTS) + 1, 1, 0⟩
def MET_EVENTS_ch_back : Fld := ⟨32 * (MET_EVENTS) + 2, 1, 0⟩
def MET_EVENTS_overwrite : Fld := ⟨32 * (MET_EVENTS) + 3, 1, 0⟩
def MET_EVENTS_release : Fld := ⟨32 * (MET_EVENTS) + 4, 1, 0⟩
def MET_EVENTS_seq_change : Fld := ⟨32 * (MET_EVENTS) + 5, 1, 0⟩
def MET_EVENTS_neutral : Fld := ⟨32 * (MET_EVENTS) + 6, 1, 0⟩
def MET_EVENTS_v_absent : Fld := ⟨32 * (MET_EVENTS) + 7, 1, 0⟩
def MET_EVENTS_harm_done : Fld := ⟨32 * (MET_EVENTS) + 8, 1, 0⟩
def MET_EVENTS_cal_write : Fld := ⟨32 * (MET_EVENTS) + 9, 1, 0⟩
/-- Address of MET.BLOCK_LO (16 register table). -/
def MET_BLOCK_LO : Nat := 0x4050000C
def MET_BLOCK_LO_block : Fld := ⟨32 * (MET_BLOCK_LO) + 0, 32, 0⟩
/-- Address of MET.BLOCK_HI (16 register table). -/
def MET_BLOCK_HI : Nat := 0x40500010
def MET_BLOCK_HI_block : Fld := ⟨32 * (MET_BLOCK_HI) + 0, 32, 0⟩
/-- Address of MET.SEG_ADDR (16 register table). -/
def MET_SEG_ADDR : Nat := 0x40500014
def MET_SEG_ADDR_index : Fld := ⟨32 * (MET_SEG_ADDR) + 0, 9, 0⟩
def MET_SEG_ADDR_inc : Fld := ⟨32 * (MET_SEG_ADDR) + 9, 1, 1⟩
/-- Address of MET.SEG_DATA (16 register table). -/
def MET_SEG_DATA : Nat := 0x40500018
def MET_SEG_DATA_data : Fld := ⟨32 * (MET_SEG_DATA) + 0, 32, 0⟩
/-- Address of MET.NOMINAL (16 register table). -/
def MET_NOMINAL : Nat := 0x4050001C
def MET_NOMINAL_f_nom : Fld := ⟨32 * (MET_NOMINAL) + 0, 1, 0⟩
def MET_NOMINAL_dens_lo : Fld := ⟨32 * (MET_NOMINAL) + 8, 8, 4⟩
def MET_NOMINAL_dens_hi : Fld := ⟨32 * (MET_NOMINAL) + 16, 8, 252⟩
/-- Address of MET.INTAKE_STAT (16 register table). -/
def MET_INTAKE_STAT (i : Nat) : Nat := 0x40500020 + 0x4 * i
def MET_INTAKE_STAT_freq (i : Nat) : Fld := ⟨32 * (MET_INTAKE_STAT i) + 0, 20, 0⟩
def MET_INTAKE_STAT_seq_ok (i : Nat) : Fld := ⟨32 * (MET_INTAKE_STAT i) + 20, 1, 0⟩
def MET_INTAKE_STAT_seq_wrong (i : Nat) : Fld := ⟨32 * (MET_INTAKE_STAT i) + 21, 1, 0⟩
def MET_INTAKE_STAT_missing_n (i : Nat) : Fld := ⟨32 * (MET_INTAKE_STAT i) + 22, 1, 0⟩
def MET_INTAKE_STAT_v_absent (i : Nat) : Fld := ⟨32 * (MET_INTAKE_STAT i) + 23, 3, 0⟩
def MET_INTAKE_STAT_harm_valid (i : Nat) : Fld := ⟨32 * (MET_INTAKE_STAT i) + 26, 1, 0⟩
/-- Address of MET.MCK_CFG (16 register table). -/
def MET_MCK_CFG (i : Nat) : Nat := 0x40500028 + 0x4 * i
def MET_MCK_CFG_en (i : Nat) : Fld := ⟨32 * (MET_MCK_CFG i) + 0, 1, 1⟩
def MET_MCK_CFG_inv (i : Nat) : Fld := ⟨32 * (MET_MCK_CFG i) + 1, 1, 0⟩
def MET_MCK_CFG_cap_dly (i : Nat) : Fld := ⟨32 * (MET_MCK_CFG i) + 2, 5, 8⟩
/-- Address of MET.MEN (16 register table). -/
def MET_MEN (i : Nat) : Nat := 0x40500040 + 0x4 * i
def MET_MEN_en (i : Nat) : Fld := ⟨32 * (MET_MEN i) + 0, 1, 0⟩
def MET_MEN_fb_p (i : Nat) : Fld := ⟨32 * (MET_MEN i) + 1, 1, 0⟩
def MET_MEN_fb_n (i : Nat) : Fld := ⟨32 * (MET_MEN i) + 2, 1, 0⟩
def MET_MEN_releases (i : Nat) : Fld := ⟨32 * (MET_MEN i) + 16, 16, 0⟩
/-- Address of MET.CH_CFG (16 register table). -/
def MET_CH_CFG (i : Nat) : Nat := 0x40500100 + 0x4 * i
def MET_CH_CFG_used (i : Nat) : Fld := ⟨32 * (MET_CH_CFG i) + 0, 1, 0⟩
def MET_CH_CFG_ac (i : Nat) : Fld := ⟨32 * (MET_CH_CFG i) + 1, 1, 0⟩
def MET_CH_CFG_current (i : Nat) : Fld := ⟨32 * (MET_CH_CFG i) + 2, 1, 0⟩
def MET_CH_CFG_fs (i : Nat) : Fld := ⟨32 * (MET_CH_CFG i) + 3, 20, 0⟩
/-- Address of MET.CH_GAIN (16 register table). -/
def MET_CH_GAIN (i : Nat) : Nat := 0x405001C0 + 0x4 * i
def MET_CH_GAIN_gain (i : Nat) : Fld := ⟨32 * (MET_CH_GAIN i) + 0, 32, 1073741824⟩
/-- Address of MET.CH_OFS (16 register table). -/
def MET_CH_OFS (i : Nat) : Nat := 0x40500280 + 0x4 * i
def MET_CH_OFS_ofs (i : Nat) : Fld := ⟨32 * (MET_CH_OFS i) + 0, 32, 0⟩
/-- Address of MET.CH_STAT (16 register table). -/
def MET_CH_STAT (i : Nat) : Nat := 0x40500340 + 0x4 * i
def MET_CH_STAT_stuck (i : Nat) : Fld := ⟨32 * (MET_CH_STAT i) + 0, 1, 0⟩
def MET_CH_STAT_dens_out (i : Nat) : Fld := ⟨32 * (MET_CH_STAT i) + 1, 1, 0⟩
def MET_CH_STAT_failed (i : Nat) : Fld := ⟨32 * (MET_CH_STAT i) + 2, 1, 0⟩
def MET_CH_STAT_clipped (i : Nat) : Fld := ⟨32 * (MET_CH_STAT i) + 3, 1, 0⟩
def MET_CH_STAT_boot_fail (i : Nat) : Fld := ⟨32 * (MET_CH_STAT i) + 4, 1, 0⟩
def MET_CH_STAT_fails (i : Nat) : Fld := ⟨32 * (MET_CH_STAT i) + 16, 16, 0⟩
/-- Address of MET.CH_LEVEL (16 register table). -/
def MET_CH_LEVEL (i : Nat) : Nat := 0x40500400 + 0x4 * i
def MET_CH_LEVEL_level (i : Nat) : Fld := ⟨32 * (MET_CH_LEVEL i) + 0, 16, 0⟩
def MET_CH_LEVEL_peak (i : Nat) : Fld := ⟨32 * (MET_CH_LEVEL i) + 16, 16, 0⟩
/-- Address of MET.EL_CFG (16 register table). -/
def MET_EL_CFG (i : Nat) : Nat := 0x405004C0 + 0x4 * i
def MET_EL_CFG_en (i : Nat) : Fld := ⟨32 * (MET_EL_CFG i) + 0, 1, 0⟩
def MET_EL_CFG_invert (i : Nat) : Fld := ⟨32 * (MET_EL_CFG i) + 1, 1, 0⟩
def MET_EL_CFG_dc (i : Nat) : Fld := ⟨32 * (MET_EL_CFG i) + 2, 1, (if 6 ≤ i then 1 else 0)⟩
def MET_EL_CFG_v_nom (i : Nat) : Fld := ⟨32 * (MET_EL_CFG i) + 4, 20, 0⟩
/-- Address of MET.EL_OFS (16 register table). -/
def MET_EL_OFS (i : Nat) : Nat := 0x40500518 + 0x4 * i
def MET_EL_OFS_p_ofs (i : Nat) : Fld := ⟨32 * (MET_EL_OFS i) + 0, 16, 0⟩
def MET_EL_OFS_q_ofs (i : Nat) : Fld := ⟨32 * (MET_EL_OFS i) + 16, 16, 0⟩
/-- Address of MET.EL_STAT (16 register table). -/
def MET_EL_STAT (i : Nat) : Nat := 0x40500570 + 0x4 * i
def MET_EL_STAT_fail (i : Nat) : Fld := ⟨32 * (MET_EL_STAT i) + 0, 1, 0⟩
def MET_EL_STAT_clipped (i : Nat) : Fld := ⟨32 * (MET_EL_STAT i) + 1, 1, 0⟩
def MET_EL_STAT_v_absent (i : Nat) : Fld := ⟨32 * (MET_EL_STAT i) + 2, 1, 0⟩
def MET_EL_STAT_import (i : Nat) : Fld := ⟨32 * (MET_EL_STAT i) + 3, 1, 0⟩
/-- Address of MET.EL_SEG (16 register table). -/
def MET_EL_SEG (i : Nat) : Nat := 0x405005C8 + 0x4 * i
def MET_EL_SEG_points (i : Nat) : Fld := ⟨32 * (MET_EL_SEG i) + 0, 4, 0⟩
/-- Address of BILL.CTRL (17 register table). -/
def BILL_CTRL : Nat := 0x40510000
def BILL_CTRL_run : Fld := ⟨32 * (BILL_CTRL) + 0, 1, 0⟩
def BILL_CTRL_final : Fld := ⟨32 * (BILL_CTRL) + 1, 1, 0⟩
/-- Address of BILL.STATUS (17 register table). -/
def BILL_STATUS : Nat := 0x40510004
def BILL_STATUS_replay : Fld := ⟨32 * (BILL_STATUS) + 0, 1, 0⟩
def BILL_STATUS_sealed : Fld := ⟨32 * (BILL_STATUS) + 1, 1, 0⟩
def BILL_STATUS_default : Fld := ⟨32 * (BILL_STATUS) + 2, 1, 0⟩
def BILL_STATUS_ring_low : Fld := ⟨32 * (BILL_STATUS) + 3, 1, 0⟩
def BILL_STATUS_flush_missing : Fld := ⟨32 * (BILL_STATUS) + 4, 1, 0⟩
def BILL_STATUS_rate : Fld := ⟨32 * (BILL_STATUS) + 8, 3, 0⟩
def BILL_STATUS_epoch : Fld := ⟨32 * (BILL_STATUS) + 16, 16, 0⟩
/-- Address of BILL.EVENTS (17 register table). -/
def BILL_EVENTS : Nat := 0x40510008
def BILL_EVENTS_interval : Fld := ⟨32 * (BILL_EVENTS) + 0, 1, 0⟩
def BILL_EVENTS_period : Fld := ⟨32 * (BILL_EVENTS) + 1, 1, 0⟩
def BILL_EVENTS_tariff : Fld := ⟨32 * (BILL_EVENTS) + 2, 1, 0⟩
def BILL_EVENTS_adjust : Fld := ⟨32 * (BILL_EVENTS) + 3, 1, 0⟩
def BILL_EVENTS_replay_end : Fld := ⟨32 * (BILL_EVENTS) + 4, 1, 0⟩
def BILL_EVENTS_credit : Fld := ⟨32 * (BILL_EVENTS) + 5, 1, 0⟩
def BILL_EVENTS_relay : Fld := ⟨32 * (BILL_EVENTS) + 6, 1, 0⟩
def BILL_EVENTS_excluded : Fld := ⟨32 * (BILL_EVENTS) + 7, 1, 0⟩
/-- Address of BILL.TARIFF (17 register table). -/
def BILL_TARIFF : Nat := 0x4051000C
def BILL_TARIFF_id : Fld := ⟨32 * (BILL_TARIFF) + 0, 32, 0⟩
/-- Address of BILL.LT_LO (17 register table). -/
def BILL_LT_LO : Nat := 0x40510010
def BILL_LT_LO_lt : Fld := ⟨32 * (BILL_LT_LO) + 0, 32, 0⟩
/-- Address of BILL.LT_HI (17 register table). -/
def BILL_LT_HI : Nat := 0x40510014
def BILL_LT_HI_lt : Fld := ⟨32 * (BILL_LT_HI) + 0, 32, 0⟩
/-- Address of BILL.HWM_LO (17 register table). -/
def BILL_HWM_LO : Nat := 0x40510018
def BILL_HWM_LO_hwm : Fld := ⟨32 * (BILL_HWM_LO) + 0, 32, 0⟩
/-- Address of BILL.HWM_HI (17 register table). -/
def BILL_HWM_HI : Nat := 0x4051001C
def BILL_HWM_HI_hwm : Fld := ⟨32 * (BILL_HWM_HI) + 0, 32, 0⟩
/-- Address of BILL.ADJ_STAT (17 register table). -/
def BILL_ADJ_STAT : Nat := 0x40510020
def BILL_ADJ_STAT_total : Fld := ⟨32 * (BILL_ADJ_STAT) + 0, 16, 0⟩
def BILL_ADJ_STAT_large : Fld := ⟨32 * (BILL_ADJ_STAT) + 16, 8, 0⟩
/-- Address of BILL.OFFSETS (17 register table). -/
def BILL_OFFSETS : Nat := 0x40510024
def BILL_OFFSETS_utc_ofs : Fld := ⟨32 * (BILL_OFFSETS) + 0, 16, 0⟩
def BILL_OFFSETS_zone : Fld := ⟨32 * (BILL_OFFSETS) + 16, 16, 0⟩
/-- Address of BILL.PERIODS (17 register table). -/
def BILL_PERIODS : Nat := 0x40510028
def BILL_PERIODS_di_len : Fld := ⟨32 * (BILL_PERIODS) + 0, 6, 0⟩
def BILL_PERIODS_di_seq : Fld := ⟨32 * (BILL_PERIODS) + 8, 12, 0⟩
def BILL_PERIODS_bp_seq : Fld := ⟨32 * (BILL_PERIODS) + 20, 12, 0⟩
/-- Address of BILL.RSEQ_LO (17 register table). -/
def BILL_RSEQ_LO : Nat := 0x4051002C
def BILL_RSEQ_LO_rseq : Fld := ⟨32 * (BILL_RSEQ_LO) + 0, 32, 0⟩
/-- Address of BILL.RSEQ_HI (17 register table). -/
def BILL_RSEQ_HI : Nat := 0x40510030
def BILL_RSEQ_HI_rseq : Fld := ⟨32 * (BILL_RSEQ_HI) + 0, 32, 0⟩
/-- Address of BILL.DISP_CTRL (17 register table). -/
def BILL_DISP_CTRL : Nat := 0x40510034
def BILL_DISP_CTRL_en : Fld := ⟨32 * (BILL_DISP_CTRL) + 0, 8, 0⟩
/-- Address of BILL.PENDING (17 register table). -/
def BILL_PENDING : Nat := 0x40510038
def BILL_PENDING_id : Fld := ⟨32 * (BILL_PENDING) + 0, 32, 0⟩
/-- Address of BILL.TX_NO (17 register table). -/
def BILL_TX_NO (i : Nat) : Nat := 0x40510040 + 0x4 * i
def BILL_TX_NO_number (i : Nat) : Fld := ⟨32 * (BILL_TX_NO i) + 0, 32, 0⟩
/-- Address of BILL.TX_STAT (17 register table). -/
def BILL_TX_STAT (i : Nat) : Nat := 0x40510060 + 0x4 * i
def BILL_TX_STAT_open (i : Nat) : Fld := ⟨32 * (BILL_TX_STAT i) + 0, 1, 0⟩
def BILL_TX_STAT_prepay (i : Nat) : Fld := ⟨32 * (BILL_TX_STAT i) + 1, 1, 0⟩
def BILL_TX_STAT_exhausted (i : Nat) : Fld := ⟨32 * (BILL_TX_STAT i) + 2, 1, 0⟩
def BILL_TX_STAT_excluded (i : Nat) : Fld := ⟨32 * (BILL_TX_STAT i) + 3, 1, 0⟩
def BILL_TX_STAT_blocked (i : Nat) : Fld := ⟨32 * (BILL_TX_STAT i) + 4, 1, 0⟩
def BILL_TX_STAT_men (i : Nat) : Fld := ⟨32 * (BILL_TX_STAT i) + 5, 1, 0⟩
def BILL_TX_STAT_replay (i : Nat) : Fld := ⟨32 * (BILL_TX_STAT i) + 6, 1, 0⟩
/-- Address of BILL.CREDIT (17 register table). -/
def BILL_CREDIT (i : Nat) : Nat := 0x40510080 + 0x4 * i
def BILL_CREDIT_remaining (i : Nat) : Fld := ⟨32 * (BILL_CREDIT i) + 0, 32, 0⟩
/-- Address of BILL.TX_ENERGY (17 register table). -/
def BILL_TX_ENERGY (i : Nat) : Nat := 0x405100A0 + 0x4 * i
def BILL_TX_ENERGY_import (i : Nat) : Fld := ⟨32 * (BILL_TX_ENERGY i) + 0, 32, 0⟩
/-- Address of BILL.DISP_STAT (17 register table). -/
def BILL_DISP_STAT (i : Nat) : Nat := 0x405100C0 + 0x4 * i
def BILL_DISP_STAT_item (i : Nat) : Fld := ⟨32 * (BILL_DISP_STAT i) + 0, 4, 0⟩
def BILL_DISP_STAT_manual (i : Nat) : Fld := ⟨32 * (BILL_DISP_STAT i) + 4, 1, 0⟩
def BILL_DISP_STAT_frames (i : Nat) : Fld := ⟨32 * (BILL_DISP_STAT i) + 16, 16, 0⟩
/-- Address of BILL.DEMAND (17 register table). -/
def BILL_DEMAND (i : Nat) : Nat := 0x405100E0 + 0x4 * i
def BILL_DEMAND_w (i : Nat) : Fld := ⟨32 * (BILL_DEMAND i) + 0, 32, 0⟩
/-- Address of BILL.MAXDEM (17 register table). -/
def BILL_MAXDEM (i : Nat) : Nat := 0x405100F0 + 0x4 * i
def BILL_MAXDEM_w (i : Nat) : Fld := ⟨32 * (BILL_MAXDEM i) + 0, 32, 0⟩
/-- Address of NET.ETH_CTRL (18 register table). -/
def NET_ETH_CTRL (i : Nat) : Nat := 0x40600000 + 0x40 * i
def NET_ETH_CTRL_en (i : Nat) : Fld := ⟨32 * (NET_ETH_CTRL i) + 0, 1, 0⟩
def NET_ETH_CTRL_t1_master (i : Nat) : Fld := ⟨32 * (NET_ETH_CTRL i) + 1, 1, 0⟩
def NET_ETH_CTRL_promisc (i : Nat) : Fld := ⟨32 * (NET_ETH_CTRL i) + 2, 1, 0⟩
def NET_ETH_CTRL_ts_en (i : Nat) : Fld := ⟨32 * (NET_ETH_CTRL i) + 3, 1, 0⟩
/-- Address of NET.ETH_STATUS (18 register table). -/
def NET_ETH_STATUS (i : Nat) : Nat := 0x40600004 + 0x40 * i
def NET_ETH_STATUS_link (i : Nat) : Fld := ⟨32 * (NET_ETH_STATUS i) + 0, 1, 0⟩
def NET_ETH_STATUS_speed (i : Nat) : Fld := ⟨32 * (NET_ETH_STATUS i) + 1, 2, 0⟩
/-- Address of NET.ETH_EVENTS (18 register table). -/
def NET_ETH_EVENTS (i : Nat) : Nat := 0x40600008 + 0x40 * i
def NET_ETH_EVENTS_rx (i : Nat) : Fld := ⟨32 * (NET_ETH_EVENTS i) + 0, 1, 0⟩
def NET_ETH_EVENTS_tx (i : Nat) : Fld := ⟨32 * (NET_ETH_EVENTS i) + 1, 1, 0⟩
def NET_ETH_EVENTS_link_change (i : Nat) : Fld := ⟨32 * (NET_ETH_EVENTS i) + 2, 1, 0⟩
def NET_ETH_EVENTS_discarded (i : Nat) : Fld := ⟨32 * (NET_ETH_EVENTS i) + 3, 1, 0⟩
/-- Address of NET.ETH_MAC_LO (18 register table). -/
def NET_ETH_MAC_LO (i : Nat) : Nat := 0x4060000C + 0x40 * i
def NET_ETH_MAC_LO_mac (i : Nat) : Fld := ⟨32 * (NET_ETH_MAC_LO i) + 0, 32, 0⟩
/-- Address of NET.ETH_MAC_HI (18 register table). -/
def NET_ETH_MAC_HI (i : Nat) : Nat := 0x40600010 + 0x40 * i
def NET_ETH_MAC_HI_mac (i : Nat) : Fld := ⟨32 * (NET_ETH_MAC_HI i) + 0, 16, 0⟩
/-- Address of NET.ETH_HASH_LO (18 register table). -/
def NET_ETH_HASH_LO (i : Nat) : Nat := 0x40600014 + 0x40 * i
def NET_ETH_HASH_LO_hash (i : Nat) : Fld := ⟨32 * (NET_ETH_HASH_LO i) + 0, 32, 0⟩
/-- Address of NET.ETH_HASH_HI (18 register table). -/
def NET_ETH_HASH_HI (i : Nat) : Nat := 0x40600018 + 0x40 * i
def NET_ETH_HASH_HI_hash (i : Nat) : Fld := ⟨32 * (NET_ETH_HASH_HI i) + 0, 32, 0⟩
/-- Address of NET.ETH_RX_RING (18 register table). -/
def NET_ETH_RX_RING (i : Nat) : Nat := 0x4060001C + 0x40 * i
def NET_ETH_RX_RING_base (i : Nat) : Fld := ⟨32 * (NET_ETH_RX_RING i) + 0, 25, 0⟩
def NET_ETH_RX_RING_size (i : Nat) : Fld := ⟨32 * (NET_ETH_RX_RING i) + 28, 3, 0⟩
/-- Address of NET.ETH_RX_IDX (18 register table). -/
def NET_ETH_RX_IDX (i : Nat) : Nat := 0x40600020 + 0x40 * i
def NET_ETH_RX_IDX_sw (i : Nat) : Fld := ⟨32 * (NET_ETH_RX_IDX i) + 0, 11, 0⟩
def NET_ETH_RX_IDX_hw (i : Nat) : Fld := ⟨32 * (NET_ETH_RX_IDX i) + 16, 11, 0⟩
/-- Address of NET.ETH_TX_RING (18 register table). -/
def NET_ETH_TX_RING (i : Nat) : Nat := 0x40600024 + 0x40 * i
def NET_ETH_TX_RING_base (i : Nat) : Fld := ⟨32 * (NET_ETH_TX_RING i) + 0, 25, 0⟩
def NET_ETH_TX_RING_size (i : Nat) : Fld := ⟨32 * (NET_ETH_TX_RING i) + 28, 3, 0⟩
/-- Address of NET.ETH_TX_IDX (18 register table). -/
def NET_ETH_TX_IDX (i : Nat) : Nat := 0x40600028 + 0x40 * i
def NET_ETH_TX_IDX_sw (i : Nat) : Fld := ⟨32 * (NET_ETH_TX_IDX i) + 0, 11, 0⟩
def NET_ETH_TX_IDX_hw (i : Nat) : Fld := ⟨32 * (NET_ETH_TX_IDX i) + 16, 11, 0⟩
/-- Address of NET.ETH_STATS (18 register table). -/
def NET_ETH_STATS (i : Nat) (j : Nat) : Nat := 0x4060002C + 0x40 * i + 0x4 * j
def NET_ETH_STATS_count (i : Nat) (j : Nat) : Fld := ⟨32 * (NET_ETH_STATS i j) + 0, 32, 0⟩
/-- Address of NET.U_CTRL (18 register table). -/
def NET_U_CTRL (i : Nat) : Nat := 0x40600180 + 0x20 * i
def NET_U_CTRL_en (i : Nat) : Fld := ⟨32 * (NET_U_CTRL i) + 0, 1, 0⟩
def NET_U_CTRL_baud (i : Nat) : Fld := ⟨32 * (NET_U_CTRL i) + 1, 20, 19200⟩
def NET_U_CTRL_parity (i : Nat) : Fld := ⟨32 * (NET_U_CTRL i) + 21, 2, 1⟩
def NET_U_CTRL_stop2 (i : Nat) : Fld := ⟨32 * (NET_U_CTRL i) + 23, 1, 0⟩
def NET_U_CTRL_term (i : Nat) : Fld := ⟨32 * (NET_U_CTRL i) + 24, 1, 0⟩
/-- Address of NET.U_STATUS (18 register table). -/
def NET_U_STATUS (i : Nat) : Nat := 0x40600184 + 0x20 * i
def NET_U_STATUS_rx_busy (i : Nat) : Fld := ⟨32 * (NET_U_STATUS i) + 0, 1, 0⟩
def NET_U_STATUS_tx_busy (i : Nat) : Fld := ⟨32 * (NET_U_STATUS i) + 1, 1, 0⟩
/-- Address of NET.U_EVENTS (18 register table). -/
def NET_U_EVENTS (i : Nat) : Nat := 0x40600188 + 0x20 * i
def NET_U_EVENTS_rx (i : Nat) : Fld := ⟨32 * (NET_U_EVENTS i) + 0, 1, 0⟩
def NET_U_EVENTS_tx (i : Nat) : Fld := ⟨32 * (NET_U_EVENTS i) + 1, 1, 0⟩
def NET_U_EVENTS_rx_error (i : Nat) : Fld := ⟨32 * (NET_U_EVENTS i) + 2, 1, 0⟩
def NET_U_EVENTS_discarded (i : Nat) : Fld := ⟨32 * (NET_U_EVENTS i) + 3, 1, 0⟩
/-- Address of NET.U_RX_RING (18 register table). -/
def NET_U_RX_RING (i : Nat) : Nat := 0x4060018C + 0x20 * i
def NET_U_RX_RING_base (i : Nat) : Fld := ⟨32 * (NET_U_RX_RING i) + 0, 25, 0⟩
def NET_U_RX_RING_size (i : Nat) : Fld := ⟨32 * (NET_U_RX_RING i) + 28, 3, 0⟩
/-- Address of NET.U_RX_IDX (18 register table). -/
def NET_U_RX_IDX (i : Nat) : Nat := 0x40600190 + 0x20 * i
def NET_U_RX_IDX_sw (i : Nat) : Fld := ⟨32 * (NET_U_RX_IDX i) + 0, 11, 0⟩
def NET_U_RX_IDX_hw (i : Nat) : Fld := ⟨32 * (NET_U_RX_IDX i) + 16, 11, 0⟩
/-- Address of NET.U_TX_RING (18 register table). -/
def NET_U_TX_RING (i : Nat) : Nat := 0x40600194 + 0x20 * i
def NET_U_TX_RING_base (i : Nat) : Fld := ⟨32 * (NET_U_TX_RING i) + 0, 25, 0⟩
def NET_U_TX_RING_size (i : Nat) : Fld := ⟨32 * (NET_U_TX_RING i) + 28, 3, 0⟩
/-- Address of NET.U_TX_IDX (18 register table). -/
def NET_U_TX_IDX (i : Nat) : Nat := 0x40600198 + 0x20 * i
def NET_U_TX_IDX_sw (i : Nat) : Fld := ⟨32 * (NET_U_TX_IDX i) + 0, 11, 0⟩
def NET_U_TX_IDX_hw (i : Nat) : Fld := ⟨32 * (NET_U_TX_IDX i) + 16, 11, 0⟩
/-- Address of NET.U_STATS (18 register table). -/
def NET_U_STATS (i : Nat) : Nat := 0x4060019C + 0x20 * i
def NET_U_STATS_frames (i : Nat) : Fld := ⟨32 * (NET_U_STATS i) + 0, 16, 0⟩
def NET_U_STATS_errors (i : Nat) : Fld := ⟨32 * (NET_U_STATS i) + 16, 8, 0⟩
def NET_U_STATS_discarded (i : Nat) : Fld := ⟨32 * (NET_U_STATS i) + 24, 8, 0⟩
/-- Address of NET.PTP_CTRL (18 register table). -/
def NET_PTP_CTRL (i : Nat) : Nat := 0x40600200 + 0x20 * i
def NET_PTP_CTRL_en (i : Nat) : Fld := ⟨32 * (NET_PTP_CTRL i) + 0, 1, 0⟩
/-- Address of NET.PTP_STATUS (18 register table). -/
def NET_PTP_STATUS (i : Nat) : Nat := 0x40600204 + 0x20 * i
def NET_PTP_STATUS_steps (i : Nat) : Fld := ⟨32 * (NET_PTP_STATUS i) + 0, 16, 0⟩
def NET_PTP_STATUS_seconds (i : Nat) : Fld := ⟨32 * (NET_PTP_STATUS i) + 16, 16, 0⟩
/-- Address of NET.PTP_PHC (18 register table). -/
def NET_PTP_PHC (i : Nat) (j : Nat) : Nat := 0x40600208 + 0x20 * i + 0x4 * j
def NET_PTP_PHC_value (i : Nat) (j : Nat) : Fld := ⟨32 * (NET_PTP_PHC i j) + 0, 32, 0⟩
/-- Address of NET.PTP_RATE (18 register table). -/
def NET_PTP_RATE (i : Nat) : Nat := 0x40600214 + 0x20 * i
def NET_PTP_RATE_rate (i : Nat) : Fld := ⟨32 * (NET_PTP_RATE i) + 0, 32, 0⟩
/-- Address of NET.PTP_STEP (18 register table). -/
def NET_PTP_STEP (i : Nat) (j : Nat) : Nat := 0x40600218 + 0x20 * i + 0x4 * j
def NET_PTP_STEP_step (i : Nat) (j : Nat) : Fld := ⟨32 * (NET_PTP_STEP i j) + 0, 32, 0⟩
/-- Address of NET.DT_CTRL (18 register table). -/
def NET_DT_CTRL : Nat := 0x40600240
def NET_DT_CTRL_valid : Fld := ⟨32 * (NET_DT_CTRL) + 0, 1, 0⟩
def NET_DT_CTRL_source : Fld := ⟨32 * (NET_DT_CTRL) + 1, 3, 0⟩
/-- Address of NET.DT_STATUS (18 register table). -/
def NET_DT_STATUS : Nat := 0x40600244
def NET_DT_STATUS_steps : Fld := ⟨32 * (NET_DT_STATUS) + 0, 16, 0⟩
def NET_DT_STATUS_slew_clipped : Fld := ⟨32 * (NET_DT_STATUS) + 16, 1, 0⟩
/-- Address of NET.DT (18 register table). -/
def NET_DT (i : Nat) : Nat := 0x40600248 + 0x4 * i
def NET_DT_dt (i : Nat) : Fld := ⟨32 * (NET_DT i) + 0, 32, 0⟩
/-- Address of NET.DT_STEP (18 register table). -/
def NET_DT_STEP (i : Nat) : Nat := 0x40600250 + 0x4 * i
def NET_DT_STEP_step (i : Nat) : Fld := ⟨32 * (NET_DT_STEP i) + 0, 32, 0⟩
/-- Address of NET.DT_SLEW (18 register table). -/
def NET_DT_SLEW : Nat := 0x40600258
def NET_DT_SLEW_slew : Fld := ⟨32 * (NET_DT_SLEW) + 0, 32, 0⟩
/-- Address of NET.DT_PPS_OFS (18 register table). -/
def NET_DT_PPS_OFS : Nat := 0x4060025C
def NET_DT_PPS_OFS_ofs : Fld := ⟨32 * (NET_DT_PPS_OFS) + 0, 32, 0⟩
/-- Address of NET.BT_CTRL (18 register table). -/
def NET_BT_CTRL (i : Nat) : Nat := 0x40600260 + 0x20 * i
def NET_BT_CTRL_go (i : Nat) : Fld := ⟨32 * (NET_BT_CTRL i) + 0, 1, 0⟩
def NET_BT_CTRL_dir (i : Nat) : Fld := ⟨32 * (NET_BT_CTRL i) + 1, 1, 0⟩
def NET_BT_CTRL_count_m1 (i : Nat) : Fld := ⟨32 * (NET_BT_CTRL i) + 2, 8, 0⟩
def NET_BT_CTRL_abort (i : Nat) : Fld := ⟨32 * (NET_BT_CTRL i) + 10, 1, 0⟩
/-- Address of NET.BT_STATUS (18 register table). -/
def NET_BT_STATUS (i : Nat) : Nat := 0x40600264 + 0x20 * i
def NET_BT_STATUS_state (i : Nat) : Fld := ⟨32 * (NET_BT_STATUS i) + 0, 2, 0⟩
def NET_BT_STATUS_transfers (i : Nat) : Fld := ⟨32 * (NET_BT_STATUS i) + 16, 16, 0⟩
/-- Address of NET.BT_LBA (18 register table). -/
def NET_BT_LBA (i : Nat) : Nat := 0x40600268 + 0x20 * i
def NET_BT_LBA_lba (i : Nat) : Fld := ⟨32 * (NET_BT_LBA i) + 0, 24, 0⟩
/-- Address of NET.BT_DRAM_LO (18 register table). -/
def NET_BT_DRAM_LO (i : Nat) : Nat := 0x4060026C + 0x20 * i
def NET_BT_DRAM_LO_addr (i : Nat) : Fld := ⟨32 * (NET_BT_DRAM_LO i) + 0, 32, 0⟩
/-- Address of NET.BT_DRAM_HI (18 register table). -/
def NET_BT_DRAM_HI (i : Nat) : Nat := 0x40600270 + 0x20 * i
def NET_BT_DRAM_HI_addr (i : Nat) : Fld := ⟨32 * (NET_BT_DRAM_HI i) + 0, 32, 0⟩
/-- Address of NET.BT_WIN_BASE (18 register table). -/
def NET_BT_WIN_BASE (i : Nat) : Nat := 0x40600274 + 0x20 * i
def NET_BT_WIN_BASE_blocks (i : Nat) : Fld := ⟨32 * (NET_BT_WIN_BASE i) + 0, 24, (if i = 0 then 0 else 0xC00000)⟩
/-- Address of NET.BT_WIN_SIZE (18 register table). -/
def NET_BT_WIN_SIZE (i : Nat) : Nat := 0x40600278 + 0x20 * i
def NET_BT_WIN_SIZE_blocks (i : Nat) : Fld := ⟨32 * (NET_BT_WIN_SIZE i) + 0, 24, (if i = 0 then 0xC00000 else 0x400000)⟩
/-- Address of NET.BT_ERRORS (18 register table). -/
def NET_BT_ERRORS (i : Nat) : Nat := 0x4060027C + 0x20 * i
def NET_BT_ERRORS_errors (i : Nat) : Fld := ⟨32 * (NET_BT_ERRORS i) + 0, 16, 0⟩
def NET_BT_ERRORS_retries (i : Nat) : Fld := ⟨32 * (NET_BT_ERRORS i) + 16, 16, 0⟩
/-- Address of NET.PT_CTRL (18 register table). -/
def NET_PT_CTRL : Nat := 0x406002A0
def NET_PT_CTRL_class_en : Fld := ⟨32 * (NET_PT_CTRL) + 0, 8, 0⟩
/-- Address of NET.PT_STATUS (18 register table). -/
def NET_PT_STATUS : Nat := 0x406002A4
def NET_PT_STATUS_used : Fld := ⟨32 * (NET_PT_STATUS) + 0, 20, 0⟩
def NET_PT_STATUS_hist_lag : Fld := ⟨32 * (NET_PT_STATUS) + 20, 6, 0⟩
/-- Address of NET.CLASS_STAT (18 register table). -/
def NET_CLASS_STAT (i : Nat) : Nat := 0x406002A8 + 0x4 * i
def NET_CLASS_STAT_late (i : Nat) : Fld := ⟨32 * (NET_CLASS_STAT i) + 0, 16, 0⟩
def NET_CLASS_STAT_load (i : Nat) : Fld := ⟨32 * (NET_CLASS_STAT i) + 16, 8, 0⟩
def NET_CLASS_STAT_stale (i : Nat) : Fld := ⟨32 * (NET_CLASS_STAT i) + 24, 8, 0⟩
/-- Address of CAN.CTRL (19 register table). -/
def CAN_CTRL (i : Nat) : Nat := 0x40610000 + 0x60 * i
def CAN_CTRL_en (i : Nat) : Fld := ⟨32 * (CAN_CTRL i) + 0, 1, 0⟩
def CAN_CTRL_fd_en (i : Nat) : Fld := ⟨32 * (CAN_CTRL i) + 1, 1, 0⟩
def CAN_CTRL_recover (i : Nat) : Fld := ⟨32 * (CAN_CTRL i) + 2, 1, 0⟩
def CAN_CTRL_discard (i : Nat) : Fld := ⟨32 * (CAN_CTRL i) + 3, 1, 0⟩
def CAN_CTRL_listen (i : Nat) : Fld := ⟨32 * (CAN_CTRL i) + 4, 1, 0⟩
def CAN_CTRL_loopback (i : Nat) : Fld := ⟨32 * (CAN_CTRL i) + 5, 1, 0⟩
/-- Address of CAN.STATUS (19 register table). -/
def CAN_STATUS (i : Nat) : Nat := 0x40610004 + 0x60 * i
def CAN_STATUS_state (i : Nat) : Fld := ⟨32 * (CAN_STATUS i) + 0, 2, 0⟩
def CAN_STATUS_tx_busy (i : Nat) : Fld := ⟨32 * (CAN_STATUS i) + 2, 1, 0⟩
def CAN_STATUS_rx_busy (i : Nat) : Fld := ⟨32 * (CAN_STATUS i) + 3, 1, 0⟩
/-- Address of CAN.EVENTS (19 register table). -/
def CAN_EVENTS (i : Nat) : Nat := 0x40610008 + 0x60 * i
def CAN_EVENTS_rx (i : Nat) : Fld := ⟨32 * (CAN_EVENTS i) + 0, 1, 0⟩
def CAN_EVENTS_tx_done (i : Nat) : Fld := ⟨32 * (CAN_EVENTS i) + 1, 1, 0⟩
def CAN_EVENTS_rx_overflow (i : Nat) : Fld := ⟨32 * (CAN_EVENTS i) + 2, 1, 0⟩
def CAN_EVENTS_err_warn (i : Nat) : Fld := ⟨32 * (CAN_EVENTS i) + 3, 1, 0⟩
def CAN_EVENTS_err_passive (i : Nat) : Fld := ⟨32 * (CAN_EVENTS i) + 4, 1, 0⟩
def CAN_EVENTS_bus_off (i : Nat) : Fld := ⟨32 * (CAN_EVENTS i) + 5, 1, 0⟩
def CAN_EVENTS_recovered (i : Nat) : Fld := ⟨32 * (CAN_EVENTS i) + 6, 1, 0⟩
def CAN_EVENTS_discarded (i : Nat) : Fld := ⟨32 * (CAN_EVENTS i) + 7, 1, 0⟩
def CAN_EVENTS_tx_idx_err (i : Nat) : Fld := ⟨32 * (CAN_EVENTS i) + 8, 1, 0⟩
def CAN_EVENTS_cfg_err (i : Nat) : Fld := ⟨32 * (CAN_EVENTS i) + 9, 1, 0⟩
/-- Address of CAN.NBT (19 register table). -/
def CAN_NBT (i : Nat) : Nat := 0x4061000C + 0x60 * i
def CAN_NBT_brp_m1 (i : Nat) : Fld := ⟨32 * (CAN_NBT i) + 0, 10, 7⟩
def CAN_NBT_tseg1_m1 (i : Nat) : Fld := ⟨32 * (CAN_NBT i) + 10, 8, 78⟩
def CAN_NBT_tseg2_m1 (i : Nat) : Fld := ⟨32 * (CAN_NBT i) + 18, 7, 19⟩
def CAN_NBT_sjw_m1 (i : Nat) : Fld := ⟨32 * (CAN_NBT i) + 25, 7, 19⟩
/-- Address of CAN.DBT (19 register table). -/
def CAN_DBT (i : Nat) : Nat := 0x40610010 + 0x60 * i
def CAN_DBT_brp_m1 (i : Nat) : Fld := ⟨32 * (CAN_DBT i) + 0, 5, 3⟩
def CAN_DBT_tseg1_m1 (i : Nat) : Fld := ⟨32 * (CAN_DBT i) + 5, 6, 38⟩
def CAN_DBT_tseg2_m1 (i : Nat) : Fld := ⟨32 * (CAN_DBT i) + 11, 4, 9⟩
def CAN_DBT_sjw_m1 (i : Nat) : Fld := ⟨32 * (CAN_DBT i) + 15, 4, 9⟩
/-- Address of CAN.TDC (19 register table). -/
def CAN_TDC (i : Nat) : Nat := 0x40610014 + 0x60 * i
def CAN_TDC_en (i : Nat) : Fld := ⟨32 * (CAN_TDC i) + 0, 1, 0⟩
def CAN_TDC_offset (i : Nat) : Fld := ⟨32 * (CAN_TDC i) + 1, 7, 0⟩
def CAN_TDC_measured (i : Nat) : Fld := ⟨32 * (CAN_TDC i) + 8, 8, 0⟩
/-- Address of CAN.ERRCNT (19 register table). -/
def CAN_ERRCNT (i : Nat) : Nat := 0x40610018 + 0x60 * i
def CAN_ERRCNT_tec (i : Nat) : Fld := ⟨32 * (CAN_ERRCNT i) + 0, 9, 0⟩
def CAN_ERRCNT_rec (i : Nat) : Fld := ⟨32 * (CAN_ERRCNT i) + 16, 8, 0⟩
/-- Address of CAN.ERRCODE (19 register table). -/
def CAN_ERRCODE (i : Nat) : Nat := 0x4061001C + 0x60 * i
def CAN_ERRCODE_code (i : Nat) : Fld := ⟨32 * (CAN_ERRCODE i) + 0, 3, 0⟩
def CAN_ERRCODE_data_phase (i : Nat) : Fld := ⟨32 * (CAN_ERRCODE i) + 3, 1, 0⟩
def CAN_ERRCODE_count (i : Nat) : Fld := ⟨32 * (CAN_ERRCODE i) + 16, 16, 0⟩
/-- Address of CAN.RX_BASE_LO (19 register table). -/
def CAN_RX_BASE_LO (i : Nat) : Nat := 0x40610020 + 0x60 * i
def CAN_RX_BASE_LO_addr (i : Nat) : Fld := ⟨32 * (CAN_RX_BASE_LO i) + 12, 20, 0⟩
/-- Address of CAN.RX_BASE_HI (19 register table). -/
def CAN_RX_BASE_HI (i : Nat) : Nat := 0x40610024 + 0x60 * i
def CAN_RX_BASE_HI_addr (i : Nat) : Fld := ⟨32 * (CAN_RX_BASE_HI i) + 0, 32, 0⟩
/-- Address of CAN.RX_IDX (19 register table). -/
def CAN_RX_IDX (i : Nat) : Nat := 0x40610028 + 0x60 * i
def CAN_RX_IDX_sw (i : Nat) : Fld := ⟨32 * (CAN_RX_IDX i) + 0, 9, 0⟩
def CAN_RX_IDX_hw (i : Nat) : Fld := ⟨32 * (CAN_RX_IDX i) + 16, 9, 0⟩
/-- Address of CAN.TX_BASE_LO (19 register table). -/
def CAN_TX_BASE_LO (i : Nat) : Nat := 0x4061002C + 0x60 * i
def CAN_TX_BASE_LO_addr (i : Nat) : Fld := ⟨32 * (CAN_TX_BASE_LO i) + 12, 20, 0⟩
/-- Address of CAN.TX_BASE_HI (19 register table). -/
def CAN_TX_BASE_HI (i : Nat) : Nat := 0x40610030 + 0x60 * i
def CAN_TX_BASE_HI_addr (i : Nat) : Fld := ⟨32 * (CAN_TX_BASE_HI i) + 0, 32, 0⟩
/-- Address of CAN.TX_IDX (19 register table). -/
def CAN_TX_IDX (i : Nat) : Nat := 0x40610034 + 0x60 * i
def CAN_TX_IDX_sw (i : Nat) : Fld := ⟨32 * (CAN_TX_IDX i) + 0, 6, 0⟩
def CAN_TX_IDX_hw (i : Nat) : Fld := ⟨32 * (CAN_TX_IDX i) + 16, 6, 0⟩
/-- Address of CAN.RX_STAT (19 register table). -/
def CAN_RX_STAT (i : Nat) : Nat := 0x40610038 + 0x60 * i
def CAN_RX_STAT_frames (i : Nat) : Fld := ⟨32 * (CAN_RX_STAT i) + 0, 16, 0⟩
def CAN_RX_STAT_overflow (i : Nat) : Fld := ⟨32 * (CAN_RX_STAT i) + 16, 16, 0⟩
/-- Address of CAN.TX_STAT (19 register table). -/
def CAN_TX_STAT (i : Nat) : Nat := 0x4061003C + 0x60 * i
def CAN_TX_STAT_sent (i : Nat) : Fld := ⟨32 * (CAN_TX_STAT i) + 0, 16, 0⟩
def CAN_TX_STAT_retries (i : Nat) : Fld := ⟨32 * (CAN_TX_STAT i) + 16, 16, 0⟩
/-- Address of CAN.DISC_STAT (19 register table). -/
def CAN_DISC_STAT (i : Nat) : Nat := 0x40610040 + 0x60 * i
def CAN_DISC_STAT_entries (i : Nat) : Fld := ⟨32 * (CAN_DISC_STAT i) + 0, 16, 0⟩
def CAN_DISC_STAT_discards (i : Nat) : Fld := ⟨32 * (CAN_DISC_STAT i) + 16, 16, 0⟩
/-- Address of CAN.BUSOFF_STAT (19 register table). -/
def CAN_BUSOFF_STAT (i : Nat) : Nat := 0x40610044 + 0x60 * i
def CAN_BUSOFF_STAT_bus_offs (i : Nat) : Fld := ⟨32 * (CAN_BUSOFF_STAT i) + 0, 16, 0⟩
def CAN_BUSOFF_STAT_recoveries (i : Nat) : Fld := ⟨32 * (CAN_BUSOFF_STAT i) + 16, 16, 0⟩
/-- Address of PLC.CTRL (20 register table). -/
def PLC_CTRL : Nat := 0x40620000
def PLC_CTRL_en : Fld := ⟨32 * (PLC_CTRL) + 0, 1, 0⟩
def PLC_CTRL_blank_en : Fld := ⟨32 * (PLC_CTRL) + 1, 1, 1⟩
/-- Address of PLC.STATUS (20 register table). -/
def PLC_STATUS : Nat := 0x40620004
def PLC_STATUS_tx_busy : Fld := ⟨32 * (PLC_STATUS) + 0, 1, 0⟩
def PLC_STATUS_rx_busy : Fld := ⟨32 * (PLC_STATUS) + 1, 1, 0⟩
def PLC_STATUS_uplink : Fld := ⟨32 * (PLC_STATUS) + 2, 1, 0⟩
/-- Address of PLC.EVENTS (20 register table). -/
def PLC_EVENTS : Nat := 0x40620008
def PLC_EVENTS_cycle : Fld := ⟨32 * (PLC_EVENTS) + 0, 1, 0⟩
def PLC_EVENTS_rx : Fld := ⟨32 * (PLC_EVENTS) + 1, 1, 0⟩
def PLC_EVENTS_rx_bad : Fld := ⟨32 * (PLC_EVENTS) + 2, 1, 0⟩
def PLC_EVENTS_tx : Fld := ⟨32 * (PLC_EVENTS) + 3, 1, 0⟩
def PLC_EVENTS_discarded : Fld := ⟨32 * (PLC_EVENTS) + 4, 1, 0⟩
/-- Address of PLC.CFG (20 register table). -/
def PLC_CFG : Nat := 0x4062000C
def PLC_CFG_coupling : Fld := ⟨32 * (PLC_CFG) + 0, 1, 0⟩
def PLC_CFG_cycle : Fld := ⟨32 * (PLC_CFG) + 1, 6, 30⟩
def PLC_CFG_dl_max : Fld := ⟨32 * (PLC_CFG) + 7, 6, 12⟩
def PLC_CFG_blank_th : Fld := ⟨32 * (PLC_CFG) + 13, 8, 32⟩
/-- Address of PLC.RX_RING (20 register table). -/
def PLC_RX_RING : Nat := 0x40620010
def PLC_RX_RING_base : Fld := ⟨32 * (PLC_RX_RING) + 0, 25, 0⟩
def PLC_RX_RING_size : Fld := ⟨32 * (PLC_RX_RING) + 28, 3, 0⟩
/-- Address of PLC.RX_IDX (20 register table). -/
def PLC_RX_IDX : Nat := 0x40620014
def PLC_RX_IDX_sw : Fld := ⟨32 * (PLC_RX_IDX) + 0, 11, 0⟩
def PLC_RX_IDX_hw : Fld := ⟨32 * (PLC_RX_IDX) + 16, 11, 0⟩
/-- Address of PLC.TX_RING (20 register table). -/
def PLC_TX_RING : Nat := 0x40620018
def PLC_TX_RING_base : Fld := ⟨32 * (PLC_TX_RING) + 0, 25, 0⟩
def PLC_TX_RING_size : Fld := ⟨32 * (PLC_TX_RING) + 28, 3, 0⟩
/-- Address of PLC.TX_IDX (20 register table). -/
def PLC_TX_IDX : Nat := 0x4062001C
def PLC_TX_IDX_sw : Fld := ⟨32 * (PLC_TX_IDX) + 0, 11, 0⟩
def PLC_TX_IDX_hw : Fld := ⟨32 * (PLC_TX_IDX) + 16, 11, 0⟩
/-- Address of PLC.TMAP_LO (20 register table). -/
def PLC_TMAP_LO : Nat := 0x40620020
def PLC_TMAP_LO_addr : Fld := ⟨32 * (PLC_TMAP_LO) + 6, 26, 0⟩
/-- Address of PLC.TMAP_HI (20 register table). -/
def PLC_TMAP_HI : Nat := 0x40620024
def PLC_TMAP_HI_addr : Fld := ⟨32 * (PLC_TMAP_HI) + 0, 32, 0⟩
/-- Address of PLC.NOISE (20 register table). -/
def PLC_NOISE : Nat := 0x40620028
def PLC_NOISE_floor : Fld := ⟨32 * (PLC_NOISE) + 0, 16, 0⟩
def PLC_NOISE_impulses : Fld := ⟨32 * (PLC_NOISE) + 16, 16, 0⟩
/-- Address of PLC.STATS (20 register table). -/
def PLC_STATS : Nat := 0x4062002C
def PLC_STATS_bursts : Fld := ⟨32 * (PLC_STATS) + 0, 16, 0⟩
def PLC_STATS_bad : Fld := ⟨32 * (PLC_STATS) + 16, 8, 0⟩
def PLC_STATS_discarded : Fld := ⟨32 * (PLC_STATS) + 24, 8, 0⟩
/-- Address of PLC.TONE_MASK (20 register table). -/
def PLC_TONE_MASK (i : Nat) : Nat := 0x40620030 + 0x4 * i
def PLC_TONE_MASK_mask (i : Nat) : Fld := ⟨32 * (PLC_TONE_MASK i) + 0, 32, 0⟩
/-- Address of PLC.RX_ERR (20 register table). -/
def PLC_RX_ERR : Nat := 0x40620070
def PLC_RX_ERR_rs_fixed : Fld := ⟨32 * (PLC_RX_ERR) + 0, 16, 0⟩
def PLC_RX_ERR_descr : Fld := ⟨32 * (PLC_RX_ERR) + 16, 16, 0⟩
/-- Address of PLC.TX_ERR (20 register table). -/
def PLC_TX_ERR : Nat := 0x40620074
def PLC_TX_ERR_refused : Fld := ⟨32 * (PLC_TX_ERR) + 0, 16, 0⟩
def PLC_TX_ERR_descr : Fld := ⟨32 * (PLC_TX_ERR) + 16, 16, 0⟩

/-- Rows of block ENG, part 0. -/
def rowsENG0 : List RegRow := [
  ⟨ENG_CTRL 0, 8, 0x80, 1, 0x0, .engCtrl, fun i _ => [(.rw, .lost, ENG_CTRL_run i), (.wo, .lost, ENG_CTRL_restart i), (.rw, .lost, ENG_CTRL_halt_req i), (.wo, .lost, ENG_CTRL_single_step i), (.wo, .lost, ENG_CTRL_kick i), (.rw, .lost, ENG_CTRL_q_en i)]⟩,
  ⟨ENG_STATUS 0, 8, 0x80, 1, 0x0, .t7, fun i _ => [(.ro, .lost, ENG_STATUS_running i), (.ro, .lost, ENG_STATUS_halted i), (.ro, .lost, ENG_STATUS_double_trap i), (.ro, .lost, ENG_STATUS_throttled i), (.ro, .lost, ENG_STATUS_active i), (.ro, .lost, ENG_STATUS_ctx i), (.w1c, .lost, ENG_STATUS_cfg_err i)]⟩,
  ⟨ENG_HB 0, 8, 0x80, 1, 0x0, .nobody, fun i _ => [(.ro, .lost, ENG_HB_hb_count i)]⟩,
  ⟨ENG_TRAP_CAUSE 0, 8, 0x80, 1, 0x0, .nobody, fun i _ => [(.ro, .lost, ENG_TRAP_CAUSE_cause i), (.ro, .lost, ENG_TRAP_CAUSE_ctx i), (.ro, .lost, ENG_TRAP_CAUSE_count i)]⟩,
  ⟨ENG_TRAP_PC 0, 8, 0x80, 1, 0x0, .nobody, fun i _ => [(.ro, .lost, ENG_TRAP_PC_pc i)]⟩,
  ⟨ENG_OVERRUN 0, 8, 0x80, 1, 0x0, .t7, fun i _ => [(.w1c, .lost, ENG_OVERRUN_slot_0 i), (.w1c, .lost, ENG_OVERRUN_slot_1 i), (.w1c, .lost, ENG_OVERRUN_slot_2 i), (.w1c, .lost, ENG_OVERRUN_slot_3 i), (.w1c, .lost, ENG_OVERRUN_slot_4 i), (.w1c, .lost, ENG_OVERRUN_slot_5 i), (.w1c, .lost, ENG_OVERRUN_slot_6 i), (.w1c, .lost, ENG_OVERRUN_slot_7 i)]⟩,
  ⟨ENG_QUEUE_STAT 0, 8, 0x80, 1, 0x0, .t7, fun i _ => [(.ro, .lost, ENG_QUEUE_STAT_result_idx i), (.ro, .lost, ENG_QUEUE_STAT_event_idx i), (.w1c, .lost, ENG_QUEUE_STAT_result_ovf i), (.w1c, .lost, ENG_QUEUE_STAT_event_ovf i)]⟩,
  ⟨ENG_SECT_ID 0, 8, 0x80, 1, 0x0, .t7, fun i _ => [(.rw, .lost, ENG_SECT_ID_id i)]⟩,
  ⟨ENG_SLOT_BASE 0 0, 8, 0x80, 8, 0x4, .engSlot, fun i j => [(.rw, .lost, ENG_SLOT_BASE_base i j)]⟩,
  ⟨ENG_SLOT_CFG 0 0, 8, 0x80, 8, 0x4, .engSlot, fun i j => [(.rw, .lost, ENG_SLOT_CFG_en i j), (.rw, .lost, ENG_SLOT_CFG_row_size_m1 i j), (.rw, .lost, ENG_SLOT_CFG_row_count_m1 i j), (.rw, .lost, ENG_SLOT_CFG_offset i j)]⟩,
  ⟨ENG_SLOT_PERIOD 0 0, 8, 0x80, 8, 0x4, .engSlot, fun i j => [(.rw, .lost, ENG_SLOT_PERIOD_period i j)]⟩]
/-- The registers of block ENG (R434). -/
def rowsENG : List RegRow := rowsENG0
/-- Rows of block CLK, part 0. -/
def rowsCLK0 : List RegRow := [
  ⟨CLK_CTRL, 1, 0x0, 1, 0x0, .t7, fun _ _ => [(.rw, .lost, CLK_CTRL_pll_en), (.wo, .lost, CLK_CTRL_relock), (.wo, .lost, CLK_CTRL_realign), (.wo, .lost, CLK_CTRL_coast_force)]⟩,
  ⟨CLK_STATUS, 1, 0x0, 1, 0x0, .nobody, fun _ _ => [(.ro, .lost, CLK_STATUS_state), (.ro, .lost, CLK_STATUS_aligned), (.ro, .lost, CLK_STATUS_phu_any), (.ro, .lost, CLK_STATUS_src), (.ro, .lost, CLK_STATUS_band), (.ro, .lost, CLK_STATUS_windows)]⟩,
  ⟨CLK_EVENTS, 1, 0x0, 1, 0x0, .t7, fun _ _ => [(.w1c, .lost, CLK_EVENTS_lock), (.w1c, .lost, CLK_EVENTS_loss), (.w1c, .lost, CLK_EVENTS_band_miss), (.w1c, .lost, CLK_EVENTS_ref_return), (.w1c, .lost, CLK_EVENTS_realign_done), (.w1c, .lost, CLK_EVENTS_realign_refused), (.w1c, .lost, CLK_EVENTS_pps_missing), (.w1c, .lost, CLK_EVENTS_cko_cfg_err), (.w1c, .lost, CLK_EVENTS_acq_fail)]⟩,
  ⟨CLK_REF_CFG, 1, 0x0, 1, 0x0, .t7, fun _ _ => [(.rw, .lost, CLK_REF_CFG_src), (.rw, .lost, CLK_REF_CFG_pps_port)]⟩,
  ⟨CLK_TUNE, 1, 0x0, 1, 0x0, .nobody, fun _ _ => [(.ro, .lost, CLK_TUNE_offset)]⟩,
  ⟨CLK_SLEW_CFG, 1, 0x0, 1, 0x0, .t7, fun _ _ => [(.rw, .lost, CLK_SLEW_CFG_slew_max)]⟩,
  ⟨CLK_PPS_CFG, 1, 0x0, 1, 0x0, .t7, fun _ _ => [(.rw, .lost, CLK_PPS_CFG_en), (.rw, .lost, CLK_PPS_CFG_epoch_on_pps), (.rw, .lost, CLK_PPS_CFG_gain_shift)]⟩,
  ⟨CLK_PHASE_ERR, 1, 0x0, 1, 0x0, .nobody, fun _ _ => [(.ro, .lost, CLK_PHASE_ERR_err), (.ro, .lost, CLK_PHASE_ERR_grid_ofs)]⟩,
  ⟨CLK_BAND_LO 0, 16, 0x4, 1, 0x0, .t7, fun i _ => [(.rw, .lost, CLK_BAND_LO_f_lo i), (.rw, .lost, CLK_BAND_LO_valid i)]⟩,
  ⟨CLK_BAND_HI 0, 16, 0x4, 1, 0x0, .t7, fun i _ => [(.rw, .lost, CLK_BAND_HI_f_hi i), (.rw, .lost, CLK_BAND_HI_code i)]⟩,
  ⟨CLK_CKO_CFG 0, 8, 0x4, 1, 0x0, .t7, fun i _ => [(.rw, .lost, CLK_CKO_CFG_std i), (.rw, .lost, CLK_CKO_CFG_inv i)]⟩,
  ⟨CLK_CKO_DIV 0, 8, 0x4, 1, 0x0, .t7, fun i _ => [(.rw, .lost, CLK_CKO_DIV_div i)]⟩]
/-- Rows of block CLK, part 1. -/
def rowsCLK1 : List RegRow := [
  ⟨CLK_CKO_PHASE 0, 8, 0x4, 1, 0x0, .t7, fun i _ => [(.rw, .lost, CLK_CKO_PHASE_delay i)]⟩,
  ⟨CLK_LOCK_HIST 0, 8, 0x4, 1, 0x0, .nobody, fun i _ => [(.ro, .lost, CLK_LOCK_HIST_diff i), (.ro, .lost, CLK_LOCK_HIST_seq i)]⟩]
/-- The registers of block CLK (R434). -/
def rowsCLK : List RegRow := rowsCLK0 ++ rowsCLK1
/-- Rows of block PWR, part 0. -/
def rowsPWR0 : List RegRow := [
  ⟨PWR_CTRL, 1, 0x0, 1, 0x0, .t7, fun _ _ => [(.rw, .lost, PWR_CTRL_hk_en), (.rw, .lost, PWR_CTRL_selftest_en), (.rw, .lost, PWR_CTRL_boost_en), (.wo, .lost, PWR_CTRL_selftest_now)]⟩,
  ⟨PWR_STATUS, 1, 0x0, 1, 0x0, .nobody, fun _ _ => [(.ro, .lost, PWR_STATUS_pfw), (.ro, .lost, PWR_STATUS_active_feed), (.ro, .lost, PWR_STATUS_switching), (.ro, .lost, PWR_STATUS_hold_ready), (.ro, .lost, PWR_STATUS_die_level), (.ro, .lost, PWR_STATUS_feed_a_ok), (.ro, .lost, PWR_STATUS_feed_b_ok)]⟩,
  ⟨PWR_EVENTS, 1, 0x0, 1, 0x0, .t7, fun _ _ => [(.w1c, .lost, PWR_EVENTS_pfw), (.w1c, .lost, PWR_EVENTS_switchover), (.w1c, .lost, PWR_EVENTS_feed_unhealthy), (.w1c, .lost, PWR_EVENTS_feed_healthy), (.w1c, .lost, PWR_EVENTS_die_warn), (.w1c, .lost, PWR_EVENTS_die_throttle), (.w1c, .lost, PWR_EVENTS_die_halved), (.w1c, .lost, PWR_EVENTS_die_clear), (.w1c, .lost, PWR_EVENTS_hold_lost), (.w1c, .lost, PWR_EVENTS_hk_limit)]⟩,
  ⟨PWR_FEED_CFG, 1, 0x0, 1, 0x0, .t7, fun _ _ => [(.rw, .lost, PWR_FEED_CFG_r_path_max), (.rw, .lost, PWR_FEED_CFG_pulse_en)]⟩,
  ⟨PWR_FEED_STAT 0, 2, 0x4, 1, 0x0, .nobody, fun i _ => [(.ro, .lost, PWR_FEED_STAT_voltage i), (.ro, .lost, PWR_FEED_STAT_current i)]⟩,
  ⟨PWR_FEED_HEALTH 0, 2, 0x4, 1, 0x0, .nobody, fun i _ => [(.ro, .lost, PWR_FEED_HEALTH_healthy i), (.ro, .lost, PWR_FEED_HEALTH_v_ok i), (.ro, .lost, PWR_FEED_HEALTH_block_ok i), (.ro, .lost, PWR_FEED_HEALTH_path_ok i), (.ro, .lost, PWR_FEED_HEALTH_path_skipped i), (.ro, .lost, PWR_FEED_HEALTH_r_path i), (.ro, .lost, PWR_FEED_HEALTH_fails i), (.ro, .lost, PWR_FEED_HEALTH_tests i)]⟩,
  ⟨PWR_HOLD_STAT, 1, 0x0, 1, 0x0, .nobody, fun _ _ => [(.ro, .lost, PWR_HOLD_STAT_vhold), (.ro, .lost, PWR_HOLD_STAT_budget_us), (.ro, .kept, PWR_HOLD_STAT_cap)]⟩,
  ⟨PWR_THERM_STAT, 1, 0x0, 1, 0x0, .nobody, fun _ _ => [(.ro, .lost, PWR_THERM_STAT_die), (.ro, .lost, PWR_THERM_STAT_throttles)]⟩,
  ⟨PWR_KEEP_STAT, 1, 0x0, 1, 0x0, .t7, fun _ _ => [(.ro, .lost, PWR_KEEP_STAT_on_vbak), (.w1c, .lost, PWR_KEEP_STAT_ka_lost), (.ro, .lost, PWR_KEEP_STAT_vbak_low), (.w1c, .lost, PWR_KEEP_STAT_shut_latched), (.ro, .lost, PWR_KEEP_STAT_vbak)]⟩,
  ⟨PWR_TAMPER, 1, 0x0, 1, 0x0, .t7, fun _ _ => [(.rw, .kept, PWR_TAMPER_loop0_en), (.rw, .kept, PWR_TAMPER_loop1_en), (.ro, .lost, PWR_TAMPER_loop0_ok), (.ro, .lost, PWR_TAMPER_loop1_ok), (.ro, .kept, PWR_TAMPER_log_idx), (.w1c, .kept, PWR_TAMPER_log_ovf)]⟩,
  ⟨PWR_RTC_SUB, 1, 0x0, 1, 0x0, .t7, fun _ _ => [(.rw, .kept, PWR_RTC_SUB_sub)]⟩,
  ⟨PWR_RTC_SEC, 1, 0x0, 1, 0x0, .t7, fun _ _ => [(.rw, .kept, PWR_RTC_SEC_sec)]⟩]
/-- Rows of block PWR, part 1. -/
def rowsPWR1 : List RegRow := [
  ⟨PWR_FUSE_SHADOW, 1, 0x0, 1, 0x0, .nobody, fun _ _ => [(.ro, .fuse, PWR_FUSE_SHADOW_lifecycle), (.ro, .kept, PWR_FUSE_SHADOW_last_cause)]⟩,
  ⟨PWR_HK_CFG, 1, 0x0, 1, 0x0, .t7, fun _ _ => [(.rw, .lost, PWR_HK_CFG_mask)]⟩,
  ⟨PWR_HK_DATA 0, 24, 0x4, 1, 0x0, .nobody, fun i _ => [(.ro, .lost, PWR_HK_DATA_value i), (.ro, .lost, PWR_HK_DATA_round i), (.ro, .lost, PWR_HK_DATA_over i), (.ro, .lost, PWR_HK_DATA_under i), (.ro, .lost, PWR_HK_DATA_valid i)]⟩,
  ⟨PWR_NVW_SRC 0, 8, 0x4, 1, 0x0, .nvw, fun i _ => [(.rw, .lost, PWR_NVW_SRC_src i)]⟩,
  ⟨PWR_NVW_DST 0, 8, 0x4, 1, 0x0, .nvw, fun i _ => [(.rw, .lost, PWR_NVW_DST_pair_ofs i), (.rw, .lost, PWR_NVW_DST_tag i)]⟩,
  ⟨PWR_NVW_CTRL 0, 8, 0x4, 1, 0x0, .nvw, fun i _ => [(.rw, .lost, PWR_NVW_CTRL_len_m1 i), (.rw, .lost, PWR_NVW_CTRL_op i), (.wo, .lost, PWR_NVW_CTRL_go i), (.ro, .lost, PWR_NVW_CTRL_status i), (.ro, .lost, PWR_NVW_CTRL_slot i)]⟩,
  ⟨PWR_NVW_SEQ 0, 8, 0x4, 1, 0x0, .nobody, fun i _ => [(.ro, .lost, PWR_NVW_SEQ_seq i)]⟩,
  ⟨PWR_TAMPER_LOG 0, 8, 0x4, 1, 0x0, .nobody, fun i _ => [(.ro, .kept, PWR_TAMPER_LOG_sec i), (.ro, .kept, PWR_TAMPER_LOG_loop i), (.ro, .kept, PWR_TAMPER_LOG_kind i)]⟩]
/-- The registers of block PWR (R434). -/
def rowsPWR : List RegRow := rowsPWR0 ++ rowsPWR1
/-- Rows of block SEC, part 0. -/
def rowsSEC0 : List RegRow := [
  ⟨SEC_MODE, 1, 0x0, 1, 0x0, .t7, fun _ _ => [(.rw, .lost, SEC_MODE_mode), (.ro, .lost, SEC_MODE_hc_f3), (.ro, .lost, SEC_MODE_hc_feed), (.ro, .lost, SEC_MODE_hc_estop), (.ro, .lost, SEC_MODE_hc_discrepancy), (.ro, .lost, SEC_MODE_changes)]⟩,
  ⟨SEC_BOOT_STAT, 1, 0x0, 1, 0x0, .nobody, fun _ _ => [(.ro, .lost, SEC_BOOT_STAT_stage), (.ro, .lost, SEC_BOOT_STAT_fail), (.ro, .lost, SEC_BOOT_STAT_image), (.ro, .lost, SEC_BOOT_STAT_other_rejected), (.ro, .lost, SEC_BOOT_STAT_warm), (.ro, .lost, SEC_BOOT_STAT_boot_ms)]⟩,
  ⟨SEC_RESET_CAUSE, 1, 0x0, 1, 0x0, .nobody, fun _ _ => [(.ro, .lost, SEC_RESET_CAUSE_kind), (.ro, .lost, SEC_RESET_CAUSE_prev_mode), (.ro, .kept, SEC_RESET_CAUSE_warm_count)]⟩,
  ⟨SEC_ESTOP, 1, 0x0, 1, 0x0, .t7, fun _ _ => [(.ro, .lost, SEC_ESTOP_a_low), (.ro, .lost, SEC_ESTOP_b_low), (.ro, .lost, SEC_ESTOP_tripped), (.ro, .lost, SEC_ESTOP_discrepancy), (.wo, .lost, SEC_ESTOP_rearm), (.w1c, .lost, SEC_ESTOP_rearm_refused), (.ro, .lost, SEC_ESTOP_trips)]⟩,
  ⟨SEC_RESET_CTRL, 1, 0x0, 1, 0x0, .t7, fun _ _ => [(.wo, .lost, SEC_RESET_CTRL_warm)]⟩,
  ⟨SEC_LIFECYCLE, 1, 0x0, 1, 0x0, .nobody, fun _ _ => [(.ro, .fuse, SEC_LIFECYCLE_state), (.ro, .fuse, SEC_LIFECYCLE_provisioned), (.ro, .fuse, SEC_LIFECYCLE_seals), (.ro, .fuse, SEC_LIFECYCLE_unseals), (.ro, .fuse, SEC_LIFECYCLE_retired), (.ro, .lost, SEC_LIFECYCLE_final_pending)]⟩,
  ⟨SEC_LC_CTRL, 1, 0x0, 1, 0x0, .t7, fun _ _ => [(.rw, .lost, SEC_LC_CTRL_prog), (.rw, .lost, SEC_LC_CTRL_key), (.wo, .lost, SEC_LC_CTRL_go), (.ro, .lost, SEC_LC_CTRL_status)]⟩,
  ⟨SEC_EPOCH, 1, 0x0, 1, 0x0, .nobody, fun _ _ => [(.ro, .fuse, SEC_EPOCH_epoch)]⟩,
  ⟨SEC_ROLLBACK, 1, 0x0, 1, 0x0, .t7, fun _ _ => [(.ro, .fuse, SEC_ROLLBACK_main), (.ro, .fuse, SEC_ROLLBACK_plinth), (.wo, .lost, SEC_ROLLBACK_raise_main)]⟩,
  ⟨SEC_KEY_STAT, 1, 0x0, 1, 0x0, .nobody, fun _ _ => [(.ro, .fuse, SEC_KEY_STAT_owner), (.ro, .fuse, SEC_KEY_STAT_va), (.ro, .fuse, SEC_KEY_STAT_image), (.ro, .fuse, SEC_KEY_STAT_revoked), (.ro, .fuse, SEC_KEY_STAT_identity), (.ro, .lost, SEC_KEY_STAT_meter)]⟩,
  ⟨SEC_SVC_STAT, 1, 0x0, 1, 0x0, .nobody, fun _ _ => [(.ro, .lost, SEC_SVC_STAT_open), (.ro, .lost, SEC_SVC_STAT_tck), (.ro, .lost, SEC_SVC_STAT_authorised), (.ro, .lost, SEC_SVC_STAT_session), (.ro, .lost, SEC_SVC_STAT_idle)]⟩,
  ⟨SEC_DBG_STAT, 1, 0x0, 1, 0x0, .nobody, fun _ _ => [(.ro, .lost, SEC_DBG_STAT_granted), (.ro, .lost, SEC_DBG_STAT_max), (.ro, .lost, SEC_DBG_STAT_t4_excl), (.ro, .lost, SEC_DBG_STAT_halted), (.ro, .lost, SEC_DBG_STAT_halted_since)]⟩]
/-- Rows of block SEC, part 1. -/
def rowsSEC1 : List RegRow := [
  ⟨SEC_DBG_CTRL, 1, 0x0, 1, 0x0, .t7, fun _ _ => [(.rw, .lost, SEC_DBG_CTRL_grant), (.wo, .lost, SEC_DBG_CTRL_revoke)]⟩,
  ⟨SEC_FREEZE_CTRL, 1, 0x0, 1, 0x0, .t7, fun _ _ => [(.wo, .lost, SEC_FREEZE_CTRL_go), (.rw, .lost, SEC_FREEZE_CTRL_limit)]⟩,
  ⟨SEC_FREEZE_STAT, 1, 0x0, 1, 0x0, .freeze, fun _ _ => [(.ro, .lost, SEC_FREEZE_STAT_state), (.wo, .lost, SEC_FREEZE_STAT_pause_ok), (.w1c, .kept, SEC_FREEZE_STAT_pause_missing), (.ro, .kept, SEC_FREEZE_STAT_freezes)]⟩,
  ⟨SEC_AUTH_STAT, 1, 0x0, 1, 0x0, .nobody, fun _ _ => [(.ro, .kept, SEC_AUTH_STAT_fails), (.ro, .kept, SEC_AUTH_STAT_lockout), (.ro, .lost, SEC_AUTH_STAT_latch), (.ro, .kept, SEC_AUTH_STAT_lock_s)]⟩,
  ⟨SEC_CHAL 0, 8, 0x4, 1, 0x0, .nobody, fun i _ => [(.ro, .lost, SEC_CHAL_nonce i)]⟩,
  ⟨SEC_ARCH_CTRL, 1, 0x0, 1, 0x0, .t7, fun _ _ => [(.rw, .lost, SEC_ARCH_CTRL_en), (.wo, .lost, SEC_ARCH_CTRL_seal_now)]⟩,
  ⟨SEC_ARCH_STAT, 1, 0x0, 1, 0x0, .nobody, fun _ _ => [(.ro, .lost, SEC_ARCH_STAT_next), (.ro, .lost, SEC_ARCH_STAT_wrapped), (.ro, .lost, SEC_ARCH_STAT_lag)]⟩,
  ⟨SEC_FREEZE_DT_LO, 1, 0x0, 1, 0x0, .nobody, fun _ _ => [(.ro, .kept, SEC_FREEZE_DT_LO_dt)]⟩,
  ⟨SEC_FREEZE_DT_HI, 1, 0x0, 1, 0x0, .nobody, fun _ _ => [(.ro, .kept, SEC_FREEZE_DT_HI_dt)]⟩,
  ⟨SEC_KEY_HASH 0 0, 8, 0x20, 8, 0x4, .nobody, fun i j => [(.ro, .fuse, SEC_KEY_HASH_hash i j)]⟩]
/-- The registers of block SEC (R434). -/
def rowsSEC : List RegRow := rowsSEC0 ++ rowsSEC1
/-- Rows of block LANE, part 0. -/
def rowsLANE0 : List RegRow := [
  ⟨LANE_CTRL 0, 32, 0x40, 1, 0x0, .lane, fun i _ => [(.rw, .lost, LANE_CTRL_en i), (.wo, .lost, LANE_CTRL_train i), (.wo, .lost, LANE_CTRL_park i), (.rw, .lost, LANE_CTRL_loopback i)]⟩,
  ⟨LANE_STATUS 0, 32, 0x40, 1, 0x0, .nobody, fun i _ => [(.ro, .lost, LANE_STATUS_state i), (.ro, .lost, LANE_STATUS_park_cause i), (.ro, .lost, LANE_STATUS_ep_parked i), (.ro, .lost, LANE_STATUS_telem_ok i), (.ro, .lost, LANE_STATUS_phases_en i)]⟩,
  ⟨LANE_EVENTS 0, 32, 0x40, 1, 0x0, .lane, fun i _ => [(.w1c, .lost, LANE_EVENTS_trained i), (.w1c, .lost, LANE_EVENTS_train_fail i), (.w1c, .lost, LANE_EVENTS_loss i), (.w1c, .lost, LANE_EVENTS_park i), (.w1c, .lost, LANE_EVENTS_train_refused i), (.w1c, .lost, LANE_EVENTS_telem_lost i), (.w1c, .lost, LANE_EVENTS_ep_fault i), (.w1c, .lost, LANE_EVENTS_ep_id_change i)]⟩,
  ⟨LANE_TRAIN 0, 32, 0x40, 1, 0x0, .lane, fun i _ => [(.rw, .lost, LANE_TRAIN_target i), (.ro, .lost, LANE_TRAIN_fail_code i)]⟩,
  ⟨LANE_LATENCY 0, 32, 0x40, 1, 0x0, .nobody, fun i _ => [(.ro, .lost, LANE_LATENCY_rtt i), (.ro, .lost, LANE_LATENCY_eq i), (.ro, .lost, LANE_LATENCY_up_age i)]⟩,
  ⟨LANE_ERRORS 0, 32, 0x40, 1, 0x0, .nobody, fun i _ => [(.ro, .lost, LANE_ERRORS_bad_frames i), (.ro, .lost, LANE_ERRORS_bad_words i)]⟩,
  ⟨LANE_EP_ID 0, 32, 0x40, 1, 0x0, .nobody, fun i _ => [(.ro, .lost, LANE_EP_ID_id i)]⟩,
  ⟨LANE_EP_STAT 0, 32, 0x40, 1, 0x0, .nobody, fun i _ => [(.ro, .lost, LANE_EP_STAT_value i)]⟩,
  ⟨LANE_EP_VER 0, 32, 0x40, 1, 0x0, .nobody, fun i _ => [(.ro, .lost, LANE_EP_VER_value i)]⟩,
  ⟨LANE_AUX 0, 32, 0x40, 1, 0x0, .nobody, fun i _ => [(.ro, .lost, LANE_AUX_aux0 i), (.ro, .lost, LANE_AUX_aux1 i)]⟩,
  ⟨LANE_VEND_ITEM 0, 32, 0x40, 1, 0x0, .nobody, fun i _ => [(.ro, .lost, LANE_VEND_ITEM_item i), (.ro, .lost, LANE_VEND_ITEM_seq i)]⟩,
  ⟨LANE_VEND_VALUE 0, 32, 0x40, 1, 0x0, .nobody, fun i _ => [(.ro, .lost, LANE_VEND_VALUE_value i)]⟩]
/-- Rows of block LANE, part 1. -/
def rowsLANE1 : List RegRow := [
  ⟨LANE_STAGE_T 0 0, 32, 0x40, 4, 0x4, .nobody, fun i j => [(.ro, .lost, LANE_STAGE_T_t_even i j), (.ro, .lost, LANE_STAGE_T_t_odd i j)]⟩]
/-- The registers of block LANE (R434). -/
def rowsLANE : List RegRow := rowsLANE0 ++ rowsLANE1
/-- Rows of block PHU, part 0. -/
def rowsPHU0 : List RegRow := [
  ⟨PHU_CTRL 0, 256, 0x40, 1, 0x0, .phu, fun i _ => [(.rw, .lost, PHU_CTRL_en i), (.wo, .lost, PHU_CTRL_clear i), (.wo, .lost, PHU_CTRL_retry i), (.rw, .lost, PHU_CTRL_burst i), (.rw, .lost, PHU_CTRL_dest i), (.rw, .lost, PHU_CTRL_fhold_en i), (.rw, .lost, PHU_CTRL_i_len i), (.rw, .lost, PHU_CTRL_v_len i), (.rw, .lost, PHU_CTRL_fhold_shift i), (.rw, .lost, PHU_CTRL_fhold_lim i), (.rw, .lost, PHU_CTRL_toff_min i)]⟩,
  ⟨PHU_IREF 0, 256, 0x40, 1, 0x0, .phu, fun i _ => [(.rw, .lost, PHU_IREF_iref i)]⟩,
  ⟨PHU_TON_BASE 0, 256, 0x40, 1, 0x0, .phu, fun i _ => [(.rw, .lost, PHU_TON_BASE_base i), (.rw, .lost, PHU_TON_BASE_max i)]⟩,
  ⟨PHU_RIPPLE 0, 256, 0x40, 1, 0x0, .phu, fun i _ => [(.rw, .lost, PHU_RIPPLE_amp i), (.rw, .lost, PHU_RIPPLE_slope i)]⟩,
  ⟨PHU_PLEAT 0, 256, 0x40, 1, 0x0, .phu, fun i _ => [(.rw, .lost, PHU_PLEAT_angle i), (.rw, .lost, PHU_PLEAT_period i)]⟩,
  ⟨PHU_SENSE 0, 256, 0x40, 1, 0x0, .phu, fun i _ => [(.rw, .lost, PHU_SENSE_gain i), (.rw, .lost, PHU_SENSE_ofs i)]⟩,
  ⟨PHU_SHARE 0, 256, 0x40, 1, 0x0, .phu, fun i _ => [(.rw, .lost, PHU_SHARE_share i), (.rw, .lost, PHU_SHARE_vratio i)]⟩,
  ⟨PHU_FAULT 0, 256, 0x40, 1, 0x0, .phu, fun i _ => [(.rw, .lost, PHU_FAULT_rise_min i), (.rw, .lost, PHU_FAULT_dens_lo i), (.rw, .lost, PHU_FAULT_dens_hi i)]⟩,
  ⟨PHU_STAGE 0, 256, 0x40, 1, 0x0, .phu, fun i _ => [(.rw, .lost, PHU_STAGE_warn i), (.rw, .lost, PHU_STAGE_shut i), (.rw, .lost, PHU_STAGE_hyst i)]⟩,
  ⟨PHU_STATUS 0, 256, 0x40, 1, 0x0, .nobody, fun i _ => [(.ro, .lost, PHU_STATUS_enabled i), (.ro, .lost, PHU_STATUS_gate i), (.ro, .lost, PHU_STATUS_latch_open i), (.ro, .lost, PHU_STATUS_latch_sense i), (.ro, .lost, PHU_STATUS_latch_ot i), (.ro, .lost, PHU_STATUS_ot_warn i), (.ro, .lost, PHU_STATUS_sense_src i), (.ro, .lost, PHU_STATUS_locked i), (.ro, .lost, PHU_STATUS_clamp_ton i), (.ro, .lost, PHU_STATUS_clamp_toff i), (.ro, .lost, PHU_STATUS_off_cause i), (.ro, .lost, PHU_STATUS_retry_count i), (.ro, .lost, PHU_STATUS_open_run i)]⟩,
  ⟨PHU_EVENTS 0, 256, 0x40, 1, 0x0, .phu, fun i _ => [(.w1c, .lost, PHU_EVENTS_open_phase i), (.w1c, .lost, PHU_EVENTS_sense_fail i), (.w1c, .lost, PHU_EVENTS_ot_warn i), (.w1c, .lost, PHU_EVENTS_ot_warn_clear i), (.w1c, .lost, PHU_EVENTS_ot_shut i), (.w1c, .lost, PHU_EVENTS_ton_max i), (.w1c, .lost, PHU_EVENTS_toff_min i), (.w1c, .lost, PHU_EVENTS_retry_blocked i), (.w1c, .lost, PHU_EVENTS_clear_refused i), (.w1c, .lost, PHU_EVENTS_cfg_err i), (.w1c, .lost, PHU_EVENTS_pleat_lock i), (.w1c, .lost, PHU_EVENTS_pleat_slip i), (.w1c, .lost, PHU_EVENTS_en_refused i)]⟩,
  ⟨PHU_MEAS 0, 256, 0x40, 1, 0x0, .nobody, fun i _ => [(.ro, .lost, PHU_MEAS_i_avg i), (.ro, .lost, PHU_MEAS_trim i)]⟩]
/-- The registers of block PHU (R434). -/
def rowsPHU : List RegRow := rowsPHU0
/-- Rows of block CONN, part 0. -/
def rowsCONN0 : List RegRow := [
  ⟨CONN_CTRL 0, 8, 0x100, 1, 0x0, .lead, fun i _ => [(.rw, .lost, CONN_CTRL_en i), (.wo, .lost, CONN_CTRL_rinse i), (.rw, .lost, CONN_CTRL_vbus_cell i)]⟩,
  ⟨CONN_STATUS 0, 8, 0x100, 1, 0x0, .nobody, fun i _ => [(.ro, .lost, CONN_STATUS_lead i), (.ro, .lost, CONN_STATUS_v_slewing i), (.ro, .lost, CONN_STATUS_i_slewing i), (.ro, .lost, CONN_STATUS_match i), (.ro, .lost, CONN_STATUS_zero i), (.ro, .lost, CONN_STATUS_ov i), (.ro, .lost, CONN_STATUS_limited i), (.ro, .lost, CONN_STATUS_grace i), (.ro, .lost, CONN_STATUS_imd_fresh i), (.ro, .lost, CONN_STATUS_own_mismatch i), (.ro, .lost, CONN_STATUS_dcp i), (.ro, .lost, CONN_STATUS_dcn i), (.ro, .lost, CONN_STATUS_pre i), (.ro, .lost, CONN_STATUS_men i), (.ro, .lost, CONN_STATUS_rev_pol i)]⟩,
  ⟨CONN_EVENTS 0, 8, 0x100, 1, 0x0, .lead, fun i _ => [(.w1c, .lost, CONN_EVENTS_v_done i), (.w1c, .lost, CONN_EVENTS_i_done i), (.w1c, .lost, CONN_EVENTS_match i), (.w1c, .lost, CONN_EVENTS_match_lost i), (.w1c, .lost, CONN_EVENTS_zero i), (.w1c, .lost, CONN_EVENTS_ov i), (.w1c, .lost, CONN_EVENTS_reduce i), (.w1c, .lost, CONN_EVENTS_grace_expire i), (.w1c, .lost, CONN_EVENTS_grace_merge i), (.w1c, .lost, CONN_EVENTS_rinse_refused i), (.w1c, .lost, CONN_EVENTS_rev_pol i), (.w1c, .lost, CONN_EVENTS_own_mismatch i)]⟩,
  ⟨CONN_VSET 0, 8, 0x100, 1, 0x0, .lead, fun i _ => [(.rw, .lost, CONN_VSET_target i)]⟩,
  ⟨CONN_VSLEW 0, 8, 0x100, 1, 0x0, .lead, fun i _ => [(.rw, .lost, CONN_VSLEW_rate i)]⟩,
  ⟨CONN_ISET 0, 8, 0x100, 1, 0x0, .lead, fun i _ => [(.rw, .lost, CONN_ISET_target i)]⟩,
  ⟨CONN_ISLEW 0, 8, 0x100, 1, 0x0, .lead, fun i _ => [(.rw, .lost, CONN_ISLEW_up i), (.rw, .lost, CONN_ISLEW_down i)]⟩,
  ⟨CONN_VREF 0, 8, 0x100, 1, 0x0, .nobody, fun i _ => [(.ro, .lost, CONN_VREF_vref i)]⟩,
  ⟨CONN_IREF 0, 8, 0x100, 1, 0x0, .nobody, fun i _ => [(.ro, .lost, CONN_IREF_iref i)]⟩,
  ⟨CONN_ILIM 0, 8, 0x100, 1, 0x0, .lead, fun i _ => [(.rw, .lost, CONN_ILIM_limit i)]⟩,
  ⟨CONN_ILIM_REV 0, 8, 0x100, 1, 0x0, .lead, fun i _ => [(.rw, .lost, CONN_ILIM_REV_limit i)]⟩,
  ⟨CONN_ILIM_ENF 0, 8, 0x100, 1, 0x0, .nobody, fun i _ => [(.ro, .lost, CONN_ILIM_ENF_limit i)]⟩]
/-- Rows of block CONN, part 1. -/
def rowsCONN1 : List RegRow := [
  ⟨CONN_ILIM_REV_ENF 0, 8, 0x100, 1, 0x0, .nobody, fun i _ => [(.ro, .lost, CONN_ILIM_REV_ENF_limit i)]⟩,
  ⟨CONN_SUM_SHARE 0, 8, 0x100, 1, 0x0, .nobody, fun i _ => [(.ro, .lost, CONN_SUM_SHARE_s i), (.ro, .lost, CONN_SUM_SHARE_n_active i)]⟩,
  ⟨CONN_MEAS_V 0, 8, 0x100, 1, 0x0, .nobody, fun i _ => [(.ro, .lost, CONN_MEAS_V_v i)]⟩,
  ⟨CONN_MEAS_I 0, 8, 0x100, 1, 0x0, .nobody, fun i _ => [(.ro, .lost, CONN_MEAS_I_i i)]⟩,
  ⟨CONN_MEAS_VBUS 0, 8, 0x100, 1, 0x0, .nobody, fun i _ => [(.ro, .lost, CONN_MEAS_VBUS_v i)]⟩,
  ⟨CONN_MATCH_CFG 0, 8, 0x100, 1, 0x0, .lead, fun i _ => [(.rw, .lost, CONN_MATCH_CFG_tol i), (.rw, .lost, CONN_MATCH_CFG_hold i), (.rw, .lost, CONN_MATCH_CFG_i_zero i)]⟩,
  ⟨CONN_OV_LEVEL 0, 8, 0x100, 1, 0x0, .lead, fun i _ => [(.rw, .lost, CONN_OV_LEVEL_level i)]⟩,
  ⟨CONN_GRANT 0, 8, 0x100, 1, 0x0, .nobody, fun i _ => [(.ro, .lost, CONN_GRANT_cmd i), (.ro, .lost, CONN_GRANT_closed i)]⟩,
  ⟨CONN_IMD 0, 8, 0x100, 1, 0x0, .t1, fun i _ => [(.rw, .lost, CONN_IMD_r_iso i), (.rw, .lost, CONN_IMD_ok i), (.ro, .lost, CONN_IMD_age i)]⟩,
  ⟨CONN_GRACE_STAT 0, 8, 0x100, 1, 0x0, .nobody, fun i _ => [(.ro, .lost, CONN_GRACE_STAT_steps i), (.ro, .lost, CONN_GRACE_STAT_next_ms i)]⟩,
  ⟨CONN_TAP_CFG 0, 8, 0x100, 1, 0x0, .lead, fun i _ => [(.rw, .lost, CONN_TAP_CFG_i_fs i), (.rw, .lost, CONN_TAP_CFG_v_fs i)]⟩,
  ⟨CONN_COUNTS 0, 8, 0x100, 1, 0x0, .nobody, fun i _ => [(.ro, .lost, CONN_COUNTS_sessions i), (.ro, .lost, CONN_COUNTS_reductions i), (.ro, .lost, CONN_COUNTS_merges i)]⟩]
/-- Rows of block CONN, part 2. -/
def rowsCONN2 : List RegRow := [
  ⟨CONN_OWN 0 0, 8, 0x100, 8, 0x4, .nobody, fun i j => [(.ro, .lost, CONN_OWN_own i j)]⟩,
  ⟨CONN_GRACE_STEP 0 0, 8, 0x100, 8, 0x4, .nobody, fun i j => [(.ro, .lost, CONN_GRACE_STEP_value i j)]⟩]
/-- The registers of block CONN (R434). -/
def rowsCONN : List RegRow := rowsCONN0 ++ rowsCONN1 ++ rowsCONN2
/-- Rows of block MTX, part 0. -/
def rowsMTX0 : List RegRow := [
  ⟨MTX_COIL_CMD 0, 128, 0x4, 1, 0x0, .coil, fun i _ => [(.rw, .lost, MTX_COIL_CMD_cmd i), (.rw, .lost, MTX_COIL_CMD_pull i), (.rw, .lost, MTX_COIL_CMD_hold i), (.rw, .lost, MTX_COIL_CMD_fb_mode i)]⟩,
  ⟨MTX_COIL_STAT 0, 128, 0x4, 1, 0x0, .coil, fun i _ => [(.ro, .lost, MTX_COIL_STAT_on i), (.ro, .lost, MTX_COIL_STAT_fb_closed i), (.ro, .lost, MTX_COIL_STAT_mismatch i), (.ro, .lost, MTX_COIL_STAT_men i), (.ro, .lost, MTX_COIL_STAT_pulling i), (.w1c, .lost, MTX_COIL_STAT_fail_close i), (.w1c, .lost, MTX_COIL_STAT_fail_open i), (.w1c, .lost, MTX_COIL_STAT_refused i), (.w1c, .lost, MTX_COIL_STAT_hot i), (.w1c, .lost, MTX_COIL_STAT_coil_open i), (.ro, .lost, MTX_COIL_STAT_ops i)]⟩,
  ⟨MTX_PORT_LIM 0, 4, 0x4, 1, 0x0, .portLead, fun i _ => [(.rw, .lost, MTX_PORT_LIM_fwd i), (.rw, .lost, MTX_PORT_LIM_rev i)]⟩,
  ⟨MTX_PORT_ENF 0, 4, 0x4, 1, 0x0, .nobody, fun i _ => [(.ro, .lost, MTX_PORT_ENF_fwd i), (.ro, .lost, MTX_PORT_ENF_rev i)]⟩]
/-- The registers of block MTX (R434). -/
def rowsMTX : List RegRow := rowsMTX0
/-- Rows of block BUF, part 0. -/
def rowsBUF0 : List RegRow := [
  ⟨BUF_PORT_CTRL 0, 4, 0x20, 1, 0x0, .t6, fun i _ => [(.rw, .lost, BUF_PORT_CTRL_en i), (.wo, .lost, BUF_PORT_CTRL_zero i)]⟩,
  ⟨BUF_PORT_TAP_CFG 0, 4, 0x20, 1, 0x0, .t6, fun i _ => [(.rw, .lost, BUF_PORT_TAP_CFG_i_fs i), (.rw, .lost, BUF_PORT_TAP_CFG_v_fs i)]⟩,
  ⟨BUF_PORT_V 0, 4, 0x20, 1, 0x0, .nobody, fun i _ => [(.ro, .lost, BUF_PORT_V_v i)]⟩,
  ⟨BUF_PORT_I 0, 4, 0x20, 1, 0x0, .nobody, fun i _ => [(.ro, .lost, BUF_PORT_I_i i)]⟩,
  ⟨BUF_PORT_QIN 0, 4, 0x20, 1, 0x0, .nobody, fun i _ => [(.ro, .lost, BUF_PORT_QIN_q i)]⟩,
  ⟨BUF_PORT_QOUT 0, 4, 0x20, 1, 0x0, .nobody, fun i _ => [(.ro, .lost, BUF_PORT_QOUT_q i)]⟩,
  ⟨BUF_PORT_AVAIL 0, 4, 0x20, 1, 0x0, .t6, fun i _ => [(.rw, .lost, BUF_PORT_AVAIL_dis i), (.rw, .lost, BUF_PORT_AVAIL_chg i)]⟩,
  ⟨BUF_PORT_FLAGS 0, 4, 0x20, 1, 0x0, .t6, fun i _ => [(.rw, .lost, BUF_PORT_FLAGS_connected i), (.rw, .lost, BUF_PORT_FLAGS_auth i), (.rw, .lost, BUF_PORT_FLAGS_empty i), (.rw, .lost, BUF_PORT_FLAGS_full i), (.rw, .lost, BUF_PORT_FLAGS_learning i), (.rw, .lost, BUF_PORT_FLAGS_count_mismatch i)]⟩,
  ⟨BUF_STR_SOC 0, 16, 0x10, 1, 0x0, .t6, fun i _ => [(.rw, .lost, BUF_STR_SOC_soc i), (.rw, .lost, BUF_STR_SOC_soh i)]⟩,
  ⟨BUF_STR_CAP 0, 16, 0x10, 1, 0x0, .t6, fun i _ => [(.rw, .lost, BUF_STR_CAP_cap i)]⟩,
  ⟨BUF_STR_QREM 0, 16, 0x10, 1, 0x0, .t6, fun i _ => [(.rw, .lost, BUF_STR_QREM_q i)]⟩,
  ⟨BUF_STR_STAT 0, 16, 0x10, 1, 0x0, .t6, fun i _ => [(.rw, .lost, BUF_STR_STAT_auth i), (.rw, .lost, BUF_STR_STAT_suspect i), (.rw, .lost, BUF_STR_STAT_uncertain i), (.rw, .lost, BUF_STR_STAT_stale i), (.rw, .lost, BUF_STR_STAT_fast i), (.rw, .lost, BUF_STR_STAT_floor i), (.rw, .lost, BUF_STR_STAT_ceiling i), (.rw, .lost, BUF_STR_STAT_empty i), (.rw, .lost, BUF_STR_STAT_full i), (.rw, .lost, BUF_STR_STAT_learning i), (.rw, .lost, BUF_STR_STAT_learned i), (.rw, .lost, BUF_STR_STAT_learn_count i), (.rw, .lost, BUF_STR_STAT_auth_fails i)]⟩]
/-- The registers of block BUF (R434). -/
def rowsBUF : List RegRow := rowsBUF0
/-- Rows of block SESS, part 0. -/
def rowsSESS0 : List RegRow := [
  ⟨SESS_CTRL 0, 8, 0x40, 1, 0x0, .t1, fun i _ => [(.rw, .lost, SESS_CTRL_en i), (.rw, .lost, SESS_CTRL_src_en i), (.rw, .lost, SESS_CTRL_t1s_en i), (.rw, .lost, SESS_CTRL_plca_en i), (.wo, .lost, SESS_CTRL_lock_pulse i), (.wo, .lost, SESS_CTRL_unlock_pulse i)]⟩,
  ⟨SESS_STATUS 0, 8, 0x40, 1, 0x0, .t1, fun i _ => [(.rw, .lost, SESS_STATUS_state i), (.ro, .lost, SESS_STATUS_cpl_band i), (.ro, .lost, SESS_STATUS_prx_band i), (.ro, .lost, SESS_STATUS_locked i), (.ro, .lost, SESS_STATUS_link i), (.rw, .lost, SESS_STATUS_tls i)]⟩,
  ⟨SESS_EVENTS 0, 8, 0x40, 1, 0x0, .t1, fun i _ => [(.w1c, .lost, SESS_EVENTS_cpl_change i), (.w1c, .lost, SESS_EVENTS_prx_change i), (.w1c, .lost, SESS_EVENTS_lock_change i), (.w1c, .lost, SESS_EVENTS_link_up i), (.w1c, .lost, SESS_EVENTS_link_down i), (.w1c, .lost, SESS_EVENTS_lock_timeout i)]⟩,
  ⟨SESS_CPL_MEAS 0, 8, 0x40, 1, 0x0, .nobody, fun i _ => [(.ro, .lost, SESS_CPL_MEAS_v i)]⟩,
  ⟨SESS_PRX_MEAS 0, 8, 0x40, 1, 0x0, .nobody, fun i _ => [(.ro, .lost, SESS_PRX_MEAS_v i)]⟩,
  ⟨SESS_CPL_CFG 0, 8, 0x40, 1, 0x0, .t1, fun i _ => [(.rw, .lost, SESS_CPL_CFG_th0 i), (.rw, .lost, SESS_CPL_CFG_th1 i), (.rw, .lost, SESS_CPL_CFG_th2 i), (.rw, .lost, SESS_CPL_CFG_th3 i)]⟩,
  ⟨SESS_PRX_CFG 0, 8, 0x40, 1, 0x0, .t1, fun i _ => [(.rw, .lost, SESS_PRX_CFG_th0 i), (.rw, .lost, SESS_PRX_CFG_th1 i), (.rw, .lost, SESS_PRX_CFG_th2 i), (.rw, .lost, SESS_PRX_CFG_th3 i)]⟩,
  ⟨SESS_LOCK_CFG 0, 8, 0x40, 1, 0x0, .t1, fun i _ => [(.rw, .lost, SESS_LOCK_CFG_gp_lock i), (.rw, .lost, SESS_LOCK_CFG_gp_unlock i), (.rw, .lost, SESS_LOCK_CFG_gp_fb i), (.rw, .lost, SESS_LOCK_CFG_pulse i), (.rw, .lost, SESS_LOCK_CFG_fb_pol i)]⟩,
  ⟨SESS_T1S_STAT 0, 8, 0x40, 1, 0x0, .nobody, fun i _ => [(.ro, .lost, SESS_T1S_STAT_crc_errors i), (.ro, .lost, SESS_T1S_STAT_link_drops i)]⟩,
  ⟨SESS_OFFER 0, 8, 0x40, 1, 0x0, .t1, fun i _ => [(.rw, .lost, SESS_OFFER_i_offer i), (.rw, .lost, SESS_OFFER_p_offer i)]⟩,
  ⟨SESS_SESSION 0, 8, 0x40, 1, 0x0, .t1, fun i _ => [(.rw, .lost, SESS_SESSION_seq i), (.rw, .lost, SESS_SESSION_msg i)]⟩,
  ⟨SESS_COUNTS 0, 8, 0x40, 1, 0x0, .t1, fun i _ => [(.rw, .lost, SESS_COUNTS_ended_ok i), (.rw, .lost, SESS_COUNTS_dups i), (.rw, .lost, SESS_COUNTS_aborted i)]⟩]
/-- The registers of block SESS (R434). -/
def rowsSESS : List RegRow := rowsSESS0
/-- Rows of block COOL, part 0. -/
def rowsCOOL0 : List RegRow := [
  ⟨COOL_TS 0, 64, 0x4, 1, 0x0, .t5, fun i _ => [(.ro, .lost, COOL_TS_value i), (.rw, .lost, COOL_TS_kind i), (.ro, .lost, COOL_TS_open i), (.ro, .lost, COOL_TS_short i), (.ro, .lost, COOL_TS_seq i)]⟩,
  ⟨COOL_AI 0, 16, 0x4, 1, 0x0, .t5, fun i _ => [(.ro, .lost, COOL_AI_value i), (.rw, .lost, COOL_AI_mode i), (.ro, .lost, COOL_AI_under i), (.ro, .lost, COOL_AI_over i)]⟩,
  ⟨COOL_AO 0, 8, 0x4, 1, 0x0, .t5, fun i _ => [(.rw, .lost, COOL_AO_set i), (.ro, .lost, COOL_AO_fault i)]⟩,
  ⟨COOL_FQ 0, 8, 0x4, 1, 0x0, .nobody, fun i _ => [(.ro, .lost, COOL_FQ_freq i), (.ro, .lost, COOL_FQ_count i)]⟩,
  ⟨COOL_CT_CFG 0, 8, 0x18, 1, 0x0, .t5, fun i _ => [(.rw, .lost, COOL_CT_CFG_type i), (.rw, .lost, COOL_CT_CFG_boost_en i), (.rw, .lost, COOL_CT_CFG_budget_max i)]⟩,
  ⟨COOL_CT_STAT 0, 8, 0x18, 1, 0x0, .t5, fun i _ => [(.rw, .lost, COOL_CT_STAT_ct_level i), (.rw, .lost, COOL_CT_STAT_cd_level i), (.rw, .lost, COOL_CT_STAT_latch i), (.rw, .lost, COOL_CT_STAT_boost i), (.rw, .lost, COOL_CT_STAT_failed i), (.rw, .lost, COOL_CT_STAT_cause i), (.rw, .lost, COOL_CT_STAT_throttle i), (.rw, .lost, COOL_CT_STAT_budget i)]⟩,
  ⟨COOL_CT_TEMP 0, 8, 0x18, 1, 0x0, .t5, fun i _ => [(.rw, .lost, COOL_CT_TEMP_hot_cd i), (.rw, .lost, COOL_CT_TEMP_hot_ct i)]⟩,
  ⟨COOL_CT_MODEL 0, 8, 0x18, 1, 0x0, .t5, fun i _ => [(.rw, .lost, COOL_CT_MODEL_ta i), (.rw, .lost, COOL_CT_MODEL_tb i)]⟩,
  ⟨COOL_CT_FCST 0, 8, 0x18, 1, 0x0, .t5, fun i _ => [(.rw, .lost, COOL_CT_FCST_t_peak i), (.rw, .lost, COOL_CT_FCST_i_fcst i)]⟩,
  ⟨COOL_CT_LIMIT 0, 8, 0x18, 1, 0x0, .t5, fun i _ => [(.rw, .lost, COOL_CT_LIMIT_sent i), (.rw, .lost, COOL_CT_LIMIT_thr i)]⟩,
  ⟨COOL_LOOP_CFG 0, 4, 0x10, 1, 0x0, .t5, fun i _ => [(.rw, .lost, COOL_LOOP_CFG_ls_pump i), (.rw, .lost, COOL_LOOP_CFG_ls_fan i), (.rw, .lost, COOL_LOOP_CFG_ls_valve_a i), (.rw, .lost, COOL_LOOP_CFG_ls_valve_b i), (.rw, .lost, COOL_LOOP_CFG_ls_heat_a i), (.rw, .lost, COOL_LOOP_CFG_ls_heat_b i), (.rw, .lost, COOL_LOOP_CFG_pump_ls i)]⟩,
  ⟨COOL_LOOP_CTRL 0, 4, 0x10, 1, 0x0, .t5, fun i _ => [(.rw, .lost, COOL_LOOP_CTRL_pump i), (.rw, .lost, COOL_LOOP_CTRL_valve_a i), (.rw, .lost, COOL_LOOP_CTRL_valve_b i), (.rw, .lost, COOL_LOOP_CTRL_fan i), (.rw, .lost, COOL_LOOP_CTRL_heat_a i), (.rw, .lost, COOL_LOOP_CTRL_heat_b i), (.rw, .lost, COOL_LOOP_CTRL_speed i), (.rw, .lost, COOL_LOOP_CTRL_runon i)]⟩]
/-- Rows of block COOL, part 1. -/
def rowsCOOL1 : List RegRow := [
  ⟨COOL_LOOP_STAT 0, 4, 0x10, 1, 0x0, .t5, fun i _ => [(.rw, .lost, COOL_LOOP_STAT_flow i), (.rw, .lost, COOL_LOOP_STAT_press i), (.rw, .lost, COOL_LOOP_STAT_flow_low i), (.rw, .lost, COOL_LOOP_STAT_press_low i), (.rw, .lost, COOL_LOOP_STAT_leak i), (.rw, .lost, COOL_LOOP_STAT_dew_risk i)]⟩,
  ⟨COOL_LOOP_TEMP 0, 4, 0x10, 1, 0x0, .t5, fun i _ => [(.rw, .lost, COOL_LOOP_TEMP_ts i), (.rw, .lost, COOL_LOOP_TEMP_dew i)]⟩]
/-- The registers of block COOL (R434). -/
def rowsCOOL : List RegRow := rowsCOOL0 ++ rowsCOOL1
/-- Rows of block LSW, part 0. -/
def rowsLSW0 : List RegRow := [
  ⟨LSW_CTRL 0, 32, 0x20, 1, 0x0, .lsw, fun i _ => [(.rw, .kept, LSW_CTRL_cmd i), (.wo, .lost, LSW_CTRL_retry i), (.wo, .lost, LSW_CTRL_clear i), (.wo, .lost, LSW_CTRL_latch i)]⟩,
  ⟨LSW_CFG 0, 32, 0x20, 1, 0x0, .lsw, fun i _ => [(.rw, .kept, LSW_CFG_inrush i), (.rw, .kept, LSW_CFG_ol_th i), (.rw, .kept, LSW_CFG_shed_prio i), (.rw, .kept, LSW_CFG_retry_max i)]⟩,
  ⟨LSW_STATUS 0, 32, 0x20, 1, 0x0, .nobody, fun i _ => [(.ro, .kept, LSW_STATUS_out i), (.ro, .lost, LSW_STATUS_inrush i), (.ro, .kept, LSW_STATUS_tripped i), (.ro, .kept, LSW_STATUS_latched i), (.ro, .kept, LSW_STATUS_latch_cause i), (.ro, .kept, LSW_STATUS_estop_off i), (.ro, .kept, LSW_STATUS_uv_off i), (.ro, .lost, LSW_STATUS_open_load i), (.ro, .lost, LSW_STATUS_overload i), (.ro, .lost, LSW_STATUS_hold i), (.ro, .kept, LSW_STATUS_retry_count i)]⟩,
  ⟨LSW_EVENTS 0, 32, 0x20, 1, 0x0, .lsw, fun i _ => [(.w1c, .lost, LSW_EVENTS_trip i), (.w1c, .lost, LSW_EVENTS_retry_blocked i), (.w1c, .lost, LSW_EVENTS_retry_early i), (.w1c, .lost, LSW_EVENTS_clear_refused i), (.w1c, .lost, LSW_EVENTS_open_load i), (.w1c, .lost, LSW_EVENTS_overload i), (.w1c, .lost, LSW_EVENTS_shed i), (.w1c, .lost, LSW_EVENTS_uv_off i), (.w1c, .lost, LSW_EVENTS_uv_restart i), (.w1c, .lost, LSW_EVENTS_estop_off i)]⟩,
  ⟨LSW_SENSE 0, 32, 0x20, 1, 0x0, .nobody, fun i _ => [(.ro, .lost, LSW_SENSE_i i), (.ro, .lost, LSW_SENSE_seq i)]⟩,
  ⟨LSW_COUNTS 0, 32, 0x20, 1, 0x0, .nobody, fun i _ => [(.ro, .kept, LSW_COUNTS_trips i), (.ro, .kept, LSW_COUNTS_uv_offs i), (.ro, .kept, LSW_COUNTS_sheds i)]⟩,
  ⟨LSW_GROUP_CFG 0, 4, 0x4, 1, 0x0, .lsw, fun i _ => [(.rw, .kept, LSW_GROUP_CFG_shed_t i), (.rw, .kept, LSW_GROUP_CFG_hyst i)]⟩,
  ⟨LSW_GROUP_STAT 0, 4, 0x4, 1, 0x0, .nobody, fun i _ => [(.ro, .lost, LSW_GROUP_STAT_temp i), (.ro, .lost, LSW_GROUP_STAT_over i), (.ro, .kept, LSW_GROUP_STAT_steps i)]⟩,
  ⟨LSW_RAIL_STAT 0, 2, 0x4, 1, 0x0, .nobody, fun i _ => [(.ro, .kept, LSW_RAIL_STAT_uv i), (.ro, .lost, LSW_RAIL_STAT_restarting i), (.ro, .kept, LSW_RAIL_STAT_uv_count i)]⟩,
  ⟨LSW_ESTOP_MASK, 1, 0x0, 1, 0x0, .t7, fun _ _ => [(.rw, .kept, LSW_ESTOP_MASK_mask)]⟩,
  ⟨LSW_SENSE_SEL, 1, 0x0, 1, 0x0, .lsw, fun _ _ => [(.rw, .lost, LSW_SENSE_SEL_ch), (.rw, .lost, LSW_SENSE_SEL_en)]⟩,
  ⟨LSW_HOLD_STAT, 1, 0x0, 1, 0x0, .t7, fun _ _ => [(.ro, .lost, LSW_HOLD_STAT_hold), (.wo, .lost, LSW_HOLD_STAT_adopt), (.w1c, .lost, LSW_HOLD_STAT_lost)]⟩]
/-- Rows of block LSW, part 1. -/
def rowsLSW1 : List RegRow := [
  ⟨LSW_ON_MAP, 1, 0x0, 1, 0x0, .nobody, fun _ _ => [(.ro, .kept, LSW_ON_MAP_map)]⟩,
  ⟨LSW_TRIP_MAP, 1, 0x0, 1, 0x0, .nobody, fun _ _ => [(.ro, .kept, LSW_TRIP_MAP_map)]⟩,
  ⟨LSW_LATCH_MAP, 1, 0x0, 1, 0x0, .nobody, fun _ _ => [(.ro, .kept, LSW_LATCH_MAP_map)]⟩,
  ⟨LSW_SHED_LOG 0, 16, 0x4, 1, 0x0, .nobody, fun i _ => [(.ro, .kept, LSW_SHED_LOG_ch i), (.ro, .kept, LSW_SHED_LOG_faulted i), (.ro, .kept, LSW_SHED_LOG_temp i), (.ro, .kept, LSW_SHED_LOG_seq i)]⟩,
  ⟨LSW_HELD 0, 32, 0x4, 1, 0x0, .nobody, fun i _ => [(.ro, .kept, LSW_HELD_cmd i), (.ro, .kept, LSW_HELD_out i), (.ro, .kept, LSW_HELD_tripped i), (.ro, .kept, LSW_HELD_latched i), (.ro, .kept, LSW_HELD_estop_off i)]⟩]
/-- The registers of block LSW (R434). -/
def rowsLSW : List RegRow := rowsLSW0 ++ rowsLSW1
/-- Rows of block MET, part 0. -/
def rowsMET0 : List RegRow := [
  ⟨MET_CTRL, 1, 0x0, 1, 0x0, .t4, fun _ _ => [(.rw, .lost, MET_CTRL_run), (.wo, .lost, MET_CTRL_cut), (.rw, .lost, MET_CTRL_cal_lock), (.wo, .lost, MET_CTRL_ack)]⟩,
  ⟨MET_STATUS, 1, 0x0, 1, 0x0, .nobody, fun _ _ => [(.ro, .lost, MET_STATUS_running), (.ro, .lost, MET_STATUS_cal_locked), (.ro, .lost, MET_STATUS_cut_pending), (.ro, .lost, MET_STATUS_half), (.ro, .lost, MET_STATUS_unacked), (.ro, .lost, MET_STATUS_samples)]⟩,
  ⟨MET_EVENTS, 1, 0x0, 1, 0x0, .t4, fun _ _ => [(.w1c, .lost, MET_EVENTS_block_done), (.w1c, .lost, MET_EVENTS_ch_fail), (.w1c, .lost, MET_EVENTS_ch_back), (.w1c, .lost, MET_EVENTS_overwrite), (.w1c, .lost, MET_EVENTS_release), (.w1c, .lost, MET_EVENTS_seq_change), (.w1c, .lost, MET_EVENTS_neutral), (.w1c, .lost, MET_EVENTS_v_absent), (.w1c, .lost, MET_EVENTS_harm_done), (.w1c, .lost, MET_EVENTS_cal_write)]⟩,
  ⟨MET_BLOCK_LO, 1, 0x0, 1, 0x0, .nobody, fun _ _ => [(.ro, .lost, MET_BLOCK_LO_block)]⟩,
  ⟨MET_BLOCK_HI, 1, 0x0, 1, 0x0, .nobody, fun _ _ => [(.ro, .lost, MET_BLOCK_HI_block)]⟩,
  ⟨MET_SEG_ADDR, 1, 0x0, 1, 0x0, .t4, fun _ _ => [(.rw, .lost, MET_SEG_ADDR_index), (.rw, .lost, MET_SEG_ADDR_inc)]⟩,
  ⟨MET_SEG_DATA, 1, 0x0, 1, 0x0, .t4Locked, fun _ _ => [(.rw, .lost, MET_SEG_DATA_data)]⟩,
  ⟨MET_NOMINAL, 1, 0x0, 1, 0x0, .t4Locked, fun _ _ => [(.rw, .lost, MET_NOMINAL_f_nom), (.rw, .lost, MET_NOMINAL_dens_lo), (.rw, .lost, MET_NOMINAL_dens_hi)]⟩,
  ⟨MET_INTAKE_STAT 0, 2, 0x4, 1, 0x0, .nobody, fun i _ => [(.ro, .lost, MET_INTAKE_STAT_freq i), (.ro, .lost, MET_INTAKE_STAT_seq_ok i), (.ro, .lost, MET_INTAKE_STAT_seq_wrong i), (.ro, .lost, MET_INTAKE_STAT_missing_n i), (.ro, .lost, MET_INTAKE_STAT_v_absent i), (.ro, .lost, MET_INTAKE_STAT_harm_valid i)]⟩,
  ⟨MET_MCK_CFG 0, 6, 0x4, 1, 0x0, .t4Locked, fun i _ => [(.rw, .lost, MET_MCK_CFG_en i), (.rw, .lost, MET_MCK_CFG_inv i), (.rw, .lost, MET_MCK_CFG_cap_dly i)]⟩,
  ⟨MET_MEN 0, 8, 0x4, 1, 0x0, .t4, fun i _ => [(.rw, .lost, MET_MEN_en i), (.ro, .lost, MET_MEN_fb_p i), (.ro, .lost, MET_MEN_fb_n i), (.ro, .lost, MET_MEN_releases i)]⟩,
  ⟨MET_CH_CFG 0, 48, 0x4, 1, 0x0, .t4Locked, fun i _ => [(.rw, .lost, MET_CH_CFG_used i), (.rw, .lost, MET_CH_CFG_ac i), (.rw, .lost, MET_CH_CFG_current i), (.rw, .lost, MET_CH_CFG_fs i)]⟩]
/-- Rows of block MET, part 1. -/
def rowsMET1 : List RegRow := [
  ⟨MET_CH_GAIN 0, 48, 0x4, 1, 0x0, .t4Locked, fun i _ => [(.rw, .lost, MET_CH_GAIN_gain i)]⟩,
  ⟨MET_CH_OFS 0, 48, 0x4, 1, 0x0, .t4Locked, fun i _ => [(.rw, .lost, MET_CH_OFS_ofs i)]⟩,
  ⟨MET_CH_STAT 0, 48, 0x4, 1, 0x0, .nobody, fun i _ => [(.ro, .lost, MET_CH_STAT_stuck i), (.ro, .lost, MET_CH_STAT_dens_out i), (.ro, .lost, MET_CH_STAT_failed i), (.ro, .lost, MET_CH_STAT_clipped i), (.ro, .lost, MET_CH_STAT_boot_fail i), (.ro, .lost, MET_CH_STAT_fails i)]⟩,
  ⟨MET_CH_LEVEL 0, 48, 0x4, 1, 0x0, .nobody, fun i _ => [(.ro, .lost, MET_CH_LEVEL_level i), (.ro, .lost, MET_CH_LEVEL_peak i)]⟩,
  ⟨MET_EL_CFG 0, 22, 0x4, 1, 0x0, .t4Locked, fun i _ => [(.rw, .lost, MET_EL_CFG_en i), (.rw, .lost, MET_EL_CFG_invert i), (.ro, .lost, MET_EL_CFG_dc i), (.rw, .lost, MET_EL_CFG_v_nom i)]⟩,
  ⟨MET_EL_OFS 0, 22, 0x4, 1, 0x0, .t4Locked, fun i _ => [(.rw, .lost, MET_EL_OFS_p_ofs i), (.rw, .lost, MET_EL_OFS_q_ofs i)]⟩,
  ⟨MET_EL_STAT 0, 22, 0x4, 1, 0x0, .nobody, fun i _ => [(.ro, .lost, MET_EL_STAT_fail i), (.ro, .lost, MET_EL_STAT_clipped i), (.ro, .lost, MET_EL_STAT_v_absent i), (.ro, .lost, MET_EL_STAT_import i)]⟩,
  ⟨MET_EL_SEG 0, 22, 0x4, 1, 0x0, .t4Locked, fun i _ => [(.rw, .lost, MET_EL_SEG_points i)]⟩]
/-- The registers of block MET (R434). -/
def rowsMET : List RegRow := rowsMET0 ++ rowsMET1
/-- Rows of block BILL, part 0. -/
def rowsBILL0 : List RegRow := [
  ⟨BILL_CTRL, 1, 0x0, 1, 0x0, .t4, fun _ _ => [(.rw, .lost, BILL_CTRL_run), (.rw, .lost, BILL_CTRL_final)]⟩,
  ⟨BILL_STATUS, 1, 0x0, 1, 0x0, .t4, fun _ _ => [(.rw, .lost, BILL_STATUS_replay), (.rw, .lost, BILL_STATUS_sealed), (.rw, .lost, BILL_STATUS_default), (.rw, .lost, BILL_STATUS_ring_low), (.rw, .lost, BILL_STATUS_flush_missing), (.rw, .lost, BILL_STATUS_rate), (.rw, .lost, BILL_STATUS_epoch)]⟩,
  ⟨BILL_EVENTS, 1, 0x0, 1, 0x0, .t4, fun _ _ => [(.w1c, .lost, BILL_EVENTS_interval), (.w1c, .lost, BILL_EVENTS_period), (.w1c, .lost, BILL_EVENTS_tariff), (.w1c, .lost, BILL_EVENTS_adjust), (.w1c, .lost, BILL_EVENTS_replay_end), (.w1c, .lost, BILL_EVENTS_credit), (.w1c, .lost, BILL_EVENTS_relay), (.w1c, .lost, BILL_EVENTS_excluded)]⟩,
  ⟨BILL_TARIFF, 1, 0x0, 1, 0x0, .t4, fun _ _ => [(.rw, .lost, BILL_TARIFF_id)]⟩,
  ⟨BILL_LT_LO, 1, 0x0, 1, 0x0, .t4, fun _ _ => [(.rw, .lost, BILL_LT_LO_lt)]⟩,
  ⟨BILL_LT_HI, 1, 0x0, 1, 0x0, .t4, fun _ _ => [(.rw, .lost, BILL_LT_HI_lt)]⟩,
  ⟨BILL_HWM_LO, 1, 0x0, 1, 0x0, .t4, fun _ _ => [(.rw, .lost, BILL_HWM_LO_hwm)]⟩,
  ⟨BILL_HWM_HI, 1, 0x0, 1, 0x0, .t4, fun _ _ => [(.rw, .lost, BILL_HWM_HI_hwm)]⟩,
  ⟨BILL_ADJ_STAT, 1, 0x0, 1, 0x0, .t4, fun _ _ => [(.rw, .lost, BILL_ADJ_STAT_total), (.rw, .lost, BILL_ADJ_STAT_large)]⟩,
  ⟨BILL_OFFSETS, 1, 0x0, 1, 0x0, .t4, fun _ _ => [(.rw, .lost, BILL_OFFSETS_utc_ofs), (.rw, .lost, BILL_OFFSETS_zone)]⟩,
  ⟨BILL_PERIODS, 1, 0x0, 1, 0x0, .t4, fun _ _ => [(.rw, .lost, BILL_PERIODS_di_len), (.rw, .lost, BILL_PERIODS_di_seq), (.rw, .lost, BILL_PERIODS_bp_seq)]⟩,
  ⟨BILL_RSEQ_LO, 1, 0x0, 1, 0x0, .t4, fun _ _ => [(.rw, .lost, BILL_RSEQ_LO_rseq)]⟩]
/-- Rows of block BILL, part 1. -/
def rowsBILL1 : List RegRow := [
  ⟨BILL_RSEQ_HI, 1, 0x0, 1, 0x0, .t4, fun _ _ => [(.rw, .lost, BILL_RSEQ_HI_rseq)]⟩,
  ⟨BILL_DISP_CTRL, 1, 0x0, 1, 0x0, .t4, fun _ _ => [(.rw, .lost, BILL_DISP_CTRL_en)]⟩,
  ⟨BILL_PENDING, 1, 0x0, 1, 0x0, .t4, fun _ _ => [(.rw, .lost, BILL_PENDING_id)]⟩,
  ⟨BILL_TX_NO 0, 8, 0x4, 1, 0x0, .t4, fun i _ => [(.rw, .lost, BILL_TX_NO_number i)]⟩,
  ⟨BILL_TX_STAT 0, 8, 0x4, 1, 0x0, .t4, fun i _ => [(.rw, .lost, BILL_TX_STAT_open i), (.rw, .lost, BILL_TX_STAT_prepay i), (.rw, .lost, BILL_TX_STAT_exhausted i), (.rw, .lost, BILL_TX_STAT_excluded i), (.rw, .lost, BILL_TX_STAT_blocked i), (.rw, .lost, BILL_TX_STAT_men i), (.rw, .lost, BILL_TX_STAT_replay i)]⟩,
  ⟨BILL_CREDIT 0, 8, 0x4, 1, 0x0, .t4, fun i _ => [(.rw, .lost, BILL_CREDIT_remaining i)]⟩,
  ⟨BILL_TX_ENERGY 0, 8, 0x4, 1, 0x0, .t4, fun i _ => [(.rw, .lost, BILL_TX_ENERGY_import i)]⟩,
  ⟨BILL_DISP_STAT 0, 8, 0x4, 1, 0x0, .t4, fun i _ => [(.rw, .lost, BILL_DISP_STAT_item i), (.rw, .lost, BILL_DISP_STAT_manual i), (.rw, .lost, BILL_DISP_STAT_frames i)]⟩,
  ⟨BILL_DEMAND 0, 4, 0x4, 1, 0x0, .t4, fun i _ => [(.rw, .lost, BILL_DEMAND_w i)]⟩,
  ⟨BILL_MAXDEM 0, 4, 0x4, 1, 0x0, .t4, fun i _ => [(.rw, .lost, BILL_MAXDEM_w i)]⟩]
/-- The registers of block BILL (R434). -/
def rowsBILL : List RegRow := rowsBILL0 ++ rowsBILL1
/-- Rows of block NET, part 0. -/
def rowsNET0 : List RegRow := [
  ⟨NET_ETH_CTRL 0, 6, 0x40, 1, 0x0, .eth, fun i _ => [(.rw, .lost, NET_ETH_CTRL_en i), (.rw, .lost, NET_ETH_CTRL_t1_master i), (.rw, .lost, NET_ETH_CTRL_promisc i), (.rw, .lost, NET_ETH_CTRL_ts_en i)]⟩,
  ⟨NET_ETH_STATUS 0, 6, 0x40, 1, 0x0, .nobody, fun i _ => [(.ro, .lost, NET_ETH_STATUS_link i), (.ro, .lost, NET_ETH_STATUS_speed i)]⟩,
  ⟨NET_ETH_EVENTS 0, 6, 0x40, 1, 0x0, .eth, fun i _ => [(.w1c, .lost, NET_ETH_EVENTS_rx i), (.w1c, .lost, NET_ETH_EVENTS_tx i), (.w1c, .lost, NET_ETH_EVENTS_link_change i), (.w1c, .lost, NET_ETH_EVENTS_discarded i)]⟩,
  ⟨NET_ETH_MAC_LO 0, 6, 0x40, 1, 0x0, .eth, fun i _ => [(.rw, .lost, NET_ETH_MAC_LO_mac i)]⟩,
  ⟨NET_ETH_MAC_HI 0, 6, 0x40, 1, 0x0, .eth, fun i _ => [(.rw, .lost, NET_ETH_MAC_HI_mac i)]⟩,
  ⟨NET_ETH_HASH_LO 0, 6, 0x40, 1, 0x0, .eth, fun i _ => [(.rw, .lost, NET_ETH_HASH_LO_hash i)]⟩,
  ⟨NET_ETH_HASH_HI 0, 6, 0x40, 1, 0x0, .eth, fun i _ => [(.rw, .lost, NET_ETH_HASH_HI_hash i)]⟩,
  ⟨NET_ETH_RX_RING 0, 6, 0x40, 1, 0x0, .eth, fun i _ => [(.rw, .lost, NET_ETH_RX_RING_base i), (.rw, .lost, NET_ETH_RX_RING_size i)]⟩,
  ⟨NET_ETH_RX_IDX 0, 6, 0x40, 1, 0x0, .eth, fun i _ => [(.rw, .lost, NET_ETH_RX_IDX_sw i), (.ro, .lost, NET_ETH_RX_IDX_hw i)]⟩,
  ⟨NET_ETH_TX_RING 0, 6, 0x40, 1, 0x0, .eth, fun i _ => [(.rw, .lost, NET_ETH_TX_RING_base i), (.rw, .lost, NET_ETH_TX_RING_size i)]⟩,
  ⟨NET_ETH_TX_IDX 0, 6, 0x40, 1, 0x0, .eth, fun i _ => [(.rw, .lost, NET_ETH_TX_IDX_sw i), (.ro, .lost, NET_ETH_TX_IDX_hw i)]⟩,
  ⟨NET_ETH_STATS 0 0, 6, 0x40, 5, 0x4, .nobody, fun i j => [(.ro, .lost, NET_ETH_STATS_count i j)]⟩]
/-- Rows of block NET, part 1. -/
def rowsNET1 : List RegRow := [
  ⟨NET_U_CTRL 0, 4, 0x20, 1, 0x0, .t6, fun i _ => [(.rw, .lost, NET_U_CTRL_en i), (.rw, .lost, NET_U_CTRL_baud i), (.rw, .lost, NET_U_CTRL_parity i), (.rw, .lost, NET_U_CTRL_stop2 i), (.rw, .lost, NET_U_CTRL_term i)]⟩,
  ⟨NET_U_STATUS 0, 4, 0x20, 1, 0x0, .nobody, fun i _ => [(.ro, .lost, NET_U_STATUS_rx_busy i), (.ro, .lost, NET_U_STATUS_tx_busy i)]⟩,
  ⟨NET_U_EVENTS 0, 4, 0x20, 1, 0x0, .t6, fun i _ => [(.w1c, .lost, NET_U_EVENTS_rx i), (.w1c, .lost, NET_U_EVENTS_tx i), (.w1c, .lost, NET_U_EVENTS_rx_error i), (.w1c, .lost, NET_U_EVENTS_discarded i)]⟩,
  ⟨NET_U_RX_RING 0, 4, 0x20, 1, 0x0, .t6, fun i _ => [(.rw, .lost, NET_U_RX_RING_base i), (.rw, .lost, NET_U_RX_RING_size i)]⟩,
  ⟨NET_U_RX_IDX 0, 4, 0x20, 1, 0x0, .t6, fun i _ => [(.rw, .lost, NET_U_RX_IDX_sw i), (.ro, .lost, NET_U_RX_IDX_hw i)]⟩,
  ⟨NET_U_TX_RING 0, 4, 0x20, 1, 0x0, .t6, fun i _ => [(.rw, .lost, NET_U_TX_RING_base i), (.rw, .lost, NET_U_TX_RING_size i)]⟩,
  ⟨NET_U_TX_IDX 0, 4, 0x20, 1, 0x0, .t6, fun i _ => [(.rw, .lost, NET_U_TX_IDX_sw i), (.ro, .lost, NET_U_TX_IDX_hw i)]⟩,
  ⟨NET_U_STATS 0, 4, 0x20, 1, 0x0, .nobody, fun i _ => [(.ro, .lost, NET_U_STATS_frames i), (.ro, .lost, NET_U_STATS_errors i), (.ro, .lost, NET_U_STATS_discarded i)]⟩,
  ⟨NET_PTP_CTRL 0, 2, 0x20, 1, 0x0, .t0, fun i _ => [(.rw, .lost, NET_PTP_CTRL_en i)]⟩,
  ⟨NET_PTP_STATUS 0, 2, 0x20, 1, 0x0, .nobody, fun i _ => [(.ro, .lost, NET_PTP_STATUS_steps i), (.ro, .lost, NET_PTP_STATUS_seconds i)]⟩,
  ⟨NET_PTP_PHC 0 0, 2, 0x20, 3, 0x4, .nobody, fun i j => [(.ro, .lost, NET_PTP_PHC_value i j)]⟩,
  ⟨NET_PTP_RATE 0, 2, 0x20, 1, 0x0, .t0, fun i _ => [(.rw, .lost, NET_PTP_RATE_rate i)]⟩]
/-- Rows of block NET, part 2. -/
def rowsNET2 : List RegRow := [
  ⟨NET_PTP_STEP 0 0, 2, 0x20, 2, 0x4, .t0, fun i j => [(.rw, .lost, NET_PTP_STEP_step i j)]⟩,
  ⟨NET_DT_CTRL, 1, 0x0, 1, 0x0, .dt, fun _ _ => [(.rw, .lost, NET_DT_CTRL_valid), (.rw, .lost, NET_DT_CTRL_source)]⟩,
  ⟨NET_DT_STATUS, 1, 0x0, 1, 0x0, .t0, fun _ _ => [(.ro, .lost, NET_DT_STATUS_steps), (.w1c, .lost, NET_DT_STATUS_slew_clipped)]⟩,
  ⟨NET_DT 0, 2, 0x4, 1, 0x0, .nobody, fun i _ => [(.ro, .lost, NET_DT_dt i)]⟩,
  ⟨NET_DT_STEP 0, 2, 0x4, 1, 0x0, .dt, fun i _ => [(.rw, .lost, NET_DT_STEP_step i)]⟩,
  ⟨NET_DT_SLEW, 1, 0x0, 1, 0x0, .t0, fun _ _ => [(.rw, .lost, NET_DT_SLEW_slew)]⟩,
  ⟨NET_DT_PPS_OFS, 1, 0x0, 1, 0x0, .nobody, fun _ _ => [(.ro, .lost, NET_DT_PPS_OFS_ofs)]⟩,
  ⟨NET_BT_CTRL 0, 2, 0x20, 1, 0x0, .bt, fun i _ => [(.wo, .lost, NET_BT_CTRL_go i), (.rw, .lost, NET_BT_CTRL_dir i), (.rw, .lost, NET_BT_CTRL_count_m1 i), (.wo, .lost, NET_BT_CTRL_abort i)]⟩,
  ⟨NET_BT_STATUS 0, 2, 0x20, 1, 0x0, .nobody, fun i _ => [(.ro, .lost, NET_BT_STATUS_state i), (.ro, .lost, NET_BT_STATUS_transfers i)]⟩,
  ⟨NET_BT_LBA 0, 2, 0x20, 1, 0x0, .bt, fun i _ => [(.rw, .lost, NET_BT_LBA_lba i)]⟩,
  ⟨NET_BT_DRAM_LO 0, 2, 0x20, 1, 0x0, .bt, fun i _ => [(.rw, .lost, NET_BT_DRAM_LO_addr i)]⟩,
  ⟨NET_BT_DRAM_HI 0, 2, 0x20, 1, 0x0, .bt, fun i _ => [(.rw, .lost, NET_BT_DRAM_HI_addr i)]⟩]
/-- Rows of block NET, part 3. -/
def rowsNET3 : List RegRow := [
  ⟨NET_BT_WIN_BASE 0, 2, 0x20, 1, 0x0, .nobody, fun i _ => [(.ro, .lost, NET_BT_WIN_BASE_blocks i)]⟩,
  ⟨NET_BT_WIN_SIZE 0, 2, 0x20, 1, 0x0, .nobody, fun i _ => [(.ro, .lost, NET_BT_WIN_SIZE_blocks i)]⟩,
  ⟨NET_BT_ERRORS 0, 2, 0x20, 1, 0x0, .nobody, fun i _ => [(.ro, .lost, NET_BT_ERRORS_errors i), (.ro, .lost, NET_BT_ERRORS_retries i)]⟩,
  ⟨NET_PT_CTRL, 1, 0x0, 1, 0x0, .t6, fun _ _ => [(.rw, .lost, NET_PT_CTRL_class_en)]⟩,
  ⟨NET_PT_STATUS, 1, 0x0, 1, 0x0, .t6, fun _ _ => [(.rw, .lost, NET_PT_STATUS_used), (.rw, .lost, NET_PT_STATUS_hist_lag)]⟩,
  ⟨NET_CLASS_STAT 0, 6, 0x4, 1, 0x0, .t6, fun i _ => [(.rw, .lost, NET_CLASS_STAT_late i), (.rw, .lost, NET_CLASS_STAT_load i), (.rw, .lost, NET_CLASS_STAT_stale i)]⟩]
/-- The registers of block NET (R434). -/
def rowsNET : List RegRow := rowsNET0 ++ rowsNET1 ++ rowsNET2 ++ rowsNET3
/-- Rows of block CAN, part 0. -/
def rowsCAN0 : List RegRow := [
  ⟨CAN_CTRL 0, 8, 0x60, 1, 0x0, .t6, fun i _ => [(.rw, .lost, CAN_CTRL_en i), (.rw, .lost, CAN_CTRL_fd_en i), (.wo, .lost, CAN_CTRL_recover i), (.wo, .lost, CAN_CTRL_discard i), (.rw, .lost, CAN_CTRL_listen i), (.rw, .lost, CAN_CTRL_loopback i)]⟩,
  ⟨CAN_STATUS 0, 8, 0x60, 1, 0x0, .nobody, fun i _ => [(.ro, .lost, CAN_STATUS_state i), (.ro, .lost, CAN_STATUS_tx_busy i), (.ro, .lost, CAN_STATUS_rx_busy i)]⟩,
  ⟨CAN_EVENTS 0, 8, 0x60, 1, 0x0, .t6, fun i _ => [(.w1c, .lost, CAN_EVENTS_rx i), (.w1c, .lost, CAN_EVENTS_tx_done i), (.w1c, .lost, CAN_EVENTS_rx_overflow i), (.w1c, .lost, CAN_EVENTS_err_warn i), (.w1c, .lost, CAN_EVENTS_err_passive i), (.w1c, .lost, CAN_EVENTS_bus_off i), (.w1c, .lost, CAN_EVENTS_recovered i), (.w1c, .lost, CAN_EVENTS_discarded i), (.w1c, .lost, CAN_EVENTS_tx_idx_err i), (.w1c, .lost, CAN_EVENTS_cfg_err i)]⟩,
  ⟨CAN_NBT 0, 8, 0x60, 1, 0x0, .t6, fun i _ => [(.rw, .lost, CAN_NBT_brp_m1 i), (.rw, .lost, CAN_NBT_tseg1_m1 i), (.rw, .lost, CAN_NBT_tseg2_m1 i), (.rw, .lost, CAN_NBT_sjw_m1 i)]⟩,
  ⟨CAN_DBT 0, 8, 0x60, 1, 0x0, .t6, fun i _ => [(.rw, .lost, CAN_DBT_brp_m1 i), (.rw, .lost, CAN_DBT_tseg1_m1 i), (.rw, .lost, CAN_DBT_tseg2_m1 i), (.rw, .lost, CAN_DBT_sjw_m1 i)]⟩,
  ⟨CAN_TDC 0, 8, 0x60, 1, 0x0, .t6, fun i _ => [(.rw, .lost, CAN_TDC_en i), (.rw, .lost, CAN_TDC_offset i), (.ro, .lost, CAN_TDC_measured i)]⟩,
  ⟨CAN_ERRCNT 0, 8, 0x60, 1, 0x0, .nobody, fun i _ => [(.ro, .lost, CAN_ERRCNT_tec i), (.ro, .lost, CAN_ERRCNT_rec i)]⟩,
  ⟨CAN_ERRCODE 0, 8, 0x60, 1, 0x0, .nobody, fun i _ => [(.ro, .lost, CAN_ERRCODE_code i), (.ro, .lost, CAN_ERRCODE_data_phase i), (.ro, .lost, CAN_ERRCODE_count i)]⟩,
  ⟨CAN_RX_BASE_LO 0, 8, 0x60, 1, 0x0, .t6, fun i _ => [(.rw, .lost, CAN_RX_BASE_LO_addr i)]⟩,
  ⟨CAN_RX_BASE_HI 0, 8, 0x60, 1, 0x0, .t6, fun i _ => [(.rw, .lost, CAN_RX_BASE_HI_addr i)]⟩,
  ⟨CAN_RX_IDX 0, 8, 0x60, 1, 0x0, .t6, fun i _ => [(.rw, .lost, CAN_RX_IDX_sw i), (.ro, .lost, CAN_RX_IDX_hw i)]⟩,
  ⟨CAN_TX_BASE_LO 0, 8, 0x60, 1, 0x0, .t6, fun i _ => [(.rw, .lost, CAN_TX_BASE_LO_addr i)]⟩]
/-- Rows of block CAN, part 1. -/
def rowsCAN1 : List RegRow := [
  ⟨CAN_TX_BASE_HI 0, 8, 0x60, 1, 0x0, .t6, fun i _ => [(.rw, .lost, CAN_TX_BASE_HI_addr i)]⟩,
  ⟨CAN_TX_IDX 0, 8, 0x60, 1, 0x0, .t6, fun i _ => [(.rw, .lost, CAN_TX_IDX_sw i), (.ro, .lost, CAN_TX_IDX_hw i)]⟩,
  ⟨CAN_RX_STAT 0, 8, 0x60, 1, 0x0, .nobody, fun i _ => [(.ro, .lost, CAN_RX_STAT_frames i), (.ro, .lost, CAN_RX_STAT_overflow i)]⟩,
  ⟨CAN_TX_STAT 0, 8, 0x60, 1, 0x0, .nobody, fun i _ => [(.ro, .lost, CAN_TX_STAT_sent i), (.ro, .lost, CAN_TX_STAT_retries i)]⟩,
  ⟨CAN_DISC_STAT 0, 8, 0x60, 1, 0x0, .nobody, fun i _ => [(.ro, .lost, CAN_DISC_STAT_entries i), (.ro, .lost, CAN_DISC_STAT_discards i)]⟩,
  ⟨CAN_BUSOFF_STAT 0, 8, 0x60, 1, 0x0, .nobody, fun i _ => [(.ro, .lost, CAN_BUSOFF_STAT_bus_offs i), (.ro, .lost, CAN_BUSOFF_STAT_recoveries i)]⟩]
/-- The registers of block CAN (R434). -/
def rowsCAN : List RegRow := rowsCAN0 ++ rowsCAN1
/-- Rows of block PLC, part 0. -/
def rowsPLC0 : List RegRow := [
  ⟨PLC_CTRL, 1, 0x0, 1, 0x0, .t6, fun _ _ => [(.rw, .lost, PLC_CTRL_en), (.rw, .lost, PLC_CTRL_blank_en)]⟩,
  ⟨PLC_STATUS, 1, 0x0, 1, 0x0, .nobody, fun _ _ => [(.ro, .lost, PLC_STATUS_tx_busy), (.ro, .lost, PLC_STATUS_rx_busy), (.ro, .lost, PLC_STATUS_uplink)]⟩,
  ⟨PLC_EVENTS, 1, 0x0, 1, 0x0, .t6, fun _ _ => [(.w1c, .lost, PLC_EVENTS_cycle), (.w1c, .lost, PLC_EVENTS_rx), (.w1c, .lost, PLC_EVENTS_rx_bad), (.w1c, .lost, PLC_EVENTS_tx), (.w1c, .lost, PLC_EVENTS_discarded)]⟩,
  ⟨PLC_CFG, 1, 0x0, 1, 0x0, .t6, fun _ _ => [(.rw, .lost, PLC_CFG_coupling), (.rw, .lost, PLC_CFG_cycle), (.rw, .lost, PLC_CFG_dl_max), (.rw, .lost, PLC_CFG_blank_th)]⟩,
  ⟨PLC_RX_RING, 1, 0x0, 1, 0x0, .t6, fun _ _ => [(.rw, .lost, PLC_RX_RING_base), (.rw, .lost, PLC_RX_RING_size)]⟩,
  ⟨PLC_RX_IDX, 1, 0x0, 1, 0x0, .t6, fun _ _ => [(.rw, .lost, PLC_RX_IDX_sw), (.ro, .lost, PLC_RX_IDX_hw)]⟩,
  ⟨PLC_TX_RING, 1, 0x0, 1, 0x0, .t6, fun _ _ => [(.rw, .lost, PLC_TX_RING_base), (.rw, .lost, PLC_TX_RING_size)]⟩,
  ⟨PLC_TX_IDX, 1, 0x0, 1, 0x0, .t6, fun _ _ => [(.rw, .lost, PLC_TX_IDX_sw), (.ro, .lost, PLC_TX_IDX_hw)]⟩,
  ⟨PLC_TMAP_LO, 1, 0x0, 1, 0x0, .t6, fun _ _ => [(.rw, .lost, PLC_TMAP_LO_addr)]⟩,
  ⟨PLC_TMAP_HI, 1, 0x0, 1, 0x0, .t6, fun _ _ => [(.rw, .lost, PLC_TMAP_HI_addr)]⟩,
  ⟨PLC_NOISE, 1, 0x0, 1, 0x0, .nobody, fun _ _ => [(.ro, .lost, PLC_NOISE_floor), (.ro, .lost, PLC_NOISE_impulses)]⟩,
  ⟨PLC_STATS, 1, 0x0, 1, 0x0, .nobody, fun _ _ => [(.ro, .lost, PLC_STATS_bursts), (.ro, .lost, PLC_STATS_bad), (.ro, .lost, PLC_STATS_discarded)]⟩]
/-- Rows of block PLC, part 1. -/
def rowsPLC1 : List RegRow := [
  ⟨PLC_TONE_MASK 0, 16, 0x4, 1, 0x0, .t6, fun i _ => [(.rw, .lost, PLC_TONE_MASK_mask i)]⟩,
  ⟨PLC_RX_ERR, 1, 0x0, 1, 0x0, .nobody, fun _ _ => [(.ro, .lost, PLC_RX_ERR_rs_fixed), (.ro, .lost, PLC_RX_ERR_descr)]⟩,
  ⟨PLC_TX_ERR, 1, 0x0, 1, 0x0, .nobody, fun _ _ => [(.ro, .lost, PLC_TX_ERR_refused), (.ro, .lost, PLC_TX_ERR_descr)]⟩]
/-- The registers of block PLC (R434). -/
def rowsPLC : List RegRow := rowsPLC0 ++ rowsPLC1

/-- The rows of the block whose 64 KiB window holds an address (R434); none where the address lies in no window (R436). -/
def blockRows (addr : Nat) : Option (List RegRow) :=
  match addr / 0x10000 with
  | 0x4000 => some rowsENG
  | 0x4001 => some rowsCLK
  | 0x4002 => some rowsPWR
  | 0x4003 => some rowsSEC
  | 0x4010 => some rowsLANE
  | 0x4020 => some rowsPHU
  | 0x4030 => some rowsCONN
  | 0x4031 => some rowsMTX
  | 0x4032 => some rowsBUF
  | 0x4040 => some rowsSESS
  | 0x4041 => some rowsCOOL
  | 0x4042 => some rowsLSW
  | 0x4050 => some rowsMET
  | 0x4051 => some rowsBILL
  | 0x4060 => some rowsNET
  | 0x4061 => some rowsCAN
  | 0x4062 => some rowsPLC
  | _ => none

end Sys2Proof.Machine
end

