-- ==== Sys2Proof/Machine/Ops.lean ====
section
/-!
DEFINITION. The named operations over fields, memories, event rings, requests, faults and traps that the meanings share
(Work, Requests and Periods; Tocon Engines and Their Tables).
-/
namespace Sys2Proof

/-- A scope as the 16 bits of a record (R28). -/
def Scope.toNat (x : Scope) : Nat := x.kind.toNat * 4096 + x.inst.toNat

/-- The engine that owns a queue or the mailbox (R465). -/
def QId.owner : QId → Nat
  | .queue e _ => e
  | .mailbox => 4

/-- The scope of a queue or the mailbox in event arguments: unit family 0xA (R41). -/
def QId.scope : QId → Scope
  | .queue e q => ⟨5, BitVec.ofNat 12 (0xA00 + 4 * e + q)⟩
  | .mailbox => ⟨5, 0xA20⟩


/-- How many requests a queue holds: 128, and the mailbox 32 (R74). -/
def QId.capacity : QId → Nat
  | .queue _ _ => 128
  | .mailbox => 32


/-- The payload bytes an indirect request's record names (R28). -/
def Req.indAddr (r : Req) : Nat := r.payload.toNat % 2 ^ 64
def Req.indLen (r : Req) : Nat := r.payload.toNat / 2 ^ 64 % 2 ^ 32


end Sys2Proof

namespace Sys2Proof.Machine

/-- A Bool as a bit. -/
def boolNat (b : Bool) : Nat := if b then 1 else 0

/-! ## Register fields -/

/-- The value of a field. -/
def State.f (s : State) (x : Fld) : Nat := SMap.get x.rst s.fields x.key

/-- The state with a field set to v, cut to the field's width. -/
def State.setF (s : State) (x : Fld) (v : Nat) : State :=
  { s with fields := SMap.set x.rst s.fields x.key (v % 2 ^ x.w) }

/-- A one-bit field as a Bool. -/
def State.fb (s : State) (x : Fld) : Bool := s.f x != 0

/-- The state with a one-bit field set. -/
def State.setB (s : State) (x : Fld) (b : Bool) : State := s.setF x (if b then 1 else 0)

/-- A number read as two's complement of w bits. -/
def toSigned (w v : Nat) : Int := if v % 2 ^ w < 2 ^ (w - 1) then ((v % 2 ^ w : Nat) : Int) else ((v % 2 ^ w : Nat) : Int) - (2 ^ w : Nat)

/-- An integer as two's complement of w bits. -/
def ofSigned (w : Nat) (v : Int) : Nat := (v % ((2 ^ w : Nat) : Int)).toNat

/-- The value of a field read as two's complement. -/
def State.fi (s : State) (x : Fld) : Int := toSigned x.w (s.f x)

/-- The state with a field set to a signed value, cut to the field's width. -/
def State.setFi (s : State) (x : Fld) (v : Int) : State := s.setF x (ofSigned x.w v)

/-- Add n to a field, saturating at its largest value. -/
def State.addSat (s : State) (x : Fld) (n : Nat) : State := s.setF x (min (s.f x + n) (2 ^ x.w - 1))

/-- Add n to a field, wrapping. -/
def State.addWrap (s : State) (x : Fld) (n : Nat) : State := s.setF x (s.f x + n)

/-- num / den, den > 0, to an integer: exact where it divides; else the spec gives no rounding, and either neighbour may result. -/
def State.roundOpen (s : State) (num : Int) (den : Nat) : Int × State :=
  if num % den = 0 then (num / den, s)
  else (num / den + (if Config.free s.free % 2 = 0 then 0 else 1), { s with free := s.free + 1 })

/-- Set a list of fields, each to its value, in order. -/
def State.setAll (s : State) : List (Fld × Nat) → State
  | [] => s
  | (x, v) :: t => (s.setF x v).setAll t

/-- v limited to lo … hi. -/
def clampI (lo hi v : Int) : Int := max lo (min hi v)

/-- v limited to what w bits hold in two's complement. -/
def satSigned (w : Nat) (v : Int) : Int := clampI (-(2 ^ (w - 1) : Nat)) ((2 ^ (w - 1) : Nat) - 1) v

/-! ## Free values -/

/-- A fresh free value, and the state with the counter advanced: a value the spec leaves open (log 6). -/
def State.fresh (s : State) : Nat × State := (Config.free s.free, { s with free := s.free + 1 })

/-! ## Sub-records -/

def State.eng (s : State) (e : Nat) : Engine := SMap.get Engine.reset s.engs e
def State.setEng (s : State) (e : Nat) (n : Engine) : State := { s with engs := SMap.set Engine.reset s.engs e n }
def Engine.slot (n : Engine) (k : Nat) : Slot := SMap.get Slot.reset n.slots k
def Engine.setSlot (n : Engine) (k : Nat) (x : Slot) : Engine := { n with slots := SMap.set Slot.reset n.slots k x }
def Engine.queue (n : Engine) (q : Nat) : Queue := SMap.get Queue.reset n.q q
def Engine.setQueue (n : Engine) (q : Nat) (x : Queue) : Engine := { n with q := SMap.set Queue.reset n.q q x }
def Engine.takenIn (n : Engine) (c : Nat) : Option Taken := SMap.get none n.taken c
def Engine.setTaken (n : Engine) (c : Nat) (x : Option Taken) : Engine := { n with taken := SMap.set none n.taken c x }
/-- The request queue or mailbox q. -/
def State.queue (s : State) : QId → Queue
  | .queue e q => (s.eng e).queue q
  | .mailbox => s.mailbox
def State.setQueue (s : State) (i : QId) (x : Queue) : State :=
  match i with
  | .queue e q => s.setEng e ((s.eng e).setQueue q x)
  | .mailbox => { s with mailbox := x }

/-! ## What runs -/

/-- The dividers stand: the device is frozen (R424). -/
def State.frozen (s : State) : Bool := s.f SEC_FREEZE_STAT_state == 2

/-- The derived clocks run: the first release of this boot is past (R103, R148), the device is neither in KEEP nor frozen (R113, R424). -/
def State.clocked (s : State) : Bool := !s.mode.keep && !s.frozen && decide (4 ≤ s.f SEC_BOOT_STAT_stage)

/-- What a derived clock drives: while the dividers stand, or before the first release, nothing happens (R113, R424). -/
def State.onClock (s : State) (f : State → State) : Host.Outcome State Fault Refusal := .next (if s.clocked then f s else s)

/-- Whether the PHYs, the power-line modem and the CAN transceivers are powered: not after the power-fail clamp (R120 step 2). -/
def State.lineUp (s : State) : Bool := s.clocked && !s.pwr.div4

/-- What comes over a line or goes out on one. -/
def State.onLine (s : State) (f : State → State) : Host.Outcome State Fault Refusal := .next (if s.lineUp then f s else s)

/-- Whether an uncorrectable ECC error has hit one of the n bytes from key k (R19). -/
def State.eccHit (s : State) (k n : Nat) : Bool := s.ecc.any fun x => k ≤ x && x < k + n

/-! ## Memory (R6: little-endian) -/

/-- What a byte of memory that nothing has written reads as (log 2). -/
def unwritten : Byte := 0

/-- The key of a byte of an engine's own SRAM (instruction SRAM at 0x0000_0000, data SRAM at 0x1000_0000); every other memory
byte's key is its address (R56). -/
def sramKey (e addr : Nat) : Nat := (e + 16) * 0x100000000 + addr

/-- The key of a byte of the eMMC, which no engine's map shows (R60, R373). -/
def emmcKey (off : Nat) : Nat := 0x10000000000 + off

/-- The key of a byte of the service port's staging buffer of 4 KiB (R415). -/
def stagingKey (off : Nat) : Nat := 0x20000000000 + off

def State.rdB (s : State) (k : Nat) : Byte := SMap.get unwritten s.mem k
/-- Write a byte; what an ECC error had hit there is gone. -/
def State.wrB (s : State) (k : Nat) (b : Byte) : State := { s with mem := SMap.set unwritten s.mem k b, ecc := s.ecc.filter (· != k) }

/-- The n bytes from key k as a little-endian number. -/
def State.rd (s : State) (k : Nat) : Nat → Nat
  | 0 => 0
  | n + 1 => (s.rdB k).toNat + 256 * s.rd (k + 1) n

/-- Write v as n little-endian bytes from key k. -/
def State.wr (s : State) (k : Nat) : Nat → Nat → State
  | 0, _ => s
  | n + 1, v => (s.wrB k (BitVec.ofNat 8 v)).wr (k + 1) n (v / 256)

/-- The n bytes from key k. -/
def State.rdBytes (s : State) (k : Nat) : Nat → List Byte
  | 0 => []
  | n + 1 => s.rdB k :: s.rdBytes (k + 1) n

/-- Write a list of bytes from key k. -/
def State.wrBytes (s : State) (k : Nat) : List Byte → State
  | [] => s
  | b :: t => (s.wrB k b).wrBytes (k + 1) t

/-- Whether a key is a byte of LPDDR4X (R56): all that a unit's transfer, a ring or an indirect payload reaches (R15, R24, R375, R383). -/
def isDram (k : Nat) : Bool := decide (0x100000000 ≤ k) && decide (k < 0x200000000)

/-- A byte that a transfer reads; what one reads outside LPDDR4X is not stated: a free value (log 221). -/
def State.dmaRdB (s : State) (k : Nat) : Byte := if isDram k then s.rdB k else BitVec.ofNat 8 (Config.free (s.free + k))

/-- A byte that a transfer writes; outside LPDDR4X it writes nothing (log 221). -/
def State.dmaWrB (s : State) (k : Nat) (b : Byte) : State := if isDram k then s.wrB k b else s

/-- The n bytes of a transfer from key k as a little-endian number. -/
def State.dmaRd (s : State) (k : Nat) : Nat → Nat
  | 0 => 0
  | n + 1 => (s.dmaRdB k).toNat + 256 * s.dmaRd (k + 1) n

/-- The n bytes of a transfer from key k. -/
def State.dmaRdBytes (s : State) (k : Nat) : Nat → List Byte
  | 0 => []
  | n + 1 => s.dmaRdB k :: s.dmaRdBytes (k + 1) n

/-- A transfer writes v as n little-endian bytes from key k. -/
def State.dmaWr (s : State) (k : Nat) : Nat → Nat → State
  | 0, _ => s
  | n + 1, v => (s.dmaWrB k (BitVec.ofNat 8 v)).dmaWr (k + 1) n (v / 256)

/-- A transfer writes a list of bytes from key k. -/
def State.dmaWrBytes (s : State) (k : Nat) : List Byte → State
  | [] => s
  | b :: t => (s.dmaWrB k b).dmaWrBytes (k + 1) t

/-- Remove every byte whose key lies from lo up to but not including hi: those bytes read as unwritten memory. -/
def State.clearMem (s : State) (lo hi : Nat) : State :=
  { s with mem := s.mem.filter fun p => p.1 < lo || hi ≤ p.1, ecc := s.ecc.filter fun k => k < lo || hi ≤ k }

/-- A list of bytes as a little-endian number. -/
def leNat : List Byte → Nat
  | [] => 0
  | b :: t => b.toNat + 256 * leNat t

/-- The regions of the engine address map (R56). -/
inductive Region where
  | isram | dsram | take | send | inbox | outbox | leadArea | csr | nor | meter
  | recArea (n : Nat)
  | dram | outside
deriving DecidableEq, Repr

/-- The region that holds an address (R56, R57). -/
def regionOf (a : Nat) : Region :=
  if a < 0x20000 then .isram
  else if 0x10000000 ≤ a ∧ a < 0x10020000 then .dsram
  else if 0x20000000 ≤ a ∧ a < 0x20001000 then .take
  else if 0x20001000 ≤ a ∧ a < 0x20002000 then .send
  else if 0x21000000 ≤ a ∧ a < 0x21001000 then .inbox
  else if 0x21001000 ≤ a ∧ a < 0x21002000 then .outbox
  else if 0x28000000 ≤ a ∧ a < 0x28001000 then .leadArea
  else if 0x40000000 ≤ a ∧ a < 0x40700000 then .csr
  else if 0x60000000 ≤ a ∧ a < 0x64000000 then .nor
  else if 0x70000000 ≤ a ∧ a < 0x70800000 then .meter
  else if 0x70800000 ≤ a ∧ a < 0x72000000 then .recArea ((a - 0x70800000) / 0x300000)
  else if 0x100000000 ≤ a ∧ a < 0x200000000 then .dram
  else .outside

/-- Whether engine e owns MRAM record area n (R57: area 4 belongs to T7, and T4 has none). -/
def ownsArea (e n : Nat) : Bool := e != 4 && (n == e || (e == 7 && n == 4))

/-- Whether engine e may read a region (R56). -/
def mayLoad (e : Nat) : Region → Bool
  | .isram | .dsram => true
  | .take => e != 4
  | .send => false
  | .inbox => e == 4
  | .outbox => true
  | .leadArea => e == 2 || e == 3 || e == 7
  | .csr => true
  | .nor => e == 7
  | .meter => e == 4
  | .recArea n => ownsArea e n
  | .dram => e != 4
  | .outside => false

/-- Whether engine e may write a region (R56). -/
def mayStore (e : Nat) : Region → Bool
  | .isram => false
  | .dsram => true
  | .take => false
  | .send => e != 4
  | .inbox => e != 4
  | .outbox => e == 4
  | .leadArea => e == 2 || e == 3
  | .csr => true
  | .nor => false
  | .meter => e == 4
  | .recArea n => ownsArea e n
  | .dram => e != 4
  | .outside => false

/-- The key of a byte of memory that engine e addresses (not the register space or the windows). -/
def memKey (e a : Nat) : Nat := if a < 0x20000000 then sramKey e a else a

/-! ## The cache (R60) -/

/-- The first line of the list with the given number, and the list without it. -/
def takeLine (line : Nat) : List CacheLine → Option (CacheLine × List CacheLine)
  | [] => none
  | c :: t =>
    if c.line = line then some (c, t)
    else match takeLine line t with
      | none => none
      | some (x, r) => some (x, c :: r)

/-- The last line of the list that lies in the given set, with the list without it: the least recently used way. -/
def takeLru (set : Nat) : List CacheLine → Option (CacheLine × List CacheLine)
  | [] => none
  | c :: t =>
    match takeLru set t with
    | some (x, r) => some (x, c :: r)
    | none => if c.line % 128 = set then some (c, t) else none

/-- The set of a line has four ways; how many of them are in use. -/
def waysUsed (set : Nat) (l : List CacheLine) : Nat := (l.filter fun c => c.line % 128 == set).length

/-- Write a dirty line back to LPDDR4X. -/
def State.writeBack (s : State) (c : CacheLine) : State := if c.dirty then s.wrBytes (64 * c.line) (c.bytes.take 64) else s

/-- Bring a line into the engine's cache as the most recently used one: the line as it stands in the cache after that, and the
state. A miss allocates, replacing the least recently used way of a full set. -/
def State.cacheLine (s : State) (e line : Nat) : CacheLine × State :=
  let n := s.eng e
  match takeLine line n.cache with
  | some (c, rest) => (c, s.setEng e { n with cache := c :: rest })
  | none =>
    let (s, cache) :=
      if 4 ≤ waysUsed (line % 128) n.cache then
        match takeLru (line % 128) n.cache with
        | some (v, rest) => (s.writeBack v, rest)
        | none => (s, n.cache)
      else (s, n.cache)
    let c : CacheLine := ⟨line, false, s.rdBytes (64 * line) 64⟩
    (c, s.setEng e { s.eng e with cache := c :: cache })

/-- Load n bytes of LPDDR4X at an aligned address through engine e's cache. -/
def State.cacheLoad (s : State) (e a n : Nat) : Nat × State :=
  let (c, s) := s.cacheLine e (a / 64)
  (leNat ((c.bytes.drop (a % 64)).take n), s)

/-- n little-endian bytes of v. -/
def bytesOf (v : Nat) : Nat → List Byte
  | 0 => []
  | n + 1 => BitVec.ofNat 8 v :: bytesOf (v / 256) n

/-- Store n bytes to LPDDR4X at an aligned address through engine e's cache: the line becomes dirty. -/
def State.cacheStore (s : State) (e a n v : Nat) : State :=
  let (c, s) := s.cacheLine e (a / 64)
  let c' : CacheLine := { c with dirty := true, bytes := c.bytes.take (a % 64) ++ bytesOf v n ++ c.bytes.drop (a % 64 + n) }
  let en := s.eng e
  s.setEng e { en with cache := c' :: en.cache.drop 1 }

/-- CCLEAN: write the line back if it is dirty; it stays in the cache. -/
def State.cacheClean (s : State) (e line : Nat) : State :=
  match takeLine line (s.eng e).cache with
  | some (c, _) =>
    let s := s.writeBack c
    let n := s.eng e
    s.setEng e { n with cache := n.cache.map fun x => if x.line = line then { x with dirty := false } else x }
  | none => s

/-- CINV: discard the line without write-back. -/
def State.cacheInv (s : State) (e line : Nat) : State :=
  let n := s.eng e
  s.setEng e { n with cache := n.cache.filter fun x => x.line != line }

/-- Invalidate every line that overlaps a byte range (R60, at RQTAKE). -/
def State.cacheInvRange (s : State) (e a len : Nat) : State :=
  let n := s.eng e
  s.setEng e { n with cache := n.cache.filter fun x => x.line < a / 64 || (a + len) ≤ 64 * x.line }

/-! ## Scopes (R41) -/

def mkScope (kind inst : Nat) : Scope := ⟨BitVec.ofNat 4 kind, BitVec.ofNat 12 inst⟩
def phaseScope (n : Nat) : Scope := mkScope 0 n
def cellScope (n : Nat) : Scope := mkScope 1 n
def groupScope (n : Nat) : Scope := mkScope 2 n
def connScope (c : Nat) : Scope := mkScope 3 c
def portScope (p : Nat) : Scope := mkScope 4 p
/-- Unit scope: family and index. -/
def unitScope (fam idx : Nat) : Scope := mkScope 5 (fam * 256 + idx)
def siteScope : Scope := mkScope 6 0
def deviceScope : Scope := mkScope 7 0
/-- Destination d of the matrix: 0 to 7 a connector, 8 to 11 a port (R211). -/
def destScope (d : Nat) : Scope := if d < 8 then connScope d else portScope (d - 8)

/-! ## Event records (R39, R58, R465) -/

/-- Device time DT in ns (R377). -/
def State.dt (s : State) : Nat := s.dtNs

/-- The event word (R39): argument follows, class, engine, number, time DT[55:8]. -/
def eventWord (arg : Bool) (cls eng num dt : Nat) : Nat :=
  (if arg then 2 ^ 63 else 0) + cls % 8 * 2 ^ 60 + eng % 8 * 2 ^ 57 + num % 512 * 2 ^ 48 + dt / 256 % 2 ^ 48

/-- The argument word (R39). -/
def argWord (sc : Scope) (orig detail : Nat) : Nat := sc.toNat * 2 ^ 48 + orig % 65536 * 2 ^ 32 + detail % 2 ^ 32

/-- Write one entry of engine n's event ring and advance its index; the 257th write since event_ovf was cleared sets it (R58). -/
def State.postTo (s : State) (n word arg : Nat) : State :=
  let idx := s.f (ENG_QUEUE_STAT_event_idx n)
  let s := (s.wr (sramKey n (0x1001E000 + 16 * idx)) 8 word).wr (sramKey n (0x1001E008 + 16 * idx)) 8 arg
  let s := s.setF (ENG_QUEUE_STAT_event_idx n) (idx + 1)
  let en := s.eng n
  let s := s.setEng n { en with eventWrites := en.eventWrites + 1 }
  if 257 ≤ en.eventWrites + 1 then s.setB (ENG_QUEUE_STAT_event_ovf n) true else s

/-- Post one record to several rings. -/
def State.postList (s : State) (word arg : Nat) : List Nat → State
  | [] => s
  | n :: t => (s.postTo n word arg).postList word arg t

/-- Recipients without repeats. -/
def dedup : List Nat → List Nat
  | [] => []
  | a :: t => a :: (dedup t).filter (· != a)

/-- A record of a unit, queue, mailbox or NV writer (R465): it always carries an argument. -/
def State.unitRecord (s : State) (cls eng num : Nat) (sc : Scope) (orig detail : Nat) (dst : List Nat) : State :=
  s.postList (eventWord true cls eng num s.dt) (argWord sc orig detail) (dedup dst)

/-- A clamp record (R21, R465): class 5, to the engine in charge and T7. -/
def State.clampRecord (s : State) (eng num : Nat) (sc : Scope) : State := s.unitRecord 5 eng (0x100 + num) sc 0 0 [eng, 7]

/-- Set a bit of an EVENTS register and post its record (R465): 0x180 + bit, argument detail the register's address. -/
def State.setEvent (s : State) (x : Fld) (eng : Nat) (sc : Scope) (dst : List Nat) : State :=
  (s.setF x 1).unitRecord 7 eng (0x180 + x.key % 32) sc 0 (x.key / 32) dst

/-- An access record to T7 (R17, R465): the writing engine and the address; the engine field is the engine in charge. -/
def State.accessRecord (s : State) (inCharge writer addr : Nat) : State :=
  s.unitRecord 7 inCharge 0x006 deviceScope (1 + writer) addr [7]

/-! ## Results and completions (R31 to R33) -/

/-- The engine an originator ID names (R30). -/
def origEngine (o : BitVec 16) : Option Nat := if 1 ≤ o.toNat ∧ o.toNat ≤ 8 then some (o.toNat - 1) else none

/-- The bytes of a result record as a number (R31). -/
def resultNat (r : Result) : Nat :=
  r.orig.toNat + r.status % 256 * 2 ^ 16 + r.detail % 256 * 2 ^ 24 + r.reqId.toNat * 2 ^ 32 + r.value.toNat * 2 ^ 64

/-- The Modbus exception of a status: none a normal response (R368). -/
def modbusExc (status : Nat) : Option Nat :=
  if status = 1 then none else if status = 3 then some 4 else if status = 5 then some 6 else some 3

/-- The Modbus answer of a result for a Modbus originator (R368, R369): a DUPLICATE sends the stored response, and nothing while the stored
status is PENDING. -/
def State.modbusReply (s : State) (r : Result) : State :=
  let st := if r.status = 4 then r.detail else r.status
  if 0x1000 ≤ r.orig.toNat ∧ r.orig.toNat ≤ 0x1103 ∧ st ≠ 0 then
    { s with modbus := s.modbus ++ [⟨r.orig, r.reqId, modbusExc st, r.value⟩] }
  else s

/-- Write a result record into engine n's result area and advance its index; the 257th write since result_ovf was cleared sets it (R58);
dropped while the engine restarts (R75). -/
def State.resultAt (s : State) (n : Nat) (r : Result) : State :=
  if (s.eng n).restarting then s
  else
    let idx := s.f (ENG_QUEUE_STAT_result_idx n)
    let s := s.wr (sramKey n (0x1001F000 + 16 * idx)) 16 (resultNat r)
    let s := s.setF (ENG_QUEUE_STAT_result_idx n) (idx + 1)
    let en := s.eng n
    let s := s.setEng n { en with resultWrites := en.resultWrites + 1 }
    if 257 ≤ en.resultWrites + 1 then s.setB (ENG_QUEUE_STAT_result_ovf n) true else s

/-- Write a result record where it belongs: the outbound ring for the mailbox (R74), the result area of the originating engine, the protocol
adapter for an external originator. -/
def State.result (s : State) (q : QId) (r : Result) : State :=
  match q with
  | .mailbox => { s.wr (0x21001000 + 16 * s.outIdx) 16 (resultNat r) with outIdx := (s.outIdx + 1) % 64 }
  | .queue _ _ =>
    match origEngine r.orig with
    | some n => s.resultAt n r
    | none => ({ s with outbox := s.outbox ++ [r] }).modbusReply r

/-- The completion event of a request with reply_wanted that completes DONE or REJECTED (R32, R465): to the originating engine's
ring, or to the protocol adapter of an external originator. -/
def State.completionEvent (s : State) (q : QId) (r : Req) (status : Nat) : State :=
  if r.replyWanted ∧ (status = 1 ∨ status = 2) then
    match origEngine r.origId with
    | some n => s.unitRecord 6 q.owner status r.scope r.origId.toNat r.reqId.toNat [n]
    | none => { s with notices := s.notices ++ [(eventWord true 6 q.owner status s.dt, argWord r.scope r.origId.toNat r.reqId.toNat)] }
  else s

/-- Answer a request without completing a stored one (R33); a request rejected on arrival posts its completion event (R32, R465). -/
def State.reply (s : State) (q : QId) (r : Req) (status detail : Nat) (value : DWord := 0) : State :=
  (s.result q ⟨r.origId, status, detail, r.reqId, value⟩).completionEvent q r status

/-- Apply a change to the lint list of an originator. -/
def mapLint (o : BitVec 16) (g : List LintEntry → List LintEntry) : List LintOrig → List LintOrig
  | [] => []
  | l :: t => if l.orig = o then { l with entries := g l.entries } :: t else l :: mapLint o g t

/-- Completion of a stored request (R33): DISCARDED releases the ID; every other status is stored; the result record is written
and the completion event posted. -/
def State.complete (s : State) (q : QId) (r : Req) (status detail : Nat) (value : DWord) : State :=
  let g : List LintEntry → List LintEntry := fun es =>
    if status = 3 then es.filter fun e => e.reqId != r.reqId
    else es.map fun e => if e.reqId = r.reqId then { e with status := status, value := value, detail := detail } else e
  let qq := s.queue q
  let s := s.setQueue q { qq with lints := mapLint r.origId g qq.lints }
  let v := if status = 3 then 0 else value
  (s.result q ⟨r.origId, status, detail, r.reqId, v⟩).completionEvent q r status

/-- The stored detail of a request of a queue. -/
def State.storedDetail (s : State) (q : QId) (o : BitVec 16) (id : BitVec 32) : Nat :=
  match (s.queue q).lints.find? (·.orig == o) with
  | some l => ((l.entries.find? (·.reqId == id)).map (·.detail)).getD 0
  | none => 0

/-- Complete DISCARDED each of a list of requests of one queue. -/
def State.discardEach (s : State) (q : QId) : List Queued → State
  | [] => s
  | r :: t => (s.complete q r.req 3 0 0).discardEach q t

/-- Complete DISCARDED every queued request of q that p selects, oldest first; how many, and the state. -/
def State.discardWhere (s : State) (q : QId) (p : Req → Bool) : Nat × State :=
  let qq := s.queue q
  let out := (qq.serving ++ qq.items).filter fun r => p r.req
  let s := s.setQueue q { qq with items := qq.items.filter (fun r => !p r.req), serving := qq.serving.filter fun r => !p r.req }
  (out.length, s.discardEach q out)

/-- The queues of an engine; T4's are its four queues and the mailbox. -/
def queuesOf (e : Fin 8) : List QId :=
  [.queue e 0, .queue e 1, .queue e 2, .queue e 3] ++ (if e.val = 4 then [.mailbox] else [])

/-- Discard over several queues; the count. -/
def State.discardQueues (s : State) (p : Req → Bool) : List QId → Nat × State
  | [] => (0, s)
  | q :: t =>
    let (n, s) := s.discardWhere q p
    let (m, s) := s.discardQueues p t
    (n + m, s)

/-- The eight engines. -/
def engines : List (Fin 8) := [0, 1, 2, 3, 4, 5, 6, 7]

/-- Discard on every engine; after each engine's discards, `post` records the count where it is not 0, or where the engine has discarded
items without a request: an engine of the list `also`. -/
def State.discardAll (s : State) (p : Req → Bool) (also : List Nat) (post : State → Nat → Nat → State) : List (Fin 8) → State
  | [] => s
  | e :: t =>
    let (n, s) := s.discardQueues p (queuesOf e)
    let s := if n = 0 && !also.contains e.val then s else post s e n
    s.discardAll p also post t

/-- Every queue of the device, and the mailbox. -/
def allQueues : List QId := engines.flatMap queuesOf

/-! ## Scopes, trips and faults (R41 to R44, R95) -/

/-- The groups whose matrix position for destination d is commanded (R213). -/
def State.groupsOf (s : State) (d : Nat) : List Nat :=
  (List.range 8).filter fun g => s.fb (MTX_COIL_CMD_cmd (12 * g + d))

/-- Whether a group with its cells, phases, lanes and matrix positions contains a scope (R41). -/
def groupContains (g : Nat) (x : Scope) : Bool :=
  let i := x.inst.toNat
  match x.kind.toNat with
  | 0 => i / 32 == g
  | 1 => i / 4 == g
  | 2 => i == g
  | 5 => (i / 256 == 8 && i % 256 / 4 == g) || (i / 256 == 7 && i % 256 / 12 == g && i % 256 < 96)
  | _ => false

/-- Whether scope x lies within an outer scope that held the given groups, and string relay channels, at its declaration (R41). -/
def inScope (outer : Scope) (groups relays : List Nat) (x : Scope) : Bool :=
  let o := outer.inst.toNat
  let i := x.inst.toNat
  outer == x || match outer.kind.toNat with
  | 1 => (x.kind.toNat == 0 && i / 8 == o) || (x.kind.toNat == 5 && i / 256 == 8 && i % 256 == o)
  | 2 => groupContains o x
  | 3 =>
    groups.any (fun g => groupContains g x) ||
      (x.kind.toNat == 5 && ((i / 256 == 7 && (i % 256 == 96 + 2 * o || i % 256 == 97 + 2 * o || i % 256 == 112 + o)) ||
        (i / 256 == 4 && i % 256 == o)))
  | 4 => groups.any (fun g => groupContains g x) || (x.kind.toNat == 5 && i / 256 == 6 && relays.contains (i % 256))
  | 6 => x.kind.toNat != 7
  | 7 => true
  | _ => false

/-- The groups a scope contains at a declaration now (R41). -/
def State.groupsAt (s : State) (x : Scope) : List Nat :=
  match x.kind.toNat with
  | 3 => s.groupsOf x.inst.toNat
  | 4 => s.groupsOf (8 + x.inst.toNat)
  | _ => []

/-- The load-switch channels of a port's four string contactors (R41, R306). -/
def State.relaysAt (s : State) (x : Scope) : List Nat :=
  if x.kind = 4 then (List.range 4).map fun j => SMap.get 255 s.maq.stringRelay (4 * x.inst.toNat + j) else []

/-- A scope is tripped while a trip of class F2 or higher stands in it or in a scope that contains it (R37, R42). -/
def State.tripped (s : State) (x : Scope) : Bool := s.trips.any fun t => decide (2 ≤ t.cls) && inScope t.scope t.groups t.relays x

/-- The discarded-work record (R44, R465). -/
def State.discardedWork (s : State) (cls eng : Nat) (sc : Scope) (reqs staged : Nat) : State :=
  s.unitRecord cls eng 0x003 sc 0 (reqs % 65536 + staged % 65536 * 65536) [7, eng]

/-- The queue-side discard of a fault (R43, R44, R95): each engine that discarded work posts one record with the number of its requests. The
engines of `also` discard items without a request, and T6 `more` requests whose frames stand in its controllers. -/
def State.faultDiscard (s : State) (cls : Nat) (sc : Scope) (groups relays : List Nat) (more : Nat) (also : List Nat) : State :=
  let inside := fun (r : Req) => inScope sc groups relays r.scope
  s.discardAll inside (if more = 0 then also else 6 :: also)
    (fun s e n => s.discardedWork cls e sc (if e = 6 then n + more else n) 0) engines

/-- The disable of a unit with scope sc by engine e (R43, R47): every queued request within its scope completes DISCARDED, `more` have done so
already; one record of class 7 with the count. -/
def State.disableWork (s : State) (e : Nat) (sc : Scope) (more : Nat) : State :=
  let g := s.groupsAt sc
  let rl := s.relaysAt sc
  let (n, s) := s.discardQueues (fun r => inScope sc g rl r.scope) allQueues
  s.discardedWork 7 e sc (n + more) 0

/-- Declare a trip of class F2 or higher by engine e, and discard the queued work in its scope (R42, R43, R95); the engines of `todo` have their
discard at the units before them. -/
def State.declareTrip (s : State) (e cls : Nat) (sc : Scope) (more : Nat) (also todo : List Nat) : State :=
  let g := s.groupsAt sc
  let rl := s.relaysAt sc
  let t : Trip := ⟨e, cls, sc, g, rl, todo⟩
  let s := { s with trips := s.trips.filter (fun (u : Trip) => !(u.eng == e && u.cls == cls && u.scope == sc)) ++ [t] }
  s.faultDiscard cls sc g rl more also

/-! ## Period counters (R51, R68) -/

/-- The present count of a period kind and instance. Every counter starts at 0 after a reset, which the spec does not state (log 213). -/
def State.period (s : State) (kind inst : Nat) : Nat := SMap.get 0 s.periods (16 * kind + inst)

/-- The instance a request's tag names (R51). -/
def tagInst (r : Req) : Nat := if r.periodKind = 8 then r.scope.inst.toNat else 0

/-- Whether a queued request carries an older sequence of the kind and instance (R51): queued tags were current on arrival, so
a tag other than the present one is older. -/
def staleTag (s : State) (kind inst : Nat) (r : Req) : Bool :=
  r.periodKind.toNat == kind && tagInst r == inst && r.periodSeq.toNat != s.period kind inst % 4096

/-- The PERIOD_DISCARD record (R51, R465). -/
def State.periodDiscardRecord (s : State) (eng kind inst n : Nat) : State :=
  s.unitRecord 7 eng 0x007 (if kind = 8 then connScope inst else deviceScope) 0 (n % 65536 + kind * 65536 + inst * 16777216) [7, eng]

/-- Drain every queue and the mailbox of requests with an older tag of the kind and instance (R51, R68). -/
def State.drainPeriod (s : State) (kind inst : Nat) : State :=
  let p := fun r => staleTag s kind inst r
  s.discardAll p [] (fun s e n => s.periodDiscardRecord e kind inst n) engines

/-- Advance a period counter and drain (R51). -/
def State.advancePeriod (s : State) (kind inst : Nat) : State :=
  let s := { s with periods := SMap.set 0 s.periods (16 * kind + inst) ((s.period kind inst + 1) % 2 ^ 32) }
  s.drainPeriod kind inst

/-! ## Arrival of a request (R33) -/

/-- Whether an originator ID is assigned (R30). -/
def origValid (o : BitVec 16) : Bool :=
  let n := o.toNat
  (1 ≤ n && n ≤ 8) || (0x10 ≤ n && n ≤ 0x17) || (0x20 ≤ n && n ≤ 0x2F) || (0x100 ≤ n && n ≤ 0x1FF) ||
    (0x400 ≤ n && n ≤ 0x7FF) || (0x1000 ≤ n && n ≤ 0x1103) || (0xF000 ≤ n && n ≤ 0xF0FF)

/-- Whether a period tag is valid (R51). -/
def tagValid (r : Req) : Bool :=
  r.periodKind.toNat ≤ 9 && r.periodKind != 4 && (r.periodKind != 8 || r.scope.kind == 3)

/-- The superseding opcodes (R38): as the chapters name them. -/
def superseding (o : BitVec 16) : Bool :=
  [0x0101, 0x0103, 0x0104, 0x0201, 0x0202, 0x0203, 0x0301, 0x0303, 0x0305, 0x0405, 0x0406, 0x0581, 0x0601, 0x0603].contains o.toNat

/-- Whether request y has the opcode and scope of x; per point for POINT_WRITE and OVERRIDE (R370), per string for STRING_SW
(R306). -/
def sameTarget (x y : Req) : Bool :=
  x.opcode == y.opcode && x.scope == y.scope &&
    (!([0x0601, 0x0603].contains x.opcode.toNat) || x.payload.toNat % 2 ^ 20 == y.payload.toNat % 2 ^ 20) &&
    (x.opcode.toNat != 0x0581 || x.payload.toNat % 4 == y.payload.toNat % 4)

/-- The number of PENDING entries. -/
def pendingCount (l : List LintEntry) : Nat := (l.filter fun e => e.status == 0).length

/-- The list without its last element that p selects. -/
def dropLastWhere {α : Type} (p : α → Bool) (l : List α) : List α :=
  match l.reverse.findIdx? p with
  | none => l
  | some i => (l.reverse.eraseIdx i).reverse

/-- Insert a new entry; beyond 64 the oldest completed entry goes (R33). -/
def lintInsert (e : LintEntry) (l : List LintEntry) : List LintEntry :=
  if 64 ≤ l.length then e :: dropLastWhere (fun x => x.status != 0) l else e :: l

/-- Whether the queue is disabled (R47); the mailbox cannot be disabled. -/
def State.queueDisabled (s : State) : QId → Bool
  | .queue e q => s.f (ENG_CTRL_q_en e) / 2 ^ (q : Nat) % 2 == 0
  | .mailbox => false

/-- What the mailbox copies of an indirect payload (R28, R74): the bytes in LPDDR4X. RQTAKE lays them into T4's data SRAM. -/
def State.copyIndirect (s : State) (q : QId) (r : Req) : List Byte :=
  if q = .mailbox ∧ r.indirect then s.dmaRdBytes r.indAddr r.indLen else []

/-- The lint list of an originator, brought to the front as the most recently used: none where the queue tracks 64 originators
and each has a PENDING entry. A new list may evict the least recently used originator without PENDING entries (LINT_EVICT). -/
def State.touchLint (s : State) (q : QId) (o : BitVec 16) : Option State :=
  let qq := s.queue q
  match qq.lints.find? (·.orig == o) with
  | some l => some (s.setQueue q { qq with lints := l :: qq.lints.filter (·.orig != o) })
  | none =>
    if qq.lints.length < 64 then some (s.setQueue q { qq with lints := ⟨o, []⟩ :: qq.lints })
    else
      match qq.lints.reverse.find? (fun l => pendingCount l.entries == 0) with
      | none => none
      | some v =>
        let s := s.setQueue q { qq with lints := ⟨o, []⟩ :: qq.lints.filter (·.orig != v.orig) }
        some (s.unitRecord 0 q.owner 0x004 q.scope v.orig.toNat 0 [7, q.owner])

/-- Complete DISCARDED the request that engine e has taken in context c when `r` supersedes it. -/
def State.supersedeTaken (s : State) (e : Nat) (r : Req) (c : Nat) : State :=
  let n := s.eng e
  match n.takenIn c with
  | some t =>
    if !t.dead ∧ sameTarget t.item.req r then
      let s := s.setEng e (n.setTaken c (some { t with dead := true }))
      s.complete t.q t.item.req 3 0 0
    else s
  | none => s

/-- Supersede (R38): an older request of the same superseding opcode and scope at the same engine, on whichever of its queues it came, queued or
taken, completes DISCARDED. -/
def State.supersede (s : State) (q : QId) (r : Req) : State :=
  if superseding r.opcode then
    (List.range 9).foldl (fun s c => s.supersedeTaken q.owner r c) (s.discardQueues (fun x => sameTarget x r) (queuesOf (Fin.ofNat 8 q.owner))).2
  else s

/-- The arrival of a request at a queue or the mailbox (R33, R74), after the sender's right to use it is settled: whether it was
stored, and the state. -/
def State.arriveB (s : State) (q : QId) (r : Req) : Bool × State :=
  if !origValid r.origId then (false, s.reply q r 2 0)
  else if q = .mailbox ∧ r.indirect ∧ 4096 < r.indLen then (false, s.reply q r 2 0)
  else
    match s.touchLint q r.origId with
    | none => (false, s.reply q r 5 0)
    | some s =>
      let qq := s.queue q
      let l := ((qq.lints.find? (·.orig == r.origId)).map (·.entries)).getD []
      match l.find? (·.reqId == r.reqId) with
      | some e => (false, s.reply q r 4 e.status e.value)
      | none =>
        if s.queueDisabled q then (false, s.reply q r 5 2)
        else if s.tripped r.scope then (false, s.reply q r 5 1)
        else if qq.items.length = q.capacity ∨ pendingCount l = 64 then (false, s.reply q r 5 0)
        else if r.periodKind ≠ 0 ∧ !tagValid r then (false, s.reply q r 2 3)
        else if r.periodKind ≠ 0 ∧ r.periodSeq.toNat ≠ s.period r.periodKind.toNat (tagInst r) % 4096 then (false, s.reply q r 3 0)
        else
          let s := s.setQueue q { qq with lints := mapLint r.origId (lintInsert ⟨r.reqId, 0, 0, r.replyWanted, 0⟩) qq.lints }
          let s := s.supersede q r
          let qq := s.queue q
          (true, s.setQueue q { qq with items := qq.items ++ [⟨r, s.copyIndirect q r⟩] })

/-- The arrival of a request (R33). -/
def State.arrive (s : State) (q : QId) (r : Req) : State := (s.arriveB q r).2

/-! ## Engine registers and contexts (R54, R55, R70) -/

/-- Read general register r of engine n in its running context; g0 reads zero. -/
def Engine.g (n : Engine) (r : Fin 32) : DWord :=
  if r.val = 0 then 0 else if r.val < 16 then SMap.get 0 n.bank (16 * n.ctx + r) else SMap.get 0 n.shared r

/-- Write general register r of engine n in its running context; writes of g0 are ignored. -/
def Engine.setG (n : Engine) (r : Fin 32) (v : DWord) : Engine :=
  if r.val = 0 then n
  else if r.val < 16 then { n with bank := SMap.set 0 n.bank (16 * n.ctx + r) v }
  else { n with shared := SMap.set 0 n.shared r v }

def Engine.pc (n : Engine) : DWord := SMap.get 0 n.pcs n.ctx
def Engine.setPc (n : Engine) (v : DWord) : Engine := { n with pcs := SMap.set 0 n.pcs n.ctx v }
def Engine.s0 (n : Engine) : DWord := SMap.get 0 n.flags n.ctx
def Engine.setS0 (n : Engine) (v : DWord) : Engine := { n with flags := SMap.set 0 n.flags n.ctx v }
def Engine.tpOf (n : Engine) (k : Nat) : DWord := SMap.get 0 n.tp k
def Engine.setTp (n : Engine) (k : Nat) (v : DWord) : Engine := { n with tp := SMap.set 0 n.tp k v }
/-- pc ← pc + 4. -/
def Engine.next (n : Engine) : Engine := n.setPc (n.pc + 4)

/-- Whether engine e executes instructions: its core is released, not halted, and its running context waits for nothing. -/
def State.ready (s : State) (e : Nat) : Bool :=
  s.fb (ENG_CTRL_run e) && !s.fb (ENG_STATUS_halted e) && (s.eng e).wait.isNone && !(s.eng e).fence

/-- Taking a trap (R70, R89): the cause, the context and the count go into TRAP_CAUSE, the pc into TRAP_PC and s5, the operand
into s6; the context enters trap state and goes on at the trap entry 0x40. In trap state already it is a double trap: the engine
halts, and T7 treats that as a missed heartbeat (State.doubleTraps, HEARTBEAT_MISSED). -/
def State.trap (s : State) (e code : Nat) (val : DWord) : State :=
  let n := s.eng e
  let s := (s.setF (ENG_TRAP_CAUSE_cause e) code).setF (ENG_TRAP_CAUSE_ctx e) n.ctx
  let s := (s.addSat (ENG_TRAP_CAUSE_count e) 1).setF (ENG_TRAP_PC_pc e) n.pc.toNat
  let n1 := { n with trapPc := n.pc, trapVal := val }
  if n.inTrap.contains n.ctx then
    ((s.setEng e n1).setB (ENG_STATUS_halted e) true).setB (ENG_STATUS_double_trap e) true
  else s.setEng e ({ n1 with inTrap := n.ctx :: n.inTrap }.setPc 0x40)

end Sys2Proof.Machine
end

