-- ==== Sys2Proof/Machine/Flags.lean ====
section
/-!
DEFINITION. The flags register s0 (R85): z, n, c, v, qs, ql in bits 0 to 5, and what each group of instructions writes into it.
-/
namespace Sys2Proof.Machine

/-- Bit i of s0. -/
def flagBit (w : DWord) (i : Nat) : Bool := w.getLsbD i

/-- s0 with bit i set to b. -/
def putFlag (w : DWord) (i : Nat) (b : Bool) : DWord :=
  if b then w ||| BitVec.ofNat 64 (2 ^ i) else w &&& ~~~(BitVec.ofNat 64 (2 ^ i))

/-- z and n of a 64-bit result; the other flags unchanged. -/
def flagsZN (w r : DWord) : DWord := putFlag (putFlag w 0 (r == 0)) 1 r.msb

/-- z, n, c and v of a 64-bit sum or difference. -/
def flagsZNCV (w r : DWord) (c v : Bool) : DWord := putFlag (putFlag (flagsZN w r) 2 c) 3 v

/-- z, n and v of a quotient (DIV, DIVU). -/
def flagsZNV (w r : DWord) (v : Bool) : DWord := putFlag (flagsZN w r) 3 v

/-- Carry out of bit 63 of a + b. -/
def addCarry (a b : DWord) : Bool := decide (2 ^ 64 ≤ a.toNat + b.toNat)

/-- Signed overflow of a + b. -/
def addOverflow (a b : DWord) : Bool := decide ((a + b).toInt ≠ a.toInt + b.toInt)

/-- Borrow of a − b: a < b unsigned. -/
def subBorrow (a b : DWord) : Bool := decide (a.toNat < b.toNat)

/-- Signed overflow of a − b. -/
def subOverflow (a b : DWord) : Bool := decide ((a - b).toInt ≠ a.toInt - b.toInt)

/-- The flags of a Q-format instruction (R85, R86): z of the result, n from bit 31 of a 32-bit result (bit 63 for MACW), ql
whether it saturated, qs sticky. -/
def flagsQ (w r : DWord) (neg sat : Bool) : DWord :=
  let w := putFlag (putFlag w 0 (r == 0)) 1 neg
  putFlag (if sat then putFlag w 4 true else w) 5 sat

/-- s0 as MTS writes it: the reserved bits [63:6] read zero (R10, R85). -/
def maskS0 (v : DWord) : DWord := v &&& 0x3F

end Sys2Proof.Machine
end

