-- ==== Sys2Proof/Machine/Operands.lean ====
section
/-!
DEFINITION. Operand forms of the Tocon instructions (R80, R81) and the shared ways an instruction ends: a register result, a
jump, a trap. An instruction executes only while its engine is ready (State.ready); otherwise the command leaves the state as it
is (log 8).
-/
namespace Sys2Proof.Machine

/-- sext(x) of a 16-bit immediate. -/
def sext16 (x : BitVec 16) : DWord := x.signExtend 64

/-- zext(x) of a 16-bit immediate. -/
def zext16 (x : BitVec 16) : DWord := x.zeroExtend 64

/-- The effective address base + sext(off16). -/
def Engine.ea (n : Engine) (base : Fin 32) (off : BitVec 16) : DWord := n.g base + sext16 off

/-- The target pc + sext(off16) × 4. -/
def Engine.target (n : Engine) (off : BitVec 16) : DWord := n.pc + sext16 off * 4

/-- Run an instruction of engine e: only while the engine is ready. -/
def State.instr (s : State) (e : Nat) (g : State) : Host.Outcome State Fault Refusal :=
  if s.ready e then .next g else .next s

/-- rd ← v, s0 ← f, pc ← pc + 4. -/
def State.setRdFlags (s : State) (e : Nat) (rd : Fin 32) (v f : DWord) : State :=
  let n := s.eng e
  s.setEng e ((n.setG rd v).setS0 f).next

/-- rd ← v, pc ← pc + 4; the flags unchanged. -/
def State.setRd (s : State) (e : Nat) (rd : Fin 32) (v : DWord) : State := s.setEng e ((s.eng e).setG rd v).next

/-- pc ← pc + 4 and nothing else. -/
def State.advance (s : State) (e : Nat) : State := s.setEng e (s.eng e).next

/-- pc ← t; where t lies outside the instruction SRAM, its instruction is not executed and the engine traps with code 0x03 and
s5 holding the target (R81). -/
def State.jump (s : State) (e : Nat) (t : DWord) : State :=
  let s := s.setEng e ((s.eng e).setPc t)
  if t.toNat < 0x20000 then s else s.trap e 0x03 t

/-- A trap whose operand the spec does not state (R55): s6 takes a free value (log 6). -/
def State.trapFree (s : State) (e code : Nat) : State :=
  let (v, s) := s.fresh
  s.trap e code (BitVec.ofNat 64 v)

/-- An integer instruction of two register operands that writes z and n. -/
def State.aluZN (s : State) (e : Nat) (rd rs1 rs2 : Fin 32) (op : DWord → DWord → DWord) : State :=
  let n := s.eng e
  let r := op (n.g rs1) (n.g rs2)
  s.setRdFlags e rd r (flagsZN n.s0 r)

/-- An integer instruction of a register and an immediate that writes z and n. -/
def State.aluImm (s : State) (e : Nat) (rd rs1 : Fin 32) (v : DWord) (op : DWord → DWord → DWord) : State :=
  let n := s.eng e
  let r := op (n.g rs1) v
  s.setRdFlags e rd r (flagsZN n.s0 r)

/-- A division or remainder: a trap with code 0x05 and the zero divisor as operand, or the result with its flags. -/
def State.divide (s : State) (e : Nat) (rd rs1 rs2 : Fin 32) (op : DWord → DWord → DWord) (fl : DWord → DWord → DWord → DWord → DWord) :
    State :=
  let n := s.eng e
  let a := n.g rs1
  let b := n.g rs2
  if b = 0 then s.trap e 0x05 0
  else s.setRdFlags e rd (op a b) (fl n.s0 (op a b) a b)

/-- A compare-and-branch (R81). -/
def State.branch (s : State) (e : Nat) (rs1 rs2 : Fin 32) (off : BitVec 16) (c : DWord → DWord → Bool) : State :=
  let n := s.eng e
  if c (n.g rs1) (n.g rs2) then s.jump e (n.target off) else s.advance e

/-! ## Q-format helpers (R86) -/

/-- s(x): the low word as a signed number. -/
def sLow (x : DWord) : Int := (x.extractLsb' 0 32).toInt

/-- rnd(p, n). -/
def qrnd (p : Int) (n : Nat) : Int := if n = 0 then p else (p + 2 ^ (n - 1)) / 2 ^ n

/-- p / q truncated toward zero. -/
def truncDiv (p q : Int) : Int := Int.tdiv p q

/-- The clamp of a result to lo … hi and whether it clamped. -/
def qclamp (lo hi x : Int) : Int × Bool := (clampI lo hi x, decide (x < lo ∨ hi < x))

/-- sat32. -/
def sat32 (x : Int) : Int × Bool := qclamp (-(2 ^ 31)) (2 ^ 31 - 1) x

/-- sat64. -/
def sat64 (x : Int) : Int × Bool := qclamp (-(2 ^ 63)) (2 ^ 63 - 1) x

/-- rd ← a Q-format result, sign-extended; z, n, qs, ql; pc + 4. -/
def State.setQ (s : State) (e : Nat) (rd : Fin 32) (r : Int × Bool) : State :=
  let v := BitVec.ofInt 64 r.1
  s.setRdFlags e rd v (flagsQ (s.eng e).s0 v (decide (r.1 < 0)) r.2)

end Sys2Proof.Machine
end

