-- ==== Sys2Proof/Machine/Alu.lean ====
section
/-!
DEFINITION. The integer group, the immediate and jump group, and the branch group (R81, R87): one meaning per instruction.
-/
namespace Sys2Proof.Machine

abbrev Out := Host.Outcome State Fault Refusal

/-! ## Integer group -/

def execAdd (e : Fin 8) (rd rs1 rs2 : Fin 32) (s : State) : Out :=
  let n := s.eng e
  let a := n.g rs1
  let b := n.g rs2
  s.instr e (s.setRdFlags e rd (a + b) (flagsZNCV n.s0 (a + b) (addCarry a b) (addOverflow a b)))

def execSub (e : Fin 8) (rd rs1 rs2 : Fin 32) (s : State) : Out :=
  let n := s.eng e
  let a := n.g rs1
  let b := n.g rs2
  s.instr e (s.setRdFlags e rd (a - b) (flagsZNCV n.s0 (a - b) (subBorrow a b) (subOverflow a b)))

def execAnd (e : Fin 8) (rd rs1 rs2 : Fin 32) (s : State) : Out := s.instr e (s.aluZN e rd rs1 rs2 (· &&& ·))
def execOr (e : Fin 8) (rd rs1 rs2 : Fin 32) (s : State) : Out := s.instr e (s.aluZN e rd rs1 rs2 (· ||| ·))
def execXor (e : Fin 8) (rd rs1 rs2 : Fin 32) (s : State) : Out := s.instr e (s.aluZN e rd rs1 rs2 (· ^^^ ·))

/-- Shift amount: bits [5:0]. -/
def shamt (b : DWord) : Nat := b.toNat % 64

def execSll (e : Fin 8) (rd rs1 rs2 : Fin 32) (s : State) : Out := s.instr e (s.aluZN e rd rs1 rs2 fun a b => a <<< shamt b)
def execSrl (e : Fin 8) (rd rs1 rs2 : Fin 32) (s : State) : Out := s.instr e (s.aluZN e rd rs1 rs2 fun a b => a >>> shamt b)
def execSra (e : Fin 8) (rd rs1 rs2 : Fin 32) (s : State) : Out := s.instr e (s.aluZN e rd rs1 rs2 fun a b => a.sshiftRight (shamt b))

/-- 1 or 0. -/
def boolWord (b : Bool) : DWord := if b then 1 else 0

def execSlt (e : Fin 8) (rd rs1 rs2 : Fin 32) (s : State) : Out := s.instr e (s.aluZN e rd rs1 rs2 fun a b => boolWord (a.slt b))
def execSltu (e : Fin 8) (rd rs1 rs2 : Fin 32) (s : State) : Out := s.instr e (s.aluZN e rd rs1 rs2 fun a b => boolWord (a.ult b))
def execMin (e : Fin 8) (rd rs1 rs2 : Fin 32) (s : State) : Out := s.instr e (s.aluZN e rd rs1 rs2 fun a b => if a.slt b then a else b)
def execMax (e : Fin 8) (rd rs1 rs2 : Fin 32) (s : State) : Out := s.instr e (s.aluZN e rd rs1 rs2 fun a b => if a.slt b then b else a)
def execMinu (e : Fin 8) (rd rs1 rs2 : Fin 32) (s : State) : Out := s.instr e (s.aluZN e rd rs1 rs2 fun a b => if a.ult b then a else b)
def execMaxu (e : Fin 8) (rd rs1 rs2 : Fin 32) (s : State) : Out := s.instr e (s.aluZN e rd rs1 rs2 fun a b => if a.ult b then b else a)

def execSextw (e : Fin 8) (rd rs1 : Fin 32) (s : State) : Out :=
  s.instr e (s.aluImm e rd rs1 0 fun a _ => (a.extractLsb' 0 32).signExtend 64)

def execMul (e : Fin 8) (rd rs1 rs2 : Fin 32) (s : State) : Out := s.instr e (s.aluZN e rd rs1 rs2 (· * ·))

/-- The high 64 bits of the signed 128-bit product. -/
def mulHigh (a b : DWord) : DWord := BitVec.ofInt 64 (a.toInt * b.toInt / 2 ^ 64)

/-- The high 64 bits of the unsigned 128-bit product. -/
def mulHighU (a b : DWord) : DWord := BitVec.ofNat 64 (a.toNat * b.toNat / 2 ^ 64)

def execMulh (e : Fin 8) (rd rs1 rs2 : Fin 32) (s : State) : Out := s.instr e (s.aluZN e rd rs1 rs2 mulHigh)
def execMulhu (e : Fin 8) (rd rs1 rs2 : Fin 32) (s : State) : Out := s.instr e (s.aluZN e rd rs1 rs2 mulHighU)

/-- The signed quotient truncated toward zero; −2^63 / −1 gives −2^63. -/
def quotS (a b : DWord) : DWord := BitVec.ofInt 64 (truncDiv a.toInt b.toInt)

/-- The remainder with the sign of the dividend. -/
def remS (a b : DWord) : DWord := BitVec.ofInt 64 (a.toInt.tmod b.toInt)

/-- Whether a signed division overflows: −2^63 / −1. -/
def divOverflow (a b : DWord) : Bool := a.toInt == -(2 ^ 63) && b.toInt == -1

def execDiv (e : Fin 8) (rd rs1 rs2 : Fin 32) (s : State) : Out :=
  s.instr e (s.divide e rd rs1 rs2 quotS fun w r a b => flagsZNV w r (divOverflow a b))
def execDivu (e : Fin 8) (rd rs1 rs2 : Fin 32) (s : State) : Out :=
  s.instr e (s.divide e rd rs1 rs2 (· / ·) fun w r _ _ => flagsZNV w r false)
def execRem (e : Fin 8) (rd rs1 rs2 : Fin 32) (s : State) : Out :=
  s.instr e (s.divide e rd rs1 rs2 remS fun w r _ _ => flagsZN w r)
def execRemu (e : Fin 8) (rd rs1 rs2 : Fin 32) (s : State) : Out :=
  s.instr e (s.divide e rd rs1 rs2 (· % ·) fun w r _ _ => flagsZN w r)

/-! ## Immediate and jump group -/

def execAddi (e : Fin 8) (rd rs1 : Fin 32) (imm : BitVec 16) (s : State) : Out :=
  let n := s.eng e
  let a := n.g rs1
  let b := sext16 imm
  s.instr e (s.setRdFlags e rd (a + b) (flagsZNCV n.s0 (a + b) (addCarry a b) (addOverflow a b)))

def execAndi (e : Fin 8) (rd rs1 : Fin 32) (imm : BitVec 16) (s : State) : Out := s.instr e (s.aluImm e rd rs1 (zext16 imm) (· &&& ·))
def execOri (e : Fin 8) (rd rs1 : Fin 32) (imm : BitVec 16) (s : State) : Out := s.instr e (s.aluImm e rd rs1 (zext16 imm) (· ||| ·))
def execXori (e : Fin 8) (rd rs1 : Fin 32) (imm : BitVec 16) (s : State) : Out := s.instr e (s.aluImm e rd rs1 (zext16 imm) (· ^^^ ·))
def execSlti (e : Fin 8) (rd rs1 : Fin 32) (imm : BitVec 16) (s : State) : Out :=
  s.instr e (s.aluImm e rd rs1 (sext16 imm) fun a b => boolWord (a.slt b))
def execSltiu (e : Fin 8) (rd rs1 : Fin 32) (imm : BitVec 16) (s : State) : Out :=
  s.instr e (s.aluImm e rd rs1 (sext16 imm) fun a b => boolWord (a.ult b))
def execLui (e : Fin 8) (rd : Fin 32) (imm : BitVec 16) (s : State) : Out :=
  s.instr e (s.aluImm e rd 0 (sext16 imm) fun _ b => b <<< 16)
def execShori (e : Fin 8) (rd rs1 : Fin 32) (imm : BitVec 16) (s : State) : Out :=
  s.instr e (s.aluImm e rd rs1 (zext16 imm) fun a b => (a <<< 16) ||| b)

def execSlli (e : Fin 8) (rd rs1 : Fin 32) (sh : BitVec 6) (s : State) : Out := s.instr e (s.aluImm e rd rs1 0 fun a _ => a <<< sh.toNat)
def execSrli (e : Fin 8) (rd rs1 : Fin 32) (sh : BitVec 6) (s : State) : Out := s.instr e (s.aluImm e rd rs1 0 fun a _ => a >>> sh.toNat)
def execSrai (e : Fin 8) (rd rs1 : Fin 32) (sh : BitVec 6) (s : State) : Out := s.instr e (s.aluImm e rd rs1 0 fun a _ => a.sshiftRight sh.toNat)

/-- JAL: rd ← pc + 4, pc ← pc + sext(imm16) × 4. -/
def execJal (e : Fin 8) (rd : Fin 32) (imm : BitVec 16) (s : State) : Out :=
  let n := s.eng e
  s.instr e ((s.setEng e (n.setG rd (n.pc + 4))).jump e (n.target imm))

/-- JALR: t ← rs1 + sext(imm16), a trap 0x02 where t is not word-aligned; rd ← pc + 4, pc ← t. -/
def execJalr (e : Fin 8) (rd rs1 : Fin 32) (imm : BitVec 16) (s : State) : Out :=
  let n := s.eng e
  let t := n.g rs1 + sext16 imm
  s.instr e (if t.toNat % 4 ≠ 0 then s.trap e 0x02 t else (s.setEng e (n.setG rd (n.pc + 4))).jump e t)

/-! ## Branch group -/

def execBeq (e : Fin 8) (rs1 rs2 : Fin 32) (off : BitVec 16) (s : State) : Out := s.instr e (s.branch e rs1 rs2 off fun a b => a == b)
def execBne (e : Fin 8) (rs1 rs2 : Fin 32) (off : BitVec 16) (s : State) : Out := s.instr e (s.branch e rs1 rs2 off fun a b => a != b)
def execBlt (e : Fin 8) (rs1 rs2 : Fin 32) (off : BitVec 16) (s : State) : Out := s.instr e (s.branch e rs1 rs2 off fun a b => a.slt b)
def execBge (e : Fin 8) (rs1 rs2 : Fin 32) (off : BitVec 16) (s : State) : Out := s.instr e (s.branch e rs1 rs2 off fun a b => !a.slt b)
def execBltu (e : Fin 8) (rs1 rs2 : Fin 32) (off : BitVec 16) (s : State) : Out := s.instr e (s.branch e rs1 rs2 off fun a b => a.ult b)
def execBgeu (e : Fin 8) (rs1 rs2 : Fin 32) (off : BitVec 16) (s : State) : Out := s.instr e (s.branch e rs1 rs2 off fun a b => !a.ult b)

/-! ## Q-format group (R86) -/

def execQadd (e : Fin 8) (rd rs1 rs2 : Fin 32) (s : State) : Out :=
  let n := s.eng e
  s.instr e (s.setQ e rd (sat32 (sLow (n.g rs1) + sLow (n.g rs2))))
def execQsub (e : Fin 8) (rd rs1 rs2 : Fin 32) (s : State) : Out :=
  let n := s.eng e
  s.instr e (s.setQ e rd (sat32 (sLow (n.g rs1) - sLow (n.g rs2))))
def execQneg (e : Fin 8) (rd rs1 : Fin 32) (s : State) : Out := s.instr e (s.setQ e rd (sat32 (-sLow ((s.eng e).g rs1))))
def execQabs (e : Fin 8) (rd rs1 : Fin 32) (s : State) : Out :=
  s.instr e (s.setQ e rd (sat32 ((sLow ((s.eng e).g rs1)).natAbs : Int)))
def execQmul (e : Fin 8) (rd rs1 rs2 : Fin 32) (n : BitVec 5) (s : State) : Out :=
  let t := s.eng e
  s.instr e (s.setQ e rd (sat32 (qrnd (sLow (t.g rs1) * sLow (t.g rs2)) n.toNat)))
def execQmac (e : Fin 8) (rd rs1 rs2 : Fin 32) (n : BitVec 5) (s : State) : Out :=
  let t := s.eng e
  s.instr e (s.setQ e rd (sat32 (sLow (t.g rd) + qrnd (sLow (t.g rs1) * sLow (t.g rs2)) n.toNat)))
def execQmsu (e : Fin 8) (rd rs1 rs2 : Fin 32) (n : BitVec 5) (s : State) : Out :=
  let t := s.eng e
  s.instr e (s.setQ e rd (sat32 (sLow (t.g rd) - qrnd (sLow (t.g rs1) * sLow (t.g rs2)) n.toNat)))
def execMacw (e : Fin 8) (rd rs1 rs2 : Fin 32) (s : State) : Out :=
  let t := s.eng e
  s.instr e (s.setQ e rd (sat64 ((t.g rd).toInt + sLow (t.g rs1) * sLow (t.g rs2))))
def execQrnd (e : Fin 8) (rd rs1 : Fin 32) (n : BitVec 5) (s : State) : Out :=
  s.instr e (s.setQ e rd (sat32 (qrnd ((s.eng e).g rs1).toInt n.toNat)))
def execQsat (e : Fin 8) (rd rs1 : Fin 32) (n : BitVec 5) (s : State) : Out :=
  s.instr e (s.setQ e rd (qclamp (-(2 ^ n.toNat)) (2 ^ n.toNat - 1) (sLow ((s.eng e).g rs1))))
def execQshl (e : Fin 8) (rd rs1 : Fin 32) (n : BitVec 5) (s : State) : Out :=
  s.instr e (s.setQ e rd (sat32 (sLow ((s.eng e).g rs1) * 2 ^ n.toNat)))

/-- QDIV: a trap 0x05 where the low word of rs2 is 0; the operand recorded is rs2. -/
def execQdiv (e : Fin 8) (rd rs1 rs2 : Fin 32) (n : BitVec 5) (s : State) : Out :=
  let t := s.eng e
  s.instr e (if sLow (t.g rs2) = 0 then s.trap e 0x05 (t.g rs2)
    else s.setQ e rd (sat32 (truncDiv (sLow (t.g rs1) * 2 ^ n.toNat) (sLow (t.g rs2)))))

end Sys2Proof.Machine
end

