-- ==== Sys2Proof/Machine/Requests.lean ====
section
/-!
DEFINITION. Requests, queues, the period rinse and the special registers (R33, R47, R51, R73 to R76, R85, R87, R89, R93, R96, R97).
-/
namespace Sys2Proof.Machine

/-! ## Queues -/

/-- Whether a sender may use a queue or the mailbox (R71): Q0 and Q1 engines, but for those of T4, which takes requests only from its mailbox (R14,
R25); Q2 the adapters of T0, T1 and T6; Q3 the service port at T7; the mailbox engines other than T4. -/
def maySend : Sender → QId → Bool
  | .engine _, .queue e q => q.val ≤ 1 && e.val != 4
  | .engine e, .mailbox => e.val != 4
  | .adapter, .queue e q => q.val == 2 && (e.val == 0 || e.val == 1 || e.val == 6)
  | .adapter, .mailbox => false
  | .service, .queue e q => q.val == 3 && e.val == 7
  | .service, .mailbox => false

/-- REQUEST_ARRIVAL: a request outside R71 is not stored and an engine that sent it traps with code 0x06; a record whose orig_id
is not the sending engine's own is REJECTED in the sender's result area, or in the mailbox's ring (R72, R74); every other one is judged (R33). T4 sends to no queue: its map has no send
window (R56). Whether the request was stored, and the state. -/
def State.commitB (s : State) (sender : Sender) (q : QId) (r : Req) : Bool × State :=
  if !maySend sender q then
    match sender with
    | .engine e => (false, s.trapFree e 0x06)
    | _ => (false, s)
  else
    match sender with
    | .engine e =>
      if r.origId.toNat = e.val + 1 then s.arriveB q r
      else if q = .mailbox then (false, s.reply q r 2 0)
      else (false, (s.resultAt e ⟨r.origId, 2, 0, r.reqId, 0⟩).completionEvent q r 2)
    | _ => s.arriveB q r

def State.commit (s : State) (sender : Sender) (q : QId) (r : Req) : State := (s.commitB sender q r).2

/-- The newest request of a queue leaves it: the image's table step has taken it. -/
def State.unqueue (s : State) (q : QId) : State :=
  let qq := s.queue q
  s.setQueue q { qq with items := qq.items.dropLast }

/-- A request and, where it is stored, the table step that the image's engine performs for it (log 11); nothing comes in while the clocks of the
fabric stand (R113, R424). -/
def State.serve (s : State) (sender : Sender) (q : QId) (r : Req) (f : State → State) : State :=
  if s.clocked then
    match s.commitB sender q r with
    | (true, s) => f (s.unqueue q)
    | (false, s) => s
  else s

/-- The table step goes on serving a request; it completes later. -/
def State.defer (s : State) (q : QId) (r : Req) : State :=
  let qq := s.queue q
  s.setQueue q { qq with serving := qq.serving ++ [⟨r, []⟩] }

/-- Complete, with a status and value, every request of q being served that p selects. -/
def State.finishServing (s : State) (q : QId) (p : Req → Bool) (status detail : Nat) (value : DWord) : State :=
  let qq := s.queue q
  let out := qq.serving.filter fun r => p r.req
  let s := s.setQueue q { qq with serving := qq.serving.filter fun r => !p r.req }
  out.foldl (fun s r => s.complete q r.req status detail value) s

/-- Complete a request REJECTED with a detail code. -/
def State.reject (s : State) (q : QId) (r : Req) (detail : Nat) : State := s.complete q r 2 detail 0

/-- Complete a request DONE with a value. -/
def State.done (s : State) (q : QId) (r : Req) (value : Nat) : State := s.complete q r 1 0 (BitVec.ofNat 64 value)

/-- REJECTED where the spec names no detail code: a free value (log 6). -/
def State.rejectFree (s : State) (q : QId) (r : Req) : State :=
  let (v, s) := s.fresh
  s.reject q r (v % 256)

def execRequestArrival (sender : Sender) (q : QId) (r : Req) (s : State) : Out := s.onClock fun s => s.commit sender q r

/-- Bit of q_en for queue q. -/
def qBit (v : Nat) (q : Nat) : Bool := v / 2 ^ q % 2 == 1

/-- Disable queue q of engine e (R47): its queued requests complete DISCARDED, and the event of class 7 carries the queue's scope
and the count. -/
def State.disableQueue (s : State) (e : Fin 8) (q : Fin 4) : State :=
  let v := s.f (ENG_CTRL_q_en e)
  if qBit v q then
    let s := s.setF (ENG_CTRL_q_en e) (v - 2 ^ (q : Nat))
    let (n, s) := s.discardWhere (.queue e q) fun _ => true
    s.discardedWork 7 e (QId.queue e q).scope n 0
  else s

/-- Enable queue q of engine e again, with its kept lint list (R47). -/
def State.enableQueue (s : State) (e : Fin 8) (q : Fin 4) : State :=
  let v := s.f (ENG_CTRL_q_en e)
  if qBit v q then s else s.setF (ENG_CTRL_q_en e) (v + 2 ^ (q : Nat))

/-- Whether engine w may write a part of ENG[e] (R437): T7, or engine e itself. -/
def engWriter (w e : Fin 8) : Bool := w.val == 7 || w == e

def execQueueDisable (w e : Fin 8) (q : Fin 4) (s : State) : Out :=
  .next (if engWriter w e then s.disableQueue e q else s.accessRecord 7 w (ENG_CTRL e))

def execQueueEnable (w e : Fin 8) (q : Fin 4) (s : State) : Out :=
  .next (if engWriter w e then s.enableQueue e q else s.accessRecord 7 w (ENG_CTRL e))

/-! ## Taking and completing requests (R73, R96) -/

/-- The queue number as RQTAKE returns it: 4 for the mailbox. -/
def qNumber : QId → Nat
  | .queue _ q => q
  | .mailbox => 4

/-- The first request of the first non-empty queue of a list, taken out of it. -/
def State.takeFirst (s : State) : List QId → Option (QId × Queued × State)
  | [] => none
  | q :: t =>
    match (s.queue q).items with
    | [] => s.takeFirst t
    | r :: rest => some (q, r, s.setQueue q { s.queue q with items := rest })

/-- The 32 bytes of a request record as a number (R28). -/
def reqNat (r : Req) : Nat :=
  r.origId.toNat + r.opcode.toNat * 2 ^ 16 + r.reqId.toNat * 2 ^ 32 + r.scope.toNat * 2 ^ 64 +
    (r.periodKind.toNat * 4096 + r.periodSeq.toNat) * 2 ^ 80 +
    ((if r.indirect then 1 else 0) + (if r.replyWanted then 2 else 0)) * 2 ^ 96 + r.payloadLen.toNat * 2 ^ 104 + r.payload.toNat * 2 ^ 128

/-- The request record that 32 bytes spell (R28). -/
def reqOfNat (v : Nat) : Req :=
  { origId := BitVec.ofNat 16 v, opcode := BitVec.ofNat 16 (v / 2 ^ 16), reqId := BitVec.ofNat 32 (v / 2 ^ 32),
    scope := ⟨BitVec.ofNat 4 (v / 2 ^ 76), BitVec.ofNat 12 (v / 2 ^ 64)⟩, periodKind := BitVec.ofNat 4 (v / 2 ^ 92),
    periodSeq := BitVec.ofNat 12 (v / 2 ^ 80), indirect := v / 2 ^ 96 % 2 == 1, replyWanted := v / 2 ^ 97 % 2 == 1,
    payloadLen := BitVec.ofNat 8 (v / 2 ^ 104), payload := BitVec.ofNat 128 (v / 2 ^ 128) }

/-- RQTAKE (R73, R96): the queues before the mailbox, and the trap of a context with a taken request, or of the mailbox bit, before those of the
destination (log 216, 217). The mailbox's copy of an indirect payload lies in T4's data SRAM (R28; log 19). -/
def State.rqtake (s : State) (e : Fin 8) (rd rs1 : Fin 32) (imm : BitVec 11) : State :=
  let n := s.eng e
  let dst := (n.g rs1).toNat
  let mbox := imm.getLsbD 4
  if imm.toNat / 32 ≠ 0 then s.trapFree e 0x01
  else if (n.takenIn n.ctx).isSome ∨ (mbox ∧ e.val ≠ 4) then s.trapFree e 0x06
  else if !(decide (0x10000000 ≤ dst) && decide (dst + 32 ≤ 0x10020000)) then s.trap e 0x03 (n.g rs1)
  else if dst % 32 ≠ 0 then s.trap e 0x02 (n.g rs1)
  else
    let qs : List QId := ([0, 1, 2, 3].filter fun (q : Fin 4) => imm.getLsbD q).map (fun q => QId.queue e q) ++ (if mbox then [.mailbox] else [])
    match s.takeFirst qs with
    | none => s.setRd e rd (-1)
    | some (q, item, s) =>
      let s := s.setEng e ((s.eng e).setTaken n.ctx (some ⟨q, item, false⟩))
      let s := (s.wr (sramKey e dst) 32 (reqNat item.req)).wrBytes (sramKey 4 s.maq.mboxBuf) item.copied
      let s := if item.req.indirect ∧ e.val ≠ 4 then s.cacheInvRange e item.req.indAddr item.req.indLen else s
      s.setRd e rd (BitVec.ofNat 64 (qNumber q))

def execRqtake (e : Fin 8) (rd rs1 : Fin 32) (imm : BitVec 11) (s : State) : Out := s.instr e (s.rqtake e rd rs1 imm)

/-- Whether a taken request's tag is stale (R51). -/
def State.tagStale (s : State) (r : Req) : Bool :=
  r.periodKind != 0 && r.periodSeq.toNat != s.period r.periodKind.toNat (tagInst r) % 4096

/-- The record of the cause for which an engine gives a taken request up (R33, R95): the fault that stands in its scope; none where no fault
does (log 220). -/
def State.gaveUp (s : State) (e : Nat) (r : Req) : State :=
  match s.trips.find? fun t => decide (2 ≤ t.cls) && inScope t.scope t.groups t.relays r.scope with
  | some t => s.discardedWork t.cls e t.scope 1 0
  | none => s

/-- Complete the request taken in context c of engine e: DISCARDED where its tag is stale, whatever the status, with
the PERIOD_DISCARD record of its cause (R33, R51; log 10). A request given up DISCARDED is counted in the record of its cause. -/
def State.finishTaken (s : State) (e c status detail : Nat) (value : DWord) : State :=
  let n := s.eng e
  match n.takenIn c with
  | none => s
  | some t =>
    let s := s.setEng e (n.setTaken c none)
    if t.dead then s
    else if s.tagStale t.item.req then
      (s.complete t.q t.item.req 3 0 0).periodDiscardRecord e t.item.req.periodKind.toNat (tagInst t.item.req) 1
    else if status = 3 then (s.complete t.q t.item.req 3 0 0).gaveUp e t.item.req
    else s.complete t.q t.item.req status detail value

/-- RQDONE (R96): bits imm11[10:3] are taken as reserved (log 9). -/
def State.rqdone (s : State) (e : Fin 8) (rs1 rs2 : Fin 32) (imm : BitVec 11) : State :=
  let n := s.eng e
  let st := imm.toNat % 8
  if imm.toNat / 8 ≠ 0 then s.trapFree e 0x01
  else if (n.takenIn n.ctx).isNone ∨ st = 0 ∨ 4 ≤ st then s.trapFree e 0x06
  else (s.finishTaken e n.ctx st ((n.g rs2).toNat % 256) (n.g rs1)).advance e

def execRqdone (e : Fin 8) (rs1 rs2 : Fin 32) (imm : BitVec 11) (s : State) : Out := s.instr e (s.rqdone e rs1 rs2 imm)

/-- RQDEPTH: the depths of Q0 to Q3 and, on T4, of the mailbox. -/
def State.depths (s : State) (e : Fin 8) : Nat :=
  let d := fun (q : QId) => (s.queue q).items.length
  d (.queue e 0) + 256 * d (.queue e 1) + 65536 * d (.queue e 2) + 16777216 * d (.queue e 3) +
    (if e.val = 4 then 4294967296 * d .mailbox else 0)

def execRqdepth (e : Fin 8) (rd : Fin 32) (s : State) : Out := s.instr e (s.setRd e rd (BitVec.ofNat 64 (s.depths e)))

/-! ## RINSE (R68, R97) -/

/-- The engines that own a period kind. -/
def ownsPeriod (e kind : Nat) : Bool :=
  match kind with
  | 1 => e == 2 || e == 3
  | 2 => e == 0
  | 3 => e == 5
  | 4 | 9 => e == 6
  | 5 | 6 | 7 => e == 4
  | 8 => e == 1
  | _ => false

/-- The lint list of connector c's vessel originator is emptied at the session boundary (R36). -/
def State.emptyVesselLint (s : State) (c : Nat) : State :=
  let q : QId := .queue 1 2
  let qq := s.queue q
  s.setQueue q { qq with lints := qq.lints.filter fun l => l.orig.toNat != 0x10 + c }

/-- What a RINSE does in the fabric (R68): advance the counter (kind 0x1 only drains) and drain; the new count. -/
def State.rinse (s : State) (kind inst : Nat) : Nat × State :=
  let s := if kind = 1 then s.drainPeriod 1 0 else s.advancePeriod kind inst
  let s := if kind = 8 then s.emptyVesselLint inst else s
  (s.period kind inst, s)

/-- RINSE with its traps: a kind 0 or above 9 and an instance out of range 0x01, a kind the engine does not own 0x06, which comes before the
instance's (log 218); bits imm11[10:4] are taken as reserved (log 9). -/
def State.rinseIns (s : State) (e : Fin 8) (rd rs1 : Fin 32) (imm : BitVec 11) : State :=
  let inst := ((s.eng e).g rs1).toNat
  let kind := imm.toNat % 16
  if imm.toNat / 16 ≠ 0 ∨ kind = 0 ∨ 9 < kind then s.trapFree e 0x01
  else if !ownsPeriod e kind then s.trapFree e 0x06
  else if (if kind = 4 ∨ kind = 8 then 7 < inst else inst ≠ 0) then s.trapFree e 0x01
  else
    let (v, s) := s.rinse kind inst
    s.setRd e rd (BitVec.ofNat 64 v)

def execRinse (e : Fin 8) (rd rs1 : Fin 32) (imm : BitVec 11) (s : State) : Out := s.instr e (s.rinseIns e rd rs1 imm)

/-! ## Special registers and system instructions (R55, R83, R85, R89) -/

/-- Special register N as the running context reads it (R55). -/
def State.special (s : State) (e : Fin 8) (i : Nat) : DWord :=
  let n := s.eng e
  let k := n.slot n.ctx
  match i with
  | 0 => n.s0
  | 1 => BitVec.ofNat 64 n.ctx
  | 2 => if n.ctx = 8 then 0 else BitVec.ofNat 64 k.cur.count
  | 3 => if n.ctx = 8 then 0 else BitVec.ofNat 64 k.cur.dt
  | 4 => BitVec.ofNat 64 (n.cycles / 8)
  | 5 => n.trapPc
  | 6 => n.trapVal
  | _ => BitVec.ofNat 64 e

/-- MFS: a trap 0x01 where N is above 7. -/
def execMfs (e : Fin 8) (rd : Fin 32) (n : BitVec 5) (s : State) : Out :=
  s.instr e (if 7 < n.toNat then s.trapFree e 0x01 else s.setRd e rd (s.special e n.toNat))

/-- MTS: the only instruction that clears qs; a trap 0x01 where the rd field is not 0. -/
def execMts (e : Fin 8) (rd rs1 : Fin 32) (s : State) : Out :=
  let n := s.eng e
  s.instr e (if rd.val ≠ 0 then s.trapFree e 0x01 else s.setEng e (n.setS0 (maskS0 (n.g rs1))).next)

/-- FENCE: the context waits for FENCE_COMPLETE (R83). -/
def execFence (e : Fin 8) (s : State) : Out := s.instr e (s.setEng e { s.eng e with fence := true })

/-- TRET: leave trap state and jump to rs1; a trap 0x01 outside a trap handler (R89). -/
def execTret (e : Fin 8) (rs1 : Fin 32) (s : State) : Out :=
  let n := s.eng e
  s.instr e (if n.inTrap.contains n.ctx then
      (s.setEng e { n with inTrap := n.inTrap.filter (· != n.ctx) }).jump e (n.g rs1)
    else s.trapFree e 0x01)

/-- ENG[n].HB counts, and the service interval begins anew (R76). -/
def State.heartbeat (s : State) (e : Nat) : State := (s.addWrap (ENG_HB_hb_count e) 1).setEng e { s.eng e with hbAt := s.now }

def execHeartbeat (e : Fin 8) (s : State) : Out := s.instr e ((s.heartbeat e).advance e)

/-- RDDT: rd ← DT. -/
def execRddt (e : Fin 8) (rd : Fin 32) (s : State) : Out := s.instr e (s.setRd e rd (BitVec.ofNat 64 s.dtNs))

end Sys2Proof.Machine
end

