-- ==== Sys2Proof/Machine/Crypto.lean ====
section
/-!
DEFINITION. SHA-256 and the verification of an ECDSA P-256 signature (R336, R348, R406 to R408). The spec names the two algorithms; their
constants are those of the standards (log 12).
-/
namespace Sys2Proof.Machine

/-! ## SHA-256 -/

/-- The round constants, eight to a row. -/
def shaRows : List Nat :=
  [0x428a2f9871374491b5c0fbcfe9b5dba53956c25b59f111f1923f82a4ab1c5ed5, 0xd807aa9812835b01243185be550c7dc372be5d7480deb1fe9bdc06a7c19bf174,
   0xe49b69c1efbe47860fc19dc6240ca1cc2de92c6f4a7484aa5cb0a9dc76f988da, 0x983e5152a831c66db00327c8bf597fc7c6e00bf3d5a7914706ca635114292967,
   0x27b70a852e1b21384d2c6dfc53380d13650a7354766a0abb81c2c92e92722c85, 0xa2bfe8a1a81a664bc24b8b70c76c51a3d192e819d6990624f40e3585106aa070,
   0x19a4c1161e376c082748774c34b0bcb5391c0cb34ed8aa4a5b9cca4f682e6ff3, 0x748f82ee78a5636f84c878148cc7020890befffaa4506cebbef9a3f7c67178f2]

/-- The eight 32-bit words of a 256-bit row, the highest first. -/
def rowWords (r : Nat) : List Nat := (List.range 8).map fun i => r / 2 ^ (224 - 32 * i) % 2 ^ 32

/-- The constants round by round. -/
def shaK : List Nat := shaRows.flatMap rowWords

/-- The initial hash value. -/
def shaH : List Nat := rowWords 0x6a09e667bb67ae853c6ef372a54ff53a510e527f9b05688c1f83d9ab5be0cd19

/-- x rotated right by n within 32 bits. -/
def rotr (x n : Nat) : Nat := x / 2 ^ n + x * 2 ^ (32 - n) % 2 ^ 32

/-- The message schedule: the words after the first 16, from the last 16 words w, oldest first. -/
def shaExtend : Nat → List Nat → List Nat
  | 0, w => w
  | n + 1, w =>
    let a := w.getD 1 0
    let b := w.getD 14 0
    let s0 := rotr a 7 ^^^ rotr a 18 ^^^ (a / 2 ^ 3)
    let s1 := rotr b 17 ^^^ rotr b 19 ^^^ (b / 2 ^ 10)
    let x := (w.getD 0 0 + s0 + w.getD 9 0 + s1) % 2 ^ 32
    w.getD 0 0 :: shaExtend n (w.drop 1 ++ [x])

/-- One round on the eight working variables. -/
def shaRound (v : List Nat) (kw : Nat) : List Nat :=
  match v with
  | [a, b, c, d, e, f, g, h] =>
    let s1 := rotr e 6 ^^^ rotr e 11 ^^^ rotr e 25
    let ch := (e &&& f) ^^^ ((2 ^ 32 - 1 - e) &&& g)
    let t1 := h + s1 + ch + kw
    let s0 := rotr a 2 ^^^ rotr a 13 ^^^ rotr a 22
    let maj := (a &&& b) ^^^ (a &&& c) ^^^ (b &&& c)
    [(t1 + s0 + maj) % 2 ^ 32, a, b, c, (d + t1) % 2 ^ 32, e, f, g]
  | _ => v

/-- A list of bytes as a big-endian number. -/
def beNat (l : List Byte) : Nat := l.foldl (fun v b => 256 * v + b.toNat) 0

/-- n big-endian bytes of v. -/
def beBytes (v n : Nat) : List Byte := (bytesOf v n).reverse

/-- The k-th 32-bit word of a block. -/
def shaWord (block : List Byte) (k : Nat) : Nat := beNat ((block.drop (4 * k)).take 4)

/-- One block of 64 bytes. -/
def shaBlock (h : List Nat) (block : List Byte) : List Nat :=
  let w := shaExtend 48 ((List.range 16).map (shaWord block))
  let v := (List.zipWith (· + ·) shaK w).foldl shaRound h
  List.zipWith (fun x y => (x + y) % 2 ^ 32) h v

/-- The blocks of a padded message. -/
def shaBlocks : Nat → List Nat → List Byte → List Nat
  | 0, h, _ => h
  | n + 1, h, m => shaBlocks n (shaBlock h (m.take 64)) (m.drop 64)

/-- SHA-256 as 32 bytes. -/
def sha256 (m : List Byte) : List Byte :=
  let n := m.length
  let pad := (119 - n % 64) % 64
  let p := m ++ (0x80 : Byte) :: List.replicate pad 0 ++ beBytes (8 * n) 8
  (shaBlocks (p.length / 64) shaH p).flatMap fun x => beBytes x 4

/-! ## ECDSA P-256 -/

def p256 : Nat := 0xFFFFFFFF00000001000000000000000000000000FFFFFFFFFFFFFFFFFFFFFFFF
def p256b : Nat := 0x5AC635D8AA3A93E7B3EBBD55769886BC651D06B0CC53B0F63BCE3C3E27D2604B
def p256n : Nat := 0xFFFFFFFF00000000FFFFFFFFFFFFFFFFBCE6FAADA7179E84F3B9CAC2FC632551
def p256g : Nat × Nat := (0x6B17D1F2E12C4247F8BCE6E563A440F277037D812DEB33A0F4A13945D898C296,
  0x4FE342E2FE1A7F9B8EE7EB4A7C0F9E162BCE33576B315ECECBB6406837BF51F5)

/-- b^e mod m, by the low k bits of e. -/
def powMod (m : Nat) : Nat → Nat → Nat → Nat
  | 0, _, _ => 1 % m
  | k + 1, b, e => (if e % 2 = 1 then b else 1) * powMod m k (b * b % m) (e / 2) % m

/-- The inverse modulo a 256-bit prime. -/
def invMod (m x : Nat) : Nat := powMod m 256 (x % m) (m - 2)

/-- x - y modulo p. -/
def subP (x y : Nat) : Nat := (x + p256 - y % p256) % p256

/-- The sum of two points of the curve; none is the point at infinity. -/
def addPoint : Option (Nat × Nat) → Option (Nat × Nat) → Option (Nat × Nat)
  | none, q => q
  | p, none => p
  | some (x1, y1), some (x2, y2) =>
    if x1 = x2 ∧ (y1 + y2) % p256 = 0 then none
    else
      let l := if x1 = x2 then (3 * x1 * x1 + p256 - 3) * invMod p256 (2 * y1) % p256 else subP y2 y1 * invMod p256 (subP x2 x1) % p256
      let x := subP (subP (l * l) x1) x2
      some (x, subP (l * subP x1 x) y1)

/-- The low k bits of e times a point. -/
def mulPoint : Nat → Nat → Option (Nat × Nat) → Option (Nat × Nat)
  | 0, _, _ => none
  | k + 1, e, p => addPoint (if e % 2 = 1 then p else none) (mulPoint k (e / 2) (addPoint p p))

/-- The point lies on the curve. -/
def onCurve (q : Nat × Nat) : Bool :=
  decide (q.1 < p256 ∧ q.2 < p256) && q.2 * q.2 % p256 == (q.1 * q.1 * q.1 + p256b + 3 * subP 0 q.1) % p256

/-- Whether (r, s) is the key q's signature of the hash e. -/
def ecdsaOk (q : Nat × Nat) (e r s : Nat) : Bool :=
  onCurve q && decide (0 < r ∧ r < p256n ∧ 0 < s ∧ s < p256n) &&
    (let w := invMod p256n s
     match addPoint (mulPoint 256 (e * w % p256n) (some p256g)) (mulPoint 256 (r * w % p256n) (some q)) with
     | none => false
     | some (x, _) => x % p256n == r)

/-- A key or signature of two big-endian numbers of 32 bytes. -/
def pair256 (l : List Byte) : Nat × Nat := (beNat (l.take 32), beNat ((l.drop 32).take 32))

/-- Whether 64 signature bytes sign a message with a public key of 64 bytes. -/
def signed (key msg sig : List Byte) : Bool := ecdsaOk (pair256 key) (beNat (sha256 msg)) (pair256 sig).1 (pair256 sig).2

end Sys2Proof.Machine
end

