-- ==== Sys2Proof/Machine/Fuse.lean ====
section
/-!
DEFINITION. Fuses, lifecycle and the meter key; the debug level in force (R404 to R407, R410, R411, R420 to R422).
-/
namespace Sys2Proof.Machine

def State.setSec (s : State) (f : SecInt → SecInt) : State := { s with sec := f s.sec }
def State.setVault (s : State) (f : Vault → Vault) : State := { s with vault := f s.vault }

/-! ## Lifecycle (R404, R405) -/

/-- The lifecycle that the fuses show. -/
def Vault.lifecycle (v : Vault) : Nat :=
  if v.retired then 3 else if !v.provisioned then 0 else if v.seals = v.unseals + 1 then 2 else 1

/-- The meter epoch that the fuses show. -/
def Vault.epoch (v : Vault) : Nat := if v.lifecycle = 0 then 0 else 1 + v.seals + v.unseals

def State.lifecycle (s : State) : Nat := s.f SEC_LIFECYCLE_state
def blank : Nat := 0
def provisioned : Nat := 1
def sealedState : Nat := 2
def retired : Nat := 3

def Vault.hasKey (v : Vault) (k : Nat) : Nat := if (SMap.get [] v.hashes k).isEmpty then 0 else 1

/-- The eight words of a hash. -/
def hashWords (k : Nat) (h : List Byte) : List (Fld × Nat) := (List.range 8).map fun j => (SEC_KEY_HASH_hash k j, leNat ((h.drop (4 * j)).take 4))

/-- The sequencer loads the fuse shadow (boot step 2). -/
def State.loadShadow (s : State) : State :=
  let v := s.vault
  let s := s.setAll [(SEC_LIFECYCLE_state, v.lifecycle), (SEC_LIFECYCLE_provisioned, if v.provisioned then 1 else 0), (SEC_LIFECYCLE_seals, v.seals),
    (SEC_LIFECYCLE_unseals, v.unseals), (SEC_LIFECYCLE_retired, if v.retired then 1 else 0), (SEC_EPOCH_epoch, v.epoch), (SEC_ROLLBACK_main, v.mainCount),
    (SEC_ROLLBACK_plinth, v.plinthCount), (SEC_KEY_STAT_owner, v.hasKey 0), (SEC_KEY_STAT_va, v.hasKey 1),
    (SEC_KEY_STAT_image, v.hasKey 2 + 2 * v.hasKey 3 + 4 * v.hasKey 4 + 8 * v.hasKey 5), (SEC_KEY_STAT_revoked, v.revoked), (SEC_KEY_STAT_identity, v.hasKey 6),
    (SEC_KEY_STAT_meter, 0), (PWR_FUSE_SHADOW_lifecycle, v.lifecycle)]
  s.setAll (((List.range 7).flatMap fun k => hashWords k (SMap.get [] v.hashes k)) ++ hashWords 7 [])

/-! ## The meter key (R407) -/

/-- Boot step 7: the key of the epoch, created where its slot is empty. Its public half is free; its hash goes into KEY_HASH[7]. -/
def State.meterKeyStep (s : State) : State :=
  let e := s.f SEC_EPOCH_epoch
  if e = 0 then s
  else
    let s := if (SMap.get [] s.vault.meterKeys e).isEmpty then
        let (x, s) := s.fresh
        let (y, s) := s.fresh
        s.setVault fun v => { v with meterKeys := SMap.set [] v.meterKeys e (beBytes x 32 ++ beBytes y 32) }
      else s
    (s.setF SEC_KEY_STAT_meter 1).setAll (hashWords 7 (sha256 (SMap.get [] s.vault.meterKeys e)))

/-! ## Programming (R410, R411) -/

def norA : Nat := 0x60000000
def norB : Nat := 0x61800000
def norPlinth : Nat := 0x63000000

/-- The fuses after an operation: 1 provision, 2 seal, 3 unseal, 4 retire, 5 revoke image key `key`. -/
def State.blow (s : State) (op key : Nat) : State :=
  match op with
  | 1 => s.setVault fun v => { v with
      provisioned := true
      hashes := (List.range 6).foldl (fun m k => SMap.set [] m k ((s.sec.hashes.drop (32 * k)).take 32)) v.hashes }
  | 2 =>
    let r := s.rd (norPlinth + 0x10) 4
    s.setVault fun v => { v with seals := v.seals + 1, plinthCount := max v.plinthCount (min 255 r) }
  | 3 => s.setVault fun v => { v with unseals := v.unseals + 1 }
  | 4 => s.setVault fun v => { v with retired := true, meterKeys := [] }
  | 5 => s.setVault fun v => { v with revoked := v.revoked ||| 2 ^ key }
  | _ => s

/-- A programming that a power loss or reset cuts reads as blown or as not blown. -/
def State.cutFuse (s : State) : State :=
  match s.sec.prog with
  | none => s
  | some (op, key) =>
    let (v, s) := s.fresh
    if v % 2 = 0 then s else s.blow op key

/-- A write of LC_CTRL.go: provisioning in BLANK, any other operation while its latch is set; else status 3. Other codes are ignored. -/
def State.lcGo (s : State) (op key : Nat) : State :=
  if op < 1 ∨ 5 < op ∨ s.f SEC_LC_CTRL_status = 1 then s
  else
    let s := s.setAll [(SEC_LC_CTRL_prog, op), (SEC_LC_CTRL_key, key)]
    let latched : Bool := match s.sec.latch with
      | some (o, a, _) => o == op && (op != 5 || a == key)
      | none => false
    if (op = 1 ∧ s.lifecycle = blank) ∨ (op ≠ 1 ∧ latched) then
      (s.setAll [(SEC_LC_CTRL_status, 1), (SEC_AUTH_STAT_latch, 0)]).setSec fun x => { x with latch := none, prog := some (op, key) }
    else s.setF SEC_LC_CTRL_status 3

/-! ## Requests at T7's Q3 -/

def svcQ : QId := .queue 7 3

/-- The request that waits for the programming completes. -/
def State.endWaiting (s : State) (status detail value : Nat) : State :=
  match s.sec.waiting with
  | none => s
  | some (r, _) =>
    (s.setSec fun x => { x with waiting := none, flushAt := none }).finishServing svcQ (fun y => y.origId == r.origId && y.reqId == r.reqId) status detail
      (BitVec.ofNat 64 value)

/-- T7 has the DONE of its final flush: it programs, within 5 ms of the flush (R411). -/
def State.flushConfirmed (s : State) : State :=
  match s.sec.waiting, s.sec.flushAt with
  | some (_, op), some t =>
    if s.now ≤ t + 2000000 then
      let key := match s.sec.latch with
        | some (_, a, _) => a
        | none => 0
      let s := (s.lcGo op key).setSec fun x => { x with flushAt := none }
      if s.sec.prog.isSome then s else s.endWaiting 2 0x45 0
    else s.endWaiting 2 0x45 0
  | _, _ => s

/-! ## Debug levels (R419 to R422) -/

/-- The maximum of R420 for a mode. -/
def debugMax (mode : Nat) : Nat := if mode = 5 then 3 else 1

/-- The level that DBG_ACCESS is checked against: in BLANK D1 needs no session. -/
def State.debugLevel (s : State) : Nat := if s.lifecycle = blank then max 1 (s.f SEC_DBG_STAT_granted) else s.f SEC_DBG_STAT_granted

/-- An engine halted by debug, not by a double trap: its heartbeat is not checked. -/
def State.debugHalted (s : State) (e : Nat) : Bool := s.fb (ENG_STATUS_halted e) && !s.fb (ENG_STATUS_double_trap e)

end Sys2Proof.Machine
end

