-- ==== Sys2Proof/Machine/Image.lean ====
section
/-!
DEFINITION. Images in the NOR flash: their verification, and the load of their sections (R59, R77 to R79, R148 steps 6 and 10, R413).
-/
namespace Sys2Proof.Machine

/-! ## Images (R78, R79, R413) -/

/-- Section entry i of an image: engine, kind, offset, length, load address. -/
def State.secEntry (s : State) (base i : Nat) : Nat × Nat × Nat × Nat × Nat :=
  let a := base + 0x40 + 64 * i
  (s.rd a 1, s.rd (a + 1) 1, s.rd (a + 4) 4, s.rd (a + 8) 4, s.rd (a + 0x10) 8)

/-- The bytes that an image may fill: boot image A or B, or the plinth. -/
def imageRoom (kind : Nat) : Nat := if kind = 1 then 0x1800000 else 0x1000000

/-- Where slot settings load: the slot registers of engine e (log 222). -/
def slotRegs (e : Nat) : Nat := ENG_SLOT_BASE e 0

/-- Whether [a, a + n), n > 0, lies where a section of kind k of engine e may load: in the memory that its kind names, in engine e's map. -/
def loadsInMap (e k a n : Nat) : Bool :=
  let x := regionOf a
  let whole := x == regionOf (a + n - 1)
  match k with
  | 1 => whole && x == .isram
  | 2 | 3 | 7 => whole && x == .dsram
  | 4 | 6 => whole && x == .dram && e != 4
  | 5 => decide (slotRegs e ≤ a) && decide (a + n ≤ slotRegs e + 96) && a % 4 == 0 && n % 4 == 0
  | _ => false

/-- Whether section i may stand: its digest, its place in the image, its range, and what a main image or a plinth image may hold. -/
def State.sectionOk (s : State) (base kind i : Nat) : Bool :=
  let (e, k, ofs, len, load) := s.secEntry base i
  (s.rdBytes (base + 0x40 + 64 * i + 0x20) 32 == sha256 (s.rdBytes (base + ofs) len)) &&
    (k == 3 || decide (ofs + len ≤ s.rd (base + 0xC) 4)) &&
    (e == 0xFF || (decide (e < 8) && (len == 0 || loadsInMap e k load len))) &&
    (if kind = 1 then e != 4 && k != 7 else e == 4 && [1, 2, 3, 7].contains k)

/-- Whether two sections overlap: in one engine's map, or in the LPDDR4X that engines share. -/
def sectionsOverlap (x y : Nat × Nat × Nat × Nat × Nat) : Bool :=
  (x.1 == y.1 || (isDram x.2.2.2.2 && isDram y.2.2.2.2)) && decide (x.2.2.2.2 < y.2.2.2.2 + y.2.2.2.1) && decide (y.2.2.2.2 < x.2.2.2.2 + x.2.2.2.1)

/-- No two of the first n sections overlap. -/
def State.sectionsApart (s : State) (base n : Nat) : Bool :=
  (List.range n).all fun i => (List.range i).all fun j => !sectionsOverlap (s.secEntry base i) (s.secEntry base j)

/-- The key slot that an image's key_index names: an unrevoked image key for a main image, the verification authority's for a plinth. -/
def State.imageSlot (s : State) (base kind : Nat) : Option Nat :=
  let k := s.rd (base + 0x880) 4
  if kind = 1 then (if k < 4 ∧ s.vault.revoked / 2 ^ k % 2 = 0 ∧ s.vault.hasKey (2 + k) = 1 then some (2 + k) else none)
  else if k = 0x100 ∧ s.vault.hasKey 1 = 1 then some 1 else none

/-- Header and sections but for the signature. -/
def State.imageShape (s : State) (base kind : Nat) : Bool :=
  let n := s.rd (base + 0x14) 2
  let roll := s.rd (base + 0x10) 4
  s.rd base 4 == 0x494E5645 && s.rd (base + 4) 2 == 1 && s.rd (base + 6) 2 == kind && decide (1 ≤ n ∧ n ≤ 32) &&
    decide (2304 ≤ s.rd (base + 0xC) 4 ∧ s.rd (base + 0xC) 4 ≤ imageRoom kind) &&
    decide ((if kind = 1 then s.f SEC_ROLLBACK_main else s.f SEC_ROLLBACK_plinth) ≤ roll) &&
    (List.range n).all (fun i => s.sectionOk base kind i) && s.sectionsApart base n

/-- The image at base passes R78, R79 and R413. A key of which the device data give no public half leaves the verdict open. -/
def State.verifyImage (s : State) (base kind : Nat) : Bool × State :=
  match s.imageSlot base kind with
  | none => (false, s)
  | some k =>
    let key := SMap.get [] s.maq.pubKeys k
    if !s.imageShape base kind then (false, s)
    else if key.isEmpty then (s.fresh.1 % 2 == 1, s.fresh.2)
    else (sha256 key == SMap.get [] s.vault.hashes k && signed key (s.rdBytes base 0x840) (s.rdBytes (base + 0x840) 64), s)

/-- The start of main image A or B in the NOR. -/
def norMain (b : Bool) : Nat := if b then norB else norA

/-- Copy n bytes of memory from key src to key dst. -/
def State.copyMem (s : State) (src dst n : Nat) : State :=
  (s.mem.filter fun c => src ≤ c.1 ∧ c.1 < src + n).foldl (fun s c => s.wrB (dst + (c.1 - src)) c.2) (s.clearMem dst (dst + n))

/-- Step 6: main image b is copied into LPDDR4X and verified there. -/
def State.tryMain (s : State) (b : Bool) : Bool × State := (s.copyMem (norMain b) s.maq.imgBuf (imageRoom 1)).verifyImage s.maq.imgBuf 1

/-! ## Loading (R59, R77, R148 step 10) -/

/-- Where engine e's sections come from: the plinth for T4, else the verified main image in LPDDR4X. -/
def State.imageOf (s : State) (e : Nat) : Nat := if e = 4 then norPlinth else s.maq.imgBuf

/-- The words of a slot-settings section go into the slot registers; en stays 0 until the engine enables the slot (R67). -/
def State.loadSlots (s : State) (e src load : Nat) : Nat → State
  | 0 => s
  | n + 1 =>
    let s := s.loadSlots e src load n
    let j := (load + 4 * n - slotRegs e) / 4
    let v := s.rd (src + 4 * n) 4
    if j < 8 then s.setF (ENG_SLOT_BASE_base e j) v
    else if j < 16 then
      s.setAll [(ENG_SLOT_CFG_row_size_m1 e (j - 8), v / 4), (ENG_SLOT_CFG_row_count_m1 e (j - 8), v / 256), (ENG_SLOT_CFG_offset e (j - 8), v / 16777216)]
    else if j < 24 then s.setF (ENG_SLOT_PERIOD_period e (j - 16)) (if 0 < v ∧ v < 100 then 100 else v)
    else s

/-- Load section i of the image at base where it is engine e's; LPDDR4X only at boot, which a restart leaves as it stands. The id of the engine is
the start of its instruction section's digest. -/
def State.loadSection (s : State) (e base : Nat) (boot : Bool) (i : Nat) : State :=
  let (x, k, ofs, len, load) := s.secEntry base i
  if x ≠ e then s
  else
    match k with
    | 1 => (s.copyMem (base + ofs) (sramKey e load) len).setF (ENG_SECT_ID_id e) (s.rd (base + 0x40 + 64 * i + 0x20) 4)
    | 2 | 7 => s.copyMem (base + ofs) (sramKey e load) len
    | 3 => s.clearMem (sramKey e load) (sramKey e load + len)
    | 4 | 6 => if boot then s.copyMem (base + ofs) load len else s
    | 5 => s.loadSlots e (base + ofs) load (len / 4)
    | _ => s

/-- T7 loads the sections of engine e. -/
def State.loadImage (s : State) (e : Nat) (boot : Bool) : State :=
  let base := s.imageOf e
  (List.range (min 32 (s.rd (base + 0x14) 2))).foldl (fun s i => s.loadSection e base boot i) s

end Sys2Proof.Machine
end

