-- ==== Sys2Proof/Machine/Streams.lean ====
section
/-!
DEFINITION. What a lane carries: the 8b/10b code of IEEE 802.3 Clause 36, frames and their CRCs, the sinc³ filters and the windows over received
bits (R158 to R161, R164, R165, R169, R178, R193).
-/
namespace Sys2Proof.Machine

/-! ## 8b/10b code groups (R158; log 226). A group is written with bit a as its most significant bit. -/

/-- The ones of the low w bits of a number. -/
def ones (w v : Nat) : Nat := (List.range w).foldl (fun n i => n + v / 2 ^ i % 2) 0

/-- Bits abcdei of the 32 values of EDCBA at negative running disparity. -/
def sixNeg : List Nat :=
  [0b100111, 0b011101, 0b101101, 0b110001, 0b110101, 0b101001, 0b011001, 0b111000,
    0b111001, 0b100101, 0b010101, 0b110100, 0b001101, 0b101100, 0b011100, 0b010111,
    0b011011, 0b100011, 0b010011, 0b110010, 0b001011, 0b101010, 0b011010, 0b111010,
    0b110011, 0b100110, 0b010110, 0b110110, 0b001110, 0b101110, 0b011110, 0b101011]

/-- Bits abcdei of value x at a running disparity (true: positive). An unbalanced sub-block, and that of 7, is complemented. -/
def code6 (rd : Bool) (x : Nat) : Nat :=
  let v := sixNeg.getD x 0
  if rd && (ones 6 v != 3 || x == 7) then 63 - v else v

/-- The running disparity after a sub-block of w bits, as its receiver too takes it: positive after more ones, or the zeros before the ones. -/
def rdAfter (w : Nat) (rd : Bool) (v : Nat) : Bool :=
  let n := ones w v
  if 2 * n = w then (if v = 2 ^ (w / 2) - 1 then true else if v = 2 ^ w - 2 ^ (w / 2) then false else rd) else decide (w < 2 * n)

/-- Bits fghj of value y after the sub-block of x, at the disparity between them. Y 7 has an alternate form, which avoids a run of five. -/
def code4 (rd : Bool) (x y : Nat) : Nat :=
  let alt := if rd then x == 11 || x == 13 || x == 14 else x == 17 || x == 18 || x == 20
  let v := if y = 7 && alt then 0b0111 else [0b1011, 0b1001, 0b0101, 0b1100, 0b1101, 0b1010, 0b0110, 0b1110].getD y 0
  if rd && (ones 4 v != 2 || y == 3) then 15 - v else v

/-- The code group of a data byte, and the disparity after it. -/
def encByte (rd : Bool) (b : Nat) : Nat × Bool :=
  let six := code6 rd (b % 32)
  let mid := rdAfter 6 rd six
  let four := code4 mid (b % 32) (b / 32)
  (16 * six + four, rdAfter 4 mid four)

/-- K28.5, byte 0xBC. -/
def encComma (rd : Bool) : Nat × Bool := if rd then (0b1100000101, false) else (0b0011111010, true)

/-- A received code group at a running disparity: control or data, and the byte; none for a code-group or disparity error, and for every other
control character. -/
def decGroup (rd : Bool) (g : Nat) : Option (Bool × Nat) :=
  if g = (encComma rd).1 then some (true, 0xBC)
  else
    match (List.range 32).find? fun x => code6 rd x == g / 16 with
    | none => none
    | some x => ((List.range 8).find? fun y => (encByte rd (x + 32 * y)).1 == g).map fun y => (false, x + 32 * y)

/-- The disparity that a receiver takes after a group. -/
def rdGroup (rd : Bool) (g : Nat) : Bool := rdAfter 4 (rdAfter 6 rd (g / 16)) (g % 16)

/-- The low ten bits in the opposite order: bit a is sent first. -/
def rev10 (g : Nat) : Nat := (List.range 10).foldl (fun a i => 2 * a + g / 2 ^ i % 2) 0

/-- The 40 line bits of a frame, first bit lowest, and the disparity after them; `train`: its first group is K28.5. -/
def lineOf (rd train : Bool) (w : Nat) : Nat × Bool :=
  (List.range 4).foldl (fun (a : Nat × Bool) i =>
    let (g, r) := if train && i == 0 then encComma a.2 else encByte a.2 (w / 2 ^ (8 * i) % 256)
    (a.1 + rev10 g * 2 ^ (10 * i), r)) (0, rd)

/-- The four groups of a received frame. -/
def groupsOfLine (bits : Nat) : List Nat := (List.range 4).map fun i => rev10 (bits / 2 ^ (10 * i) % 1024)

/-- What a receiver at disparity rd makes of four groups. -/
def decGroups : Bool → List Nat → List (Option (Bool × Nat))
  | _, [] => []
  | rd, g :: t => decGroup rd g :: decGroups (rdGroup rd g) t

/-- The receiver's disparity after a frame. -/
def rdLine (rd : Bool) (bits : Nat) : Bool := (groupsOfLine bits).foldl rdGroup rd

/-! ## CRCs and frames (R160, R164, R169) -/

/-- One step of the CRC of R160. -/
def crcStep (w poly crc : Nat) (b : Bool) : Nat :=
  let fb := b != (crc / 2 ^ (w - 1) % 2 == 1)
  let c := crc * 2 % 2 ^ w
  if fb then Nat.xor c poly else c

/-- The CRC over the low n bits of a frame, bit 0 first (R160). -/
def frameCrc (w poly init n frame : Nat) : Nat :=
  (List.range n).foldl (fun c i => crcStep w poly c (frame / 2 ^ i % 2 == 1)) init

/-- CRC-6 of a downstream frame. -/
def crcDown (frame : Nat) : Nat := frameCrc 6 0x03 0x3F 26 frame
/-- CRC-8 of an upstream frame. -/
def crcUp (frame : Nat) : Nat := frameCrc 8 0x07 0xFF 24 frame

/-- A downstream data frame: gate codes, kind, CRC (R164). -/
def downFrame (gates kind : Nat) : Nat :=
  let w := gates + kind * 2 ^ 24
  w + crcDown w * 2 ^ 26

/-- A training frame as 32 bits: byte 0 is K28.5, byte 1 the code, bytes 2 and 3 the value (R169). -/
def trainFrame (code v : Nat) : Nat := 0xBC + code * 256 + v * 65536

/-- A received frame as R159 judges it. -/
inductive RxFrame where
  | bad
  | data (w : Nat)
  | train (code v : Nat)
deriving DecidableEq, Repr

/-- The judgement of R159 on 40 received line bits. -/
def rxFrame (rd : Bool) (bits : Nat) : RxFrame :=
  match decGroups rd (groupsOfLine bits) with
  | [some (k, a), some (false, b), some (false, c), some (false, d)] =>
    let w := a + b * 256 + c * 65536 + d * 16777216
    if k then .train b (c + d * 256) else if d = crcUp w then .data w else .bad
  | _ => .bad

/-! ## Filters and windows over received bits (R161, R178, R193) -/

/-- (m - k + 1)(m - k + 2) / 2 from m = k on. -/
def triFrom (m k : Nat) : Nat := if m < k then 0 else (m - k + 1) * (m - k + 2) / 2

/-- The weight of the bit m bits ago in a sinc³ filter of length L: the ways to write m as a sum of three numbers below L. -/
def sincWeight (len m : Nat) : Nat := triFrom m 0 + 3 * triFrom m (2 * len) - 3 * triFrom m len

/-- The output y of a sliding sinc³ filter of length L over a stream, newest bit lowest (R178). -/
def sinc3 (len bits : Nat) : Nat := (List.range (3 * len - 2)).foldl (fun y m => if bits / 2 ^ m % 2 = 1 then y + sincWeight len m else y) 0

/-- How many bits of a stream a lane keeps: what the auxiliary decimator of ratio 256 covers. -/
def streamBits : Nat := 766

/-- A stream with one more bit. -/
def pushBit (h b : Nat) : Nat := (2 * h + b % 2) % 2 ^ streamBits

/-- A window with one more unflagged bit (R193). -/
def SenseWin.push (x : SenseWin) (b : Nat) : SenseWin :=
  { run := if x.held = 0 ∨ x.bits % 2 ≠ b % 2 then 1 else x.run + 1, held := min 256 (x.held + 1),
    bits := (2 * x.bits + b % 2) % 2 ^ 256, count := x.count + b % 2 - (if x.held = 256 then x.bits / 2 ^ 255 else 0) }

/-- The failure condition of R193: 64 bits without a transition, or a density of 256 bits outside lo to hi. -/
def SenseWin.bad (x : SenseWin) (lo hi : Nat) : Bool := decide (64 ≤ x.run) || (x.held == 256 && (decide (x.count < lo) || decide (hi < x.count)))

end Sys2Proof.Machine
end

