-- ==== Sys2Proof/Machine/Power.lean ====
section
/-!
DEFINITION. Shared operations of the power path: phase units, lanes, connector clamps and coil drivers (Cell Lanes; Phase Units;
Connector Outputs and the Power Matrix).
-/
namespace Sys2Proof.Machine

/-! ## The switch-over gap (R116) -/

/-- A write held over the switch-over gap. -/
def State.hold (s : State) (w a v : Nat) : State := { s with held := s.held ++ [⟨w, a, v⟩] }

/-- The write of v by engine w to an output's register at a, whose effect is f: held over the gap, in which the output keeps its last value. -/
def State.gapWrite (s : State) (w a v : Nat) (f : State → State) : State := if s.gap then s.hold w a v else f s

/-! ## Write rights (R17) -/

/-- A write by engine w to a register that engine e is in charge of: performed, or refused with an access record. -/
def State.guarded (s : State) (w : Fin 8) (e addr : Nat) (t : State) : State := if w.val = e then t else s.accessRecord e w addr

/-! ## Sub-records -/

def State.phu (s : State) (n : Nat) : PhuInt := SMap.get PhuInt.reset s.phus n
def State.setPhu (s : State) (n : Nat) (x : PhuInt) : State := { s with phus := SMap.set PhuInt.reset s.phus n x }
def State.lane (s : State) (n : Nat) : LaneInt := SMap.get LaneInt.reset s.lanes n
def State.setLane (s : State) (n : Nat) (x : LaneInt) : State := { s with lanes := SMap.set LaneInt.reset s.lanes n x }
def State.conn (s : State) (c : Nat) : ConnInt := SMap.get ConnInt.reset s.conns c
def State.setConn (s : State) (c : Nat) (x : ConnInt) : State := { s with conns := SMap.set ConnInt.reset s.conns c x }
def State.dest (s : State) (d : Nat) : DestInt := SMap.get DestInt.reset s.dests d
def State.setDest (s : State) (d : Nat) (x : DestInt) : State := { s with dests := SMap.set DestInt.reset s.dests d x }

/-- Apply an operation to each number of a list, in order. -/
def State.each (s : State) (l : List Nat) (f : State → Nat → State) : State := l.foldl f s

/-! ## Engines in charge -/

/-- The power engine of phase unit n (R14). -/
def phuEng (n : Nat) : Nat := if n < 128 then 2 else 3
/-- The power engine of lane n. -/
def laneEng (n : Nat) : Nat := if n < 16 then 2 else 3

/-- The lead engine of destination d (R16, R213): 0 none, 1 T2, 2 T3. -/
def State.leadOf (s : State) (d : Nat) : Nat :=
  match s.groupsOf d with
  | [] => 0
  | g :: _ => if g < 4 then 1 else 2

/-- The engine in charge of the lead registers of connector c (R213). -/
def State.connEng (s : State) (c : Nat) : Nat :=
  match s.leadOf c with
  | 0 => 1
  | 1 => 2
  | _ => 3

/-- The lead engine of port p; where it has none, T7 alone hears of its clamp. -/
def State.portEng (s : State) (p : Nat) : Nat :=
  match s.leadOf (8 + p) with
  | 0 => 7
  | 1 => 2
  | _ => 3

/-- The engine in charge of coil k: T0, T1, or the engine that the maquette assigns to a spare. -/
def State.coilEng (s : State) (k : Nat) : Nat := if k < 96 then 0 else if k < 120 then 1 else SMap.get 7 s.maq.spareCoil (k - 120)

/-! ## Events of the units -/

def State.phuEvent (s : State) (n : Nat) (x : Fld) : State := s.setEvent x (phuEng n) (phaseScope n) [phuEng n, 7]
def State.laneEvent (s : State) (n : Nat) (x : Fld) : State := s.setEvent x (laneEng n) (unitScope 8 n) [laneEng n, 7]
def State.connEvent (s : State) (c : Nat) (x : Fld) : State :=
  let e := s.connEng c
  s.setEvent x e (connScope c) [e, 1, 7]
def State.coilEvent (s : State) (k : Nat) (x : Fld) : State :=
  let e := s.coilEng k
  s.setEvent x e (unitScope 7 k) [e, 7]

/-! ## The current clamp of a destination (R199 to R203); currents in Q1.30 of 4096 A -/

/-- No latch of unit n is set. -/
def State.unlatched (s : State) (n : Nat) : Bool :=
  !s.fb (PHU_STATUS_latch_open n) && !s.fb (PHU_STATUS_latch_sense n) && !s.fb (PHU_STATUS_latch_ot n)

/-- Unit n is active for destination d (R202). -/
def State.active (s : State) (n d : Nat) : Bool := s.f (PHU_CTRL_dest n) == d && s.fb (PHU_CTRL_en n) && s.unlatched n

/-- The active phase units of destination d. -/
def State.activeSet (s : State) (d : Nat) : List Nat := (List.range 256).filter fun n => s.active n d

/-- SUM_SHARE.s, 1/16 A. -/
def State.sumShare (s : State) (d : Nat) : Nat := (s.activeSet d).foldl (fun a n => a + s.f (PHU_SHARE_share n)) 0

/-- ILIM_ENF of connector c (R199). -/
def State.ilimEnf (s : State) (c : Nat) : Nat := (s.conn c).steps.foldl (fun a x => max a x.1) (s.f (CONN_ILIM_limit c))

/-- The enforced forward limit of destination d. -/
def State.enfFwd (s : State) (d : Nat) : Nat := if d < 8 then s.ilimEnf d else (s.dest d).fwd * 16384
/-- The enforced reverse limit of destination d. -/
def State.enfRev (s : State) (d : Nat) : Nat := if d < 8 then s.f (CONN_ILIM_REV_limit d) else (s.dest d).rev * 16384

/-- Whether the range of R202 clips phase n of destination d, whose sum of shares is not 0. -/
def State.clips (s : State) (d sum n : Nat) : Bool :=
  let r := s.fi (PHU_IREF_iref n) * sum
  let sh := (s.f (PHU_SHARE_share n) : Int)
  decide (s.enfFwd d * sh < r) || decide (r < -(s.enfRev d * sh))

/-- Judge the clamp of destination d: the first clipping of a control frame marks it, and the first of a run posts the clamp record
(R202). Where active phases have a share sum of 0 the range is not defined: whether it clips is a free value (log 6). -/
def State.clipTouch (s : State) (d : Nat) : State :=
  let x := s.dest d
  let act := s.activeSet d
  if x.clipped || act.isEmpty then s
  else
    let sum := s.sumShare d
    let (hit, s) := if sum = 0 then ((s.fresh.1 % 2 == 1), s.fresh.2) else (act.any (s.clips d sum), s)
    if hit then
      let s := s.setDest d { x with clipped := true, run := true }
      if x.run then s else s.clampRecord (if d < 8 then s.connEng d else s.portEng (d - 8)) 5 (destScope d)
    else s

/-- A departing phase lowers the clamp of its destination by its share (R201, R203). -/
def State.reduce (s : State) (d share : Nat) : State :=
  if d < 8 then
    let q := share * 16384
    let s := s.setF (CONN_ILIM_limit d) (s.f (CONN_ILIM_limit d) - q)
    let s := s.setF (CONN_ILIM_REV_limit d) (s.f (CONN_ILIM_REV_limit d) - q)
    let c := s.conn d
    let s := s.setConn d { c with steps := c.steps.map fun x => (x.1 - q, x.2) }
    (s.addSat (CONN_COUNTS_reductions d) 1).connEvent d (CONN_EVENTS_reduce d)
  else if d < 12 then
    let x := s.dest d
    let s := s.setDest d { x with fwd := x.fwd - share, rev := x.rev - share }
    (s.setF (MTX_PORT_LIM_fwd (d - 8)) ((x.fwd - share) / 16)).setF (MTX_PORT_LIM_rev (d - 8)) ((x.rev - share) / 16)
  else s

/-- Unit n, active for its destination, leaves the active set by a clamp or a park, by the operation f (R201); the clamp is judged once all that falls
on the edge has acted (R202). -/
def State.leave (s : State) (n : Nat) (f : State → State) : State :=
  let d := s.f (PHU_CTRL_dest n)
  if s.active n d && d < 12 then (f s).reduce d (s.f (PHU_SHARE_share n)) else f s

/-- Judge the clamp of every destination. -/
def State.clipAll (s : State) : State := s.each (List.range 12) State.clipTouch

/-- One unit leaves alone at its edge. -/
def State.depart (s : State) (n : Nat) (f : State → State) : State :=
  let d := s.f (PHU_CTRL_dest n)
  if s.active n d && d < 12 then (s.leave n f).clipTouch d else f s

/-! ## Gates -/

/-- The gate of unit n takes a level now; its lane codes the edge eq quarters later (R166, R170). -/
def State.setGate (s : State) (n : Nat) (b : Bool) : State :=
  let s := s.setB (PHU_STATUS_gate n) b
  let l := s.lane (n / 8)
  if s.f (LANE_STATUS_state (n / 8)) = 2 then
    s.setLane (n / 8) { l with edges := l.edges ++ [⟨s.now + s.f (LANE_LATENCY_eq (n / 8)), n % 8, b⟩] }
  else s

/-- The measurement delay D in CK_PHU cycles: the delay of the current filter and the age of the bits, each rounded up (R178). -/
def State.measDelay (s : State) (n : Nat) : Nat :=
  [42, 90, 186].getD (s.f (PHU_CTRL_i_len n)) 186 + (s.f (LANE_LATENCY_up_age (n / 8)) + 9) / 10

/-- The gate falls: the ripple is set to RIPPLE.amp (R176), and a sample is due D later (R192). -/
def State.gateFall (s : State) (n : Nat) : State :=
  let x := s.phu n
  (s.setPhu n { x with
    fallAt := some s.now, ripAt := s.now, ripple := s.f (PHU_RIPPLE_amp n) * 256, due := x.due ++ [(s.now + s.measDelay n, true)] }).setGate n false

/-- The gate is forced off: a pulse in flight is truncated (R180, R191, R194). -/
def State.forceOff (s : State) (n : Nat) : State := if s.fb (PHU_STATUS_gate n) then s.gateFall n else s

/-- r now, in 1/4096 A (R176). -/
def State.rippleNow (s : State) (n : Nat) : Nat :=
  let x := s.phu n
  x.ripple - s.f (PHU_RIPPLE_slope n) * (s.now - x.ripAt)

/-! ## Enabling and disabling phase units (R179, R180) -/

/-- Any phase unit is enabled: CLK.STATUS.phu_any. -/
def State.phuAny (s : State) : Bool := (List.range 256).any fun n => s.fb (PHU_CTRL_en n)

/-- An acquisition or return is under way that ends in a release. -/
def State.hardWay (s : State) : Bool := s.clk.hard && (s.f CLK_STATUS_state == 0 || s.f CLK_STATUS_state == 3)

/-- A unit is about to be enabled. Where phu_any becomes 1, a release that is pending or would end the running acquisition or return is abandoned,
which goes on soft from its first stage, and realign_refused is set (R103, R106, R108). -/
def State.noRelease (s : State) : State :=
  if !s.phuAny && (s.clk.relPending || s.hardWay) then
    let s := { s with clk := { s.clk with relPending := false, hard := false, pulled := false, inLock := 0 } }
    s.setEvent CLK_EVENTS_realign_refused 7 siteScope [7]
  else s

/-- The unit stops: gate low, and its present cycle is not counted. -/
def State.phuStop (s : State) (n cause : Nat) : State :=
  let s := (s.forceOff n).setAll [(PHU_CTRL_en n, 0), (PHU_STATUS_off_cause n, cause)]
  s.setPhu n { s.phu n with first := none, due := [], delayed := false, waitSlot := true, cyc := false }

/-- A park of the lane clears en of a unit; an active one departs (R180, R201). -/
def State.phuPark (s : State) (n : Nat) : State :=
  if s.fb (PHU_CTRL_en n) then s.leave n fun s => s.phuStop n 2 else s

/-- The phase-fault clamp with a latch and its event bit (R194): gate off, the destination lowered if the unit was active. -/
def State.phaseFault (s : State) (n : Nat) (latch ev : Fld) : State :=
  let s := s.leave n fun s => (s.forceOff n).setF latch 1
  (s.phuEvent n ev).clampRecord (phuEng n) 2 (phaseScope n)

/-- Sense failure of stream src (R193). -/
def State.senseFail (s : State) (n src : Nat) : State :=
  (s.setF (PHU_STATUS_sense_src n) src).phaseFault n (PHU_STATUS_latch_sense n) (PHU_EVENTS_sense_fail n)

/-- The first stream of unit n whose failure condition stands: 0 current, 1 output voltage, 2 DC link. The windows run while the lane is ACTIVE. -/
def State.senseSrc (s : State) (n : Nat) : Option Nat :=
  if s.f (LANE_STATUS_state (n / 8)) = 2 then
    [0, 1, 2].find? fun i => (SMap.get SenseWin.reset (s.lane (n / 8)).win (if i = 0 then n % 8 else 7 + i)).bad (s.f (PHU_FAULT_dens_lo n)) (s.f (PHU_FAULT_dens_hi n))
  else none

/-- The stream on which an enabled unit without the latch is to be declared failed: the first standing condition (R193). -/
def State.senseDue (s : State) (n : Nat) : Option Nat := if s.fb (PHU_CTRL_en n) && !s.fb (PHU_STATUS_latch_sense n) then s.senseSrc n else none

/-- Declare it. -/
def State.senseDeclare (s : State) (n : Nat) : State :=
  match s.senseDue n with
  | some i => s.senseFail n i
  | none => s

/-- The stage temperature of unit n as its lane last delivered it; 0x8000 is none. -/
def State.stageT (s : State) (n : Nat) : Nat :=
  if n % 2 = 0 then s.f (LANE_STAGE_T_t_even (n / 8) (n % 8 / 2)) else s.f (LANE_STAGE_T_t_odd (n / 8) (n % 8 / 2))

/-- A delivered stage temperature t (R190, R191). -/
def State.stageTemp (s : State) (n t : Nat) : State :=
  if t = 0x8000 then s
  else
    let v := toSigned 16 t
    let warn := (s.f (PHU_STAGE_warn n) : Int)
    let s :=
      if warn ≤ v then (if s.fb (PHU_STATUS_ot_warn n) then s else (s.setF (PHU_STATUS_ot_warn n) 1).phuEvent n (PHU_EVENTS_ot_warn n))
      else if s.fb (PHU_STATUS_ot_warn n) ∧ v < warn - s.f (PHU_STAGE_hyst n) then
        (s.setF (PHU_STATUS_ot_warn n) 0).phuEvent n (PHU_EVENTS_ot_warn_clear n)
      else s
    if (s.f (PHU_STAGE_shut n) : Int) ≤ v ∧ !s.fb (PHU_STATUS_latch_ot n) then
      let s := s.depart n fun s => (s.forceOff n).setF (PHU_STATUS_latch_ot n) 1
      (s.phuEvent n (PHU_EVENTS_ot_shut n)).clampRecord (phuEng n) 3 (phaseScope n)
    else s

/-! ## Parking lanes (R167) -/

/-- The eight units of lane n. -/
def laneUnits (n : Nat) : List Nat := (List.range 8).map (8 * n + ·)

/-- The lane leaves ACTIVE or TRAINING: its units are forced off, and waiting edges dropped. -/
def State.laneStop (s : State) (n state cause : Nat) : State :=
  let s := s.each (laneUnits n) State.phuPark
  let s := s.setAll [(LANE_STATUS_state n, state), (LANE_STATUS_park_cause n, cause)]
  s.setLane n { s.lane n with edges := [], level := 0, train := .align 0, goN := 0, echoes := 0 }

/-- The lane parks with a cause: from ACTIVE or TRAINING it enters PARKED. A lane that is parked already, FAILED or OFF keeps its state and its
first cause. -/
def State.parkEdge (s : State) (n cause : Nat) : State :=
  let st := s.f (LANE_STATUS_state n)
  if st = 1 ∨ st = 2 then (s.laneStop n 3 cause).laneEvent n (LANE_EVENTS_park n) else s

/-- One lane parks. -/
def State.parkLane (s : State) (n cause : Nat) : State :=
  if s.f (LANE_STATUS_state n) = 1 ∨ s.f (LANE_STATUS_state n) = 2 then (s.parkEdge n cause).clipAll else s

/-- Every lane parks, at one edge. -/
def State.parkAll (s : State) (cause : Nat) : State := (s.each (List.range 32) fun s n => s.parkEdge n cause).clipAll

/-! ## Coil drivers (R209 to R212) -/

/-- Whether coil k is to be energised: its command, ANDed with the meter enable for CD96 to CD111, and no clamp releasing it. -/
def State.coilWanted (s : State) (k : Nat) : Bool :=
  s.fb (MTX_COIL_CMD_cmd k) && !s.coilsOff && (k < 96 || 112 ≤ k || s.fb (MET_MEN_en ((k - 96) / 2)))

/-- The sum of i_avg over group g's enabled phase units, 1/16 A (R211). -/
def State.groupCurrent (s : State) (g : Nat) : Int :=
  ((List.range 32).map (32 * g + ·)).foldl (fun a n => if s.fb (PHU_CTRL_en n) then a + s.fi (PHU_MEAS_i_avg n) else a) 0

/-- The feedback of coil k shows closed, as fb_mode reads its contact input (R210). -/
def State.fbClosed (s : State) (k : Nat) : Bool :=
  let c := SMap.get CoilInt.reset s.coils k
  if s.f (MTX_COIL_CMD_fb_mode k) = 2 then !c.input else c.input

/-- The feedback disagrees with on; without a contact nothing is compared. -/
def State.disagrees (s : State) (k : Nat) : Bool :=
  s.f (MTX_COIL_CMD_fb_mode k) != 0 && s.fbClosed k != s.fb (MTX_COIL_STAT_on k)

/-- Record the feedback and whether it has agreed since the last change of on; a disagreement that ends keeps mismatch for 5 ms. -/
def State.compareCoil (s : State) (k : Nat) (was : Bool) : State :=
  let s := s.setB (MTX_COIL_STAT_fb_closed k) (s.fbClosed k)
  let c := SMap.get CoilInt.reset s.coils k
  let c := if s.disagrees k then { c with offFrom := some (c.offFrom.getD s.now) }
    else { c with agreed := true, agreedAt := if was then some s.now else c.agreedAt, offFrom := none, told := false }
  { s with coils := SMap.set CoilInt.reset s.coils k c }

/-- mismatch of coil k: a disagreement stands, or ended less than 5 ms ago (R210). -/
def State.coilMismatch (s : State) (k : Nat) : Bool :=
  s.disagrees k || (s.f (MTX_COIL_CMD_fb_mode k) != 0 && match (SMap.get CoilInt.reset s.coils k).agreedAt with
    | some t => s.now < t + 2000000
    | none => false)

/-- Bring the drive of coil k to what is wanted: a change starts or ends the drive, and a matrix position changed with group
current above 16 A sets hot. In the switch-over gap outputs hold (R116). -/
def State.coilSync (s : State) (k : Nat) : State :=
  let on := s.coilWanted k
  if s.gap && !s.coilsOff then s
  else if s.fb (MTX_COIL_STAT_on k) == on then s
  else
    let was := s.disagrees k
    let s := s.setAll [(MTX_COIL_STAT_on k, if on then 1 else 0), (MTX_COIL_STAT_pulling k, if on then 1 else 0)]
    let s := if on then s.addSat (MTX_COIL_STAT_ops k) 1 else s
    let s := { s with coils := SMap.set CoilInt.reset s.coils k { SMap.get CoilInt.reset s.coils k with agreed := false, onAt := s.now, offFrom := none, told := false } }
    let s := s.compareCoil k was
    if k < 96 ∧ (256 < s.groupCurrent (k / 12) ∨ s.groupCurrent (k / 12) < -256) then s.coilEvent k (MTX_COIL_STAT_hot k) else s

/-- A clamp releases every coil driver (R209). -/
def State.releaseCoils (s : State) : State := { s with coilsOff := true }.each (List.range 128) State.coilSync

/-- Whether a write of cmd 1 to matrix coil 12 g + d is refused (R212). -/
def State.closeRefused (s : State) (g d : Nat) : Bool :=
  ((List.range 12).any fun x => x != d && (s.fb (MTX_COIL_CMD_cmd (12 * g + x)) || s.fbClosed (12 * g + x))) ||
    ((List.range 256).any (fun n => s.f (PHU_CTRL_dest n) == d && s.fb (PHU_CTRL_en n)) && (s.groupsOf d).all fun h => g < h)

/-- STATUS.own_mismatch of connector c (R213). -/
def State.ownMismatch (s : State) (c : Nat) : Bool :=
  (List.range 256).any fun n => s.f (PHU_CTRL_dest n) == c && !(s.groupsOf c).contains (n / 32)

/-- Perform f, then set EVENTS.own_mismatch of each connector whose own_mismatch became 1. -/
def State.watchOwn (s : State) (f : State → State) : State :=
  let t := f s
  t.each (List.range 8) fun u c => if !s.ownMismatch c && t.ownMismatch c then u.connEvent c (CONN_EVENTS_own_mismatch c) else u

/-- A write of COIL_CMD[k] (R209, R212). -/
def State.writeCoil (s : State) (k v : Nat) : State :=
  if k < 96 ∧ v % 2 = 1 ∧ s.closeRefused (k / 12) (k % 12) then s.coilEvent k (MTX_COIL_STAT_refused k)
  else
    s.watchOwn fun s =>
      let was := s.disagrees k
      let mode := v / 16777216 % 4
      let s := s.setAll [(MTX_COIL_CMD_cmd k, v), (MTX_COIL_CMD_pull k, max 10 (v / 256 % 256)),
        (MTX_COIL_CMD_hold k, max 26 (v / 65536 % 256)), (MTX_COIL_CMD_fb_mode k, if mode = 3 then 1 else mode)]
      (s.compareCoil k was).coilSync k

/-! ## Connector outputs -/

/-- The generator of connector c stops at its present references: they become its targets; slewing requests complete DISCARDED (R215). -/
def State.connHold (s : State) (c : Nat) : State :=
  let s := s.setAll [(CONN_VSET_target c, s.f (CONN_VREF_vref c)), (CONN_ISET_target c, s.f (CONN_IREF_iref c))]
  let s := s.setConn c { s.conn c with vNew := false, iNew := false }
  let p := fun (r : Req) => r.scope == connScope c && (r.opcode == 0x0201 || r.opcode == 0x0202)
  let s := s.finishServing (.queue 2 1) p 3 0 0
  s.finishServing (.queue 3 1) p 3 0 0

/-- Clearing CTRL.en of connector c stops its generator (R215). -/
def State.connStop (s : State) (c : Nat) : State := (s.setF (CONN_CTRL_en c) 0).connHold c

/-- Held steps whose 2 s are over go; grace_expire where ILIM_ENF falls (R199). -/
def State.graceExpire (s : State) (c : Nat) : State :=
  let x := s.conn c
  let left := x.steps.filter fun y => decide (s.now < y.2)
  if left.length = x.steps.length then s
  else
    let old := s.ilimEnf c
    let s := s.setConn c { x with steps := left }
    let s := if s.ilimEnf c < old then s.connEvent c (CONN_EVENTS_grace_expire c) else s
    s.clipTouch c

/-- A write of ILIM (R199, R200); a step that expires at the same edge goes first (R201). -/
def State.writeIlim (s : State) (c v : Nat) : State :=
  let s := s.graceExpire c
  let v := if 0x80000000 ≤ v then 0 else v
  let u := s.f (CONN_ILIM_limit c)
  let x := s.conn c
  let kept := x.steps.filter fun y => u < y.1
  let exp := s.now + 800000000
  let s := s.setF (CONN_ILIM_limit c) v
  let s :=
    if v < u then
      if kept.length < 8 then s.setConn c { x with steps := kept ++ [(u, exp)] }
      else
        let merged := kept.dropLast ++ (kept.getLast?.map fun y => (y.1, exp)).toList
        ((s.setConn c { x with steps := merged }).addSat (CONN_COUNTS_merges c) 1).connEvent c (CONN_EVENTS_grace_merge c)
    else s.setConn c { x with steps := kept }
  s.clipTouch c

/-- A write of ILIM_REV: at once (R199); negative values are stored as 0, as in ILIM. -/
def State.writeIlimRev (s : State) (c v : Nat) : State :=
  (s.setF (CONN_ILIM_REV_limit c) (if 0x80000000 ≤ v then 0 else v)).clipTouch c

/-- A write of PORT_LIM: at once (R203). -/
def State.writePortLim (s : State) (p v : Nat) : State :=
  let s := s.setAll [(MTX_PORT_LIM_fwd p, v % 65536), (MTX_PORT_LIM_rev p, v / 65536 % 65536)]
  (s.setDest (8 + p) { s.dest (8 + p) with fwd := v % 65536 * 16, rev := v / 65536 % 65536 * 16 }).clipTouch (8 + p)

end Sys2Proof.Machine
end

