-- ==== Sys2Proof/Machine/Phases.lean ====
section
/-!
DEFINITION. Phase units: rises, falls, samples, sense failure, and the writes of their CTRL and PLEAT (R174 to R195).
Measured quantities are what the filters make of the bits that the lane has received (R178). A timed command that comes before its instant does nothing
(log 225).
-/
namespace Sys2Proof.Machine

/-- log2 of L^3 of the current filter (R178: L 8, 16, 32). -/
def iFilterBits (len : Nat) : Nat := if len = 0 then 9 else if len = 1 then 12 else 15
/-- log2 of L^3 of the voltage filter (L 32, 64, 128). -/
def vFilterBits (len : Nat) : Nat := if len = 0 then 15 else if len = 1 then 18 else 21

/-- The present output of the current filter of unit n, and of the voltage filters on streams 8 and 9 of its cell (R178). -/
def State.iOut (s : State) (n : Nat) : Nat := sinc3 (8 * 2 ^ s.f (PHU_CTRL_i_len n)) (SMap.get 0 (s.lane (n / 8)).hist (n % 8))
def State.vOut (s : State) (n j : Nat) : Nat := sinc3 (32 * 2 ^ s.f (PHU_CTRL_v_len n)) (SMap.get 0 (s.lane (n / 8)).hist j)

/-- The density 2 y / 2^b - 1 in units of 2^-20. -/
def density (b y : Nat) : Int := (y * 2 ^ (21 - b) : Nat) - (2 ^ 20 : Nat)

/-- i_f = gain (d - ofs) of a filter output y, in units of 2^-19 A (gain in 1/16 A, d and ofs in 2^-15). -/
def State.iScaled (s : State) (n y : Nat) : Int :=
  let b := iFilterBits (s.f (PHU_CTRL_i_len n))
  s.f (PHU_SENSE_gain n) * (((y * 2 ^ (16 - b) : Nat) : Int) - (2 ^ 15 : Nat) - s.fi (PHU_SENSE_ofs n))

/-- i_f now. -/
def State.iFiltered (s : State) (n : Nat) : Int := s.iScaled n (s.iOut n)

/-- Whether s = i_f + r is at or below the reference in force: IREF limited to the unit's part of the enforced range (R174, R202).
`i` in 2^-19 A. Where the share sum is 0 the range is not defined and IREF is used as written. -/
def State.atReference (s : State) (n : Nat) (i : Int) : Bool :=
  let d := s.f (PHU_CTRL_dest n)
  let v := i + (s.rippleNow n * 128 : Nat)
  let ref := s.fi (PHU_IREF_iref n)
  let sum := s.sumShare d
  if d < 12 ∧ sum ≠ 0 then
    let sh := (s.f (PHU_SHARE_share n) : Int)
    decide (v * sum ≤ 2 * clampI (-(s.enfRev d * sh)) (s.enfFwd d * sh) (ref * sum))
  else decide (v ≤ 2 * ref)

/-- t_on of R175 for voltage densities of 2^-20. -/
def State.onTime (s : State) (n : Nat) (dvo dvd : Int) : Nat :=
  let num := s.f (PHU_SHARE_vratio n) * dvo
  let den := 2 ^ 14 * dvd
  let base := (s.f (PHU_TON_BASE_base n) : Int)
  let gainQ := 2 ^ 14 + s.fi (PHU_MEAS_trim n)
  let t : Int :=
    if dvd ≤ 0 ∨ num ≤ 0 then 0
    else if den ≤ num then (2 * base * gainQ + 2 ^ 14) / 2 ^ 15
    else (2 * base * num * gainQ + den * 2 ^ 14) / (2 * den * 2 ^ 14)
  (max t 4).toNat

/-- The distance of now from the last slot instant of unit n, in cycles (R183). -/
def State.slotPhase (s : State) (n : Nat) : Nat :=
  let p := s.f (PHU_PLEAT_period n)
  (s.now - s.epoch + (p - s.f (PHU_PLEAT_angle n) * p / 65536)) % p

/-- The trim update and the lock judgement of one rise (R184). -/
def State.placement (s : State) (n : Nat) : State :=
  if !s.fb (PHU_CTRL_fhold_en n) then s.setF (PHU_MEAS_trim n) 0
  else if s.fb (PHU_CTRL_burst n) then s
  else
    let p := s.f (PHU_PLEAT_period n)
    let m := s.slotPhase n
    let e : Int := if p < 2 * m then (m : Int) - p else m
    let k := p * 2 ^ s.f (PHU_CTRL_fhold_shift n)
    let lim := (s.f (PHU_CTRL_fhold_lim n) * 64 : Nat)
    let (t, s) := s.roundOpen (s.fi (PHU_MEAS_trim n) * k - e * 2 ^ 14) k
    let s := s.setFi (PHU_MEAS_trim n) (clampI (-(lim : Int)) lim t)
    let x := s.phu n
    let inn := if 64 * e.natAbs ≤ p then min 16 (x.lockIn + 1) else 0
    let out := if p < 16 * e.natAbs then min 4 (x.lockOut + 1) else 0
    let s := s.setPhu n { x with lockIn := inn, lockOut := out }
    if inn = 16 ∧ !s.fb (PHU_STATUS_locked n) then (s.setF (PHU_STATUS_locked n) 1).phuEvent n (PHU_EVENTS_pleat_lock n)
    else if out = 4 ∧ s.fb (PHU_STATUS_locked n) then (s.setF (PHU_STATUS_locked n) 0).phuEvent n (PHU_EVENTS_pleat_slip n)
    else s

/-- MEAS.i_avg at a rise: the mean of i_f over the cycle just completed, in 1/16 A; nothing new at the first rise after an enable (R189). -/
def State.meanCurrent (s : State) (n : Nat) : State :=
  let x := s.phu n
  if x.cyc ∧ x.iCnt ≠ 0 then
    let (v, s) := s.roundOpen x.iSum (x.iCnt * 32768)
    s.setFi (PHU_MEAS_i_avg n) (satSigned 16 v)
  else s

/-- The rise itself: the cycle just completed is closed, its clamps reported, the on-time computed, the trim updated; a sample is due D later. -/
def State.rise (s : State) (n : Nat) : State :=
  let b := vFilterBits (s.f (PHU_CTRL_v_len n))
  let s := s.meanCurrent n
  let x := s.phu n
  let s := s.setAll [(PHU_STATUS_clamp_ton n, if x.tonActed then 1 else 0), (PHU_STATUS_clamp_toff n, if x.delayed then 1 else 0)]
  let s := s.setPhu n { x with
    riseAt := s.now, tOn := s.onTime n (density b (s.vOut n 8)) (density b (s.vOut n 9)), maxOn := s.f (PHU_TON_BASE_max n), tonActed := false,
    delayed := false, tonRun := x.tonRun && x.tonActed, toffRun := x.toffRun && x.delayed, waitSlot := false,
    due := x.due ++ [(s.now + s.measDelay n, false)], cyc := true, iSum := 0, iCnt := 0 }
  (s.placement n).setGate n true

/-- The minimum off-time clamp delays a triggered rise; its record and event are posted at the first cycle of a run (R177). -/
def State.delayRise (s : State) (n : Nat) : State :=
  let x := s.phu n
  let s := s.setPhu n { x with delayed := true, toffRun := true }
  if x.toffRun then s else (s.phuEvent n (PHU_EVENTS_toff_min n)).clampRecord (phuEng n) 1 (phaseScope n)

/-- PHASE_RISE: one evaluation of the law at a CK_PHU edge (R174, R175, R177, R179, R187). -/
def State.phaseRise (s : State) (n : Nat) : State :=
  let x := s.phu n
  if !s.fb (PHU_CTRL_en n) || !s.unlatched n || s.fb (PHU_STATUS_gate n) then s
  else
    let s := s.clipTouch (s.f (PHU_CTRL_dest n))
    let go := fun (s : State) => s.rise n
    let low := s.atReference n (s.iFiltered n)
    let offOk : Bool := match x.fallAt with
      | some t => decide (t + s.f (PHU_CTRL_toff_min n) ≤ s.now)
      | none => true
    if x.waitSlot || s.fb (PHU_CTRL_burst n) then (if s.slotPhase n = 0 ∧ low ∧ offOk then go s else s)
    else if !(x.delayed || low) then s
    else if !offOk then (if x.delayed then s else s.delayRise n)
    else go s

def execPhaseRise (n : Fin 256) (_yi _yo _yd _iAvg : NoOperand) (s : State) : Out := s.onClock fun s => s.phaseRise n

/-- PHASE_FALL: t_on or, before it, TON_BASE.max has passed (R175, R177). -/
def State.phaseFall (s : State) (n : Nat) : State :=
  if !s.fb (PHU_STATUS_gate n) || decide (s.now < (s.phu n).riseAt + min (s.phu n).tOn (s.phu n).maxOn) then s
  else
    let s := s.gateFall n
    let x := s.phu n
    if x.maxOn < x.tOn then
      let s := s.setPhu n { x with tonActed := true, tonRun := true }
      if x.tonRun then s else (s.phuEvent n (PHU_EVENTS_ton_max n)).clampRecord (phuEng n) 0 (phaseScope n)
    else s

def execPhaseFall (n : Fin 256) (s : State) : Out := s.onClock fun s => (s.phaseFall n)

/-- PHASE_SAMPLE: the oldest sample whose instant has come. The one after a rise is kept; the one after a fall closes the cycle's rise (R192). A sample on
a flagged frame leaves the cycle uncounted; disable and park drop the samples of a cycle that they truncate. -/
def State.phaseSample (s : State) (n : Nat) : State :=
  let x := s.phu n
  match x.due with
  | [] => s
  | (at_, fell) :: t =>
    if s.now < at_ then s
    else
      let v := s.iFiltered n
      let flagged := (s.lane (n / 8)).flagged
      let s := s.setPhu n { x with due := t, first := if fell || flagged then none else some v }
      match x.first with
      | none => s
      | some a =>
        if !fell || flagged then s
        else if v - a < (s.f (PHU_FAULT_rise_min n) * 32768 : Nat) then
          let run := s.f (PHU_STATUS_open_run n) + 1
          let s := s.setF (PHU_STATUS_open_run n) (min run 3)
          if 3 ≤ run ∧ s.fb (PHU_CTRL_en n) ∧ !s.fb (PHU_STATUS_latch_open n) then
            (s.phaseFault n (PHU_STATUS_latch_open n) (PHU_EVENTS_open_phase n)).clipAll
          else s
        else s.setF (PHU_STATUS_open_run n) 0

def execPhaseSample (n : Fin 256) (_afterFall _y _flagged : NoOperand) (s : State) : Out := s.onClock fun s => s.phaseSample n

/-- SENSE_FAILURE: the windows of the unit's streams are judged (R193); a frame judges them too. -/
def State.senseJudge (s : State) (l : List Nat) : State := if l.any fun n => (s.senseDue n).isSome then (s.each l State.senseDeclare).clipAll else s

def execSenseFailure (n : Fin 256) (_src _run _ones : NoOperand) (s : State) : Out := s.onClock fun s => s.senseJudge [n.val]

/-- i_f of every enabled unit of lane l at a new bit, for the mean of its cycle (R189). -/
def State.sumCurrents (s : State) (l : Nat) : State :=
  s.each (laneUnits l) fun s n =>
    let x := s.phu n
    if s.fb (PHU_CTRL_en n) && x.cyc then s.setPhu n { x with iSum := x.iSum + s.iFiltered n, iCnt := x.iCnt + 1 } else s

/-! ## Writes of CTRL (R179 to R181) -/

/-- Enable unit n: whether it was accepted, and the state (R179). -/
def State.phuEnable (s : State) (n : Nat) : Bool × State :=
  if s.f (LANE_STATUS_state (n / 8)) = 2 then
    let s := s.noRelease
    let s := s.setAll [(PHU_CTRL_en n, 1), (PHU_MEAS_trim n, 0), (PHU_STATUS_open_run n, 0)]
    let s := s.setPhu n { s.phu n with ripple := 0, waitSlot := true, delayed := false, first := none, due := [], cyc := false, lockIn := 0, lockOut := 0 }
    (true, (s.senseDeclare n).clipTouch (s.f (PHU_CTRL_dest n)))
  else (false, s.phuEvent n (PHU_EVENTS_en_refused n))

/-- A write of 0 to en of an enabled unit (R180). -/
def State.phuDisable (s : State) (n : Nat) : State :=
  if s.fb (PHU_CTRL_en n) then
    ((s.phuStop n 1).discardedWork 7 (phuEng n) (phaseScope n) 0 0).clipTouch (s.f (PHU_CTRL_dest n))
  else s

/-- A write of 1 to retry (R181). -/
def State.phuRetry (s : State) (n : Nat) : State :=
  if !s.unlatched n then s.phuEvent n (PHU_EVENTS_retry_blocked n)
  else if s.fb (PHU_CTRL_en n) then s
  else
    let (ok, s) := s.phuEnable n
    if ok then s.addSat (PHU_STATUS_retry_count n) 1 else s

/-- An enabled unit whose latches are cleared goes on as at an enable (R179, R181, R195): trim, ripple and open_run 0, its next rise at a slot. -/
def State.resume (s : State) (n : Nat) : State :=
  let s := s.setAll [(PHU_MEAS_trim n, 0), (PHU_STATUS_open_run n, 0)]
  (s.setPhu n { s.phu n with ripple := 0, waitSlot := true, delayed := false, first := none, due := [], cyc := false }).senseDeclare n

/-- A write of 1 to clear (R181). -/
def State.phuClear (s : State) (n : Nat) : State :=
  let t := s.stageT n
  let was := s.fb (PHU_CTRL_en n) && !s.unlatched n
  if t = 0x8000 ∨ (s.f (PHU_STAGE_shut n) : Int) - s.f (PHU_STAGE_hyst n) ≤ toSigned 16 t then s.phuEvent n (PHU_EVENTS_clear_refused n)
  else
    let s := s.setAll [(PHU_STATUS_latch_open n, 0), (PHU_STATUS_latch_sense n, 0), (PHU_STATUS_latch_ot n, 0), (PHU_STATUS_retry_count n, 0)]
    (if was then s.resume n else s).clipTouch (s.f (PHU_CTRL_dest n))

/-- dest, i_len and v_len of a CTRL write: left unchanged with cfg_err while enabled (R180). -/
def State.phuConfig (s : State) (n v : Nat) : State :=
  let cap := fun x => if x = 3 then 2 else x
  let d := v / 16 % 16
  let i := cap (v / 512 % 4)
  let vl := cap (v / 2048 % 4)
  if s.fb (PHU_CTRL_en n) then
    if d = s.f (PHU_CTRL_dest n) ∧ i = s.f (PHU_CTRL_i_len n) ∧ vl = s.f (PHU_CTRL_v_len n) then s else s.phuEvent n (PHU_EVENTS_cfg_err n)
  else s.watchOwn fun s => s.setAll [(PHU_CTRL_dest n, d), (PHU_CTRL_i_len n, i), (PHU_CTRL_v_len n, vl)]

/-- A write of PHU[n].CTRL: a clear of en acts first; clear acts before retry (R180, R181). -/
def State.writePhuCtrl (s : State) (n v : Nat) : State :=
  let was := s.fb (PHU_CTRL_en n)
  let s := if v % 2 = 0 then s.phuDisable n else s
  let s := s.phuConfig n v
  let s := s.setAll [(PHU_CTRL_burst n, v / 8), (PHU_CTRL_fhold_en n, v / 256), (PHU_CTRL_fhold_shift n, v / 8192),
    (PHU_CTRL_fhold_lim n, v / 65536), (PHU_CTRL_toff_min n, max 4 (v / 16777216 % 256))]
  let s := if v / 256 % 2 = 0 then s.setF (PHU_MEAS_trim n) 0 else s
  let s := if v / 2 % 2 = 1 then s.phuClear n else s
  let s := if v % 2 = 1 ∧ !was then (s.phuEnable n).2 else s
  if v / 4 % 2 = 1 then s.phuRetry n else s

def execPhuEnable (w : Fin 8) (n : Fin 256) (s : State) : Out :=
  .next (s.guarded w (phuEng n) (PHU_CTRL n) (if s.fb (PHU_CTRL_en n) then s else (s.phuEnable n).2))
def execPhuDisable (w : Fin 8) (n : Fin 256) (s : State) : Out := .next (s.guarded w (phuEng n) (PHU_CTRL n) (s.phuDisable n))
def execPhuRetry (w : Fin 8) (n : Fin 256) (s : State) : Out := .next (s.guarded w (phuEng n) (PHU_CTRL n) (s.phuRetry n))
def execPhuClear (w : Fin 8) (n : Fin 256) (s : State) : Out := .next (s.guarded w (phuEng n) (PHU_CTRL n) (s.phuClear n))

/-- A write of PLEAT goes to the shadow (R182). -/
def State.writePleat (s : State) (n v : Nat) : State :=
  s.setPhu n { s.phu n with shadow := some (v % 65536, max 2000 (min 40000 (v / 65536 % 65536))) }

def execPleatWrite (w : Fin 8) (n : Fin 256) (v : BitVec 32) (s : State) : Out :=
  .next (s.guarded w (phuEng n) (PHU_PLEAT n) (s.writePleat n v.toNat))

/-- A write of RIPPLE: the ripple that runs goes on from its present value (R195). -/
def State.writeRipple (s : State) (n v : Nat) : State :=
  let s := s.setPhu n { s.phu n with ripple := s.rippleNow n, ripAt := s.now }
  s.setAll [(PHU_RIPPLE_amp n, v), (PHU_RIPPLE_slope n, v / 65536)]

/-- A write of TON_BASE, for the next rise (R175). -/
def State.writeTonBase (s : State) (n v : Nat) : State :=
  s.setAll [(PHU_TON_BASE_base n, max 2000 (min 40000 (v % 65536))), (PHU_TON_BASE_max n, max 4 (v / 65536 % 65536))]

/-- Writes of IREF and SHARE, which move the clamp of the destination (R202). -/
def State.writeIref (s : State) (n v : Nat) : State := (s.setF (PHU_IREF_iref n) v).clipTouch (s.f (PHU_CTRL_dest n))
def State.writeShare (s : State) (n v : Nat) : State :=
  (s.setAll [(PHU_SHARE_share n, v), (PHU_SHARE_vratio n, v / 65536)]).clipTouch (s.f (PHU_CTRL_dest n))

end Sys2Proof.Machine
end

