-- ==== Sys2Proof/Machine/Lanes.lean ====
section
/-!
DEFINITION. Cell lanes: frames, CRCs, telemetry, training, parking (R158 to R173).
-/
namespace Sys2Proof.Machine

/-! ## Frames -/

/-- The gate code of a phase: its level at the frame's start and its edge, a quarter and a level (R165). -/
def gateCode (level : Bool) : Option (Nat × Bool) → Nat
  | none => if level then 4 else 0
  | some (0, up) => if up then 4 else 0
  | some (q, up) => if up then q else 4 + q

/-- The start of the last whole frame span before now (R158: every fourth CK_PHU edge from the epoch). -/
def State.frameStart (s : State) : Nat := s.epoch + 4 * ((s.now - s.epoch) / 4 - 1)

/-- The edge of a phase within the span that begins at t. -/
def edgeIn (l : LaneInt) (k t : Nat) : Option (Nat × Bool) :=
  match l.edges.find? (fun e => e.phase == k && decide (t ≤ e.at_ ∧ e.at_ < t + 4)) with
  | some e => some (e.at_ - t, e.level)
  | none => none

/-- The 24 bits of gate codes of a RUN frame. -/
def gateCodes (l : LaneInt) (t : Nat) : Nat :=
  (List.range 8).foldl (fun a k => a + gateCode (l.level / 2 ^ k % 2 == 1) (edgeIn l k t) * 8 ^ k) 0

/-- The levels at the end of the span: the last edge before its end, else the level before. -/
def levelsAfter (l : LaneInt) (t : Nat) : Nat :=
  (List.range 8).foldl (fun a k =>
    let b := (l.edges.filter fun e => e.phase == k && decide (e.at_ < t + 4)).getLast?.map (·.level)
    a + (if b.getD (l.level / 2 ^ k % 2 == 1) then 2 ^ k else 0)) 0

/-! ## Telemetry (R162, R163) -/

/-- Set STAGE_T of phase k of lane n. -/
def State.setStageT (s : State) (n k v : Nat) : State :=
  if k % 2 = 0 then s.setF (LANE_STAGE_T_t_even n (k / 2)) v else s.setF (LANE_STAGE_T_t_odd n (k / 2)) v

/-- Deliver a telemetry item. Stage temperatures come from a trained endpoint only. -/
def State.deliver (s : State) (n item value seq : Nat) : State :=
  let l := s.lane n
  if item < 8 then
    if l.telem then ((s.setLane n { l with itemAt := SMap.put l.itemAt item s.now }).setStageT n item value).stageTemp (8 * n + item) (value % 65536) else s
  else if item = 8 then
    let old := s.f (LANE_EP_STAT_value n)
    let s := s.setAll [(LANE_EP_STAT_value n, value), (LANE_STATUS_ep_parked n, value / 256)]
    if value % 256 = old % 256 then s else s.laneEvent n (LANE_EVENTS_ep_fault n)
  else if item = 9 then (if value = s.f (LANE_EP_ID_id n) then s else s.laneEvent n (LANE_EVENTS_ep_id_change n))
  else if item = 10 then (s.setF (LANE_EP_VER_value n) value).setLane n { l with delaysKnown := true }
  else if 0x80 ≤ item then (s.setAll [(LANE_VEND_ITEM_item n, item), (LANE_VEND_ITEM_seq n, seq)]).setLane n { l with vendor := value }
  else s

/-- The telemetry words of lane n count one more discarded or lost. -/
def State.badWord (s : State) (n : Nat) : State := s.addSat (LANE_ERRORS_bad_words n) 1

/-- A frame time that continues no word: one of a word already discarded, or the loss of a word, counted once (R162). -/
def State.dropWord (s : State) (n : Nat) : State :=
  let l := s.lane n
  if l.slices.isEmpty ∧ l.skip ≠ 0 then s.setLane n { l with skip := l.skip - 1 }
  else (s.badWord n).setLane n { l with slices := [], skip := 3 - l.slices.length }

/-- A slice arrives in a valid frame. -/
def State.slice (s : State) (n sl : Nat) : State :=
  let l := s.lane n
  if sl / 2048 = 1 then
    let s := if l.slices.isEmpty then s else s.badWord n
    s.setLane n { l with slices := [sl % 2048], skip := 0 }
  else if l.slices.isEmpty then s.dropWord n
  else
    let got := l.slices ++ [sl % 2048]
    if got.length < 4 then s.setLane n { l with slices := got }
    else
      let w := got.foldr (fun x a => x + 2048 * a) 0
      let seq := w / 2 ^ 40 % 16
      let jump : Bool := match l.seq with
        | some q => decide (seq ≠ (q + 1) % 16)
        | none => false
      let s := s.setLane n { l with slices := [], seq := some seq }
      let s := if jump then s.badWord n else s
      s.deliver n (w % 256) (w / 256 % 2 ^ 32) seq

/-! ## Training (R169, R170) -/

/-- Training ends FAILED with a code: also after ACTIVE, where an echo of the last GOs does not come (code 6; log 227). -/
def State.trainFail (s : State) (n code : Nat) : State :=
  let s := (s.laneStop n 4 9).setF (LANE_TRAIN_fail_code n) code
  ((s.laneEvent n (LANE_EVENTS_train_fail n)).laneEvent n (LANE_EVENTS_park n)).clipAll

/-- The endpoint's declared d_gate and d_turn in ns: as its item 0x0A gave them; before one has come, free values within the bounds
of R170 (log 6). -/
def State.delays (s : State) (n : Nat) : Nat × Nat × State :=
  if (s.lane n).delaysKnown then (s.f (LANE_EP_VER_value n) % 256, s.f (LANE_EP_VER_value n) / 256 % 256, s)
  else
    let (a, s) := s.fresh
    let (b, s) := s.fresh
    (a % 41, b % 21, s)

/-- The frame after GO 0: the equalisation of R170, and ACTIVE, or failure 4. -/
def State.trained (s : State) (n : Nat) : State :=
  let (dg, dt, s) := s.delays n
  let rtt := s.f (LANE_LATENCY_rtt n)
  let x : Int := 20 * (s.f (LANE_TRAIN_target n) : Int) - 120 - rtt + 4 * dt - 8 * dg
  let eq := (x + 10) / 20
  if eq < 0 then s.trainFail n 4
  else
    let (age, s) := s.roundOpen ((rtt : Int) + 4 * dt + 240) 2
    let s := s.setAll [(LANE_LATENCY_eq n, eq.toNat), (LANE_LATENCY_up_age n, age.toNat), (LANE_STATUS_state n, 2)]
    let s := s.setLane n { s.lane n with
      train := .align 0, slices := [], seq := none, skip := 0, badRun := 0, upAt := s.now, flagged := false, win := [], telem := true, edges := [], level := 0 }
    s.laneEvent n (LANE_EVENTS_trained n)

/-- Count one more equal value of an identity half. -/
def countHalf (v : Nat) : Option (Nat × Nat) → Option (Nat × Nat)
  | some (w, c) => if w = v then some (w, c + 1) else some (v, 1)
  | none => some (v, 1)

/-- 16 equal values of an identity half have come. -/
def halfDone : Option (Nat × Nat) → Bool
  | some (_, c) => decide (16 ≤ c)
  | none => false

/-- READY c: the echo of a GO that has been sent; of GO 128 with the round trip. -/
def State.ready128 (s : State) (n c rtt : Nat) : State :=
  let l := s.lane n
  if l.goN < 256 - c ∨ l.goN = 0 ∨ l.echoes / 2 ^ c % 2 = 1 then s
  else (if c = 128 then s.setF (LANE_LATENCY_rtt n) rtt else s).setLane n { l with echoes := l.echoes + 2 ^ c }

/-- The failure of a training that has missed a bound by now (R169): ALIGNED within 30 us; the identity within the 64 IDENT frames; the echo of GO 128, and
of each later GO, within 64 frames. -/
def State.trainMissed (s : State) (n : Nat) : Option Nat :=
  let l := s.lane n
  let echo : Option Nat := if 191 ≤ l.goN ∧ l.goN ≤ 319 ∧ l.echoes / 2 ^ (319 - l.goN) % 2 = 0 then some (if l.goN = 191 then 5 else 6) else none
  if s.f (LANE_STATUS_state n) = 1 then
    match l.train with
    | .align _ => if l.trainAt + 12000 < s.now then some 1 else none
    | .ident k lo hi => if 64 ≤ k ∧ !(halfDone lo && halfDone hi) then some 2 else none
    | _ => echo
  else if s.f (LANE_STATUS_state n) = 2 then echo else none

/-- A training frame from the endpoint. -/
def State.trainRx (s : State) (n code v rtt : Nat) : State :=
  let l := s.lane n
  match l.train with
  | .align c =>
    if code = 0xB1 then
      if c + 1 < 64 then s.setLane n { l with train := .align (c + 1) }
      else if v = 1 then s.setLane n { l with train := .ident 0 none none }
      else s.trainFail n 3
    else s.setLane n { l with train := .align 0 }
  | .ident k lo hi =>
    let lo := if code = 0xB2 then countHalf v lo else lo
    let hi := if code = 0xB3 then countHalf v hi else hi
    let s := s.setLane n { l with train := .ident k lo hi }
    match lo, hi with
    | some (a, i), some (b, j) => if 16 ≤ i ∧ 16 ≤ j then s.setF (LANE_EP_ID_id n) (a + b * 65536) else s
    | _, _ => s
  | _ => if code = 0xB4 then s.ready128 n (v % 256) rtt else s

/-! ## Commands -/

/-- The lane-loss park clamp (R167): only while ACTIVE. -/
def State.laneLoss (s : State) (n : Nat) : State :=
  if s.f (LANE_STATUS_state n) = 2 then
    ((s.parkLane n 1).laneEvent n (LANE_EVENTS_loss n)).clampRecord (laneEng n) 4 (unitScope 8 n)
  else s

/-- The twelve bits of a frame, or repeated ones, enter the filters; unflagged ones the windows (R161, R168, R178, R193). -/
def State.pushBits (s : State) (n b : Nat) (flagged : Bool) : State :=
  let l := s.lane n
  let hist := (List.range 12).foldl (fun h j => SMap.set 0 h j (pushBit (SMap.get 0 h j) (b / 2 ^ j))) l.hist
  let win := if flagged || s.f (LANE_STATUS_state n) != 2 then l.win
    else (List.range 10).foldl (fun w j => SMap.put w j ((SMap.get SenseWin.reset w j).push (b / 2 ^ j))) l.win
  (s.setLane n { l with hist := hist, win := win, auxN := l.auxN + 1, bits := b, flagged := flagged }).sumCurrents n

/-- A frame time of an ACTIVE lane without a valid data frame: its bits are repeated and flagged, a word that spans it is discarded; the hundredth in a
row is lane loss (R167, R168). -/
def State.noData (s : State) (n : Nat) : State :=
  let s := (s.dropWord n).pushBits n (s.lane n).bits true
  let l := s.lane n
  let s := s.setLane n { l with badRun := l.badRun + 1 }
  if 100 ≤ l.badRun + 1 then s.laneLoss n else s

/-- An invalid frame time while ACTIVE counts (R168). -/
def State.badFrame (s : State) (n : Nat) : State := (s.addSat (LANE_ERRORS_bad_frames n) 1).noData n

/-- A valid upstream data frame: its bits, the judgement of its streams, and its slice. -/
def State.goodFrame (s : State) (n w : Nat) : State :=
  let s := (s.setLane n { s.lane n with badRun := 0 }).pushBits n (w % 4096) false
  (s.senseJudge (laneUnits n)).slice n (w / 4096 % 4096)

/-- The frame times of 10 ns that have passed without a command, up to the one that ends now or not: nothing decodable has come (R168). -/
def State.silence (s : State) (n k : Nat) : State :=
  let s := (List.range (min k 100)).foldl (fun (s : State) _ => if s.f (LANE_STATUS_state n) = 2 then s.badFrame n else s) s
  s.setLane n { s.lane n with upAt := (s.lane n).upAt + 4 * k }

/-- ALIGNED frames no longer follow one another. -/
def State.breakAlign (s : State) (n : Nat) : State :=
  match (s.lane n).train with
  | .align _ => s.setLane n { s.lane n with train := .align 0 }
  | _ => s

/-- A frame as R159 judges it, in the lane's state (R162, R168, R169): data frames count while ACTIVE; a PARKED lane still reads telemetry. -/
def State.received (s : State) (n : Nat) (f : RxFrame) (rtt : Nat) : State :=
  let st := s.f (LANE_STATUS_state n)
  match f with
  | .data w => if st = 2 ∨ st = 3 then s.goodFrame n w else if st = 1 then s.breakAlign n else s
  | .train code v =>
    if st = 1 then s.trainRx n code v rtt
    else if st = 2 then (if code = 0xB4 then s.ready128 n (v % 256) rtt else s).noData n
    else if st = 3 then s.dropWord n
    else s
  | .bad => if st = 2 then s.badFrame n else if st = 1 then s.breakAlign n else if st = 3 then s.dropWord n else s

/-- UPSTREAM_FRAME. -/
def State.upstream (s : State) (n : Nat) (f : UpFrame) : State :=
  let l := s.lane n
  let s := if s.f (LANE_STATUS_state n) = 2 then s.silence n ((s.now - l.upAt) / 4 - 1) else s
  let s := s.setLane n { s.lane n with upAt := s.now }
  let s := if s.trainMissed n = some 1 then s.trainFail n 1 else s
  match f with
  | .silent => s.received n .bad 0
  | .line b rtt => (s.setLane n { s.lane n with rxRd := rdLine l.rxRd b.toNat }).received n (rxFrame l.rxRd b.toNat) rtt.toNat

def execUpstreamFrame (n : Fin 32) (f : UpFrame) (s : State) : Out := s.onClock fun s => s.upstream n f

/-- TELEMETRY_LOST: item k not accepted within 128 words, 5.12 us (R163). -/
def execTelemetryLost (n : Fin 32) (k : Fin 8) (s : State) : Out :=
  s.onClock fun s =>
    if s.stageT (8 * n + k) = 0x8000 ∨ s.now < SMap.get 0 (s.lane n).itemAt k + 2048 then s
    else (s.setStageT n k 0x8000).laneEvent n (LANE_EVENTS_telem_lost n)

/-- The lane sends a frame: its 40 line bits carry the running disparity on (R158). -/
def State.sendFrame (s : State) (n : Nat) (train : Bool) (w : Nat) : State :=
  let l := s.lane n
  let (b, rd) := lineOf l.txRd train w
  s.setLane n { l with sentKind := if train then 2 else 1, sent := w, line := b, txRd := rd }

/-- What a lane in training sends next. -/
def State.trainTx (s : State) (n : Nat) : State :=
  let l := s.lane n
  match l.train with
  | .align _ => s.sendFrame n true (trainFrame 0xA1 0)
  | .ident k lo hi =>
    if k < 64 then (s.setLane n { l with train := .ident (k + 1) lo hi }).sendFrame n true (trainFrame 0xA2 n)
    else (s.setLane n { l with train := .go 254, goN := 1, echoes := 0 }).sendFrame n true (trainFrame 0xA3 255)
  | .go c => (s.setLane n { l with train := if c = 0 then .done else .go (c - 1), goN := l.goN + 1 }).sendFrame n true (trainFrame 0xA3 c)
  | .done =>
    let s := (s.setLane n { l with goN := l.goN + 1 }).trained n
    s.sendFrame n false (downFrame 0 (if s.f (LANE_STATUS_state n) = 2 then 1 else 2))

/-- A data frame of an ACTIVE lane: RUN while a unit is enabled, else KEEP (R166); in loopback the line sends PARK. -/
def State.activeTx (s : State) (n : Nat) : State :=
  let l := s.lane n
  let l := { l with goN := if l.goN = 0 ∨ 319 ≤ l.goN then 0 else l.goN + 1 }
  if s.fb (LANE_CTRL_loopback n) then (s.setLane n l).sendFrame n false (downFrame 0 2)
  else
    let t := s.frameStart
    let run := (laneUnits n).any fun u => s.fb (PHU_CTRL_en u)
    let l' := { l with level := levelsAfter l t, edges := l.edges.filter fun e => decide (t + 4 ≤ e.at_) }
    (s.setLane n l').sendFrame n false (if run then downFrame (gateCodes l t) 0 else downFrame 0 1)

/-- The line stops, and the lane is OFF (R171). -/
def State.laneDown (s : State) (n : Nat) : State :=
  (s.setAll [(LANE_STATUS_state n, 0), (LANE_STATUS_park_cause n, 8)]).setLane n { s.lane n with parksLeft := 0, sentKind := 0, sent := 0, line := 0 }

/-- The next frame of lane n: training frames in training, PARK while parked or failed; a disabled lane stops after its 64 PARK frames, and an OFF lane
sends nothing (R166, R167, R169, R171). A bound missed by now ends the training first. -/
def State.downstream (s : State) (n : Nat) : State :=
  let s := match s.trainMissed n with
    | some c => s.trainFail n c
    | none => s
  let s := s.setLane n { s.lane n with sentAt := some s.now }
  let st := s.f (LANE_STATUS_state n)
  let l := s.lane n
  if st = 0 then s.setLane n { l with sentKind := 0, sent := 0, line := 0 }
  else if st = 1 then s.trainTx n
  else if st = 2 then s.activeTx n
  else if s.fb (LANE_CTRL_en n) then s.sendFrame n false (downFrame 0 2)
  else if l.parksLeft = 0 then s.laneDown n
  else (s.setLane n { l with parksLeft := l.parksLeft - 1 }).sendFrame n false (downFrame 0 2)

/-- DOWNSTREAM_FRAME: one frame at every fourth CK_PHU edge from the epoch (R158). -/
def execDownstreamFrame (n : Fin 32) (s : State) : Out :=
  s.onClock fun s => if (s.now - s.epoch) % 4 = 0 ∧ (s.lane n).sentAt ≠ some s.now then s.downstream n else s

/-- A decimated auxiliary channel: y of 0 to 2^24 as -32,767 to 32,767 for density 0 to 100 % (R161). -/
def State.auxValue (s : State) (x : Fld) (y : Nat) : State :=
  let (v, s) := s.roundOpen ((65534 * y : Nat) - 32767 * 2 ^ 24) (2 ^ 24)
  s.setFi x (clampI (-32767) 32767 v)

/-- AUX_DECIMATE: every 256 bits the sinc³ decimator of ratio 256 gives a value of each channel. -/
def State.auxDecimate (s : State) (n : Nat) : State :=
  let l := s.lane n
  if l.auxN < 256 then s
  else ((s.setLane n { l with auxN := 0 }).auxValue (LANE_AUX_aux0 n) (sinc3 256 (SMap.get 0 l.hist 10))).auxValue (LANE_AUX_aux1 n) (sinc3 256 (SMap.get 0 l.hist 11))

def execAuxDecimate (n : Fin 32) (_y0 _y1 : NoOperand) (s : State) : Out := s.onClock fun s => s.auxDecimate n

/-- LANE_LOSS: the frame times that have passed without a frame make the hundredth in a row (R167, R168). -/
def execLaneLoss (n : Fin 32) (s : State) : Out :=
  s.onClock fun s => if s.f (LANE_STATUS_state n) = 2 then s.silence n ((s.now - (s.lane n).upAt) / 4) else s

/-- A write of 1 to train, judged after en (R171). -/
def State.laneTrain (s : State) (n : Nat) : State :=
  let st := s.f (LANE_STATUS_state n)
  if st = 1 ∨ st = 2 ∨ (laneUnits n).any (fun u => s.fb (PHU_CTRL_en u)) ∨ s.fb SEC_ESTOP_tripped ∨ s.fb PWR_STATUS_pfw ∨
      s.fb SEC_FREEZE_STAT_state ∨ !s.fb (LANE_CTRL_en n) then
    s.laneEvent n (LANE_EVENTS_train_refused n)
  else
    let s := s.setAll [(LANE_STATUS_state n, 1), (LANE_ERRORS_bad_frames n, 0), (LANE_ERRORS_bad_words n, 0), (LANE_TRAIN_fail_code n, 0)]
    let s := s.each (List.range 8) fun s k => s.setStageT n k 0x8000
    s.setLane n { s.lane n with train := .align 0, trainAt := s.now, goN := 0, echoes := 0, slices := [], seq := none, telem := false }

def execLaneTrain (w : Fin 8) (n : Fin 32) (s : State) : Out := .next (s.guarded w (laneEng n) (LANE_CTRL n) (s.laneTrain n))

/-- TRAINING_FAIL: a step of a training has missed its bound. -/
def execTrainingFail (n : Fin 32) (_code : NoOperand) (s : State) : Out :=
  s.onClock fun s => match s.trainMissed n with
    | some c => s.trainFail n c
    | none => s

def execLanePark (w : Fin 8) (n : Fin 32) (s : State) : Out := .next (s.guarded w (laneEng n) (LANE_CTRL n) (s.parkLane n 7))

/-- A write of 0 to en (R171): 64 PARK frames, the telemetry word in flight discarded with a count of 0 (R47). -/
def State.laneDisable (s : State) (n : Nat) : State :=
  if s.fb (LANE_CTRL_en n) then
    let s := (s.parkLane n 8).setF (LANE_CTRL_en n) 0
    let s := s.setLane n { s.lane n with parksLeft := 64, slices := [] }
    s.discardedWork 7 (laneEng n) (unitScope 8 n) 0 0
  else s

def execLaneDisable (w : Fin 8) (n : Fin 32) (s : State) : Out := .next (s.guarded w (laneEng n) (LANE_CTRL n) (s.laneDisable n))

/-- A write of 1 to en of a lane that is OFF or sends its 64 PARK frames: PARKED with cause 8. -/
def State.laneEnable (s : State) (n : Nat) : State :=
  if s.fb (LANE_CTRL_en n) then s
  else
    let s := s.setAll [(LANE_CTRL_en n, 1), (LANE_STATUS_state n, 3), (LANE_STATUS_park_cause n, 8)]
    s.setLane n { s.lane n with parksLeft := 0 }

def execLaneEnable (w : Fin 8) (n : Fin 32) (s : State) : Out := .next (s.guarded w (laneEng n) (LANE_CTRL n) (s.laneEnable n))

/-- LANE_OFF: after its 64 PARK frames a disabled lane stops its line. -/
def execLaneOff (n : Fin 32) (s : State) : Out :=
  s.onClock fun s => if s.fb (LANE_CTRL_en n) ∨ (s.lane n).parksLeft ≠ 0 ∨ s.f (LANE_STATUS_state n) < 3 then s else s.laneDown n

/-- A write of LANE[n].CTRL: en first, then park, then train (R171). -/
def State.writeLaneCtrl (s : State) (n v : Nat) : State :=
  let s := s.setF (LANE_CTRL_loopback n) (v / 8)
  let s := if v % 2 = 0 then s.laneDisable n else s.laneEnable n
  let s := if v / 4 % 2 = 1 then s.parkLane n 7 else s
  if v / 2 % 2 = 1 then s.laneTrain n else s

/-- A write of TRAIN.target: stored as the nearer bound (24 to 100). -/
def State.writeLaneTrain (s : State) (n v : Nat) : State := s.setF (LANE_TRAIN_target n) (max 24 (min 100 (v % 256)))

/-- A read of VEND_ITEM latches the value of the last cell maker's word (R163). -/
def State.vendLatch (s : State) (n : Nat) : State := s.setF (LANE_VEND_VALUE_value n) (s.lane n).vendor

def execVendItemRead (_e : Fin 8) (n : Fin 32) (s : State) : Out := .next (s.vendLatch n)

end Sys2Proof.Machine
end

