-- ==== Sys2Proof/Machine/Conns.lean ====
section
/-!
DEFINITION. Connector outputs, coil drivers and the control-frame boundary; the connector-service requests of T2 and T3
(R182, R196 to R215, R330).
-/
namespace Sys2Proof.Machine

/-! ## The reference generator (R196, R197) -/

/-- v moved toward t by at most d. -/
def slewTo (v t : Int) (d : Nat) : Int := if v ≤ t then min t (v + d) else max t (v - d)

/-- One boundary of IREF in 2^-40 of 4096 A: toward zero at the down rate and stopping there, away from zero at the up rate. The
step is the largest representable one not above the rate: rates of 10 A/s over 10 us are rate / 10,000 A. -/
def slewI (v t : Int) (up down : Nat) : Int :=
  let u : Nat := up * 2 ^ 28 / 10000
  let d : Nat := down * 2 ^ 28 / 10000
  if v = 0 then slewTo v t u
  else if 0 < v then (if t < v then max (max 0 t) (v - d) else min t (v + u))
  else (if v < t then min (min 0 t) (v + d) else max t (v - u))

/-- The boundary for VREF of connector c: v_done, and the SET_V served completes, where the reference reaches its target. -/
def State.vBoundary (s : State) (c : Nat) : State :=
  let x := s.conn c
  let t : Int := s.f (CONN_VSET_target c) * 65536
  let v := slewTo x.vref t (s.f (CONN_VSLEW_rate c) * 65536 / 100)
  let s := (s.setConn c { x with vref := v, vNew := false }).setF (CONN_VREF_vref c) (v / 65536).toNat
  if v = t ∧ (x.vNew ∨ x.vref ≠ t) then
    let s := s.connEvent c (CONN_EVENTS_v_done c)
    let p := fun (r : Req) => r.scope == connScope c && r.opcode == 0x0201
    let val := BitVec.ofNat 64 (s.f (CONN_VREF_vref c))
    (s.finishServing (.queue 2 1) p 1 0 val).finishServing (.queue 3 1) p 1 0 val
  else s

/-- The boundary for IREF. -/
def State.iBoundary (s : State) (c : Nat) : State :=
  let x := s.conn c
  let t : Int := s.fi (CONN_ISET_target c) * 1024
  let v := slewI x.iref t (s.f (CONN_ISLEW_up c)) (s.f (CONN_ISLEW_down c))
  let s := (s.setConn c { x with iref := v, iNew := false }).setFi (CONN_IREF_iref c) (v / 1024)
  if v = t ∧ (x.iNew ∨ x.iref ≠ t) then
    let s := s.connEvent c (CONN_EVENTS_i_done c)
    let p := fun (r : Req) => r.scope == connScope c && r.opcode == 0x0202
    let val := BitVec.ofNat 64 (s.f (CONN_IREF_iref c))
    (s.finishServing (.queue 2 1) p 1 0 val).finishServing (.queue 3 1) p 1 0 val
  else s

/-- What SET_LIMIT writes: ILIM and ILIM_REV, or PORT_LIM in whole amperes. -/
def State.applyLimit (s : State) (r : Req) : State :=
  let p := r.payload.toNat
  let i := r.scope.inst.toNat
  if r.scope.kind = 3 then (s.writeIlim i (p % 2 ^ 32)).writeIlimRev i (p / 2 ^ 32 % 2 ^ 32)
  else
    let amps := fun x => if 2 ^ 31 ≤ x then 0 else x / 2 ^ 18
    s.writePortLim i (amps (p % 2 ^ 32) + amps (p / 2 ^ 32 % 2 ^ 32) * 65536)

/-- The SET_LIMIT requests that lead engine e serves are written at its control frame and complete DONE (R198). -/
def State.limitFrame (s : State) (e : Fin 8) : State :=
  let q : QId := .queue e 1
  let p := fun (r : Req) => r.opcode == 0x0203
  let rs := (s.queue q).serving.filter fun r => p r.req
  (rs.foldl (fun s r => s.applyLimit r.req) s).finishServing q p 1 0 0

/-- The clamp of destination d at a boundary: limited shows the frame just completed, and the new frame is judged (R202). -/
def State.clampFrame (s : State) (d : Nat) : State :=
  let x := s.dest d
  let s := if d < 8 then s.setB (CONN_STATUS_limited d) x.clipped else s
  (s.setDest d { x with clipped := false, run := x.run && x.clipped }).clipTouch d

/-- Load the pleat shadow of unit n (R182). -/
def State.loadPleat (s : State) (n : Nat) : State :=
  match (s.phu n).shadow with
  | some (a, p) => (s.setAll [(PHU_PLEAT_angle n, a), (PHU_PLEAT_period n, p)]).setPhu n { s.phu n with shadow := none }
  | none => s

/-- The present edge is a control-frame boundary, epoch + k x 10 us, that has not acted yet (R182). -/
def State.atBoundary (s : State) : Bool := s.epoch ≤ s.now && (s.now - s.epoch) % 4000 == 0 && s.clk.frameAt != some s.now

/-- What a control-frame boundary does (R26, R51, R182, R196, R198, R202). -/
def State.controlFrame (s : State) : State :=
  let s := { s with clk := { s.clk with frameAt := some s.now } }.advancePeriod 1 0
  let s := s.each (List.range 256) State.loadPleat
  let s := s.each (List.range 8) fun s c => if s.fb (CONN_CTRL_en c) then (s.vBoundary c).iBoundary c else s
  let s := (s.limitFrame 2).limitFrame 3
  s.each (List.range 12) State.clampFrame

/-- CONTROL_FRAME_BOUNDARY: at no other edge anything happens (log 225). -/
def execControlFrameBoundary (s : State) : Out := s.onClock fun s => if s.atBoundary then s.controlFrame else s

/-! ## Limits -/

def execIlimWrite (w c : Fin 8) (v : BitVec 32) (s : State) : Out :=
  .next (s.guarded w (s.connEng c) (CONN_ILIM c) (s.writeIlim c v.toNat))

/-- GRACE_EXPIRE. -/
def execGraceExpire (c : Fin 8) (s : State) : Out := s.onClock fun s => (s.graceExpire c)

/-- PORT_LIM[p] is its lead engine's; without a lead no engine is in charge of it. -/
def execPortLimWrite (w : Fin 8) (p : Fin 4) (v : BitVec 32) (s : State) : Out :=
  .next (if s.leadOf (8 + p) ≠ 0 ∧ w.val = s.portEng p then s.writePortLim p v.toNat else s.accessRecord (s.portEng p) w (MTX_PORT_LIM p))

/-! ## Measurements (R204, R205) -/

/-- A flag of CONN STATUS takes a value; its event bit where it becomes 1. -/
def State.connFlag (s : State) (c : Nat) (x : Fld) (ev : Fld) (b : Bool) : State :=
  if b && !s.fb x then (s.setB x true).connEvent c ev else s.setB x b

/-- The match condition of R205 stands. -/
def State.matches (s : State) (c : Nat) : Bool :=
  let v := s.fi (CONN_MEAS_V_v c)
  let b := s.fi (CONN_MEAS_VBUS_v c)
  decide (150000 ≤ v) && decide (((b - v).natAbs : Int) * 1000 ≤ s.f (CONN_MATCH_CFG_tol c) * v)

/-- |MEAS_I| at or below i_zero. -/
def State.atZero (s : State) (c : Nat) : Bool := decide ((s.fi (CONN_MEAS_I_i c)).natAbs ≤ s.f (CONN_MATCH_CFG_i_zero c) * 16384)

/-- A voltage of a 64-long filter, mV: v_fs in V times the density. -/
def State.tapV (s : State) (x : Fld) (fs y : Nat) : State :=
  let (v, s) := s.roundOpen ((fs * 1000 : Nat) * ((y : Int) - (2 ^ 17 : Nat))) (2 ^ 17)
  s.setFi x v

/-- TAP_UPDATE of connector c: the filter outputs of its two metrology streams, and of the output-voltage stream of its bus cell. -/
def State.connTap (s : State) (c yv yi : Nat) : State :=
  let fs := s.f (CONN_TAP_CFG_v_fs c)
  let yb := sinc3 64 (SMap.get 0 (s.lane (s.f (CONN_CTRL_vbus_cell c))).hist 8)
  let s := (s.tapV (CONN_MEAS_V_v c) fs yv).tapV (CONN_MEAS_VBUS_v c) fs yb
  let s := s.setFi (CONN_MEAS_I_i c) (s.f (CONN_TAP_CFG_i_fs c) * (2 * (yi : Int) - (2 ^ 18 : Nat)))
  let lvl := (s.f (CONN_OV_LEVEL_level c) : Int)
  let s := s.connFlag c (CONN_STATUS_ov c) (CONN_EVENTS_ov c) (decide (lvl < s.fi (CONN_MEAS_V_v c) ∨ lvl < s.fi (CONN_MEAS_VBUS_v c)))
  let s := s.connFlag c (CONN_STATUS_rev_pol c) (CONN_EVENTS_rev_pol c) (decide (s.fi (CONN_MEAS_V_v c) < -10000))
  let s := if s.fb (CONN_STATUS_match c) && !s.matches c then
      (s.setF (CONN_STATUS_match c) 0).connEvent c (CONN_EVENTS_match_lost c) else s
  let x := s.conn c
  let s := s.setConn c { x with
    matchFrom := if s.matches c then some (x.matchFrom.getD s.now) else none, zeroFrom := if s.atZero c then some (x.zeroFrom.getD s.now) else none }
  if s.atZero c then s else s.setF (CONN_STATUS_zero c) 0

/-- One charge step of 3.2 us at a current of 2^-18 A units, added to an accumulator; 1 mAh is 3.6 C (R241). -/
def chargeStep (acc i : Nat) : Nat × Nat := ((acc + i) / 294912000000, (acc + i) % 294912000000)

/-- TAP_UPDATE of port p: while en is 1 its voltage, its current, and its charge counts. -/
def State.portTap (s : State) (p yv yi : Nat) : State :=
  if s.fb (BUF_PORT_CTRL_en p) then
    let s := s.tapV (BUF_PORT_V_v p) (s.f (BUF_PORT_TAP_CFG_v_fs p)) yv
    let i : Int := s.f (BUF_PORT_TAP_CFG_i_fs p) * (2 * (yi : Int) - (2 ^ 18 : Nat))
    let s := s.setFi (BUF_PORT_I_i p) i
    let x := SMap.get (0, 0) s.portCharge p
    let (a, ra) := if 0 < i then chargeStep x.1 i.toNat else (0, x.1)
    let (b, rb) := if i < 0 then chargeStep x.2 (-i).toNat else (0, x.2)
    let s := (s.addWrap (BUF_PORT_QIN_q p) a).addWrap (BUF_PORT_QOUT_q p) b
    { s with portCharge := SMap.set (0, 0) s.portCharge p (ra, rb) }
  else s

/-- A write of BUF.PORT_CTRL[p]. -/
def State.writePortCtrl (s : State) (p v : Nat) : State :=
  let s := s.setF (BUF_PORT_CTRL_en p) v
  if v / 2 % 2 = 1 then
    { s.setAll [(BUF_PORT_QIN_q p, 0), (BUF_PORT_QOUT_q p, 0)] with portCharge := SMap.set (0, 0) s.portCharge p (0, 0) }
  else s

/-- The time t, if it is one, lies at least d ticks back. -/
def State.since (s : State) (t : Option Nat) (d : Nat) : Bool :=
  match t with
  | some a => decide (a + d ≤ s.now)
  | none => false

/-- TAP_UPDATE, every 3.2 us: at least 1,280 ticks after the last one. -/
def execTapUpdate (d : Fin 12) (yv yi : Nat) (_yb : NoOperand) (s : State) : Out :=
  s.onClock fun s =>
    let x := s.dest d
    if x.tapAt.isNone || s.since x.tapAt 1280 then
      let s := s.setDest d { x with tapAt := some s.now }
      if d.val < 8 then s.connTap d yv yi else s.portTap (d - 8) yv yi
    else s

/-- MATCH: the condition has held for MATCH_CFG.hold ms. -/
def execMatchHeld (c : Fin 8) (s : State) : Out :=
  s.onClock fun s =>
    if s.matches c && s.since (s.conn c).matchFrom (s.f (CONN_MATCH_CFG_hold c) * 400000) then s.connFlag c (CONN_STATUS_match c) (CONN_EVENTS_match c) true else s

/-- ZERO: the current has stayed at zero for 1 ms. -/
def execZero (c : Fin 8) (s : State) : Out :=
  s.onClock fun s => if s.atZero c && s.since (s.conn c).zeroFrom 400000 then s.connFlag c (CONN_STATUS_zero c) (CONN_EVENTS_zero c) true else s

/-! ## Rinse, disable, IMD -/

/-- A session rinse of connector c is refused (R214). -/
def State.rinseRefused (s : State) (c : Nat) : Bool := (List.range 256).any fun n => s.f (PHU_CTRL_dest n) == c && s.fb (PHU_CTRL_en n)

/-- A write of 1 to CTRL.rinse (R214). -/
def State.connRinse (s : State) (c : Nat) : State :=
  if s.rinseRefused c then s.connEvent c (CONN_EVENTS_rinse_refused c)
  else
    let s := s.setAll [(CONN_VSET_target c, 0), (CONN_VREF_vref c, 0), (CONN_ISET_target c, 0), (CONN_IREF_iref c, 0),
      (CONN_ILIM_limit c, 0), (CONN_ILIM_REV_limit c, 0), (CONN_COUNTS_reductions c, 0)]
    (s.setConn c { s.conn c with vref := 0, iref := 0, steps := [] }).addWrap (CONN_COUNTS_sessions c) 1

def execConnectorRinse (w c : Fin 8) (s : State) : Out := .next (s.guarded w (s.connEng c) (CONN_CTRL c) (s.connRinse c))

/-- Clearing CTRL.en: the connector's requests are discarded with one record, and the generator stops (R43, R47, R215). -/
def State.connDisable (s : State) (c : Nat) : State :=
  if s.fb (CONN_CTRL_en c) then (s.disableWork (s.connEng c) (connScope c) 0).connStop c else s

def execConnDisable (w c : Fin 8) (s : State) : Out := .next (s.guarded w (s.connEng c) (CONN_CTRL c) (s.connDisable c))

/-- A write of CONN[c].CTRL; one whose rinse is refused is refused whole (R20, R214). -/
def State.writeConnCtrl (s : State) (c v : Nat) : State :=
  if v / 2 % 2 = 1 ∧ s.rinseRefused c then s.connRinse c
  else
    let s := s.setF (CONN_CTRL_vbus_cell c) (v / 256)
    let s := if v % 2 = 0 then s.connDisable c else s.setF (CONN_CTRL_en c) 1
    if v / 2 % 2 = 1 then s.connRinse c else s

/-- The request that carries the old target of connector c completes DISCARDED (R197). -/
def State.oldTarget (s : State) (c : Nat) (op : BitVec 16) : State :=
  let p := fun (r : Req) => r.scope == connScope c && r.opcode == op
  (s.finishServing (.queue 2 1) p 3 0 0).finishServing (.queue 3 1) p 3 0 0

/-- Writes of VSET and ISET, which the generator uses from the next boundary on. -/
def State.writeVset (s : State) (c v : Nat) : State :=
  let s := s.oldTarget c 0x0201
  (s.setF (CONN_VSET_target c) (min v 1250000)).setConn c { s.conn c with vNew := true }
def State.writeIset (s : State) (c v : Nat) : State :=
  let s := s.oldTarget c 0x0202
  (s.setF (CONN_ISET_target c) v).setConn c { s.conn c with iNew := true }
def State.writeVslew (s : State) (c v : Nat) : State := s.setF (CONN_VSLEW_rate c) (max 1 (v % 65536))
def State.writeIslew (s : State) (c v : Nat) : State :=
  s.setAll [(CONN_ISLEW_up c, max 1 (v % 65536)), (CONN_ISLEW_down c, max 1 (v / 65536 % 65536))]

/-- A write of IMD sets its age to 0 (R208). -/
def State.writeImd (s : State) (c v : Nat) : State :=
  (s.setAll [(CONN_IMD_r_iso c, v), (CONN_IMD_ok c, v / 2 ^ 20), (CONN_IMD_age c, 0)]).setConn c { s.conn c with imdAt := s.now }

/-- IMD_AGE: another 100 ms have passed since the last write. -/
def execImdAge (c : Fin 8) (s : State) : Out :=
  s.onClock fun s => if (s.conn c).imdAt + 40000000 * (s.f (CONN_IMD_age c) + 1) ≤ s.now then s.addSat (CONN_IMD_age c) 1 else s

/-! ## Coil drivers -/

def execCoilCommand (w : Fin 8) (k : Fin 128) (v : BitVec 32) (s : State) : Out :=
  .next (s.guarded w (s.coilEng k) (MTX_COIL_CMD k) (s.gapWrite w (MTX_COIL_CMD k) v.toNat fun s => s.writeCoil k v.toNat))

def State.coil (s : State) (k : Nat) : CoilInt := SMap.get CoilInt.reset s.coils k

/-- COIL_PULL_END: COIL_CMD.pull ms have passed since on became 1. -/
def execCoilPullEnd (k : Fin 128) (s : State) : Out :=
  s.onClock fun s => if (s.coil k).onAt + s.f (MTX_COIL_CMD_pull k) * 400000 ≤ s.now then s.setF (MTX_COIL_STAT_pulling k) 0 else s

/-- FEEDBACK_CHANGE: the debounced level of a contact input (R210). -/
def execFeedbackChange (k : Fin 128) (closed : Bool) (s : State) : Out :=
  let was := s.disagrees k
  let c := SMap.get CoilInt.reset s.coils k
  let s := { s with coils := SMap.set CoilInt.reset s.coils k { c with input := closed } }
  .next (if s.clocked then s.compareCoil k was else s)

/-- The fail bit that a disagreement sets, once. -/
def State.coilFail (s : State) (k : Nat) : State :=
  let s := { s with coils := SMap.set CoilInt.reset s.coils k { s.coil k with told := true } }
  s.coilEvent k (if s.fb (MTX_COIL_STAT_on k) then MTX_COIL_STAT_fail_close k else MTX_COIL_STAT_fail_open k)

/-- COIL_FEEDBACK_TIMEOUT: 100 ms after a change of on the feedback has not agreed. -/
def execCoilFeedbackTimeout (k : Fin 128) (s : State) : Out :=
  s.onClock fun s =>
    let c := s.coil k
    if s.disagrees k && !c.agreed && !c.told && decide (c.onAt + 40000000 ≤ s.now) then s.coilFail k else s

/-- COIL_MISMATCH: a disagreement after agreement has lasted 5 ms. -/
def execCoilMismatch (k : Fin 128) (s : State) : Out :=
  s.onClock fun s =>
    let c := s.coil k
    if s.disagrees k && c.agreed && !c.told && s.since c.offFrom 2000000 then s.coilFail k else s

def execCoilOpen (k : Fin 128) (s : State) : Out :=
  s.onClock fun s => (if s.fb (MTX_COIL_STAT_on k) then s.coilEvent k (MTX_COIL_STAT_coil_open k) else s)

/-- T4 writes MET.MEN[c].en: the output contactors follow (R18, R330). -/
def State.writeMen (s : State) (c v : Nat) : State :=
  let was := s.fb (MET_MEN_en c)
  let s := s.setF (MET_MEN_en c) v
  let s := if was && v % 2 = 0 then s.addSat (MET_MEN_releases c) 1 else s
  (s.coilSync (96 + 2 * c)).coilSync (97 + 2 * c)

def execMenWrite (w c : Fin 8) (en : Bool) (s : State) : Out := .next (s.guarded w 4 (MET_MEN c) (s.writeMen c (if en then 1 else 0)))

/-! ## Connector-service requests (R198) -/

/-- The checks of R198: a scope that is no connector or port (no detail named), no lead, another lead, and for ports a request that
only connectors take. -/
def State.connService (s : State) (e : Fin 8) (r : Req) (portOk : Bool) (f : State → State) : State :=
  let q : QId := .queue e 1
  let i := r.scope.inst.toNat
  let d := if r.scope.kind = 3 then i else 8 + i
  if !((r.scope.kind = 3 && i < 8) || (r.scope.kind = 4 && i < 4)) then s.rejectFree q r
  else if s.leadOf d = 0 then s.reject q r 0x01
  else if s.leadOf d + 1 ≠ e then s.reject q r 0x02
  else if r.scope.kind = 4 ∧ !portOk then s.reject q r 0x03
  else (f s).defer q r

def execSetV (sd : Sender) (e : Fin 8) (r : Req) (s : State) : Out :=
  .next (s.serve sd (.queue e 1) r fun s => s.connService e r false fun s =>
    let p := r.payload.toNat
    (s.writeVset r.scope.inst.toNat (p % 2 ^ 32)).writeVslew r.scope.inst.toNat (p / 2 ^ 32))

def execSetI (sd : Sender) (e : Fin 8) (r : Req) (s : State) : Out :=
  .next (s.serve sd (.queue e 1) r fun s => s.connService e r false fun s =>
    let p := r.payload.toNat
    (s.writeIset r.scope.inst.toNat (p % 2 ^ 32)).writeIslew r.scope.inst.toNat (p / 2 ^ 32))

/-- SET_LIMIT is written at the lead engine's next control frame. -/
def execSetLimit (sd : Sender) (e : Fin 8) (r : Req) (s : State) : Out :=
  .next (s.serve sd (.queue e 1) r fun s => s.connService e r true fun s => s)

end Sys2Proof.Machine
end

