-- ==== Sys2Proof/Machine/Lsw.lean ====
section
/-!
DEFINITION. Protected load-switch channels (R293 to R307).
-/
namespace Sys2Proof.Machine

def State.lsw (s : State) (n : Nat) : LswInt := SMap.get LswInt.reset s.lsws n
def State.setLsw (s : State) (n : Nat) (x : LswInt) : State := { s with lsws := SMap.set LswInt.reset s.lsws n x }

/-- T7 is in charge until adoption, T5 from then on (R304). -/
def State.lswEng (s : State) : Nat := if s.fb LSW_HOLD_STAT_hold then 7 else 5

def State.lswEvent (s : State) (n : Nat) (x : Fld) : State := s.setEvent x s.lswEng (unitScope 6 n) [5, 7]

/-- The rail of channel n. -/
def railOf (n : Nat) : Nat := n / 16

/-- Neither tripped, latched nor off by the emergency stop. -/
def State.lsFree (s : State) (n : Nat) : Bool :=
  !s.fb (LSW_STATUS_tripped n) && !s.fb (LSW_STATUS_latched n) && !s.fb (LSW_STATUS_estop_off n)

/-- Complete the STRING_SW requests served on channel n (R306). -/
def State.stringDone (s : State) (n value : Nat) : State :=
  s.finishServing (.queue 5 1) (fun r => r.opcode == 0x0581 && SMap.get 255 s.maq.stringRelay (r.payload.toNat % 256) == n) 1 0
    (BitVec.ofNat 64 value)

/-- A turn-on: the output on, and its own inrush window (R294). -/
def State.lsOn (s : State) (n : Nat) : State :=
  let win := s.fb (LSW_CFG_inrush n)
  let s := s.setAll [(LSW_STATUS_out n, 1), (LSW_STATUS_inrush n, if win then 1 else 0), (LSW_STATUS_uv_off n, 0)]
  let s := s.setLsw n { s.lsw n with window := win, till := s.now + s.f (LSW_CFG_inrush n) * 400000, highOl := 0, lowOl := 0, high2A := 0 }
  if win then s else s.stringDone n 1

/-- The output off; with it off open_load is 0 (R298). -/
def State.lsOff (s : State) (n : Nat) : State := s.setAll [(LSW_STATUS_out n, 0), (LSW_STATUS_open_load n, 0)]

/-- Turn on where cmd is 1, the channel is off and free, and its rail is not in undervoltage. -/
def State.lsTryOn (s : State) (n : Nat) : State :=
  if s.fb (LSW_CTRL_cmd n) && !s.fb (LSW_STATUS_out n) && s.lsFree n && !s.fb (LSW_RAIL_STAT_uv (railOf n)) then s.lsOn n else s

/-- A write of cmd (R294, R297). -/
def State.lsCmd (s : State) (n : Nat) (on : Bool) : State :=
  if on then (s.setF (LSW_CTRL_cmd n) 1).lsTryOn n
  else (s.setAll [(LSW_CTRL_cmd n, 0), (LSW_STATUS_tripped n, 0), (LSW_STATUS_uv_off n, 0)]).lsOff n

/-- A write of 1 to retry (R296); 100 ms are 40,000,000 ticks. -/
def State.lsRetry (s : State) (n : Nat) : State :=
  if s.fb (LSW_STATUS_latched n) then s.lswEvent n (LSW_EVENTS_retry_blocked n)
  else if !s.fb (LSW_STATUS_tripped n) then s
  else if s.now < (s.lsw n).trippedAt + 40000000 then s.lswEvent n (LSW_EVENTS_retry_early n)
  else
    let s := s.setAll [(LSW_STATUS_tripped n, 0), (LSW_STATUS_retry_count n, min 15 (s.f (LSW_STATUS_retry_count n) + 1))]
    s.lsTryOn n

/-- A write of 1 to clear: whether it acted, and the state (R297). -/
def State.lsClear (s : State) (n : Nat) : Bool × State :=
  if s.fb (LSW_GROUP_STAT_over (n / 8)) then (false, s.lswEvent n (LSW_EVENTS_clear_refused n))
  else
    (true, (s.setAll [(LSW_STATUS_latched n, 0), (LSW_STATUS_latch_cause n, 0), (LSW_STATUS_tripped n, 0),
      (LSW_STATUS_retry_count n, 0), (LSW_CTRL_cmd n, 0), (LSW_STATUS_uv_off n, 0)]).lsOff n)

/-- Set the latch of channel n with a cause; a channel that was on turns off. -/
def State.lsLatch (s : State) (n cause : Nat) : State :=
  (s.setAll [(LSW_STATUS_latched n, 1), (LSW_STATUS_latch_cause n, cause)]).lsOff n

/-- A write of LSW[n].CTRL: clear first and, refused, refusing the whole write; it leaves cmd at 0; then cmd, retry, latch. -/
def State.writeLsCtrl (s : State) (n v : Nat) : State :=
  let (ok, s) := if v / 4 % 2 = 1 then s.lsClear n else (true, s)
  if !ok then s
  else
    let s := if v / 4 % 2 = 1 then s else s.lsCmd n (v % 2 = 1)
    let s := if v / 2 % 2 = 1 then s.lsRetry n else s
    if v / 8 % 2 = 1 then s.lsLatch n 2 else s

/-- A write to a register that hold mode closes: ignored in hold mode (R304); held over the switch-over gap (R116). -/
def State.lsWrite (s : State) (w : Fin 8) (addr v : Nat) (f : State → State) : State :=
  s.guarded w s.lswEng addr (if s.fb LSW_HOLD_STAT_hold then s else s.gapWrite w addr v f)

/-- T5's own command to a channel: ignored in hold mode and held over the gap, as every write of it is. -/
def State.lsDrive (s : State) (n : Nat) (on : Bool) : State :=
  if s.fb LSW_HOLD_STAT_hold then s else s.gapWrite 5 (LSW_CTRL n) (boolNat on) fun s => s.lsCmd n on

/-- The value of CTRL[n] with cmd as it stands, and extra bits. -/
def State.ctrlWith (s : State) (n bits : Nat) : Nat := s.f (LSW_CTRL_cmd n) + bits

def execLsCommand (w : Fin 8) (n : Fin 32) (on : Bool) (s : State) : Out :=
  .next (s.lsWrite w (LSW_CTRL n) (if on then 1 else 0) fun s => s.lsCmd n on)
def execLsRetry (w : Fin 8) (n : Fin 32) (s : State) : Out :=
  .next (s.lsWrite w (LSW_CTRL n) (s.ctrlWith n 2) fun s => s.lsRetry n)
def execLsClear (w : Fin 8) (n : Fin 32) (s : State) : Out :=
  .next (s.lsWrite w (LSW_CTRL n) 4 fun s => (s.lsClear n).2)
def execLsLatch (w : Fin 8) (n : Fin 32) (s : State) : Out :=
  .next (s.lsWrite w (LSW_CTRL n) (s.ctrlWith n 8) fun s => s.lsLatch n 2)

/-! ## Clamps -/

/-- LS_TRIP: the current reaches the trip threshold, 10 A inside the inrush window and 6 A after it (R293, R295). -/
def State.lsTripAt (s : State) (n mA : Nat) : State :=
  let x := s.lsw n
  if s.fb (LSW_STATUS_out n) && decide ((if x.window then 10000 else 6000) ≤ mA) then
    let s := (s.lsOff n).setF (LSW_STATUS_tripped n) 1
    let s := (s.setLsw n { x with trippedAt := s.now }).addSat (LSW_COUNTS_trips n) 1
    let s := (s.lswEvent n (LSW_EVENTS_trip n)).clampRecord s.lswEng 0xB (unitScope 6 n)
    if x.window then s.stringDone n 2 else s
  else s

def execLsTrip (n : Fin 32) (mA : Nat) (s : State) : Out := .next (s.lsTripAt n mA)

/-- LS_INRUSH_END: the window's time has gone by (R294, R306). -/
def execLsInrushEnd (n : Fin 32) (s : State) : Out :=
  .next (if (s.lsw n).window ∧ (s.lsw n).till ≤ s.now then
      let s := (s.setLsw n { s.lsw n with window := false }).setF (LSW_STATUS_inrush n) 0
      s.stringDone n ((if s.fb (LSW_STATUS_out n) then 1 else 0) + if s.fb (LSW_STATUS_tripped n) then 2 else 0)
    else s)

/-- A reporting flag becomes 1, with its event. -/
def State.lsFlag (s : State) (n : Nat) (x ev : Fld) : State := if s.fb x then s else (s.setF x 1).lswEvent n ev

/-- LS_OVERLOAD: 1 s of conversions above 2 A after the inrush window. -/
def execLsOverload (n : Fin 32) (s : State) : Out :=
  .next (if s.fb (LSW_STATUS_out n) && !(s.lsw n).window && decide (10000 ≤ (s.lsw n).high2A) then s.lsFlag n (LSW_STATUS_overload n) (LSW_EVENTS_overload n) else s)
/-- LS_OPEN_LOAD: 100 ms of conversions below the threshold with the output on and its window ended. -/
def execLsOpenLoad (n : Fin 32) (s : State) : Out :=
  .next (if s.fb (LSW_STATUS_out n) && !(s.lsw n).window && decide (1000 ≤ (s.lsw n).lowOl) then s.lsFlag n (LSW_STATUS_open_load n) (LSW_EVENTS_open_load n) else s)

/-- LS_SENSE_CONVERSION: the current in 2.5 mA units (R299). Every 100 us one: 10,000 in a row at or below 2 A clear overload, and 1,000
at or above ol_th clear open_load (R295, R298); the runs above 2 A and below ol_th are those of a channel that is on past its inrush window. -/
def State.lsConvert (s : State) (n i : Nat) : State :=
  let s := (s.setF (LSW_SENSE_i n) (min i 0xFA0)).addWrap (LSW_SENSE_seq n) 1
  let x := s.lsw n
  let lo := if i ≤ 800 then min 10000 (x.low2A + 1) else 0
  let hi := if s.f (LSW_CFG_ol_th n) * 2 ≤ i then min 1000 (x.highOl + 1) else 0
  let live := s.fb (LSW_STATUS_out n) && !x.window
  let s := s.setLsw n { x with low2A := lo, highOl := hi, high2A := if live && decide (800 < i) then min 10000 (x.high2A + 1) else 0
                               lowOl := if live && decide (i < s.f (LSW_CFG_ol_th n) * 2) then min 1000 (x.lowOl + 1) else 0 }
  let s := if lo = 10000 then s.setF (LSW_STATUS_overload n) 0 else s
  if hi = 1000 then s.setF (LSW_STATUS_open_load n) 0 else s

def execLsSenseConversion (n : Fin 32) (i : Nat) (s : State) : Out := .next (s.lsConvert n i)

/-- The channels of rail r. -/
def railChannels (r : Nat) : List Nat := (List.range 16).map (16 * r + ·)

/-- LS_UNDERVOLTAGE: every channel of the rail turns off (R300). -/
def State.lsUnder (s : State) (r : Nat) : State :=
  if s.fb (LSW_RAIL_STAT_uv r) then s
  else
    let s := ((s.setAll [(LSW_RAIL_STAT_uv r, 1), (LSW_RAIL_STAT_restarting r, 0)]).addSat (LSW_RAIL_STAT_uv_count r) 1)
    let s := s.each (railChannels r) fun s n =>
      if s.fb (LSW_STATUS_out n) then
        (((s.lsOff n).setF (LSW_STATUS_uv_off n) 1).addSat (LSW_COUNTS_uv_offs n) 1).lswEvent n (LSW_EVENTS_uv_off n)
      else s
    s.clampRecord s.lswEng 0xD (unitScope 6 (0x30 + r))

def execLsUndervoltage (r : Fin 2) (s : State) : Out := .next (s.lsUnder r)

/-- The next channel of rail r that restarts by itself (R300). -/
def State.uvNext (s : State) (r : Nat) : Option Nat :=
  (railChannels r).find? fun n => s.fb (LSW_CTRL_cmd n) && !s.fb (LSW_STATUS_out n) && s.lsFree n

/-- The next restart of rail r comes d ticks from now. -/
def State.railPaced (s : State) (r d : Nat) : State := { s with lsPace := { s.lsPace with rails := SMap.set 0 s.lsPace.rails r (s.now + d) } }

/-- LS_UV_RECOVER: the first channel that restarts does so at once. -/
def execLsUvRecover (r : Fin 2) (s : State) : Out :=
  .next (if s.fb (LSW_RAIL_STAT_uv r) then
      let s := (s.setF (LSW_RAIL_STAT_uv r) 0).railPaced r 0
      s.setB (LSW_RAIL_STAT_restarting r) (s.uvNext r).isSome
    else s)

/-- LS_UV_RESTART: the next eligible channel turns on, 2 ms after the one before it. -/
def State.lsUvRestart (s : State) (r : Nat) : State :=
  if s.fb (LSW_RAIL_STAT_restarting r) ∧ SMap.get 0 s.lsPace.rails r ≤ s.now then
    match s.uvNext r with
    | some n =>
      let s := ((s.lsOn n).lswEvent n (LSW_EVENTS_uv_restart n)).railPaced r 800000
      s.setB (LSW_RAIL_STAT_restarting r) (s.uvNext r).isSome
    | none => s.setF (LSW_RAIL_STAT_restarting r) 0
  else s

def execLsUvRestart (r : Fin 2) (s : State) : Out := .next (s.lsUvRestart r)

/-! ## Thermal groups (R301, R302) -/

/-- The channels of group g. -/
def groupChannels (g : Nat) : List Nat := (List.range 8).map (8 * g + ·)

/-- A channel in its inrush window is never chosen; a faulted one is tripped or overloaded and not already latched. -/
def State.lsFaulted (s : State) (n : Nat) : Bool :=
  !(s.lsw n).window && !s.fb (LSW_STATUS_latched n) && (s.fb (LSW_STATUS_tripped n) || s.fb (LSW_STATUS_overload n))

/-- The channel that a step without faulted channels latches: on, not in inrush, of the highest priority, then number. -/
def State.shedPick (s : State) (g : Nat) : Option Nat :=
  ((groupChannels g).filter fun n => s.fb (LSW_STATUS_out n) && !(s.lsw n).window).foldl (fun b n =>
    match b with
    | none => some n
    | some m => if s.f (LSW_CFG_shed_prio m) ≤ s.f (LSW_CFG_shed_prio n) then some n else some m) none

/-- Latch one channel by a shed step, with its event and log entry. -/
def State.shedOne (s : State) (n seq : Nat) (faulted : Bool) : State :=
  let j := s.shedNext
  let s := (((s.lsLatch n 1).addSat (LSW_COUNTS_sheds n) 1).lswEvent n (LSW_EVENTS_shed n)).setAll
    [(LSW_SHED_LOG_ch j, n), (LSW_SHED_LOG_faulted j, if faulted then 1 else 0), (LSW_SHED_LOG_temp j, s.f (LSW_GROUP_STAT_temp (n / 8))),
      (LSW_SHED_LOG_seq j, seq)]
  { s with shedNext := (j + 1) % 16 }

/-- One shed step of group g. -/
def State.shed (s : State) (g : Nat) : State :=
  let s := { s with lsPace := { s.lsPace with groups := SMap.set 0 s.lsPace.groups g (s.now + 4000000) } }.addSat (LSW_GROUP_STAT_steps g) 1
  let seq := s.f (LSW_GROUP_STAT_steps g)
  match (groupChannels g).filter s.lsFaulted, s.shedPick g with
  | [], none => s
  | [], some n => (s.shedOne n seq false).clampRecord s.lswEng 0xC (unitScope 6 (0x20 + g))
  | l, _ => (s.each l fun s n => s.shedOne n seq true).clampRecord s.lswEng 0xC (unitScope 6 (0x20 + g))

/-- The budget of group g is exceeded at its last temperature. -/
def State.exceeded (s : State) (g : Nat) : Bool := decide ((s.f (LSW_GROUP_CFG_shed_t g) : Int) ≤ s.fi (LSW_GROUP_STAT_temp g))

/-- GROUP_TEMP_MEASURE. -/
def State.groupTemp (s : State) (g : Nat) (t : BitVec 12) : State :=
  let s := s.setF (LSW_GROUP_STAT_temp g) t.toNat
  let lvl := (s.f (LSW_GROUP_CFG_shed_t g) : Int)
  let s := if s.exceeded g then s.setF (LSW_GROUP_STAT_over g) 1
    else if t.toInt < lvl - s.f (LSW_GROUP_CFG_hyst g) then s.setF (LSW_GROUP_STAT_over g) 0 else s
  let was := s.lsExceeded / 2 ^ g % 2 = 1
  let now := s.exceeded g
  let s := { s with lsExceeded := if now ∧ !was then s.lsExceeded + 2 ^ g else if !now ∧ was then s.lsExceeded - 2 ^ g else s.lsExceeded }
  if now ∧ !was then s.shed g else s

def execGroupTempMeasure (g : Fin 4) (t : BitVec 12) (s : State) : Out := .next (s.groupTemp g t)
/-- SHED_STEP: 10 ms after the step before it, while the budget stays exceeded. -/
def execShedStep (g : Fin 4) (s : State) : Out := .next (if s.exceeded g ∧ SMap.get 0 s.lsPace.groups g ≤ s.now then s.shed g else s)

/-! ## Emergency stop, hold, adoption (R303 to R305) -/

/-- The emergency-stop group turns off. -/
def State.lsEstop (s : State) : State :=
  s.each (List.range 32) fun s n =>
    if s.f LSW_ESTOP_MASK_mask / 2 ^ n % 2 = 1 then
      ((s.setAll [(LSW_CTRL_cmd n, 0), (LSW_STATUS_estop_off n, 1)]).lsOff n).lswEvent n (LSW_EVENTS_estop_off n)
    else s

/-- A re-arm clears estop_off and turns nothing on. -/
def State.lsRearm (s : State) : State := s.each (List.range 32) fun s n => s.setF (LSW_STATUS_estop_off n) 0

/-- Hold mode begins, a clamp that posts a record for each channel (R21; log 223): every channel's state is captured; in hold mode already nothing new
is captured. -/
def State.lsHold (s : State) : State :=
  if s.fb LSW_HOLD_STAT_hold then s
  else
    let s := (s.each (List.range 32) fun s n => s.clampRecord 5 0xE (unitScope 6 n)).setF LSW_HOLD_STAT_hold 1
    s.each (List.range 32) fun s n => s.setAll [(LSW_STATUS_hold n, 1), (LSW_HELD_cmd n, s.f (LSW_CTRL_cmd n)),
      (LSW_HELD_out n, s.f (LSW_STATUS_out n)), (LSW_HELD_tripped n, s.f (LSW_STATUS_tripped n)),
      (LSW_HELD_latched n, s.f (LSW_STATUS_latched n)), (LSW_HELD_estop_off n, s.f (LSW_STATUS_estop_off n))]

/-- T7 adopts: hold mode ends, the channels are T5's as they stand; boot step 9 completes (R148, R151). -/
def State.lsAdopt (s : State) : State :=
  if s.fb LSW_HOLD_STAT_hold then
    let s := s.setF LSW_HOLD_STAT_hold 0
    let s := s.each (List.range 32) fun s n =>
      let s := s.setF (LSW_STATUS_hold n) 0
      if s.fb (LSW_STATUS_latched n) then s.setF (LSW_STATUS_retry_count n) 0 else s
    if s.f SEC_BOOT_STAT_stage = 9 then s.setF SEC_BOOT_STAT_stage 10 else s
  else s

def execLsAdopt (w : Fin 8) (s : State) : Out := .next (s.guarded w 7 LSW_HOLD_STAT s.lsAdopt)

/-- The VSW domain loses its content: every register it holds takes its default, every channel is off. -/
def State.vswClear (s : State) : State :=
  let lo := 32 * LSW_CTRL 0
  let hi := 32 * (LSW_HELD 0 + 0x80)
  let keep := s.fields.filter fun p => p.1 < lo || hi ≤ p.1 || p.1 == LSW_HOLD_STAT_hold.key ||
    (List.range 32).any fun n => p.1 == (LSW_STATUS_hold n).key
  { s with fields := keep, lsws := [], lsExceeded := 0, shedNext := 0, lsPace := LswPace.reset }

def execVswLost (s : State) : Out := .next { s.vswClear with vswLost := true }
def execVswRestored (s : State) : Out :=
  .next (if s.vswLost then { s.vswClear.setF LSW_HOLD_STAT_lost 1 with vswLost := false } else s)

/-- T5 latches a channel that tripped with its retries spent (R297). -/
def State.lsSpent (s : State) (n : Nat) : State :=
  if !s.fb LSW_HOLD_STAT_hold && s.fb (LSW_STATUS_tripped n) && !s.fb (LSW_STATUS_latched n) && s.f (LSW_STATUS_retry_count n) == s.f (LSW_CFG_retry_max n) then
    s.lsWrite 5 (LSW_CTRL n) (s.ctrlWith n 8) fun s => s.lsLatch n 2
  else s

/-! ## STRING_SW (R306) -/

/-- T5's step for STRING_SW. -/
def State.stringSw (s : State) (r : Req) : State :=
  let q : QId := .queue 5 1
  let n := SMap.get 255 s.maq.stringRelay (r.payload.toNat % 256)
  if 32 ≤ n then s.reject q r 0x02
  else if r.payload.toNat / 256 % 2 = 0 then (s.lsDrive n false).done q r 0
  else if s.fb (LSW_STATUS_tripped n) ∨ s.fb (LSW_STATUS_latched n) then s.reject q r 0x01
  else
    let s := (s.defer q r).lsDrive n true
    if s.fb (LSW_STATUS_out n) ∧ !(s.lsw n).window then s.stringDone n 1 else s

def execStringSw (sd : Sender) (r : Req) (s : State) : Out := .next (s.serve sd (.queue 5 1) r fun s => s.stringSw r)

end Sys2Proof.Machine
end

