-- ==== Sys2Proof/Machine/Clock.lean ====
section
/-!
DEFINITION. The root PLL: acquisition, lock and loss by counters, release and frame epoch, coasting and return, 1PPS discipline
(R99 to R114), and the boot steps that a release begins (R148, R149).
-/
namespace Sys2Proof.Machine

/-- An event bit of CLK posts to T7 (site scope). -/
def State.clkEvent (s : State) (x : Fld) : State := s.setEvent x 7 siteScope [7]

/-- The PLL states (CLK.STATUS.state). -/
def pllAcquire : Nat := 0
def pllLocked : Nat := 1
def pllCoasting : Nat := 2
def pllReturning : Nat := 3
def pllFailed : Nat := 4

def State.pll (s : State) : Nat := s.f CLK_STATUS_state
def State.setPll (s : State) (v : Nat) : State := s.setF CLK_STATUS_state v

/-- A boot failure stops the timeline with a code (R149). -/
def State.bootFail (s : State) (code : Nat) : State := if s.mode.booted then s else s.setF SEC_BOOT_STAT_fail code

/-- The PLL enters FAILED; at boot step 3 that is failure code 1, of which the sequencer keeps a record in the keep-alive domain (R149). -/
def State.pllFail (s : State) (ev : Fld) : State :=
  let s := (s.setPll pllFailed).clkEvent ev
  let s := { s with clk := { s.clk with hard := false } }
  if s.f SEC_BOOT_STAT_stage = 3 then { s.bootFail 1 with pwr := { s.pwr with record := 1 } } else s

/-- The target of an acquisition on src, kHz times 2^15 (R101): with src 3 the learned correction is added. -/
def State.pllTarget (s : State) (src : Nat) : Int := 4000000 * 2 ^ 15 + if src = 3 then s.clk.trim / 1000 else 0

/-- The lowest valid band entry that contains the target (R101). -/
def State.bandFor (s : State) (target : Int) : Option Nat :=
  (List.range 16).find? fun k => s.fb (CLK_BAND_LO_valid k) &&
    decide ((s.f (CLK_BAND_LO_f_lo k) : Int) * 2 ^ 15 ≤ target ∧ target ≤ (s.f (CLK_BAND_HI_f_hi k) : Int) * 2 ^ 15)

/-- An acquisition or hard return begins on REF_CFG.src (R99); with src 3 the wait for a 1PPS edge begins. -/
def State.acqStart (s : State) : State :=
  let src := s.f CLK_REF_CFG_src
  let c := { s.clk with acqWindows := 0, inLock := 0, pulled := false, begun := true, acqAt := s.now, xinAt := if src = 0 then s.now else s.clk.xinAt }
  { s.setF CLK_STATUS_src src with clk := if src = 3 then { c with ppsAt := s.now, ppsRun := false } else c }

/-- Start an acquisition (R99, R101, R109): it ends in a release where no phase unit is enabled. The loop need not be closed: with pll_en 0 a
relock acquires as with pll_en 1 (log 219). -/
def State.acquire (s : State) : State :=
  let s := s.acqStart.setAll [(CLK_STATUS_aligned, 0), (CLK_STATUS_windows, 0)]
  let s := { s with clk := { s.clk with hard := !s.phuAny, relPending := false, tunes := [] } }
  match s.bandFor (s.pllTarget (s.f CLK_STATUS_src)) with
  | some k => (s.setF CLK_STATUS_band (s.f (CLK_BAND_HI_code k))).setPll pllAcquire
  | none => s.pllFail CLK_EVENTS_band_miss

/-- Open the loop: COASTING on the held word, aligned 0. `avg`: the average of the last 4 windows, else the word in use (R107,
R108); the spec gives no rounding of the average. A pending release is dropped (log 219). -/
def State.coast (s : State) (avg : Bool) : State :=
  let t := s.clk.tunes
  let s := if avg && t.length != 0 then
      let (v, s) := s.roundOpen (t.foldl (· + ·) 0) t.length
      s.setFi CLK_TUNE_offset v
    else s
  let s := (s.setPll pllCoasting).setF CLK_STATUS_aligned 0
  { s with clk := { s.clk with tunes := [], inLock := 0, relPending := false, hard := false } }

/-- Loss of the reference (R102, R107). -/
def State.refLoss (s : State) : State := (s.coast (s.pll = pllLocked)).clkEvent CLK_EVENTS_loss

/-- LOCKED (R103, R108): a hard acquisition or return triggers its release, a soft one shows the grid offset. -/
def State.lockUp (s : State) (grid : Nat) : State :=
  let s := (s.setPll pllLocked).clkEvent CLK_EVENTS_lock
  if s.clk.hard then { s with clk := { s.clk with relPending := true, relAt := s.now, hard := false } }
  else s.setF CLK_PHASE_ERR_grid_ofs grid

/-- Record one window in LOCK_HIST, newest first, and its phase error. -/
def State.recordWindow (s : State) (diff err : Int) : State :=
  let s := s.each [6, 5, 4, 3, 2, 1, 0] fun s j =>
    s.setAll [(CLK_LOCK_HIST_diff (j + 1), s.f (CLK_LOCK_HIST_diff j)), (CLK_LOCK_HIST_seq (j + 1), s.f (CLK_LOCK_HIST_seq j))]
  let no := s.clk.winNo + 1
  let s := ((s.setFi (CLK_LOCK_HIST_diff 0) diff).setF (CLK_LOCK_HIST_seq 0) no).setFi CLK_PHASE_ERR_err err
  let s := s.setF CLK_STATUS_windows (if diff.natAbs ≤ 2 then min 255 (s.f CLK_STATUS_windows + 1) else 0)
  { s with clk := { s.clk with winNo := no } }

/-- A window of the counting reference in CK_PHU ticks: 65,536 cycles of 10 MHz or of 25 MHz. -/
def State.windowTicks (s : State) : Nat := if s.f CLK_STATUS_src = 1 then 2621440 else 1048576

/-- The frequency stands: a phase unit is enabled, and slew_max is 0 (R106). -/
def State.slewHeld (s : State) : Bool := s.phuAny && s.f CLK_SLEW_CFG_slew_max == 0

/-- The closed loop takes a tuning word over a window: within slew_max while a phase unit is enabled (R106). The word is remembered. -/
def State.tuneTo (s : State) (tune : Int) : State :=
  let old := s.fi CLK_TUNE_offset
  let lim : Int := if s.phuAny then ((s.f CLK_SLEW_CFG_slew_max * 10 * s.windowTicks + 399999999) / 400000000 : Nat) else 2 ^ 24
  let v := old + clampI (-lim) lim (tune - old)
  { s.setFi CLK_TUNE_offset v with clk := { s.clk with tunes := (v :: s.clk.tunes).take 4 } }

/-- A window of an acquisition or return that ends in a release: locked at the fourth near window in a row, failed at the 64th without. -/
def State.hardWindow (s : State) (near : Bool) (grid : Nat) : State :=
  let s := { s with clk := { s.clk with acqWindows := s.clk.acqWindows + 1, inLock := if near then s.clk.inLock + 1 else 0 } }
  if s.clk.inLock = 4 then s.lockUp grid
  else if 64 ≤ s.clk.acqWindows then s.pllFail CLK_EVENTS_acq_fail
  else s

/-- A window of a soft one (R108): first the phase error comes within 250 ps, then four windows are near. It waits where the frequency stands; an
acquisition has its 64 windows all the same. -/
def State.softWindow (s : State) (near : Bool) (err : Int) (grid : Nat) : State :=
  if s.slewHeld then s
  else
    let c := s.clk
    let s := { s with clk := { c with
      acqWindows := c.acqWindows + 1, pulled := c.pulled || decide (err.natAbs ≤ 8), inLock := if c.pulled ∧ near then c.inLock + 1 else 0 } }
    if s.clk.inLock = 4 then s.lockUp grid
    else if s.pll = pllAcquire ∧ 64 ≤ s.clk.acqWindows then s.pllFail CLK_EVENTS_acq_fail
    else s

/-- A window near enough while COASTING, with the loop closed, is the reference's return: hard on the source that REF_CFG names, or soft. -/
def State.refReturn (s : State) : State :=
  let s := (s.setPll pllReturning).clkEvent CLK_EVENTS_ref_return
  let s := if s.phuAny then { s with clk := { s.clk with inLock := 0, acqWindows := 0, pulled := false } } else s.acqStart
  { s with clk := { s.clk with hard := !s.phuAny } }

/-- LOCK_WINDOW_END: the count difference of a window, the tuning offset asked for (0.01 ppm), the phase error (31.25 ps) and the grid
offset as measured (R102, R107, R108). The window that declares the loss is not among the last 4 before it (log 219). -/
def State.lockWindow (s : State) (diff tune err : Int) (grid : Nat) : State :=
  if !s.clk.begun || s.mode.keep then s
  else
    let s := s.recordWindow diff err
    let near := decide (diff.natAbs ≤ 2)
    if s.pll = pllFailed then s
    else if s.pll = pllCoasting then (if s.fb CLK_CTRL_pll_en ∧ diff.natAbs ≤ 8 then s.refReturn else s)
    else if s.pll ≠ pllAcquire ∧ 8 < diff.natAbs then s.refLoss
    else
      let s := s.tuneTo tune
      if s.pll = pllLocked then s
      else if s.clk.hard then s.hardWindow near grid
      else s.softWindow near err grid

def execLockWindowEnd (diff tune err : Int) (grid : Nat) (s : State) : Out := .next (s.lockWindow diff tune err grid)

/-- REFERENCE_ABSENCE: no reference edge for 1 us (R102). -/
def execReferenceAbsence (s : State) : Out :=
  .next (if s.pll = pllLocked ∨ s.pll = pllReturning then s.refLoss else s)

/-- ACQ_FAIL: the time of 64 windows from the start without lock, as where no reference edge completes a window (R102). -/
def execAcqFail (s : State) : Out :=
  .next (if s.clk.begun ∧ (s.pll = pllAcquire ∨ (s.pll = pllReturning ∧ s.clk.hard)) ∧ !s.slewHeld ∧ s.clk.acqAt + 64 * s.windowTicks ≤ s.now then
      s.pllFail CLK_EVENTS_acq_fail
    else s)

/-! ## Release (R103) and the boot steps behind it (R148) -/

/-- The boot timeline enters a step; with step 7 the pipeline watches its inputs for 10 ms (R311). -/
def State.bootStep (s : State) (n : Nat) : State :=
  { s.setF SEC_BOOT_STAT_stage n with
    mode := { s.mode with stepAt := s.now }, met := if n = 7 then { s.met with watch := s.now + 4000000 } else s.met }

/-- T7 seeds DT by a step to v ns (R138, R378). -/
def State.seedDt (s : State) (v : Nat) : State :=
  let d : Int := (v : Int) - s.dtNs
  let s := s.setAll [(NET_DT_STEP_step 0, ofSigned 64 d % 2 ^ 32), (NET_DT_STEP_step 1, ofSigned 64 d / 2 ^ 32)]
  { s with net := { s.net with dtStep := some d } }

/-- The real-time clock in ns. -/
def State.rtcNs (s : State) : Nat := s.f PWR_RTC_SEC_sec * 1000000000 + s.f PWR_RTC_SUB_sub * 1000000000 / 32768

/-- The self-tests of step 7: what is fatal, what is declared after the release, and the positions marked welded. The step then waits for the
housekeeping round and the first test of the standby feed. -/
def State.bootTests (s : State) (t : BootTests) : State :=
  let s := s.meterKeyStep.bootStep 7
  if t.sramBad.getLsbD 4 || t.sramBad.getLsbD 7 || t.cryptoBad then s.bootFail 5
  else
    let s := { s with mode := { s.mode with sramBad := t.sramBad.toNat, lanesBad := t.lanesBad.toNat } }
    s.each (List.range 128) fun s k => if s.fbClosed k then s.coilEvent k (MTX_COIL_STAT_fail_open k) else s

/-- Step 6: the preferred main image, then the other, then the plinth. After ka_lost DT comes from the built field of the image's header. -/
def State.bootImages (s : State) (t : BootTests) : State :=
  let s := s.bootStep 6
  let p := s.vault.preferB
  let (a, s) := s.tryMain p
  let (b, s) := if a then (false, s) else s.tryMain (!p)
  if !a && !b then s.bootFail 3
  else
    let s := s.setAll [(SEC_BOOT_STAT_image, boolNat (a == p)), (SEC_BOOT_STAT_other_rejected, boolNat (!a))]
    let s := if s.fb PWR_KEEP_STAT_ka_lost then s.seedDt (s.rd (s.maq.imgBuf + 0x38) 8) else s
    let (ok, s) := s.verifyImage norPlinth 2
    if ok then s.bootTests t else s.bootFail 4

/-- Steps 4 to 7: the Warden ROM runs T7; LPDDR4X, trained once more after a failure; in BLANK no image is loaded and boot waits at step 6 (R404). -/
def State.bootOn (s : State) (t : BootTests) : State :=
  let s := (s.bootStep 4).setF (ENG_CTRL_run 7) 1
  let s := { s.setEng 7 { s.eng 7 with hbAt := s.now } with pwr := { s.pwr with testAt := s.now } }
  let s := if s.fb PWR_KEEP_STAT_ka_lost then s else s.seedDt s.rtcNs
  if t.dramFails = 2 then (s.bootStep 5).bootFail 2
  else if s.lifecycle = blank then s.bootStep 6
  else s.bootImages t

/-- The frame epoch is now, and CKO_PHASE takes effect: as written, a delay of div or more too (log 219). -/
def State.newEpoch (s : State) : State :=
  let phase : List Nat := [0, 1, 2, 3, 4, 5, 6, 7].map fun k => s.f (CLK_CKO_PHASE_delay k)
  { s with epoch := s.now, clk := { s.clk with relPending := false, phase := phase } }

/-- The release itself: every lane parks first; at boot step 3 the timeline goes on. -/
def State.doRelease (s : State) (t : BootTests) : State :=
  let s := ((s.parkAll 11).newEpoch.setF CLK_STATUS_aligned 1).clkEvent CLK_EVENTS_realign_done
  let s := if s.fb MET_STATUS_running then { s.setEvent MET_EVENTS_release 4 siteScope [4, 7] with met := { s.met with rel := true } } else s
  if s.f SEC_BOOT_STAT_stage = 3 then (s.setF SEC_BOOT_STAT_fail 0).bootOn t else s

/-- A pending release at its edge: abandoned where a phase unit is enabled (R106); the stopped dividers of a freeze start only after a reset (R113). -/
def State.releaseEdge (s : State) (t : BootTests) : State :=
  if !s.clk.relPending || s.frozen || s.mode.keep then s
  else if s.phuAny then { s.clkEvent CLK_EVENTS_realign_refused with clk := { s.clk with relPending := false } }
  else s.doRelease t

/-- The release waits for a 1PPS edge (R103). -/
def State.onPps (s : State) : Bool := s.f CLK_STATUS_src == 3 && s.fb CLK_PPS_CFG_epoch_on_pps

/-- RELEASE: the first reference edge at least 1 us after the trigger. -/
def execRelease (tests : BootTests) (s : State) : Out :=
  .next (if s.onPps || decide (s.now < s.clk.relAt + 400) then s else s.releaseEdge tests)

/-! ## Writes of CLK.CTRL (R109) -/

def State.realign (s : State) : State :=
  if s.pll = pllLocked ∧ !s.phuAny then { s with clk := { s.clk with relPending := true, relAt := s.now } } else s.clkEvent CLK_EVENTS_realign_refused

/-- COASTING at once, holding the word as at a loss. -/
def State.coastForce (s : State) : State := s.coast (s.pll = pllLocked)

/-- A write of pll_en. -/
def State.writePllEn (s : State) (en : Bool) : State :=
  let was := s.fb CLK_CTRL_pll_en
  let s := s.setB CLK_CTRL_pll_en en
  if was && !en then s.coastForce else if !was && en then s.acquire else s

/-- A write of CLK.CTRL: its bits act in the order of their numbers (log 219). -/
def State.writeClkCtrl (s : State) (v : Nat) : State :=
  let s := s.writePllEn (v % 2 = 1)
  let s := if v / 2 % 2 = 1 then s.acquire else s
  let s := if v / 4 % 2 = 1 then s.realign else s
  if v / 8 % 2 = 1 then s.coastForce else s

def execRealign (w : Fin 8) (s : State) : Out := .next (s.guarded w 7 CLK_CTRL s.realign)
def execRelock (w : Fin 8) (s : State) : Out := .next (s.guarded w 7 CLK_CTRL s.acquire)
def execCoastForce (w : Fin 8) (s : State) : Out := .next (s.guarded w 7 CLK_CTRL s.coastForce)
def execPllEnWrite (w : Fin 8) (en : Bool) (s : State) : Out := .next (s.guarded w 7 CLK_CTRL (s.writePllEn en))

/-! ## 1PPS (R112) -/

/-- The discipline is active: src 3 in use, and PPS_CFG.en. -/
def State.ppsOn (s : State) : Bool := s.f CLK_STATUS_src == 3 && s.fb CLK_PPS_CFG_en

/-- The trim step of one 1PPS edge, which has one before it: the error 4,000,000,000 - count times 2^-gain_shift, within slew_max over the second.
Trim in 2^-15 VCO cycles per second; slew_max 0.1 ppm per second is 400 cycles. -/
def State.ppsTrim (s : State) (count : Nat) : State :=
  if s.ppsOn then
    let step : Int := ((4000000000 : Int) - count) * 2 ^ (15 - s.f CLK_PPS_CFG_gain_shift)
    let lim : Int := s.f CLK_SLEW_CFG_slew_max * 400 * 2 ^ 15
    let trim := if s.clk.ppsRun then s.clk.trim + clampI (-lim) lim step else s.clk.trim
    { s with clk := { s.clk with trim := trim, ppsAt := s.now, ppsRun := true } }
  else s

/-- PPS_EDGE: the VCO cycles counted since the edge before it. -/
def execPpsEdge (count : Nat) (tests : BootTests) (s : State) : Out :=
  let s := s.ppsTrim count
  .next (if s.onPps then s.releaseEdge tests else s)

/-- PPS_MISSING: no edge for 2 s. -/
def execPpsMissing (s : State) : Out :=
  .next (if s.ppsOn ∧ s.clk.ppsAt + 800000000 ≤ s.now then { s.clkEvent CLK_EVENTS_pps_missing with clk := { s.clk with ppsAt := s.now, ppsRun := false } } else s)

/-- A write of PPS_CFG: where it sets en, the wait for an edge begins. -/
def State.writePpsCfg (s : State) (v : Nat) : State :=
  let s := if v % 2 = 1 ∧ !s.fb CLK_PPS_CFG_en then { s with clk := { s.clk with ppsAt := s.now, ppsRun := false } } else s
  s.setAll [(CLK_PPS_CFG_en, v), (CLK_PPS_CFG_epoch_on_pps, v / 2), (CLK_PPS_CFG_gain_shift, v / 256)]

/-! ## Source choice at power-on (R100) and the retry of failure code 1 (R149) -/

/-- REFIN's rate is taken as 10 MHz or 25 MHz, whichever is nearer; between them the spec names none: a free value. -/
def State.refinSrc (s : State) (kHz : Nat) : Nat × State :=
  if kHz < 17500 then (1, s) else if 17500 < kHz then (2, s) else (1 + s.fresh.1 % 2, s.fresh.2)

/-- Acquire on XIN or on REFIN. -/
def State.acquireOn (s : State) (xin : Bool) (kHz : Nat) : State :=
  let (src, s) := if xin then (0, s) else s.refinSrc kHz
  (s.setF CLK_REF_CFG_src src).acquire

/-- CRYSTAL_CHECK at boot step 3: the crystal oscillates within 5 ms from the reset's release, or has not at their end. -/
def execCrystalCheck (oscillates : Bool) (refinKHz : Nat) (s : State) : Out :=
  .next (if s.f SEC_BOOT_STAT_stage = 3 ∧ !s.clk.begun ∧ (if oscillates then s.now ≤ s.mode.released + 2000000 else s.mode.released + 2000000 ≤ s.now) then
      s.acquireOn oscillates refinKHz
    else s)

/-- BOOT_ACQ_RETRY: XIN again 1 s after it was last tried, and REFIN once XIN has failed. -/
def execBootAcqRetry (xin : Bool) (refinKHz : Nat) (s : State) : Out :=
  .next (if s.f SEC_BOOT_STAT_fail = 1 ∧ s.f SEC_BOOT_STAT_stage = 3 ∧ s.pll = pllFailed ∧
      (if xin then s.clk.xinAt + 400000000 ≤ s.now else s.f CLK_STATUS_src = 0) then
      s.acquireOn xin refinKHz
    else s)

/-! ## Clock outputs (R114) -/

/-- The smallest div of a standard; none for off. -/
def minDiv (std : Nat) : Nat := if std = 1 ∨ std = 2 then 8 else if std = 3 then 32 else if std = 4 then 80 else 0

/-- Whether output k is driven: a standard, and a frequency within its limit. -/
def State.ckoOn (s : State) (k : Nat) : Bool := s.fb (CLK_CKO_CFG_std k) && decide (minDiv (s.f (CLK_CKO_CFG_std k)) ≤ s.f (CLK_CKO_DIV_div k))

/-- A setting outside the limit sets cko_cfg_err. -/
def State.ckoCheck (s : State) (k : Nat) : State :=
  if s.fb (CLK_CKO_CFG_std k) && !s.ckoOn k then s.clkEvent CLK_EVENTS_cko_cfg_err else s

def State.writeCkoCfg (s : State) (k v : Nat) : State :=
  (s.setAll [(CLK_CKO_CFG_std k, if 4 < v % 8 then 0 else v % 8), (CLK_CKO_CFG_inv k, v / 8)]).ckoCheck k
def State.writeCkoDiv (s : State) (k v : Nat) : State := (s.setF (CLK_CKO_DIV_div k) (max 4 (v % 2 ^ 20))).ckoCheck k
def State.writeSlew (s : State) (v : Nat) : State := s.setF CLK_SLEW_CFG_slew_max (min 100 (v % 256))

end Sys2Proof.Machine
end

