-- ==== Sys2Proof/Machine/Real.lean ====
section
/-!
DEFINITION. Binary floating-point numbers of IEEE 754 as the point table computes with them (R362): decoding binary32 and binary64,
exact arithmetic rounded to binary64 (nearest, ties to even), and the conversion to integers.
-/
namespace Sys2Proof.Machine

/-- The square root of n rounded down, built from the bits 2^b and below onto r. -/
def sqrtBits (n : Nat) : Nat → Nat → Nat
  | 0, r => if (r + 1) * (r + 1) ≤ n then r + 1 else r
  | b + 1, r => sqrtBits n b (if (r + 2 ^ (b + 1)) * (r + 2 ^ (b + 1)) ≤ n then r + 2 ^ (b + 1) else r)

/-- The square root of n rounded down. -/
def isqrt (n : Nat) : Nat := sqrtBits n (Nat.log2 n / 2) 0

/-- A floating-point value: sign, magnitude m times 2^e; an infinity; not a number. -/
inductive Real where
  | fin (neg : Bool) (m : Nat) (e : Int)
  | inf (neg : Bool)
  | nan
deriving DecidableEq, Repr

/-- Decode a format with p fraction bits and an exponent of x bits. -/
def Real.decode (p x : Nat) (b : Nat) : Real :=
  let neg := b / 2 ^ (p + x) % 2 == 1
  let ex := b / 2 ^ p % 2 ^ x
  let fr := b % 2 ^ p
  let bias : Int := 2 ^ (x - 1) - 1
  if ex = 2 ^ x - 1 then (if fr = 0 then .inf neg else .nan)
  else if ex = 0 then .fin neg fr (1 - bias - p)
  else .fin neg (fr + 2 ^ p) (ex - bias - p)

/-- A binary32 number. -/
def Real.of32 (b : Nat) : Real := Real.decode 23 8 (b % 2 ^ 32)
/-- A binary64 number. -/
def Real.of64 (b : Nat) : Real := Real.decode 52 11 (b % 2 ^ 64)
/-- An integer, exactly. -/
def Real.ofInt (v : Int) : Real := .fin (decide (v < 0)) v.natAbs 0

/-- n / d to the nearest integer, ties to even. -/
def divEven (n d : Nat) : Nat :=
  let q := n / d
  let r := n % d
  if 2 * r < d then q else if d < 2 * r then q + 1 else q + q % 2

/-- n / d to the nearest integer, halves away from zero (of a magnitude: up). -/
def divAway (n d : Nat) : Nat := (2 * n + d) / (2 * d)

/-- The magnitude (n / d) 2^e, d > 0, rounded to binary64, with a sign. -/
def Real.roundQuot (neg : Bool) (n d : Nat) (e : Int) : Real :=
  if n = 0 then .fin neg 0 0
  else
    -- the exponent of the leading bit of n / d
    let lead : Int := (Nat.log2 n : Int) - Nat.log2 d
    let lead := if (if 0 ≤ lead then decide (n < d * 2 ^ lead.toNat) else decide (n * 2 ^ (-lead).toNat < d)) then lead - 1 else lead
    -- the exponent of the last place kept
    let ulp : Int := max (lead + e - 52) (-1074)
    let sh := e - ulp
    let m := if 0 ≤ sh then divEven (n * 2 ^ sh.toNat) d else divEven n (d * 2 ^ (-sh).toNat)
    if 2 ^ 53 * 2 ^ 971 ≤ (if 0 ≤ ulp then m * 2 ^ ulp.toNat else 0) then .inf neg else .fin neg m ulp

/-- Round a value to binary64. -/
def Real.round : Real → Real
  | .fin neg m e => Real.roundQuot neg m 1 e
  | x => x

/-- The product, rounded to binary64. -/
def Real.mul : Real → Real → Real
  | .fin a m e, .fin b n f => (Real.fin (a != b) (m * n) (e + f)).round
  | .nan, _ => .nan
  | _, .nan => .nan
  | .inf a, .fin b n _ => if n = 0 then .nan else .inf (a != b)
  | .fin a m _, .inf b => if m = 0 then .nan else .inf (a != b)
  | .inf a, .inf b => .inf (a != b)

/-- The exact sum of two finite values over a common exponent, rounded to binary64. -/
def Real.add : Real → Real → Real
  | .fin a m e, .fin b n f =>
    let g := min e f
    let x : Int := m * 2 ^ (e - g).toNat
    let y : Int := n * 2 ^ (f - g).toNat
    let z := (if a then -x else x) + (if b then -y else y)
    if z = 0 then .fin (a && b) 0 0 else (Real.fin (decide (z < 0)) z.natAbs g).round
  | .nan, _ => .nan
  | _, .nan => .nan
  | .inf a, .inf b => if a = b then .inf a else .nan
  | .inf a, _ => .inf a
  | _, .inf b => .inf b

def Real.neg : Real → Real
  | .fin a m e => .fin (!a) m e
  | .inf a => .inf (!a)
  | .nan => .nan

/-- The quotient, rounded to binary64. -/
def Real.div : Real → Real → Real
  | .fin a m e, .fin b n f =>
    if n = 0 then (if m = 0 then .nan else .inf (a != b)) else Real.roundQuot (a != b) m n (e - f)
  | .nan, _ => .nan
  | _, .nan => .nan
  | .inf a, .fin b _ _ => .inf (a != b)
  | .fin a _ _, .inf b => .fin (a != b) 0 0
  | .inf _, .inf _ => .nan

/-- The 64 bits of a value rounded to binary64. -/
def Real.bits : Real → Nat
  | .nan => 0x7FF8000000000000
  | .inf a => (if a then 2 ^ 63 else 0) + 0x7FF0000000000000
  | .fin a m e =>
    let sign := if a then 2 ^ 63 else 0
    if m = 0 then sign
    else
      let lead := (Nat.log2 m : Int)
      -- normalised: the last place at lead + e - 52, not below -1074
      let ulp : Int := max (lead + e - 52) (-1074)
      let sh := e - ulp
      let k := if 0 ≤ sh then m * 2 ^ sh.toNat else m / 2 ^ (-sh).toNat
      if k < 2 ^ 52 then sign + k else sign + (ulp + 1075).toNat * 2 ^ 52 + (k - 2 ^ 52)

/-- To an integer, nearest with halves away from zero, limited to lo … hi (R362); none for not a number. -/
def Real.toInt (lo hi : Int) : Real → Option Int
  | .nan => none
  | .inf a => some (if a then lo else hi)
  | .fin a m e =>
    let v : Nat := if 0 ≤ e then m * 2 ^ e.toNat else divAway m (2 ^ (-e).toNat)
    some (clampI lo hi (if a then -(v : Int) else v))

/-- a ≤ b of magnitudes, for finite values. -/
def Real.absLe : Real → Real → Bool
  | .fin _ m e, .fin _ n f =>
    let g := min e f
    decide (m * 2 ^ (e - g).toNat ≤ n * 2 ^ (f - g).toNat)
  | .fin _ _ _, .inf _ => true
  | _, _ => false

end Sys2Proof.Machine
end

