-- ==== Sys2Proof/Machine/Net.lean ====
section
/-!
DEFINITION. Network block: device time and the PTP hardware clocks, Ethernet and UART rings, eMMC block transfers (R373 to R378, R440).
-/
namespace Sys2Proof.Machine

def State.phc (s : State) (p : Nat) : PhcInt := SMap.get PhcInt.reset s.net.phcs p
def State.setPhc (s : State) (p : Nat) (x : PhcInt) : State := { s with net := { s.net with phcs := SMap.set PhcInt.reset s.net.phcs p x } }

/-! ## Device time (R377, R378) -/

/-- The engine in charge of the DT registers: T7 until it has released T0 at boot step 10. -/
def State.dtEng (s : State) : Nat := if s.mode.booted || s.fb (ENG_CTRL_run 0) || decide (10 < s.f SEC_BOOT_STAT_stage) then 0 else 7

/-- A write of DT_STEP[1]: the signed 64-bit step waits for the next CK_PHU edge. -/
def State.writeDtStep (s : State) (v : Nat) : State :=
  let s := s.setF (NET_DT_STEP_step 1) v
  { s with net := { s.net with dtStep := some (toSigned 64 (s.f (NET_DT_STEP_step 0) + 2 ^ 32 * s.f (NET_DT_STEP_step 1))) } }

def execDtStep (w : Fin 8) (v : BitVec 32) (s : State) : Out :=
  .next (s.guarded w s.dtEng (NET_DT_STEP 1) (s.writeDtStep v.toNat))

/-- A write of DT_SLEW: beyond plus or minus 1,000,000 stored as the bound, with slew_clipped. -/
def State.writeDtSlew (s : State) (v : Nat) : State :=
  let x := toSigned 32 v
  let s := s.setFi NET_DT_SLEW_slew (clampI (-1000000) 1000000 x)
  if 1000000 < x.natAbs then s.setF NET_DT_STATUS_slew_clipped 1 else s

def execDtSlew (w : Fin 8) (v : BitVec 32) (s : State) : Out := .next (s.guarded w 0 NET_DT_SLEW (s.writeDtSlew v.toNat))

/-- The opcode of TIME_SET (R378). -/
def isTimeSet (r : Req) : Bool := r.opcode == 0x0112

/-- The step of DT that waits is applied: TIME_SET requests complete DONE at it; no result value is defined: free (log 6). -/
def State.applyDtStep (s : State) : State :=
  match s.net.dtStep with
  | none => s
  | some d =>
    let s := s.addSat NET_DT_STATUS_steps 1
    let s := { s with dtNs := ofSigned 64 (s.dtNs + d), net := { s.net with dtStep := none, rtcDue := true } }
    let (v, s) := s.fresh
    s.finishServing (.queue 0 1) isTimeSet 1 0 (BitVec.ofNat 64 v)

/-- T0's step for TIME_SET: DT is stepped to the target, and the service port becomes its source. -/
def State.timeSet (s : State) (r : Req) : State :=
  let d := ofSigned 64 ((r.payload.toNat % 2 ^ 64 : Nat) - (s.dtNs : Int))
  let s := (s.defer (.queue 0 1) r).setF (NET_DT_STEP_step 0) (d % 2 ^ 32)
  (s.writeDtStep (d / 2 ^ 32)).setAll [(NET_DT_CTRL_valid, 1), (NET_DT_CTRL_source, 4)]

def execTimeSet (sd : Sender) (r : Req) (s : State) : Out := .next (s.serve sd (.queue 0 1) r fun s => s.timeSet r)

/-- A read of DT[0] by engine e: the low word, and its latch of the high word (R440). -/
def State.readDtLow (s : State) (e : Nat) : Nat × State := (s.dtNs % 2 ^ 32, s.setEng e { s.eng e with dtLatch := s.dtNs / 2 ^ 32 % 2 ^ 32 })

def execDtReadLatch (e : Fin 8) (s : State) : Out := .next (s.readDtLow e).2

/-- DT advances by one CK_PHU edge (R377): 2.5 ns (1 + slew 10^-10), in 10^-11 ns. -/
def State.tickDt (s : State) : State :=
  let x := s.dtFrac + (25 * (10000000000 + s.fi NET_DT_SLEW_slew)).toNat
  ({ s with dtNs := (s.dtNs + x / 100000000000) % 2 ^ 64, dtFrac := x % 100000000000 }).applyDtStep

/-! ## PTP hardware clocks (R376) -/

/-- A write of PTP[p].STEP[1]. -/
def State.writePhcStep (s : State) (p v : Nat) : State :=
  let s := s.setF (NET_PTP_STEP_step p 1) v
  s.setPhc p { s.phc p with step := some (toSigned 64 (s.f (NET_PTP_STEP_step p 0) + 2 ^ 32 * s.f (NET_PTP_STEP_step p 1))) }

def execPhcStep (w : Fin 8) (p : Fin 2) (v : BitVec 32) (s : State) : Out :=
  .next (s.guarded w 0 (NET_PTP_STEP p 1) (s.writePhcStep p v.toNat))

/-- A write of PTP[p].RATE. -/
def State.writePhcRate (s : State) (p v : Nat) : State := s.setFi (NET_PTP_RATE_rate p) (clampI (-5000000) 5000000 (toSigned 32 v))

/-- The PHC of port p counts modulo 2^48 seconds. -/
def phcSpan : Nat := 2 ^ 48 * 1000000000

/-- PHC of port p at one CK_PHU edge: it runs while en is 1, and a written step is applied. -/
def State.tickPhc (s : State) (p : Nat) : State :=
  let x := s.phc p
  let f := if s.fb (NET_PTP_CTRL_en p) then x.frac + (25 * (10000000000 + s.fi (NET_PTP_RATE_rate p))).toNat else x.frac
  let n := x.ns + f / 100000000000
  let e := x.edge || n / 1000000000 != x.ns / 1000000000
  match x.step with
  | none => s.setPhc p ⟨n % phcSpan, f % 100000000000, none, e⟩
  | some d => (s.setPhc p ⟨((n + d) % (phcSpan : Int)).toNat, f % 100000000000, none, e⟩).addSat (NET_PTP_STATUS_steps p) 1

/-- PHC_SECOND: the second edge that the count has passed; the edge of the port in CLK.REF_CFG.pps_port measures DT_PPS_OFS (PPS_EDGE disciplines the PLL). -/
def State.phcSecond (s : State) (p : Nat) : State :=
  if (s.phc p).edge then
    let s := (s.setPhc p { s.phc p with edge := false }).addWrap (NET_PTP_STATUS_seconds p) 1
    if s.f CLK_REF_CFG_pps_port = p then s.setFi NET_DT_PPS_OFS_ofs (satSigned 32 ((s.dtNs : Int) - (s.phc p).ns)) else s
  else s

def execPhcSecond (p : Fin 2) (s : State) : Out := s.onClock fun s => (s.phcSecond p)

/-- The words of PHC[p]: nanoseconds, seconds [31:0], seconds [47:32]. -/
def State.phcWord (s : State) (p j : Nat) : Nat :=
  let n := (s.phc p).ns
  if j = 0 then n % 1000000000 else if j = 1 then n / 1000000000 % 2 ^ 32 else n / 1000000000 / 2 ^ 32 % 2 ^ 16

/-- A read of PHC[0] by engine e, with its latch of PHC[1] and PHC[2]. -/
def State.readPhcLow (s : State) (e p : Nat) : Nat × State :=
  let n := s.eng e
  let l := SMap.set 0 (SMap.set 0 n.phcLatch (2 * p) (s.phcWord p 1)) (2 * p + 1) (s.phcWord p 2)
  (s.phcWord p 0, s.setEng e { n with phcLatch := l })

def execPhcReadLatch (e : Fin 8) (p : Fin 2) (s : State) : Out := .next (s.readPhcLow e p).2

/-! ## Rings (R375) -/

/-- The registers of one ring: base, size, next descriptor given, next descriptor completed. -/
structure Ring where
  base : Fld
  size : Fld
  sw : Fld
  hw : Fld

def ringOf (tx : Bool) : RingUnit → Ring
  | .eth n => if tx then ⟨NET_ETH_TX_RING_base n, NET_ETH_TX_RING_size n, NET_ETH_TX_IDX_sw n, NET_ETH_TX_IDX_hw n⟩
      else ⟨NET_ETH_RX_RING_base n, NET_ETH_RX_RING_size n, NET_ETH_RX_IDX_sw n, NET_ETH_RX_IDX_hw n⟩
  | .uart u => if tx then ⟨NET_U_TX_RING_base u, NET_U_TX_RING_size u, NET_U_TX_IDX_sw u, NET_U_TX_IDX_hw u⟩
      else ⟨NET_U_RX_RING_base u, NET_U_RX_RING_size u, NET_U_RX_IDX_sw u, NET_U_RX_IDX_hw u⟩
  | .plc => if tx then ⟨PLC_TX_RING_base, PLC_TX_RING_size, PLC_TX_IDX_sw, PLC_TX_IDX_hw⟩
      else ⟨PLC_RX_RING_base, PLC_RX_RING_size, PLC_RX_IDX_sw, PLC_RX_IDX_hw⟩

/-- The address of a ring's index register. -/
def ringIdx (tx : Bool) : RingUnit → Nat
  | .eth n => if tx then NET_ETH_TX_IDX n else NET_ETH_RX_IDX n
  | .uart u => if tx then NET_U_TX_IDX u else NET_U_RX_IDX u
  | .plc => if tx then PLC_TX_IDX else PLC_RX_IDX

/-- The engine in charge of Ethernet port n. -/
def ethEng (n : Nat) : Nat := if n < 2 then 0 else 6
def ringEng : RingUnit → Nat
  | .eth n => ethEng n
  | _ => 6

/-- The descriptors of a ring. -/
def State.ringSize (s : State) (r : Ring) : Nat := 2 ^ (4 + s.f r.size)

/-- The address of descriptor i. -/
def State.descAt (s : State) (r : Ring) (i : Nat) : Nat := 256 * s.f r.base + 32 * i

/-- The descriptors given to the MAC and not yet completed. -/
def State.ringUsed (s : State) (r : Ring) : Nat :=
  let n := s.ringSize r
  (s.f r.sw % n + n - s.f r.hw % n) % n

/-- The MAC has completed the next descriptor. -/
def State.ringNext (s : State) (r : Ring) : State := s.setF r.hw ((s.f r.hw + 1) % s.ringSize r)

/-- The hardware clears own and sets status bits of a descriptor. -/
def State.descStatus (s : State) (a bits : Nat) : State := s.dmaWr (a + 0x0A) 2 bits

/-- The time stamp of port n's PHC into a descriptor: 4 bytes of nanoseconds, 6 of seconds. -/
def State.descStamp (s : State) (a p : Nat) : State :=
  let ns := (s.phc p).ns
  (s.dmaWr (a + 0x10) 4 (ns % 1000000000)).dmaWr (a + 0x14) 6 (ns / 1000000000)

/-- Whether a PTP event frame of port n is timestamped. -/
def State.stamps (s : State) (n : Nat) (ptpEvent : Bool) : Bool := ptpEvent && decide (n < 2) && s.fb (NET_ETH_CTRL_ts_en n)

/-- RING_INDEX_WRITE: the descriptors up to sw belong to the MAC. -/
def State.writeRingIdx (s : State) (u : RingUnit) (tx : Bool) (v : Nat) : State := s.setF (ringOf tx u).sw (v % 2 ^ 11)

def execRingIndexWrite (w : Fin 8) (u : RingUnit) (tx : Bool) (v : BitVec 32) (s : State) : Out :=
  .next (s.guarded w (ringEng u) (ringIdx tx u) (s.writeRingIdx u tx v.toNat))

/-- Store a received frame in the next receive descriptor, with status bits; false where none is free. -/
def State.ringReceive (s : State) (r : Ring) (frame : List Byte) (bits : Nat) : Bool × State :=
  if s.ringUsed r = 0 then (false, s)
  else
    let a := s.descAt r (s.f r.hw)
    let s := (s.dmaWrBytes (s.dmaRd a 8) frame).dmaWr (a + 8) 2 frame.length
    (true, (s.descStatus a bits).ringNext r)

/-- Return with discarded set every transmit descriptor from the next one; `skip` of them have begun and stay. How many, and the state. -/
def State.ringDiscard (s : State) (r : Ring) (skip : Nat) : Nat × State :=
  let n := s.ringUsed r - skip
  let h := s.f r.hw + skip
  (n, s.each (List.range n) fun s i => s.descStatus (s.descAt r ((h + i) % s.ringSize r)) 8)

/-! ## Ethernet (R374, R375) -/

def State.ethEvent (s : State) (n : Nat) (x : Fld) : State := s.setEvent x (ethEng n) (unitScope 3 n) [ethEng n]

/-- CRC-32 of IEEE 802.3, reflected, before the final XOR (R127). -/
def crc32Step (crc : Nat) (b : Byte) : Nat :=
  (List.range 8).foldl (fun c _ => if c % 2 = 1 then (c / 2) ^^^ 0xEDB88320 else c / 2) (crc ^^^ b.toNat)
def crc32 (l : List Byte) : Nat := l.foldl crc32Step 0xFFFFFFFF ^^^ 0xFFFFFFFF

/-- Whether a frame's destination passes port n's address filter (R374). -/
def State.ethPasses (s : State) (n : Nat) (frame : List Byte) : Bool :=
  let da := frame.take 6
  let hash := s.f (NET_ETH_HASH_LO_hash n) + 2 ^ 32 * s.f (NET_ETH_HASH_HI_hash n)
  let own := bytesOf (s.f (NET_ETH_MAC_LO_mac n)) 4 ++ bytesOf (s.f (NET_ETH_MAC_HI_mac n)) 2
  s.fb (NET_ETH_CTRL_promisc n) || da == own || da == List.replicate 6 0xFF ||
    ((leNat (frame.take 1)) % 2 == 1 && hash / 2 ^ (crc32 da / 2 ^ 26) % 2 == 1)

/-- ETH_FRAME_RECEIVED: counted, filtered and stored. A frame with a receive error only counts in STATS[2]. -/
def State.ethReceive (s : State) (n : Nat) (frame : List Byte) (bad ptpEvent : Bool) : Bool × State :=
  if !s.fb (NET_ETH_CTRL_en n) then (false, s)
  else if bad || decide (1522 < frame.length) then (false, s.addSat (NET_ETH_STATS_count n 2) 1)
  else if !s.ethPasses n frame then (false, s)
  else
    let r : Ring := ⟨NET_ETH_RX_RING_base n, NET_ETH_RX_RING_size n, NET_ETH_RX_IDX_sw n, NET_ETH_RX_IDX_hw n⟩
    let a := s.descAt r (s.f r.hw)
    let st := s.stamps n ptpEvent
    match s.ringReceive r frame (if st then 0x12 else 0x02) with
    | (false, s) => (false, s.addSat (NET_ETH_STATS_count n 3) 1)
    | (true, s) =>
      let s := if st then s.descStamp a n else s
      (true, (s.addSat (NET_ETH_STATS_count n 0) 1).ethEvent n (NET_ETH_EVENTS_rx n))

/-- ETH_FRAME_SENT: the next transmit descriptor is returned done. After a disable, only the one that had begun completes. -/
def State.ethSent (s : State) (n : Nat) (ptpEvent : Bool) : State :=
  let r : Ring := ⟨NET_ETH_TX_RING_base n, NET_ETH_TX_RING_size n, NET_ETH_TX_IDX_sw n, NET_ETH_TX_IDX_hw n⟩
  let late := s.net.begun.contains n
  if (s.fb (NET_ETH_CTRL_en n) || late) && s.ringUsed r != 0 then
    let a := s.descAt r (s.f r.hw)
    let st := s.stamps n ptpEvent
    let s := (if st then s.descStamp a n else s).descStatus a (if st then 0x12 else 0x02)
    let s := if late then { s.setF r.hw (s.f r.sw % s.ringSize r) with net := { s.net with begun := s.net.begun.filter (· != n) } } else s.ringNext r
    (s.addSat (NET_ETH_STATS_count n 1) 1).ethEvent n (NET_ETH_EVENTS_tx n)
  else s

def execEthFrameSent (n : Fin 6) (ptpEvent : Bool) (s : State) : Out := s.onLine fun s => (s.ethSent n ptpEvent)

/-- ETH_LINK_CHANGE. -/
def State.ethLink (s : State) (n : Nat) (link : Bool) (speed : Nat) : State :=
  let was := s.fb (NET_ETH_STATUS_link n)
  let s := (s.setB (NET_ETH_STATUS_link n) link).setF (NET_ETH_STATUS_speed n) speed
  if was = link then s else s.ethEvent n (NET_ETH_EVENTS_link_change n)

def execEthLinkChange (n : Fin 6) (link : Bool) (speed : Fin 3) (s : State) : Out := .next (s.ethLink n link speed)

/-- Every transmit descriptor not yet begun returns discarded; STATS[4] counts them (R375). -/
def State.ethDiscard (s : State) (n : Nat) (begun : Bool) : State :=
  let r : Ring := ⟨NET_ETH_TX_RING_base n, NET_ETH_TX_RING_size n, NET_ETH_TX_IDX_sw n, NET_ETH_TX_IDX_hw n⟩
  let run := begun && s.ringUsed r != 0
  let (k, s) := s.ringDiscard r (if run then 1 else 0)
  let s := if run then { s with net := { s.net with begun := n :: s.net.begun.filter (· != n) } } else s.setF r.hw (s.f r.sw % s.ringSize r)
  if k = 0 then s else (s.addSat (NET_ETH_STATS_count n 4) k).ethEvent n (NET_ETH_EVENTS_discarded n)

/-! ## UARTs -/

def State.uartEvent (s : State) (u : Nat) (x : Fld) : State := s.setEvent x 6 (unitScope 2 u) [6]

/-- UART_FRAME_END: whether a frame was stored. -/
def State.uartReceive (s : State) (u : Nat) (frame : List Byte) (bad : Bool) : Bool × State :=
  if !s.fb (NET_U_CTRL_en u) then (false, s)
  else
    let s := s.setF (NET_U_STATUS_rx_busy u) 0
    if bad then (false, (s.addSat (NET_U_STATS_errors u) 1).uartEvent u (NET_U_EVENTS_rx_error u))
    else
      match s.ringReceive ⟨NET_U_RX_RING_base u, NET_U_RX_RING_size u, NET_U_RX_IDX_sw u, NET_U_RX_IDX_hw u⟩ frame 0x02 with
      | (false, s) => (false, s)
      | (true, s) => (true, (s.addWrap (NET_U_STATS_frames u) 1).uartEvent u (NET_U_EVENTS_rx u))

/-- UART_FRAME_SENT: the descriptor returns done; the driver stays on while another frame waits. -/
def State.uartSent (s : State) (u : Nat) : State :=
  let r : Ring := ⟨NET_U_TX_RING_base u, NET_U_TX_RING_size u, NET_U_TX_IDX_sw u, NET_U_TX_IDX_hw u⟩
  let late := s.net.begun.contains (8 + u)
  if (s.fb (NET_U_CTRL_en u) || late) && s.ringUsed r != 0 then
    let s := s.descStatus (s.descAt r (s.f r.hw)) 0x02
    let s := if late then { s.setF r.hw (s.f r.sw % s.ringSize r) with net := { s.net with begun := s.net.begun.filter (· != 8 + u) } } else s.ringNext r
    (s.setB (NET_U_STATUS_tx_busy u) (s.ringUsed r != 0)).uartEvent u (NET_U_EVENTS_tx u)
  else s

def execUartFrameSent (u : Fin 4) (s : State) : Out := s.onClock fun s => (s.uartSent u)

/-- Unsent frames of UART u are discarded; one that the driver has begun goes on. -/
def State.uartDiscard (s : State) (u : Nat) (begun : Bool) : State :=
  let r : Ring := ⟨NET_U_TX_RING_base u, NET_U_TX_RING_size u, NET_U_TX_IDX_sw u, NET_U_TX_IDX_hw u⟩
  let run := begun && s.ringUsed r != 0
  let (k, s) := s.ringDiscard r (if run then 1 else 0)
  let s := if run then { s with net := { s.net with begun := (8 + u) :: s.net.begun.filter (· != 8 + u) } }
    else (s.setF r.hw (s.f r.sw % s.ringSize r)).setF (NET_U_STATUS_tx_busy u) 0
  if k = 0 then s else (s.addSat (NET_U_STATS_discarded u) k).uartEvent u (NET_U_EVENTS_discarded u)

/-! ## Block transfers to the eMMC (R373) -/

/-- The engine in charge of BT[b]. -/
def btEng (b : Nat) : Nat := if b = 0 then 6 else 7

/-- A transfer fails or is abandoned. -/
def State.btFail (s : State) (b : Nat) : State := (s.setF (NET_BT_STATUS_state b) 3).addSat (NET_BT_ERRORS_errors b) 1

/-- go: a transfer of count_m1 + 1 blocks; one beyond the window ends in state 3. -/
def State.btGo (s : State) (b : Nat) : State :=
  if s.f (NET_BT_STATUS_state b) = 1 then s
  else if s.f (NET_BT_WIN_SIZE_blocks b) < s.f (NET_BT_LBA_lba b) + s.f (NET_BT_CTRL_count_m1 b) + 1 then s.btFail b
  else s.setF (NET_BT_STATUS_state b) 1

/-- abort (R47): state 3 and a discarded-work record; no scope of R41 is a block-transfer unit's: a free value. -/
def State.btAbort (s : State) (b : Nat) : State :=
  if s.f (NET_BT_STATUS_state b) = 1 then
    let (v, s) := (s.setF (NET_BT_STATUS_state b) 3).fresh
    s.discardedWork 7 (btEng b) (mkScope (v / 4096 % 16) v) 0 0
  else s

/-- A write of BT[b].CTRL. -/
def State.writeBtCtrl (s : State) (b v : Nat) : State :=
  let s := s.setAll [(NET_BT_CTRL_dir b, v / 2), (NET_BT_CTRL_count_m1 b, v / 4)]
  let s := if v / 1024 % 2 = 1 then s.btAbort b else s
  if v % 2 = 1 then s.btGo b else s

def execBtGo (w : Fin 8) (b : Fin 2) (v : BitVec 32) (s : State) : Out :=
  .next (s.guarded w (btEng b) (NET_BT_CTRL b) (s.writeBtCtrl b v.toNat))
def execBtAbort (w : Fin 8) (b : Fin 2) (s : State) : Out := .next (s.guarded w (btEng b) (NET_BT_CTRL b) (s.btAbort b))

/-- The eMMC key of the first byte of the transfer, and its DRAM address. -/
def State.btEmmc (s : State) (b : Nat) : Nat := emmcKey (512 * (s.f (NET_BT_WIN_BASE_blocks b) + s.f (NET_BT_LBA_lba b)))
def State.btDram (s : State) (b : Nat) : Nat := s.f (NET_BT_DRAM_LO_addr b) + 2 ^ 32 * s.f (NET_BT_DRAM_HI_addr b)

/-- BT_DONE: the blocks have moved, or the transfer failed; command retries count. -/
def State.btDone (s : State) (b : Nat) (good : Bool) (retries : Nat) : State :=
  if s.f (NET_BT_STATUS_state b) = 1 then
    let s := s.addSat (NET_BT_ERRORS_retries b) retries
    if good then
      let n := 512 * (s.f (NET_BT_CTRL_count_m1 b) + 1)
      let s := if s.fb (NET_BT_CTRL_dir b) then s.wrBytes (s.btEmmc b) (s.dmaRdBytes (s.btDram b) n) else s.dmaWrBytes (s.btDram b) (s.rdBytes (s.btEmmc b) n)
      (s.setF (NET_BT_STATUS_state b) 2).addSat (NET_BT_STATUS_transfers b) 1
    else s.btFail b
  else s

end Sys2Proof.Machine
end

