-- ==== Sys2Proof/Machine/Slots.lean ====
section
/-!
DEFINITION. Table slots and their frames, engine run, restart and release (R61 to R67, R76, R77, R90, R91, R98, R443).
-/
namespace Sys2Proof.Machine

def State.slot (s : State) (e k : Nat) : Slot := (s.eng e).slot k
def State.setSlot (s : State) (e k : Nat) (x : Slot) : State := s.setEng e ((s.eng e).setSlot k x)

/-- The scope of slot k of engine e in event arguments: unit family 0x9 (R65, R67). -/
def tableScope (e k : Nat) : Scope := unitScope 9 (8 * e + k)

/-- How far a slot's ticks lie behind the multiples of its period, in CK_PHU ticks (R61). -/
def Slot.shift (x : Slot) : Nat := 40 * (x.ofs * x.per / 256)

/-- Whether a timed slot ticks now (R61): an instant of its series, once each; after a release no sooner than a period after its last tick
(R109). -/
def Slot.due (x : Slot) (epoch now : Nat) : Bool :=
  x.per != 0 && decide (epoch + x.shift ≤ now) && (now - epoch - x.shift) % (40 * x.per) == 0 &&
    match x.lastAt with
    | none => true
    | some t => if t < epoch then decide (t + 40 * x.per ≤ now) else decide (t < now)

/-- What the registers of slot k give at a tick now: frames of a timed slot count from the epoch, of a kick-only one tick by tick. -/
def State.frameCfg (s : State) (e k : Nat) : FrameCfg :=
  let p := (s.slot e k).per
  { base := 16 * s.f (ENG_SLOT_BASE_base e k), rowSize := 8 * (s.f (ENG_SLOT_CFG_row_size_m1 e k) + 1),
    rows := s.f (ENG_SLOT_CFG_row_count_m1 e k) + 1,
    count := if p = 0 then (s.slot e k).tick.count + 1 else (s.now - s.epoch - (s.slot e k).shift) / (40 * p), dt := s.dtNs }

/-- The overrun count of slot k. -/
def overrunFld (e k : Nat) : Fld := { ENG_OVERRUN_slot_0 e with key := (ENG_OVERRUN_slot_0 e).key + 4 * k }

/-- FRAME_OVERRUN with the staged commands dropped (R65, R91, R465). -/
def State.overrunEvent (s : State) (e k dropped : Nat) : State := s.unitRecord 0 e 0x005 (tableScope e k) 0 (k + dropped % 65536 * 65536) [7, e]

/-- The staged commands of context c leave the buffer: which they were, and the state. -/
def State.takeStaged (s : State) (e c : Nat) : List Staged × State :=
  let n := s.eng e
  (n.staging.filter (·.ctx == c), s.setEng e { n with staging := n.staging.filter (·.ctx != c) })

/-- Slot k ticks (R63, R65): its settings are latched, those of its timer for the ticks to come; a frame not yet completed is an overrun. Every
overrun counts; the event comes once for a frame that is ended, at its STEP, and at once for a frame that had not begun (log 214). -/
def State.tickSlot (s : State) (e k : Nat) : State :=
  let x := { s.slot e k with
    tick := s.frameCfg e k, lastAt := some s.now, per := s.f (ENG_SLOT_PERIOD_period e k), ofs := s.f (ENG_SLOT_CFG_offset e k) }
  let count : State → State := fun s => s.setF (overrunFld e k) (min 15 (s.f (overrunFld e k) + 1))
  match x.st with
  | .idle => s.setSlot e k { x with st := .pending }
  | .pending => (count (s.setSlot e k x)).overrunEvent e k 0
  | .active => count (s.setSlot e k { x with ovr := true })

/-- The frame of slot k ends (R64, R65, R90, R91): its staged commands go to release, or, ended by an overrun, are dropped and the new
frame waits; a held kick ticks. -/
def State.endFrame (s : State) (e k : Nat) : State :=
  let (mine, s) := s.takeStaged e k
  let x := s.slot e k
  if x.ovr then (s.setSlot e k { x with ovr := false, st := .pending, stepRd := none }).overrunEvent e k mine.length
  else
    let s := s.setSlot e k { x with st := .idle, held := false, stepRd := none }
    let s := s.setEng e { s.eng e with releasing := (s.eng e).releasing ++ mine }
    if x.held then s.tickSlot e k else s

/-- The lowest-numbered slot of engine e with a frame pending, running or preempted; 8 where there is none. -/
def State.lowestSlot (s : State) (e : Nat) : Nat := ((List.range 8).find? fun k => decide ((s.slot e k).st ≠ .idle)).getD 8

/-- Enter the pending frame of slot k: tpk, s1 and the frame entry (R63, R69). -/
def State.enterFrame (s : State) (e k : Nat) : State :=
  let x := s.slot e k
  let n := (s.eng e).setSlot k { x with st := .active, cur := x.tick, left := x.tick.rows, stepRd := none }
  let n := { n.setTp k (BitVec.ofNat 64 x.tick.base) with ctx := k }
  s.setEng e (n.setPc (BitVec.ofNat 64 (0x80 + 0x40 * k)))

/-- The engine goes to the lowest-numbered waiting frame, or to background code (R63, R64, R98). A preempted frame that an overrun
ends does so at the STEP it waits at. -/
def State.switch (s : State) (e : Nat) : Nat → State
  | 0 => s
  | fuel + 1 =>
    let k := s.lowestSlot e
    if k = 8 then
      let n := s.eng e
      s.setEng e { n with ctx := 8, wait := n.bgWait.map fun w => { w with since := n.cycles }, bgWait := none }
    else
      let x := s.slot e k
      match x.st with
      | .pending => s.enterFrame e k
      | _ =>
        if x.ovr then (s.endFrame e k).switch e fuel
        else
          let n := { (s.eng e).setSlot k { x with stepRd := none } with ctx := k }
          match x.stepRd with
          | some (rd, v) => s.setEng e (n.setG rd v).next
          | none => s.setEng e n

/-- Background code gives way to a pending frame at the next instruction boundary; a UWAIT of it is preempted at once (R63, R93). -/
def State.settle (s : State) (e : Nat) : State :=
  let n := s.eng e
  if n.ctx = 8 && !n.fence && s.fb (ENG_CTRL_run e) && !s.fb (ENG_STATUS_halted e) && s.lowestSlot e != 8 then
    (s.setEng e { n with wait := none, bgWait := n.wait }).switch e 16
  else s

/-- The last earlier store or immediate UCMD has been accepted: a waiting FENCE ends (R83). -/
def execFenceComplete (e : Fin 8) (s : State) : Out :=
  let n := s.eng e
  .next (if n.fence then (s.setEng e { n with fence := false }.next).settle e else s)

/-- A tick of slot k: only where it is enabled and the core released. -/
def State.slotTick (s : State) (e k : Nat) : State :=
  if s.fb (ENG_SLOT_CFG_en e k) && s.fb (ENG_CTRL_run e) then (s.tickSlot e k).settle e else s

/-- The frame timer of slot k ticks, where its instant has come and CK_PHU runs (R61, R62, R113). -/
def State.timerTick (s : State) (e k : Nat) : State := if s.clocked && (s.slot e k).due s.epoch s.now then s.slotTick e k else s

/-- A write of 1 to bit 8 + k of CTRL.kick (R62). -/
def State.kick (s : State) (e k : Nat) : State :=
  if s.f (ENG_SLOT_PERIOD_period e k) ≠ 0 ∨ !s.fb (ENG_SLOT_CFG_en e k) then s.setF (ENG_STATUS_cfg_err e) 1
  else
    let x := s.slot e k
    if x.st ≠ .idle then s.setSlot e k { x with held := true } else s.slotTick e k

def execKick (w e k : Fin 8) (s : State) : Out :=
  .next (if engWriter w e then s.kick e k else s.accessRecord 7 w (ENG_CTRL e))

/-- The request taken in context c of engine e completes DISCARDED; how many. -/
def State.dropTaken (s : State) (e c : Nat) : Nat × State :=
  let n := s.eng e
  match n.takenIn c with
  | none => (0, s)
  | some t =>
    let s := s.setEng e (n.setTaken c none)
    if t.dead then (0, s) else (1, s.complete t.q t.item.req 3 0 0)

/-- The commands of context c that wait for their release leave it: which they were, and the state. -/
def State.takeReleasing (s : State) (e c : Nat) : List Staged × State :=
  let n := s.eng e
  (n.releasing.filter (·.ctx == c), s.setEng e { n with releasing := n.releasing.filter (·.ctx != c) })

/-- Disabling slot k (R67): its staged commands not yet released are dropped, those of a completed frame too (R91). -/
def State.slotDisable (s : State) (e k : Nat) : State :=
  if s.fb (ENG_SLOT_CFG_en e k) then
    let s := s.setF (ENG_SLOT_CFG_en e k) 0
    let (staged, s) := s.takeStaged e k
    let (late, s) := s.takeReleasing e k
    let mine := staged ++ late
    let (taken, s) := s.dropTaken e k
    let s := s.setSlot e k { s.slot e k with st := .idle, held := false, ovr := false, stepRd := none }
    let s := s.discardedWork 7 e (tableScope e k) taken mine.length
    if (s.eng e).ctx = k then (s.setEng e { s.eng e with wait := none, fence := false }).switch e 16 else s
  else s

/-- A write of SLOT_CFG with en 1: refused, leaving en 0, for a slot faster than 1 ms whose base is not in the data SRAM (R62). -/
def State.slotEnable (s : State) (e k : Nat) : State :=
  let p := s.f (ENG_SLOT_PERIOD_period e k)
  let b := 16 * s.f (ENG_SLOT_BASE_base e k)
  if s.fb (ENG_SLOT_CFG_en e k) then s
  else if 0 < p ∧ p < 10000 ∧ !(decide (0x10000000 ≤ b) && decide (b < 0x10020000)) then s.setF (ENG_STATUS_cfg_err e) 1
  else (s.setF (ENG_SLOT_CFG_en e k) 1).setSlot e k { s.slot e k with per := p, ofs := s.f (ENG_SLOT_CFG_offset e k) }

/-- A write of SLOT_CFG[k]. -/
def State.writeSlotCfg (s : State) (e k v : Nat) : State :=
  let s := s.setAll [(ENG_SLOT_CFG_row_size_m1 e k, v / 4), (ENG_SLOT_CFG_row_count_m1 e k, v / 256), (ENG_SLOT_CFG_offset e k, v / 16777216)]
  if v % 2 = 1 then s.slotEnable e k else s.slotDisable e k

/-- A write of SLOT_PERIOD[k]: 1 to 99 is stored as 100. -/
def State.writeSlotPeriod (s : State) (e k v : Nat) : State := s.setF (ENG_SLOT_PERIOD_period e k) (if 0 < v ∧ v < 100 then 100 else v)

def execSlotEnable (w e k : Fin 8) (rowSizeM1 : BitVec 6) (rowCountM1 : BitVec 12) (offset : BitVec 8) (s : State) : Out :=
  .next (if engWriter w e then s.writeSlotCfg e k (1 + 4 * rowSizeM1.toNat + 256 * rowCountM1.toNat + 16777216 * offset.toNat)
    else s.accessRecord 7 w (ENG_SLOT_CFG e k))

def execSlotDisable (w e k : Fin 8) (s : State) : Out :=
  .next (if engWriter w e then s.slotDisable e k else s.accessRecord 7 w (ENG_SLOT_CFG e k))

/-! ## STEP (R64, R98) -/

/-- STEP rd, k: the row address, and tpk moves on; where a lower-numbered slot waits the frame is preempted and rd is returned when it
resumes; with no row left, or after an overrun, the frame ends. A trap 0x01 where k is not s1. -/
def State.stepRow (s : State) (e : Nat) (rd : Fin 32) (k : Nat) : State :=
  let n := s.eng e
  let x := s.slot e k
  if n.ctx ≠ k then s.trapFree e 0x01
  else if x.ovr ∨ x.left = 0 then (s.endFrame e k).switch e 16
  else
    let v := n.tpOf k
    let y := { x with left := x.left - 1 }
    let s := s.setEng e ((n.setSlot k y).setTp k (v + BitVec.ofNat 64 x.cur.rowSize))
    if s.lowestSlot e < k then (s.setSlot e k { y with stepRd := some (rd, v) }).switch e 16 else s.setRd e rd v

def execStep (e : Fin 8) (rd : Fin 32) (k : Fin 8) (s : State) : Out := s.instr e (s.stepRow e rd k)

/-! ## Run, restart, release (R77, R443) -/

/-- The core released at its reset entry in the background context; its watchdog interval and the overflow counts of its rings begin (R58, R76). -/
def State.releaseCore (s : State) (e : Nat) : State :=
  let s := s.setAll [(ENG_CTRL_run e, 1), (ENG_HB_hb_count e, 0), (ENG_TRAP_CAUSE_count e, 0)]
  let n := { s.eng e with cycles := 0, ctx := 8, restarting := false, resultWrites := 0, eventWrites := 0, hbAt := s.now }
  s.setEng e { n with pcs := SMap.set 0 n.pcs 8 0 }

/-- The core held: its frames and staged commands are gone. -/
def State.holdCore (s : State) (e : Nat) : State :=
  let n := s.eng e
  (s.setF (ENG_CTRL_run e) 0).setEng e { n with ctx := 8, slots := [], staging := [], releasing := [], wait := none, bgWait := none, fence := false, inTrap := [] }

/-- A write of CTRL.run by T7. -/
def State.writeRun (s : State) (e : Nat) (run : Bool) : State :=
  if (s.eng e).restarting || s.fb (ENG_CTRL_run e) == run then s else if run then s.releaseCore e else s.holdCore e

/-- The registers of ENG[e] that a restart returns to their reset values (R443). -/
def State.engRegsReset (s : State) (e : Nat) : State :=
  let lo := 32 * ENG_STATUS e
  let mid := 32 * ENG_SECT_ID e
  let hi := 32 * ENG_CTRL (e + 1)
  { s.setF (ENG_CTRL_run e) 0 with fields := (s.setF (ENG_CTRL_run e) 0).fields.filter fun p => p.1 < lo || hi ≤ p.1 || (mid ≤ p.1 && p.1 < mid + 32) }

/-- Complete DISCARDED what the contexts of engine e have taken; how many. -/
def State.dropAllTaken (s : State) (e : Nat) : Nat × State :=
  (List.range 9).foldl (fun (a : Nat × State) c => let (n, s) := a.2.dropTaken e c; (a.1 + n, s)) (0, s)

/-- T1's session gone from a connector: what the line unit itself holds stays. -/
def SessInt.lineUnit (x : SessInt) : SessInt := { SessInt.reset with cpl := x.cpl, prx := x.prx, feedback := x.feedback, pulse := x.pulse, await := x.await }

/-- The work that engine e's tables kept is gone (R152); what units hold stays. -/
def State.dropSoftware (s : State) (e : Nat) : State :=
  match e with
  | 0 => { s with alloc := AllocInt.reset, ocpp := OcppInt.reset }
  | 1 => { s with sess := s.sess.map fun x => (x.1, x.2.lineUnit), t1Req := 0 }
  | 2 | 3 => { s with ctl := { s.ctl with
      integ := s.ctl.integ.filter fun x => x.1 / 12 != e, stage := s.ctl.stage.filter fun x => x.1 / 12 != e, told := s.ctl.told.filter fun n => n / 128 + 2 != e } }
  | 4 => { s with mailbox := Queue.reset, bill := BillInt.reset }
  | 5 => { s with cool := CoolInt.reset }
  | 6 => { s with
      buf := BufInt.reset, plc := PlcInt.reset, net := { NetInt.reset with dtStep := s.net.dtStep, phcs := s.net.phcs, begun := s.net.begun, rtcDue := s.net.rtcDue, rtcAt := s.net.rtcAt }
      cans := s.cans.map fun x => (x.1, { x.2 with queued := [], answer := [] }) }
  | 7 => { s with sec := { s.sec with waiting := none, flushAt := none, freezeReq := none, strNonce := [], arch := ArchInt.reset, req := 0 } }
  | _ => s

/-- ENGINE_RESTART: the core held in reset, its queues drained and their lint lists emptied, cache and data SRAM gone; DRAM stays. -/
def State.engineRestart (s : State) (e : Fin 8) : State :=
  let (taken, s) := s.dropAllTaken e
  let (n, s) := s.discardQueues (fun _ => true) (queuesOf e)
  let staged := (s.eng e).staging.length + (s.eng e).releasing.length
  let s := s.discardedWork 7 e deviceScope (n + taken) staged
  let s := (s.dropSoftware e).engRegsReset e
  let s := s.clearMem (sramKey e 0x10000000) (sramKey e 0x10020000)
  s.setEng e { Engine.reset with restarting := true }

def execEngineRestart (e : Fin 8) (s : State) : Out := .next (s.engineRestart e)

/-- The service interval of an engine in CK_PHU ticks: 100 us for T2 and T3, else 100 ms (R76). -/
def serviceTicks (e : Nat) : Nat := if e = 2 ∨ e = 3 then 40000 else 40000000

/-- Engine e has executed no HEARTBEAT for its interval, counted from the last one or its release (R76). -/
def State.missed (s : State) (e : Nat) : Bool := decide ((s.eng e).hbAt + serviceTicks e ≤ s.now)

/-- POWER_ENGINE_WATCHDOG: T2's or T3's 16 lanes park, one clamp record each (R21, R76, R465). -/
def State.powerWatchdog (s : State) (upper : Bool) : State :=
  let e := if upper then 3 else 2
  if s.fb (ENG_CTRL_run e) && !s.debugHalted e && s.missed e then
    s.each ((List.range 16).map ((if upper then 16 else 0) + ·)) fun s n => (s.parkLane n 2).clampRecord e 6 (unitScope 8 n)
  else s

def execPowerEngineWatchdog (upper : Bool) (s : State) : Out := .next (s.powerWatchdog upper)

end Sys2Proof.Machine
end

