-- ==== Sys2Proof/Machine/RegRead.lean ====
section
/-!
DEFINITION. Reading a register: the fields as stored, the fields that follow from other state, and what a read does (R9, R434 to R440).
-/
namespace Sys2Proof.Machine

/-- The row of a block and the instance that hold a register address. -/
def RegRow.locate (r : RegRow) (a : Nat) : Option (Nat × Nat) :=
  (List.range r.n1).findSome? fun i => (List.range r.n2).findSome? fun j => if r.base + i * r.s1 + j * r.s2 = a then some (i, j) else none

/-- The fields of the register at an address in a window, with the row's writers; none for an unassigned offset (R436). -/
def findRow (rows : List RegRow) (a : Nat) : Option (Wr × Nat × Nat × List (Acc × Keep × Fld)) :=
  rows.findSome? fun r => if a < r.base then none else (r.locate a).map fun (i, j) => (r.wr, i, j, r.fields i j)

/-- The lowest bit of a field within its register. -/
def Fld.lo (x : Fld) : Nat := x.key % 32

/-- A field's value for a read: a WO field reads zero (R9). -/
def State.readFld (s : State) (x : Acc × Keep × Fld) : Nat := if x.1 = .wo then 0 else s.f x.2.2 * 2 ^ x.2.2.lo

/-- A register as its fields hold it. -/
def State.stored (s : State) (l : List (Acc × Keep × Fld)) : Nat := l.foldl (fun a x => a + s.readFld x) 0

/-- The bits of a list of Bools, the first lowest. -/
def bits : List Bool → Nat
  | [] => 0
  | b :: t => (if b then 1 else 0) + 2 * bits t

/-! ## Fields that follow from other state -/

/-- ENG[e].STATUS: running, active, ctx. -/
def State.engStatus (s : State) (e : Nat) : List (Fld × Nat) :=
  [(ENG_STATUS_running e, if s.fb (ENG_CTRL_run e) && !s.fb (ENG_STATUS_halted e) then 1 else 0),
    (ENG_STATUS_active e, bits ((List.range 8).map fun k => decide ((s.slot e k).st = .active))), (ENG_STATUS_ctx e, (s.eng e).ctx)]

/-- LANE[n].STATUS: telem_ok, phases_en. -/
def State.laneStatus (s : State) (n : Nat) : List (Fld × Nat) :=
  [(LANE_STATUS_telem_ok n, if (List.range 4).all fun j => s.f (LANE_STAGE_T_t_even n j) != 0x8000 && s.f (LANE_STAGE_T_t_odd n j) != 0x8000 then 1 else 0),
    (LANE_STATUS_phases_en n, bits ((laneUnits n).map fun k => s.fb (PHU_CTRL_en k)))]


/-- CONN[c].STATUS. -/
def State.connStatus (s : State) (c : Nat) : List (Fld × Nat) :=
  [(CONN_STATUS_lead c, s.leadOf c), (CONN_STATUS_v_slewing c, boolNat (s.f (CONN_VREF_vref c) != s.f (CONN_VSET_target c))),
    (CONN_STATUS_i_slewing c, boolNat (s.f (CONN_IREF_iref c) != s.f (CONN_ISET_target c))), (CONN_STATUS_grace c, boolNat (!(s.conn c).steps.isEmpty)),
    (CONN_STATUS_imd_fresh c, boolNat (decide (s.f (CONN_IMD_age c) ≤ 10))), (CONN_STATUS_own_mismatch c, boolNat (s.ownMismatch c)),
    (CONN_STATUS_dcp c, boolNat (s.fbClosed (96 + 2 * c))), (CONN_STATUS_dcn c, boolNat (s.fbClosed (97 + 2 * c))),
    (CONN_STATUS_pre c, boolNat (s.fbClosed (112 + c))), (CONN_STATUS_men c, s.f (MET_MEN_en c))]

/-- CONN[c].GRACE_STAT: the held steps, and the time to the next expiry in ms, whose rounding the spec leaves open. -/
def State.graceStat (s : State) (c : Nat) : List (Fld × Nat) × State :=
  let x := (s.conn c).steps
  match x with
  | [] => ([(CONN_GRACE_STAT_steps c, 0), (CONN_GRACE_STAT_next_ms c, 0)], s)
  | y :: _ =>
    let (v, s) := s.roundOpen ((y.2 : Int) - s.now) 400000
    ([(CONN_GRACE_STAT_steps c, x.length), (CONN_GRACE_STAT_next_ms c, v.toNat)], s)

/-- The fields of CONN[c] that follow from other state. -/
def State.connFields (s : State) (c : Nat) : List (Fld × Nat) :=
  s.connStatus c ++
  [(CONN_ILIM_ENF_limit c, s.ilimEnf c), (CONN_ILIM_REV_ENF_limit c, s.f (CONN_ILIM_REV_limit c)), (CONN_SUM_SHARE_s c, s.sumShare c),
    (CONN_SUM_SHARE_n_active c, (s.activeSet c).length), (CONN_GRANT_cmd c, bits ((List.range 8).map fun g => s.fb (MTX_COIL_CMD_cmd (12 * g + c)))),
    (CONN_GRANT_closed c, bits ((List.range 8).map fun g => s.fbClosed (12 * g + c)))] ++
  ((List.range 8).map fun j => (CONN_OWN_own c j, bits ((List.range 32).map fun i => s.f (PHU_CTRL_dest (32 * j + i)) == c))) ++
  ((List.range 8).map fun j => (CONN_GRACE_STEP_value c j, (((s.conn c).steps[j]?).map (·.1)).getD 0))

/-- Coil and port registers. -/
def State.coilStatus (s : State) (k : Nat) : List (Fld × Nat) :=
  [(MTX_COIL_STAT_mismatch k, boolNat (s.coilMismatch k)), (MTX_COIL_STAT_men k, if 96 ≤ k ∧ k < 112 then s.f (MET_MEN_en ((k - 96) / 2)) else 1)]
def State.portEnf (s : State) (p : Nat) : List (Fld × Nat) :=
  [(MTX_PORT_ENF_fwd p, (s.dest (8 + p)).fwd / 16), (MTX_PORT_ENF_rev p, (s.dest (8 + p)).rev / 16)]

/-- Load-switch maps, and SENSE.i of a tripped or latched channel (R299). -/
def State.lswMaps (s : State) : List (Fld × Nat) :=
  let m := fun (g : Nat → Fld) => bits ((List.range 32).map fun n => s.fb (g n))
  [(LSW_ON_MAP_map, m LSW_STATUS_out), (LSW_TRIP_MAP_map, m LSW_STATUS_tripped), (LSW_LATCH_MAP_map, m LSW_STATUS_latched)]
def State.lswSense (s : State) (n : Nat) : List (Fld × Nat) :=
  if s.fb (LSW_STATUS_tripped n) || s.fb (LSW_STATUS_latched n) then [(LSW_SENSE_i n, 0xFFF)] else []

/-- The meter enables' feedback. -/
def State.menStatus (s : State) (c : Nat) : List (Fld × Nat) :=
  [(MET_MEN_fb_p c, boolNat (s.fbClosed (96 + 2 * c))), (MET_MEN_fb_n c, boolNat (s.fbClosed (97 + 2 * c)))]

/-- SEC.SVC_STAT and DBG_STAT. -/
def State.secStatus (s : State) : List (Fld × Nat) :=
  [(SEC_SVC_STAT_tck, match s.sec.tckAt with | some t => boolNat (decide (s.now ≤ t + 400000000)) | none => 0),
    (SEC_SVC_STAT_idle, if s.fb SEC_SVC_STAT_open then min 65535 ((s.now - s.sec.lastReq) / 400000000) else 0),
    (SEC_DBG_STAT_max, debugMax (s.f SEC_MODE_mode)), (SEC_DBG_STAT_t4_excl, boolNat (s.lifecycle == sealedState)),
    (SEC_DBG_STAT_halted, bits ((List.range 8).map fun e => s.fb (ENG_STATUS_halted e)))]

/-- The fields of the register at a that follow from other state. -/
def State.derived (s : State) (a : Nat) : List (Fld × Nat) :=
  match a / 0x10000 with
  | 0x4000 => s.engStatus (a % 0x10000 / 0x80)
  | 0x4001 => [(CLK_STATUS_phu_any, boolNat s.phuAny)]
  | 0x4003 => s.secStatus
  | 0x4010 => s.laneStatus (a % 0x10000 / 0x40)
  | 0x4020 => [(PHU_STATUS_enabled (a % 0x10000 / 0x40), s.f (PHU_CTRL_en (a % 0x10000 / 0x40)))]
  | 0x4030 => s.connFields (a % 0x10000 / 0x100)
  | 0x4031 => if a % 0x10000 < 0x400 then s.coilStatus (a % 0x200 / 4) else s.portEnf (a % 0x10 / 4)
  | 0x4042 => if a % 0x10000 < 0x400 then s.lswSense (a % 0x10000 / 0x20) else s.lswMaps
  | 0x4050 => s.menStatus (a % 0x20 / 4)
  | _ => []

/-- The part of a register value that derived fields of register a give, and the bits they cover. -/
def overlay (a : Nat) (l : List (Fld × Nat)) (v : Nat) : Nat :=
  (l.filter fun x => x.1.key / 32 == a).foldl (fun v x =>
    let w := 2 ^ x.1.w
    let lo := 2 ^ x.1.lo
    v - v / lo % w * lo + x.2 % w * lo) v

/-- The value of the register at address a, without what a read does. -/
def State.regValue (s : State) (rows : List RegRow) (a : Nat) : Nat :=
  match findRow rows a with
  | none => 0
  | some (_, _, _, l) => overlay a (s.derived a) (s.stored l)

/-- Engine e reads 64-bit pairs through its own latches (R440), and the cell maker's item latches its value (R163). -/
def State.readPair (s : State) (e a v : Nat) : Nat × State :=
  let p := if a < NET_PTP_PHC 1 0 then 0 else 1
  if a = NET_DT 0 then s.readDtLow e
  else if a = NET_DT 1 then ((s.eng e).dtLatch, s)
  else if a = NET_PTP_PHC p 0 then s.readPhcLow e p
  else if a = NET_PTP_PHC p 1 then (SMap.get 0 (s.eng e).phcLatch (2 * p), s)
  else if a = NET_PTP_PHC p 2 then (SMap.get 0 (s.eng e).phcLatch (2 * p + 1), s)
  else if a = MET_BLOCK_LO then (v, s.setEng e { s.eng e with blkLatch := s.f MET_BLOCK_HI_block })
  else if a = MET_BLOCK_HI then ((s.eng e).blkLatch, s)
  else if (a / 0x10000 == 0x4010) && a % 0x40 == 0x28 then (v, s.vendLatch (a % 0x10000 / 0x40))
  else if (a / 0x10000 == 0x4030) && a % 0x100 == 0x54 then
    let (l, s) := s.graceStat (a % 0x10000 / 0x100)
    (overlay a l v, s)
  else if a = SEC_AUTH_STAT then
    let (x, s) := s.roundOpen ((s.vault.lockTill : Int) - s.now) 400000000
    (overlay a [(SEC_AUTH_STAT_lock_s, x.toNat)] v, s)
  else (v, s)

/-- Engine e reads the register at a word address: none where the address lies in no window, or in another engine's ENG (R436, R437). -/
def State.regRead (s : State) (e a : Nat) : Option (Nat × State) :=
  match blockRows a with
  | none => none
  | some rows =>
    if a / 0x10000 = 0x4000 ∧ a % 0x10000 / 0x80 < 8 ∧ a % 0x10000 / 0x80 ≠ e ∧ e ≠ 7 then none
    else some (s.readPair e a (s.regValue rows a))

end Sys2Proof.Machine
end

