-- ==== Sys2Proof/Machine/Points.lean ====
section
/-!
DEFINITION. The point table of T6: descriptors, scan cycles, point commands, Modbus service and history (R359 to R373, R380). What T6's
table steps do with a request or an answer is done in the step that brings it (log 11).
-/
namespace Sys2Proof.Machine

/-! ## Descriptors (R360 to R363) -/

def ptAddr (p : Nat) : Nat := 0x140000000 + 32 * p
def State.ptCfg (s : State) (p : Nat) : Nat := s.rd (ptAddr p) 2
def State.ptType (s : State) (p : Nat) : Nat := s.ptCfg p % 32
def State.ptClass (s : State) (p : Nat) : Nat := s.ptCfg p / 32 % 8
def State.ptUsed (s : State) (p : Nat) : Bool := s.ptCfg p / 256 % 2 == 1
def State.ptWritable (s : State) (p : Nat) : Bool := s.ptCfg p / 512 % 2 == 1 && decide (0 < p ∧ p < 0xF0000)
def State.ptProfile (s : State) (p : Nat) : Nat := s.ptCfg p / 4096 % 16
def State.ptProto (s : State) (p : Nat) : Nat := s.rd (ptAddr p + 2) 2 % 16
def State.ptPort (s : State) (p : Nat) : Nat := s.rd (ptAddr p + 2) 2 / 16 % 16
def State.ptValue (s : State) (p : Nat) : Nat := s.rd (ptAddr p + 0x10) 8
def State.ptQuality (s : State) (p : Nat) : Nat := (s.rdB (ptAddr p + 0x1E)).toNat

/-- A 64-bit word of a descriptor written by T6 through its cache and cleaned (R60, R361). -/
def State.ptStore (s : State) (a v : Nat) : State := (s.cacheStore 6 a 8 v).cacheClean 6 (a / 64)

/-- T6 updates value, time and quality of a descriptor: seq is odd while it writes, and its next even value after (R361). -/
def State.ptUpdate (s : State) (p value time quality : Nat) : State :=
  let seq := (s.rdB (ptAddr p + 0x1F)).toNat
  (s.ptStore (ptAddr p + 0x10) value).ptStore (ptAddr p + 0x18) (time % 2 ^ 48 + quality % 256 * 2 ^ 48 + (seq / 2 * 2 + 2) % 256 * 2 ^ 56)

/-- Time field now: DT[55:8]. -/
def State.ptNow (s : State) : Nat := s.dtNs / 256 % 2 ^ 48
def State.ptTime (s : State) (p : Nat) : Nat := s.rd (ptAddr p + 0x18) 6

/-- Change the quality byte only. -/
def State.ptSetQuality (s : State) (p q : Nat) : State := s.ptUpdate p (s.ptValue p) (s.ptTime p) q

/-- A bit of a number set or cleared. -/
def withBit (v i : Nat) (b : Bool) : Nat := v - v / 2 ^ i % 2 * 2 ^ i + (if b then 2 ^ i else 0)

/-- The unit of the point's source port (R370). -/
def State.ptScope (s : State) (p : Nat) : Scope :=
  match s.ptProto p with
  | 1 => unitScope 3 (s.ptPort p)
  | 2 => unitScope 2 (s.ptPort p)
  | 3 => unitScope 1 (s.ptPort p)
  | 4 => unitScope 5 0
  | _ => siteScope

/-- The points whose descriptors hold anything. -/
def State.ptList (s : State) : List Nat :=
  dedup ((s.mem.filter fun c => ptAddr 0 ≤ c.1 ∧ c.1 < 0x142000000).map fun c => (c.1 - ptAddr 0) / 32)

/-- The used points of scan class k. -/
def State.classPoints (s : State) (k : Nat) : List Nat := s.ptList.filter fun p => s.ptUsed p && s.ptClass p == k

/-! ## Conversion (R362) -/

/-- raw × scale + offset in binary64. -/
def State.ptScaled (s : State) (p : Nat) (raw : Real) : Real :=
  (raw.round.mul (Real.of32 (s.rd (ptAddr p + 8) 4))).add (Real.of32 (s.rd (ptAddr p + 12) 4))

/-- The inverse: (value − offset) / scale. -/
def State.ptRaw (s : State) (p : Nat) (v : Real) : Real :=
  (v.add (Real.of32 (s.rd (ptAddr p + 12) 4)).neg).div (Real.of32 (s.rd (ptAddr p + 8) 4))

/-- The range of a numeric type: signed, or unsigned and counter. -/
def ptRange (t : Nat) : Int × Int := if t = 2 then (-(2 ^ 63), 2 ^ 63 - 1) else (0, 2 ^ 64 - 1)

/-- A value of a numeric type as a number. -/
def ptNumber (t v : Nat) : Real := if t = 4 then Real.of64 v else Real.ofInt (if t = 2 then toSigned 64 v else v)

/-- A number stored in a numeric type; a value that is no number is not stated: free (log 6). -/
def State.ptEncode (s : State) (t : Nat) (x : Real) : Nat × State :=
  if t = 4 then (x.bits, s)
  else
    let (lo, hi) := ptRange t
    match x.toInt lo hi with
    | some v => (ofSigned 64 v, s)
    | none => s.fresh

/-- Whether a type is numeric. -/
def ptNumeric (t : Nat) : Bool := t == 2 || t == 3 || t == 4 || t == 6

/-- The raw bits of an answer. -/
def ansBits : Answer → Nat
  | .int v _ => ofSigned 64 v
  | .real32 b => b.toNat
  | .real64 b => b.toNat
  | .octets b => b.toNat
  | _ => 0

/-- The raw number of an answer. -/
def ansNumber : Answer → Real
  | .int v _ => Real.ofInt v
  | .real32 b => Real.of32 b.toNat
  | .real64 b => Real.of64 b.toNat
  | a => Real.ofInt (ansBits a)

/-- A counter's raw count extended across the source's wrap (R361). -/
def State.ptExtend (s : State) (p : Nat) (a : Answer) : Real × State :=
  match a with
  | .int v w =>
    let old := SMap.get 0 s.net.ext p
    let m := 2 ^ w
    let n := old + (v.toNat + m - old % m) % m
    (Real.ofInt n, { s with net := { s.net with ext := SMap.set 0 s.net.ext p n } })
  | a => (ansNumber a, s)

/-- The value of point p that an answer gives. -/
def State.ptConvert (s : State) (p : Nat) (a : Answer) : Nat × State :=
  let t := s.ptType p
  if t = 1 then (ansBits a % 2, s)
  else if t = 5 then (ansBits a % 2 ^ 16, s)
  else if t = 8 then (ansBits a % 2 ^ 24 - ansBits a % 2 ^ 16 + ansBits a % 2 ^ 14, s)
  else if t = 6 then
    let (x, s) := s.ptExtend p a
    s.ptEncode t (s.ptScaled p x)
  else if ptNumeric t then s.ptEncode t (s.ptScaled p (ansNumber a))
  else (ansBits a, s)

/-- Whether a value lies outside a type's range, after the inverse conversion for a numeric type (R362, R370). -/
def State.ptOutside (s : State) (p v : Nat) : Bool :=
  let t := s.ptType p
  if t = 1 then decide (1 < v)
  else if t = 5 then decide (0xFFFF < v)
  else if t = 8 then v % 2 ^ 16 / 2 ^ 14 != 0 || v / 2 ^ 24 != 0
  else if t = 2 ∨ t = 3 ∨ t = 6 then
    let (lo, hi) := ptRange t
    match (s.ptRaw p (ptNumber t v)).toInt (-(2 ^ 80)) (2 ^ 80) with
    | some r => decide (r < lo ∨ hi < r)
    | none => true
  else false

/-- A good value (R363). -/
def State.ptGood (s : State) (p : Nat) : Bool := p != 0 && s.ptUsed p && s.ptQuality p % 4 == 0 && s.ptQuality p / 4 % 8 == 0

/-- The value of a numeric point to the nearest integer. -/
def State.ptInt (s : State) (p : Nat) : Int := ((ptNumber (s.ptType p) (s.ptValue p)).toInt (-(2 ^ 63)) (2 ^ 63)).getD 0

/-- The bytes of slot k of the block pool (R361). -/
def poolAddr (k : Nat) : Nat := 0x142000000 + 256 * (k % 2 ^ 14)

/-- The bytes of a block point, or of an octet point. -/
def State.ptBytes (s : State) (p : Nat) : List Byte :=
  let v := s.ptValue p
  if s.ptType p = 8 then s.rdBytes (poolAddr v) (v / 2 ^ 16 % 256 + 1) else bytesOf v 8

/-! ## History (R372) -/

def State.histProfile (s : State) (h : Nat) : HistProfile := SMap.get HistProfile.reset s.maq.profiles h

/-- The 16 bytes of a record of a block with the given base. -/
def histNat (base : Nat) (r : HistRec) : Nat :=
  r.value.toNat + r.point % 2 ^ 20 * 2 ^ 64 + r.quality % 256 * 2 ^ 84 + (r.dt - base) / 256 % 2 ^ 36 * 2 ^ 92

/-- The bytes of a history block with the crc field at a value; the room behind the last record is not stated (log 6). -/
def histBytes (crc bseq base : Nat) (recs : List HistRec) (rest : Nat) : List Byte :=
  bytesOf 0x484E5645 4 ++ bytesOf crc 4 ++ bytesOf bseq 8 ++ bytesOf base 8 ++ bytesOf recs.length 2 ++ bytesOf 0 38 ++
    recs.flatMap (fun r => bytesOf (histNat base r) 16) ++ bytesOf rest (16 * (252 - recs.length))

/-- Where BT0 is free, T6 writes the oldest sealed block through it to the next block of the ring. -/
def State.histSend (s : State) : State :=
  match s.net.sealed with
  | [] => s
  | (recs, bseq, base) :: _ =>
    if s.net.histBusy ∨ s.f (NET_BT_STATUS_state 0) = 1 then s
    else
      let (v, s) := s.fresh
      let crc := crc32 (histBytes 0 bseq base recs v)
      let s := s.wrBytes s.maq.histBuf (histBytes crc bseq base recs v)
      let s := s.setAll [(NET_BT_LBA_lba 0, 8 * s.net.nextBlk), (NET_BT_DRAM_LO_addr 0, s.maq.histBuf), (NET_BT_DRAM_HI_addr 0, s.maq.histBuf / 2 ^ 32),
        (NET_BT_CTRL_dir 0, 1), (NET_BT_CTRL_count_m1 0, 7)]
      { s.btGo 0 with net := { (s.btGo 0).net with histBusy := true } }

/-- Seal the open block. -/
def State.histSeal (s : State) : State :=
  match s.net.openAt with
  | none => s
  | some base =>
    let n := s.net
    let s := { s with net := { n with sealed := n.sealed ++ [(n.recs, n.bseq, base)], recs := [], openAt := none, bseq := n.bseq + 1 } }
    (s.setF NET_PT_STATUS_hist_lag (min 63 s.net.sealed.length)).histSend

/-- A block open for 1 s is sealed. -/
def State.histAge (s : State) : State :=
  if s.net.openAt.isSome ∧ s.net.openedAt + 400000000 ≤ s.now then s.histSeal else s

/-- Append a record. -/
def State.histAdd (s : State) (r : HistRec) : State :=
  let n := s.net
  let s := { s with net := { n with
    recs := n.recs ++ [r], openAt := some (n.openAt.getD s.dtNs), openedAt := if n.openAt.isNone then s.now else n.openedAt,
    lastRec := SMap.set HistRec.reset n.lastRec r.point r } }
  if 252 ≤ s.net.recs.length then s.histSeal else s

/-- Whether a change of value passes the deadband. -/
def State.beyondBand (s : State) (p : Nat) (old : DWord) (band : Nat) : Bool :=
  let t := s.ptType p
  if ptNumeric t then !((ptNumber t (s.ptValue p)).add (ptNumber t old.toNat).neg).absLe (Real.of32 band) else old.toNat != s.ptValue p

/-- Record point p where its profile says one is due. -/
def State.histPoint (s : State) (p : Nat) : State :=
  let s := s.histAge
  if s.ptProfile p = 0 then s
  else
    let h := s.histProfile (s.ptProfile p)
    let last := SMap.get HistRec.reset s.net.lastRec p
    let r : HistRec := ⟨BitVec.ofNat 64 (s.ptValue p), p, s.ptQuality p, s.dtNs, s.now⟩
    let changed := last.quality != r.quality || s.beyondBand p last.value h.deadband
    if last.point = 0 then s.histAdd r
    else if (changed && decide (last.at_ + h.minMs * 400000 ≤ s.now)) || decide (last.at_ + h.maxS * 400000000 ≤ s.now) then s.histAdd r
    else s

/-- BT_DONE: a block of history has reached the ring (R372); the next sealed one follows. -/
def State.histDone (s : State) (good : Bool) : State :=
  if s.net.histBusy then
    let n := s.net
    let left := if good then n.sealed.drop 1 else n.sealed
    let next := if good then (n.nextBlk + 1) % (s.f (NET_BT_WIN_SIZE_blocks 0) / 8) else n.nextBlk
    let s := { s with net := { n with histBusy := false, sealed := left, nextBlk := next } }
    (s.setF NET_PT_STATUS_hist_lag (min 63 s.net.sealed.length)).histSend
  else s

/-- A transfer in flight of BT[b] is abandoned. -/
def State.btDrop (s : State) (b : Nat) : State := if s.f (NET_BT_STATUS_state b) = 1 then s.setF (NET_BT_STATUS_state b) 3 else s

/-- PFW, or a fault of the site: open and sealed blocks of history and its transfer in flight are abandoned (R43, R373). -/
def State.histAbandon (s : State) : State :=
  { s with net := { s.net with recs := [], openAt := none, sealed := [], histBusy := false } }.btDrop 0

/-! ## Acquisition (R363, R366, R371) -/

/-- A successful acquisition or an exception response. An overridden point's value does not change. -/
def State.ptAcquire (s : State) (p : Nat) (a : Answer) : State :=
  let s := { s with net := { s.net with missed := SMap.set 0 s.net.missed p 0 } }
  let q := s.ptQuality p
  if q / 16 % 2 = 1 then s
  else
    match a with
    | .ack => s
    | .exception => (s.ptSetQuality p (q / 16 * 16 + q / 4 % 2 * 4 + 8 + 2)).histPoint p
    | a =>
      let (v, s) := s.ptConvert p a
      (s.ptUpdate p v s.ptNow (q / 16 * 16)).histPoint p

def State.classReads (s : State) (k : Nat) : List Nat := SMap.get [] s.net.reads k
def State.classSent (s : State) (k : Nat) : List Nat := SMap.get [] s.net.sent k
def State.setReads (s : State) (k : Nat) (l : List Nat) : State := { s with net := { s.net with reads := SMap.set [] s.net.reads k l } }
def State.setSent (s : State) (k : Nat) (l : List Nat) : State := { s with net := { s.net with sent := SMap.set [] s.net.sent k l } }

/-- A POINT_WRITE of point p. -/
def isWriteOf (p : Nat) (r : Req) : Bool := r.opcode == 0x0601 && r.payload.toNat % 2 ^ 20 == p

/-- End the pending write of point p with a status: DONE with the value written. -/
def State.endWrite (s : State) (p status : Nat) : State :=
  let s := s.ptSetQuality p (withBit (s.ptQuality p) 5 false)
  s.each [1, 2] fun s q =>
    let id : QId := .queue 6 (if q = 1 then 1 else 2)
    match (s.queue id).serving.find? (fun x => isWriteOf p x.req) with
    | some x => s.finishServing id (isWriteOf p) status 0 (if status = 1 then BitVec.ofNat 64 (x.req.payload.toNat / 2 ^ 64) else 0)
    | none => s

/-- Whether a write of point p is pending. -/
def State.writePending (s : State) (p : Nat) : Bool :=
  (s.queue (.queue 6 1)).serving.any (fun x => isWriteOf p x.req) || (s.queue (.queue 6 2)).serving.any fun x => isWriteOf p x.req

/-- An answer within its cycle; a late one is discarded and counted (R366). -/
def State.pointAnswer (s : State) (a : PointAnswer) : State :=
  let p := a.point.toNat
  if a.ans = .ack then
    match (List.range 8).find? fun k => (s.classSent k).contains p with
    | some k => (s.setSent k ((s.classSent k).filter (· != p))).endWrite p 1
    | none => s
  else
    match (List.range 8).find? fun k => (s.classReads k).contains p with
    | some k =>
      let s := s.setReads k ((s.classReads k).filter (· != p))
      let s := if k = 7 then { s with net := { s.net with answered := p :: s.net.answered } } else s
      s.ptAcquire p a.ans
    | none =>
      if a.ans = .exception ∧ (List.range 8).any (fun k => (s.classSent k).contains p) then s.ptAcquire p a.ans
      else if s.ptClass p < 6 then s.addSat (NET_CLASS_STAT_late (s.ptClass p)) 1 else s

/-- What T6 decodes from a received frame. -/
def State.pointAnswers (s : State) (l : List PointAnswer) : State := l.foldl State.pointAnswer s

/-- A received spontaneous report queues its point and kicks SC6 (R365). -/
def State.pointReport (s : State) (a : PointAnswer) : State := ({ s with net := { s.net with reports := s.net.reports ++ [a] } }).kick 6 6

/-- A frame stored in its ring, and the answers that T6 decodes from it. -/
def execEthFrameReceived (n : Fin 6) (frame : List Byte) (bad ptpEvent : Bool) (ans : List PointAnswer) (s : State) : Out :=
  s.onLine fun s => (match s.ethReceive n frame bad ptpEvent with
    | (true, s) => s.pointAnswers ans
    | (false, s) => s)

def execUartFrameEnd (u : Fin 4) (frame : List Byte) (bad : Bool) (ans : List PointAnswer) (s : State) : Out :=
  s.onClock fun s => (match s.uartReceive u frame bad with
    | (true, s) => s.pointAnswers ans
    | (false, s) => s)

/-! ## Commands to points (R370, R371) -/

/-- T6's queue that a sender uses. -/
def pointQueue : Sender → QId
  | .engine _ => .queue 6 1
  | _ => .queue 6 2

/-- Older writes of point p that wait in a transmit queue or a segment complete DISCARDED (R38, R370). -/
def State.dropOldWrites (s : State) (p : Nat) : State :=
  let can := s.cans.flatMap fun x => (x.2.queued.filter fun c => c.point == p).map fun c => (c.q, c.req)
  let old := fun (g : PlcSeg) => match g.body with
    | .write x _ _ => x == p
    | _ => false
  let plc := s.plc.links.flatMap fun x => x.2.segs.filterMap fun g => match g.body with
    | .write x q r => if x = p then some (q, r) else none
    | _ => none
  let s := { s with
    cans := s.cans.map fun x => (x.1, { x.2 with queued := x.2.queued.filter fun c => c.point != p })
    plc := { s.plc with links := s.plc.links.map fun x => (x.1, { x.2 with segs := x.2.segs.filter fun g => !old g }) } }
  (can ++ plc).foldl (fun s x => s.complete x.1 x.2 3 0 0) s

/-- T6's step for POINT_WRITE. -/
def State.pointWrite (s : State) (q : QId) (r : Req) : State :=
  let p := r.payload.toNat % 2 ^ 20
  let v := r.payload.toNat / 2 ^ 64
  let s := s.dropOldWrites p
  if p = 0 then s.reject q r 0x01
  else if !s.ptWritable p then s.reject q r 0x02
  else if s.ptOutside p v then s.reject q r 0x03
  else if s.ptQuality p / 16 % 2 = 1 then s.reject q r 0x04
  else if s.ptProto p = 0 then ((s.ptUpdate p v s.ptNow (s.ptQuality p / 8 * 8)).histPoint p).done q r v
  else
    let s := (s.defer q r).ptSetQuality p (withBit (s.ptQuality p) 5 true)
    let s := (List.range 8).foldl (fun s k => s.setSent k ((s.classSent k).filter (· != p))) s
    if 6 ≤ s.ptClass p then s.kick 6 (s.ptClass p) else s

/-- The points of T6's sources in a scope. -/
def State.sourcePoints (s : State) (sc : Scope) : List Nat :=
  s.ptList.filter fun p => s.ptUsed p && s.ptScope p == sc && s.ptProto p != 0 && s.ptProto p != 5

/-- The reads and writes in flight on the source ports of a scope go; the points concerned. -/
def State.sourceDrop (s : State) (sc : Scope) : State :=
  let ps := s.sourcePoints sc
  let s := (List.range 8).foldl (fun s k => (s.setReads k ((s.classReads k).filter fun p => !ps.contains p)).setSent k ((s.classSent k).filter fun p => !ps.contains p)) s
  ps.foldl (fun s p => s.endWrite p 3) s

/-- The disable of a port by engine e (R47): the queued requests in its scope, then the reads and writes that its points wait for. -/
def State.portDisable (s : State) (e : Nat) (sc : Scope) (more : Nat) : State := (s.disableWork e sc more).sourceDrop sc

def execPointWrite (sd : Sender) (r : Req) (s : State) : Out := .next (s.serve sd (pointQueue sd) r fun s => s.pointWrite (pointQueue sd) r)

/-! ## Ports disabled (R47, R375) -/

/-- Disabling port n (R47): its frames count in STATS[4] only; the event's count is that of the requests in the port's scope (R375). -/
def State.ethDisable (s : State) (n : Nat) (begun : Bool) : State :=
  if s.fb (NET_ETH_CTRL_en n) then
    ((s.setF (NET_ETH_CTRL_en n) 0).ethDiscard n begun).portDisable (ethEng n) (unitScope 3 n) 0
  else s

def execEthDisable (w : Fin 8) (n : Fin 6) (begun : Bool) (s : State) : Out :=
  .next (s.guarded w (ethEng n) (NET_ETH_CTRL n) (s.ethDisable n begun))

/-- A write of ETH[n].CTRL. -/
def State.writeEthCtrl (s : State) (n v : Nat) : State :=
  let s := if v % 2 = 0 then s.ethDisable n false else s.setF (NET_ETH_CTRL_en n) 1
  s.setAll [(NET_ETH_CTRL_t1_master n, v / 2), (NET_ETH_CTRL_promisc n, v / 4), (NET_ETH_CTRL_ts_en n, v / 8)]

def State.uartDisable (s : State) (u : Nat) (begun : Bool) : State :=
  if s.fb (NET_U_CTRL_en u) then
    (((s.setF (NET_U_CTRL_en u) 0).setF (NET_U_STATUS_rx_busy u) 0).uartDiscard u begun).portDisable 6 (unitScope 2 u) 0
  else s

def execUartDisable (w : Fin 8) (u : Fin 4) (begun : Bool) (s : State) : Out := .next (s.guarded w 6 (NET_U_CTRL u) (s.uartDisable u begun))

/-- A write of U[u].CTRL: a rate out of range is stored as the nearer bound; parity 3 is a reserved value (R436). -/
def State.writeUartCtrl (s : State) (u v : Nat) : State :=
  let s := if v % 2 = 0 then s.uartDisable u false else s.setF (NET_U_CTRL_en u) 1
  let s := s.setAll [(NET_U_CTRL_baud u, max 1200 (min 921600 (v / 2 % 2 ^ 20))), (NET_U_CTRL_stop2 u, v / 2 ^ 23), (NET_U_CTRL_term u, v / 2 ^ 24)]
  s.setF (NET_U_CTRL_parity u) (v / 2 ^ 21)

end Sys2Proof.Machine
end

