-- ==== Sys2Proof/Machine/Can.lean ====
section
/-!
DEFINITION. CAN FD controllers and T6's work on them (R381 to R393).
-/
namespace Sys2Proof.Machine

def State.can (s : State) (n : Nat) : CanInt := SMap.get CanInt.reset s.cans n
def State.setCan (s : State) (n : Nat) (x : CanInt) : State := { s with cans := SMap.set CanInt.reset s.cans n x }

def canScope (n : Nat) : Scope := unitScope 1 n
def State.canEvent (s : State) (n : Nat) (x : Fld) : State := s.setEvent x 6 (canScope n) [6, 7]

/-- A record that an engine posts with EVPOST (R94): to T7 and the engine that orig names, unless that is T4. -/
def State.engineRecord (s : State) (e cls num : Nat) (sc : Scope) (orig detail : Nat) : State :=
  s.unitRecord cls e num sc orig detail (7 :: (if 1 ≤ orig ∧ orig ≤ 8 ∧ orig ≠ 5 then [orig - 1] else []))

/-- Lift the trip that engine e set in a scope with a class (R42, R95). -/
def State.clearTrip (s : State) (e cls : Nat) (sc : Scope) : State :=
  { s with trips := s.trips.filter fun (t : Trip) => !(t.eng == e && t.cls == cls && t.scope == sc) }

/-! ## Configuration (R382) -/

/-- A nominal and a data bit in CK_PHU cycles of 2.5 ns. -/
def State.nominalBit (s : State) (n : Nat) : Nat := (s.f (CAN_NBT_brp_m1 n) + 1) * (s.f (CAN_NBT_tseg1_m1 n) + s.f (CAN_NBT_tseg2_m1 n) + 3)
def State.dataBit (s : State) (n : Nat) : Nat := (s.f (CAN_DBT_brp_m1 n) + 1) * (s.f (CAN_DBT_tseg1_m1 n) + s.f (CAN_DBT_tseg2_m1 n) + 3)

/-- Whether a write of en 1 is accepted: 1 Mbit/s is 400 cycles a bit, 8 Mbit/s 50. -/
def State.canCfgOk (s : State) (n : Nat) : Bool :=
  decide (400 ≤ s.nominalBit n) &&
    (!s.fb (CAN_CTRL_fd_en n) || (decide (50 ≤ s.dataBit n) && (s.fb (CAN_TDC_en n) || decide (400 ≤ s.dataBit n))))

/-! ## Entries (R383) -/

def State.txBase (s : State) (n : Nat) : Nat := 4096 * s.f (CAN_TX_BASE_LO_addr n) + 2 ^ 32 * s.f (CAN_TX_BASE_HI_addr n)
def State.rxBase (s : State) (n : Nat) : Nat := 4096 * s.f (CAN_RX_BASE_LO_addr n) + 2 ^ 32 * s.f (CAN_RX_BASE_HI_addr n)
def State.txEntry (s : State) (n i : Nat) : Nat := s.txBase n + 128 * (i % 64)

/-- Transmit entries committed and not returned. -/
def State.txCount (s : State) (n : Nat) : Nat := (s.f (CAN_TX_IDX_sw n) + 64 - s.f (CAN_TX_IDX_hw n)) % 64

/-- The data length of a code, classical or FD. -/
def dlcLen (fd : Bool) (dlc : Nat) : Nat :=
  if dlc ≤ 8 then dlc else if !fd then 8 else ([12, 16, 20, 24, 32, 48, 64][dlc - 9]?).getD 64

/-- Whether the entry at a may be sent: its length matches its code, FD only with fd_en, remote frames classical. -/
def State.entryOk (s : State) (n a : Nat) : Bool :=
  let fd := (s.dmaRdB (a + 4)).toNat % 2 == 1
  let remote := s.dmaRd a 4 / 2 ^ 30 % 2 == 1
  s.dmaRd (a + 6) 1 == dlcLen fd (s.dmaRd (a + 5) 1 % 16) && (!fd || (s.fb (CAN_CTRL_fd_en n) && !remote))

/-- The controller returns an entry with a status and DT. -/
def State.entryStatus (s : State) (a st : Nat) : State := (s.dmaWr (a + 7) 1 st).dmaWr (a + 8) 8 s.dtNs

/-- The request whose frame is entry i completes (R391): whether there was one, and the state. -/
def State.canFinish (s : State) (n i status : Nat) : Nat × State :=
  let x := s.can n
  match x.queued.find? (·.idx == i % 64) with
  | none => (0, s)
  | some c =>
    let s := s.setCan n { x with queued := x.queued.filter (·.idx != i % 64) }
    let s := if s.writePending c.point then s else s.ptSetQuality c.point (withBit (s.ptQuality c.point) 5 false)
    (1, s.complete c.q c.req status 0 (BitVec.ofNat 64 (c.req.payload.toNat / 2 ^ 64)))

/-- The controller is on the bus and sends. -/
def State.canSends (s : State) (n : Nat) : Bool := s.fb (CAN_CTRL_en n) && !s.fb (CAN_CTRL_listen n) && decide (s.f (CAN_STATUS_state n) < 2)

/-- Head entries that may not be sent are returned with done and discarded both set (R383). -/
def State.canHead (s : State) (n : Nat) : Nat → State
  | 0 => s
  | k + 1 =>
    let h := s.f (CAN_TX_IDX_hw n)
    if s.canSends n && s.txCount n != 0 && !s.entryOk n (s.txEntry n h) then
      let s := (s.entryStatus (s.txEntry n h) 3).setF (CAN_TX_IDX_hw n) (h + 1)
      (((s.canFinish n h 3).2.addSat (CAN_DISC_STAT_entries n) 1).canEvent n (CAN_EVENTS_discarded n)).canHead n k
    else s

/-- A write of TX_IDX.sw: a commit beyond 32 entries is ignored (R385). -/
def State.canCommit (s : State) (n sw : Nat) : State :=
  if 32 < (sw + 64 - s.f (CAN_TX_IDX_hw n)) % 64 then s.canEvent n (CAN_EVENTS_tx_idx_err n)
  else (s.setF (CAN_TX_IDX_sw n) sw).canHead n 64

def execCanTxCommit (w n : Fin 8) (sw : BitVec 6) (s : State) : Out := .next (s.guarded w 6 (CAN_TX_IDX n) (s.canCommit n sw.toNat))

/-! ## Discard (R387, R388) -/

/-- Return discarded the entries from index i on, k of them; how many requests they carried. -/
def State.discardEntries (s : State) (n i : Nat) : Nat → Nat × State
  | 0 => (0, s)
  | k + 1 =>
    let (a, s) := (s.entryStatus (s.txEntry n i) 2).canFinish n i 3
    let (b, s) := s.discardEntries n (i + 1) k
    (a + b, s)

/-- The discard: a frame in transmission keeps its attempt. The number of requests, and the state. -/
def State.canDiscard (s : State) (n : Nat) (begun : Bool) : Nat × State :=
  let run := begun && s.canSends n && s.txCount n != 0
  let skip := if run then 1 else 0
  let k := s.txCount n - skip
  let sw := s.f (CAN_TX_IDX_sw n)
  let (m, s) := s.discardEntries n (s.f (CAN_TX_IDX_hw n) + skip) k
  let s := if run then s.setCan n { s.can n with oneShot := some sw } else s.setF (CAN_TX_IDX_hw n) sw
  (m, ((s.addSat (CAN_DISC_STAT_entries n) k).addSat (CAN_DISC_STAT_discards n) 1).canEvent n (CAN_EVENTS_discarded n))

/-- What CTRL.discard does, with the discarded-work record of the requests: the class of a fault that stands in the scope, or 7. -/
def State.canDiscardCmd (s : State) (n : Nat) (begun : Bool) : State :=
  let (m, s) := s.canDiscard n begun
  if m = 0 then s else s.discardedWork (if s.tripped (canScope n) then 2 else 7) 6 (canScope n) m 0

/-- CTRL.recover in bus-off (R388). -/
def State.canRecover (s : State) (n : Nat) : State := if s.f (CAN_STATUS_state n) = 2 then (s.setF (CAN_STATUS_state n) 3).setCan n { s.can n with recAt := s.now } else s

def execCanRecover (w n : Fin 8) (s : State) : Out := .next (s.guarded w 6 (CAN_CTRL n) (s.canRecover n))

/-- Recovery completes, after 128 times 11 nominal bits at the soonest; T6 reports it and clears its BUS_OFF trip (R388). -/
def State.canRecovered (s : State) (n : Nat) : State :=
  if s.f (CAN_STATUS_state n) = 3 ∧ (s.can n).recAt + 1408 * s.nominalBit n ≤ s.now then
    let s := s.setAll [(CAN_STATUS_state n, 0), (CAN_ERRCNT_tec n, 0), (CAN_ERRCNT_rec n, 0)]
    let s := (s.addSat (CAN_BUSOFF_STAT_recoveries n) 1).canEvent n (CAN_EVENTS_recovered n)
    let (ms, s) := s.roundOpen ((s.now : Int) - (s.can n).busOffAt) 400000
    ((s.engineRecord 6 7 0x0C3 (canScope n) 0 ms.toNat).clearTrip 6 2 (canScope n)).canHead n 64
  else s

def execCanRecoveryComplete (n : Fin 8) (s : State) : Out := s.onLine fun s => (s.canRecovered n)

/-! ## Enable and disable (R382, R389) -/

def State.canEnable (s : State) (n : Nat) : State :=
  if s.fb (CAN_CTRL_en n) then s
  else if s.canCfgOk n then (s.setF (CAN_CTRL_en n) 1).canHead n 64
  else s.canEvent n (CAN_EVENTS_cfg_err n)

def State.canDisable (s : State) (n : Nat) : State :=
  if s.fb (CAN_CTRL_en n) then
    let (m, s) := s.canDiscard n false
    let s := s.setAll [(CAN_CTRL_en n, 0), (CAN_STATUS_state n, 0), (CAN_ERRCNT_tec n, 0), (CAN_ERRCNT_rec n, 0)]
    (s.setCan n { s.can n with oneShot := none }).portDisable 6 (canScope n) m
  else s

def execCanDisable (w n : Fin 8) (s : State) : Out := .next (s.guarded w 6 (CAN_CTRL n) (s.canDisable n))

/-! ## Error counters and states (R386) -/

/-- New counters: err_warn at 96, error-passive at 128 with T6's CAN_PASSIVE, bus-off above 255. -/
def State.canCounters (s : State) (n tec rec : Nat) : State :=
  let t0 := s.f (CAN_ERRCNT_tec n)
  let r0 := s.f (CAN_ERRCNT_rec n)
  let s := s.setAll [(CAN_ERRCNT_tec n, min 256 tec), (CAN_ERRCNT_rec n, min 255 rec)]
  let s := if (t0 < 96 ∧ 96 ≤ tec) ∨ (r0 < 96 ∧ 96 ≤ rec) then s.canEvent n (CAN_EVENTS_err_warn n) else s
  let st := s.f (CAN_STATUS_state n)
  if 256 ≤ tec then
    let s := (s.setF (CAN_STATUS_state n) 2).setCan n { s.can n with busOffAt := s.now }
    (s.addSat (CAN_BUSOFF_STAT_bus_offs n) 1).canEvent n (CAN_EVENTS_bus_off n)
  else if 128 ≤ tec ∨ 128 ≤ rec then
    if st = 0 then ((s.setF (CAN_STATUS_state n) 1).canEvent n (CAN_EVENTS_err_passive n)).engineRecord 6 0 0x0C1 (canScope n) 0 tec else s
  else s.setF (CAN_STATUS_state n) 0

/-- ERRCODE of an error. -/
def State.canErr (s : State) (n code : Nat) (dataPhase : Bool) : State :=
  (s.setAll [(CAN_ERRCODE_code n, code), (CAN_ERRCODE_data_phase n, if dataPhase then 1 else 0)]).addSat (CAN_ERRCODE_count n) 1

/-- CAN_TX_DONE: the head entry is returned done. -/
def State.canTxDone (s : State) (n : Nat) : State :=
  if s.canSends n && s.txCount n != 0 then
    let h := s.f (CAN_TX_IDX_hw n)
    let x := s.can n
    let s := ((s.entryStatus (s.txEntry n h) 1).setF (CAN_TX_IDX_hw n) (x.oneShot.getD (h + 1))).setCan n { x with oneShot := none }
    let s := ((s.canFinish n h 1).2.addWrap (CAN_TX_STAT_sent n) 1).canEvent n (CAN_EVENTS_tx_done n)
    (s.canCounters n (s.f (CAN_ERRCNT_tec n) - 1) (s.f (CAN_ERRCNT_rec n))).canHead n 64
  else s

def execCanTxDone (n : Fin 8) (s : State) : Out := s.onLine fun s => (s.canTxDone n)

/-- CAN_ATTEMPT_FAIL: a lost arbitration (none) or an error; `raise` where the standard raises the transmit counter by 8. The entry is
repeated, unless a discard has made this its last attempt. -/
def State.canFail (s : State) (n : Nat) (err : Option (Fin 7 × Bool)) (raise : Bool) : State :=
  if s.canSends n && s.txCount n != 0 then
    let s := match err with
      | some (c, d) =>
        let s := s.canErr n c d
        if raise then s.canCounters n (s.f (CAN_ERRCNT_tec n) + 8) (s.f (CAN_ERRCNT_rec n)) else s
      | none => s
    let x := s.can n
    match x.oneShot with
    | some dst =>
      let h := s.f (CAN_TX_IDX_hw n)
      let s := ((s.entryStatus (s.txEntry n h) 2).setF (CAN_TX_IDX_hw n) dst).setCan n { x with oneShot := none }
      let (m, s) := s.canFinish n h 3
      let s := (s.addSat (CAN_DISC_STAT_entries n) 1).canEvent n (CAN_EVENTS_discarded n)
      (if m = 0 then s else s.discardedWork (if s.tripped (canScope n) then 2 else 7) 6 (canScope n) m 0).canHead n 64
    | none => if s.f (CAN_STATUS_state n) < 2 then s.addSat (CAN_TX_STAT_retries n) 1 else s
  else s

def execCanAttemptFail (n : Fin 8) (err : Option (Fin 7 × Bool)) (raise : Bool) (s : State) : Out := s.onLine fun s => (s.canFail n err raise)

/-- CAN_RX_ERROR: the receive counter rises as the standard requires, by 0, 1 or 8. -/
def execCanRxError (n : Fin 8) (code : Fin 7) (dataPhase : Bool) (raise : Fin 9) (s : State) : Out :=
  s.onLine fun s => (if s.fb (CAN_CTRL_en n) && decide (s.f (CAN_STATUS_state n) < 2) then
      (s.canErr n code dataPhase).canCounters n (s.f (CAN_ERRCNT_tec n)) (s.f (CAN_ERRCNT_rec n) + raise)
    else s)

/-! ## Receiving (R384, R390, R392) -/

/-- A successful reception lowers the receive counter; above 127 the standard leaves 119 to 127: free (log 6). -/
def State.canRxOk (s : State) (n : Nat) : State :=
  let r := s.f (CAN_ERRCNT_rec n)
  if 127 < r then s.fresh.2.canCounters n (s.f (CAN_ERRCNT_tec n)) (119 + s.fresh.1 % 9) else s.canCounters n (s.f (CAN_ERRCNT_tec n)) (r - 1)

/-- The value that a frame gives a point of protocol 3: its bytes from node on, in the point's width. Whether an Integer point takes them
with a sign is not stated: free (log 6). -/
def State.canValue (s : State) (p : Nat) (data : List Byte) : Option (Nat × State) :=
  let node := s.rd (ptAddr p + 2) 2 / 256
  let w := 2 ^ (s.rd (ptAddr p + 4) 4 / 2 ^ 30)
  if data.length < node + w then none
  else
    let v := leNat ((data.drop node).take w)
    if s.ptType p = 2 ∧ 2 ^ (8 * w - 1) ≤ v then some (if s.fresh.1 % 2 = 0 then v else ofSigned 64 (toSigned (8 * w) v), s.fresh.2) else some (v, s)

/-- A stored frame reaches every point of protocol 3 that it matches. -/
def State.canPoints (s : State) (n : Nat) (f : CanFrame) : State :=
  let l := s.ptList.filter fun p => s.ptUsed p && s.ptProto p == 3 && s.ptPort p == n && s.rd (ptAddr p + 4) 4 % 2 ^ 30 == f.id.toNat % 2 ^ 30
  l.foldl (fun s p => match s.canValue p f.data with
    | some (v, s) => s.pointReport ⟨BitVec.ofNat 20 p, .int (if s.ptType p = 2 then toSigned 64 v else v) (8 * 2 ^ (s.rd (ptAddr p + 4) 4 / 2 ^ 30))⟩
    | none => s) s

/-- The width of a point in a command frame. -/
def State.ptWidth (s : State) (p : Nat) : Nat := if s.ptProto p = 3 then 2 ^ (s.rd (ptAddr p + 4) 4 / 2 ^ 30) else 8

/-- Store a frame at RX_IDX.hw; false where software owns every entry. -/
def State.canStore (s : State) (n : Nat) (f : CanFrame) : Bool × State :=
  let h := s.f (CAN_RX_IDX_hw n)
  if 256 ≤ (h + 512 - s.f (CAN_RX_IDX_sw n)) % 512 then
    let x := s.can n
    let s := s.setCan n { x with dropped := x.dropped + 1 }
    let s := s.addSat (CAN_RX_STAT_overflow n) 1
    if s.fb (CAN_EVENTS_rx_overflow n) then (false, s)
    else
      let s := (s.canEvent n (CAN_EVENTS_rx_overflow n)).engineRecord 6 0 0x0C2 (canScope n) 0 (x.dropped + 1)
      (false, s.setCan n { s.can n with dropped := 0 })
  else
    let a := s.rxBase n + 128 * (h % 256)
    let s := (s.dmaWr a 4 f.id.toNat).dmaWr (a + 4) 4 (f.flags.toNat + f.dlc * 256 + f.data.length % 256 * 65536 + 2 ^ 24)
    let s := ((s.dmaWr (a + 8) 8 s.dtNs).dmaWr (a + 0x10) 16 0).dmaWrBytes (a + 0x20) ((f.data ++ List.replicate 96 0).take 96)
    (true, ((s.setF (CAN_RX_IDX_hw n) (h + 1)).addWrap (CAN_RX_STAT_frames n) 1).canEvent n (CAN_EVENTS_rx n))

/-- A POINT_WRITE of T6's Q2 for a point, deferred to T6's step (log 11). -/
def writeReq (orig : Nat) (id : Nat) (sc : Scope) (p v : Nat) : Req :=
  ⟨BitVec.ofNat 16 orig, 0x0601, BitVec.ofNat 32 id, sc, 0, 0, false, true, 16, BitVec.ofNat 128 (p % 2 ^ 20 + v % 2 ^ 64 * 2 ^ 64)⟩

/-- The command entries that a frame matches become POINT_WRITEs (R392). -/
def State.canCommands (s : State) (n : Nat) (f : CanFrame) : State :=
  (s.maq.canCmds.filter fun c => c.ctrl == n && c.id % 2 ^ 30 == f.id.toNat % 2 ^ 30 && decide (4 + s.ptWidth c.point ≤ f.data.length)).foldl (fun s c =>
    let o := 0x400 + 128 * n + c.idx
    let x := s.can n
    let s := s.setCan n { x with answer := SMap.set 0 x.answer c.idx (f.flags.toNat % 4 + 256) }
    let r := writeReq o (leNat (f.data.take 4)) (s.ptScope c.point) c.point (leNat ((f.data.drop 4).take (s.ptWidth c.point)))
    s.serve .adapter (.queue 6 2) r fun s => s.pointWrite (.queue 6 2) r) s

/-- CAN_FRAME_RECEIVED. The controller does not store its own frames except in loopback, nor FD frames without fd_en. -/
def State.canReceive (s : State) (n : Nat) (f : CanFrame) : State :=
  if !s.fb (CAN_CTRL_en n) || decide (2 ≤ s.f (CAN_STATUS_state n)) then s
  else if (f.own && !s.fb (CAN_CTRL_loopback n)) || (f.flags.toNat % 2 == 1 && !s.fb (CAN_CTRL_fd_en n)) then s
  else
    let s := if f.own then s else s.canRxOk n
    match s.canStore n f with
    | (true, s) => (s.canPoints n f).canCommands n f
    | (false, s) => s

def execCanFrameReceived (n : Fin 8) (f : CanFrame) (s : State) : Out := s.onLine fun s => (s.canReceive n f)

/-! ## Frames that T6 sends (R391, R392) -/

/-- T6 writes a transmit entry and commits it; false where the queue is full. The tag is free for software: the point (log 11). -/
def State.canSend (s : State) (n id flags dlc : Nat) (data : List Byte) (tag : Nat) : Bool × State :=
  if 32 ≤ s.txCount n then (false, s)
  else
    let i := s.f (CAN_TX_IDX_sw n)
    let a := s.txEntry n i
    let s := (s.dmaWr a 4 id).dmaWr (a + 4) 4 (flags + dlc * 256 + dlcLen (flags % 2 == 1) dlc * 65536)
    let s := (((s.dmaWr (a + 8) 8 0).dmaWr (a + 0x10) 8 tag).dmaWr (a + 0x18) 8 0).dmaWrBytes (a + 0x20) ((data ++ List.replicate 96 0).take 96)
    (true, s.canCommit n (i + 1))

/-- The smallest data length code whose length is at least n. -/
def dlcFor (n : Nat) : Nat := ((List.range 16).find? fun d => n ≤ dlcLen true d).getD 15

/-- T6 commits the frame of a point's pending write (R391): the value in the point's bytes; the frame's other bytes are not stated: free. -/
def State.canWritePoint (s : State) (p : Nat) : State :=
  let n := s.ptPort p
  let node := s.rd (ptAddr p + 2) 2 / 256
  let w := s.ptWidth p
  [1, 2].foldl (fun s q =>
    let id : QId := .queue 6 (if q = 1 then 1 else 2)
    match (s.queue id).serving.find? (fun x => isWriteOf p x.req) with
    | none => s
    | some x =>
      let raw := ((s.ptRaw p (ptNumber (s.ptType p) (x.req.payload.toNat / 2 ^ 64))).toInt (-(2 ^ 63)) (2 ^ 64 - 1)).getD 0
      let v := if ptNumeric (s.ptType p) then ofSigned 64 raw else x.req.payload.toNat / 2 ^ 64
      let (o, s) := s.fresh
      let d := dlcFor (node + w)
      let rest := bytesOf o (dlcLen true d)
      let i := s.f (CAN_TX_IDX_sw n)
      match s.canSend n (s.rd (ptAddr p + 4) 4 % 2 ^ 30) (if 8 < d then 1 else 0) d (rest.take node ++ bytesOf v w ++ rest.drop (node + w)) p with
      | (false, s) => s
      | (true, s) =>
        let qq := s.queue id
        let s := s.setQueue id { qq with serving := qq.serving.filter fun y => !isWriteOf p y.req }
        s.setCan n { s.can n with queued := (s.can n).queued ++ [⟨i % 64, p, id, x.req⟩] }) s

/-- T6's answer to a command frame (R392): req_id, status, detail, in its format; a DUPLICATE with the stored outcome, nothing while that
is PENDING. -/
def State.canAnswer (s : State) (r : Result) : State :=
  let o := r.orig.toNat - 0x400
  let n := o / 128
  match s.maq.canCmds.find? fun c => c.ctrl == n && c.idx == o % 128 with
  | none => s
  | some c =>
    let st := if r.status = 4 then r.detail else r.status
    if st = 0 then s
    else
      let det := if r.status = 4 then s.storedDetail (.queue 6 2) r.orig r.reqId else r.detail
      (s.canSend n c.resp (SMap.get 0 (s.can n).answer c.idx % 256) 6 (bytesOf r.reqId.toNat 4 ++ bytesOf st 1 ++ bytesOf det 1) 0).2

end Sys2Proof.Machine
end

