-- ==== Sys2Proof/Machine/Plc.lean ====
section
/-!
DEFINITION. The site power-line modem and T6's link layer (R394 to R403).
-/
namespace Sys2Proof.Machine

def plcScope : Scope := unitScope 5 0
def State.plcEvent (s : State) (x : Fld) : State := s.setEvent x 6 siteScope [6]
def State.link (s : State) (k : Nat) : PlcLink := SMap.get PlcLink.reset s.plc.links k
def State.setLink (s : State) (k : Nat) (x : PlcLink) : State := { s with plc := { s.plc with links := SMap.set PlcLink.reset s.plc.links k x } }
def State.setBurst (s : State) (b : Option PlcBurst) : State := { s with plc := { s.plc with burst := b } }

def plcTx : Ring := ⟨PLC_TX_RING_base, PLC_TX_RING_size, PLC_TX_IDX_sw, PLC_TX_IDX_hw⟩
def plcRx : Ring := ⟨PLC_RX_RING_base, PLC_RX_RING_size, PLC_RX_IDX_sw, PLC_RX_IDX_hw⟩

/-! ## Segments (R399) -/

/-- Add a segment for pedestal k. -/
def State.addSeg (s : State) (k : Nat) (b : SegBody) : State :=
  let (v, s) := s.fresh
  let l := s.link k
  s.setLink k { l with segs := l.segs ++ [⟨none, 0, true, v % 2 ^ 32, b⟩] }

/-- The kind of a segment: data or sync. -/
def segKind : SegBody → Nat
  | .sync => 4
  | _ => 1

/-- The body: a result carries its record; what opcode and payload ask a pedestal to write or read an object is not stated: free. -/
def State.segBody (s : State) (g : PlcSeg) : List Byte × State :=
  match g.body with
  | .sync => ([], s)
  | .result r => (bytesOf 2 1 ++ bytesOf (resultNat r) 16, s)
  | _ =>
    let (o, s) := s.fresh
    (bytesOf 1 1 ++ bytesOf o 2 ++ bytesOf g.reqId 4 ++ bytesOf (o / 2 ^ 16) 16, s)

/-- A segment's bytes. -/
def segBytes (lsn kind ref : Nat) (body : List Byte) : List Byte :=
  bytesOf lsn 2 ++ bytesOf kind 1 ++ bytesOf body.length 1 ++ bytesOf ref 2 ++ bytesOf 0 2 ++ body

/-- The request or read of a segment that ends without an answer completes DISCARDED; how many requests. -/
def State.dropSeg (s : State) (g : PlcSeg) : Nat × State :=
  match g.body with
  | .write p q r =>
    let s := if s.writePending p then s else s.ptSetQuality p (withBit (s.ptQuality p) 5 false)
    (1, s.complete q r 3 0 0)
  | _ => (0, s)

/-- The due segments of pedestal k are placed: numbered at their first placing, one attempt more; those with 4 attempts are abandoned. -/
def State.placeSegs (s : State) (k : Nat) : List PlcSeg → List (Nat × Bool) × List Byte × State
  | [] => ([], [], s)
  | g :: t =>
    let l := s.link k
    if !g.due then
      let (a, b, s) := (s.setLink k { l with segs := l.segs ++ [g] }).placeSegs k t
      (a, b, s)
    else if 4 ≤ g.tries then (s.dropSeg g).2.placeSegs k t
    else
      let n := g.lsn.getD l.next
      let fresh := g.lsn.isNone
      let next := if fresh && g.body != .sync then (l.next + 1) % 65536 else l.next
      let (body, s) := s.segBody g
      let kept := if g.body = .sync then l.segs else l.segs ++ [{ g with lsn := some n, tries := g.tries + 1, due := false }]
      let (a, b, s) := (s.setLink k { l with next := next, segs := kept }).placeSegs k t
      (if g.body = .sync then a else (n, fresh) :: a, segBytes n (segKind g.body) 0 body ++ b, s)

/-- The acknowledgements for a pedestal; the lsn field of one is not stated: free. -/
def State.ackBytes (s : State) : List Nat → List Byte × State
  | [] => ([], s)
  | r :: t =>
    let (v, s) := s.fresh
    let (b, s) := s.ackBytes t
    (segBytes v 2 r [] ++ b, s)

/-- The burst header (R398). -/
def planBytes (p : PlcPlan) : List Byte :=
  bytesOf p.peer.toNat 2 ++ bytesOf p.profile 1 ++ bytesOf p.mode 1 ++ bytesOf p.tmap.toNat 1 ++ bytesOf p.rate 1 ++ bytesOf p.phases 1 ++ bytesOf 0 1 ++
    bytesOf p.symbols.toNat 2 ++ bytesOf 0 2 ++ bytesOf p.grant.toNat 2 ++ bytesOf 0 2

/-- T6 forms the cycle's burst and gives it to the modem. -/
def State.plcGive (s : State) (p : PlcPlan) : State :=
  let k := p.peer.toNat
  let l := s.link k
  let (ab, s) := (s.setLink k { l with segs := [], acks := [] }).ackBytes l.acks
  let (placed, sb, s) := s.placeSegs k l.segs
  let buf := planBytes p ++ ab ++ sb
  let i := s.f PLC_TX_IDX_sw
  let a := s.descAt plcTx i
  let s := ((s.dmaWrBytes s.maq.plcBuf buf).dmaWr a 8 s.maq.plcBuf).dmaWr (a + 8) 4 (buf.length % 65536 + 65536)
  (s.setF PLC_TX_IDX_sw ((i + 1) % s.ringSize plcTx)).setBurst (some ⟨i, k, placed, l.acks⟩)

/-- A burst returned discarded was never sent: its new segments lose their numbers, and everything in it is due again. -/
def State.unplace (s : State) (b : PlcBurst) : State :=
  let l := s.link b.peer
  let new := (b.placed.filter (·.2)).length
  let segs := l.segs.map fun g => match b.placed.find? fun x => some x.1 == g.lsn with
    | some x => { g with lsn := if x.2 then none else g.lsn, tries := g.tries - 1, due := true }
    | none => g
  s.setLink b.peer { l with next := (l.next + 65536 - new) % 65536, segs := segs, acks := b.acks ++ l.acks }

/-- The next transmit descriptor returns discarded. -/
def State.plcReturn (s : State) (refused : Bool) : State :=
  let h := s.f PLC_TX_IDX_hw
  let s := (s.descStatus (s.descAt plcTx h) 8).ringNext plcTx
  let s := match s.plc.burst with
    | some b => if b.idx = h then (s.unplace b).setBurst none else s
    | none => s
  let s := s.addSat PLC_STATS_discarded 1
  (if refused then s.addSat PLC_TX_ERR_refused 1 else s).plcEvent PLC_EVENTS_discarded

/-- Return every transmit descriptor not begun. -/
def State.plcReturnAll (s : State) (refused : Bool) : State := s.each (List.range (s.ringUsed plcTx)) fun s _ => s.plcReturn refused

/-! ## The modem (R398, R402) -/

/-- Pending writes of pedestal points become request segments in the first cycle after acceptance (R401). -/
def State.plcTakeWrites (s : State) : State :=
  [1, 2].foldl (fun s q =>
    let id : QId := .queue 6 (if q = 1 then 1 else 2)
    let isPlc := fun (x : Queued) => x.req.opcode == 0x0601 && s.ptProto (x.req.payload.toNat % 2 ^ 20) == 4
    let qq := s.queue id
    let out := qq.serving.filter isPlc
    let s := s.setQueue id { qq with serving := qq.serving.filter fun x => !isPlc x }
    out.foldl (fun s x =>
      let p := x.req.payload.toNat % 2 ^ 20
      s.addSeg (s.rd (ptAddr p + 2) 2 / 256) (.write p id x.req)) s) s

/-- CK_PHU ticks into the running cycle: cycles start at the frame epoch + k cycles. -/
def State.plcPhase (s : State) : Nat := (s.now - s.epoch) % (400000 * s.f PLC_CFG_cycle)

/-- PLC_CYCLE_START: what is left of the ending cycle returns discarded, T6 executes its RINSE, and the new burst is given. -/
def State.plcCycle (s : State) (plan : Option PlcPlan) (noise : Nat) : State :=
  if !s.fb PLC_CTRL_en || s.plcPhase != 0 then s
  else
    let s := (s.plcReturnAll true).setF PLC_NOISE_floor noise
    let s := ((s.plcEvent PLC_EVENTS_cycle).rinse 9 0).2.plcTakeWrites
    match plan with
    | some p => s.plcGive p
    | none => s

def execPlcCycleStart (plan : Option PlcPlan) (noise : BitVec 16) (s : State) : Out := s.onLine fun s => (s.plcCycle plan noise.toNat)

/-- PLC_BURST_SENT; `sent` false: the burst would have passed the end of the downlink window, and its descriptor returns discarded. None is sent after
that end. -/
def State.plcSent (s : State) (sent : Bool) : State :=
  if !s.fb PLC_CTRL_en || s.ringUsed plcTx == 0 then s
  else if sent && decide (s.plcPhase ≤ 400000 * s.f PLC_CFG_dl_max) then
    let h := s.f PLC_TX_IDX_hw
    let s := (s.descStatus (s.descAt plcTx h) 2).ringNext plcTx
    (s.setBurst (match s.plc.burst with
      | some b => if b.idx = h then none else some b
      | none => none)).plcEvent PLC_EVENTS_tx
  else s.plcReturn true

def execPlcBurstSent (sent : Bool) (s : State) : Out := s.onLine fun s => (s.plcSent sent)

/-- Every segment awaiting acknowledgement is abandoned; the number of requests they carried. -/
def State.plcAbandon (s : State) : Nat × State :=
  let segs := s.plc.links.flatMap fun x => x.2.segs
  let s := { s with plc := { s.plc with links := s.plc.links.map fun x => (x.1, { x.2 with segs := [] }), burst := none } }
  segs.foldl (fun (a : Nat × State) g => let (n, s) := a.2.dropSeg g; (a.1 + n, s)) (0, s)

/-- What R402 discards. -/
def State.plcDiscard (s : State) : Nat × State := (s.plcReturnAll false).plcAbandon

/-- Clearing PLC.CTRL.en (R402). -/
def State.plcDisable (s : State) : State :=
  if s.fb PLC_CTRL_en then
    let (n, s) := (s.setF PLC_CTRL_en 0).plcDiscard
    s.portDisable 6 plcScope n
  else s

def execPlcDisable (w : Fin 8) (s : State) : Out := .next (s.guarded w 6 PLC_CTRL s.plcDisable)

/-- Enabling: T6 sends each pedestal a sync with a new starting lsn (R399): a free value. -/
def State.plcEnable (s : State) : State :=
  if s.fb PLC_CTRL_en then s
  else (s.setF PLC_CTRL_en 1).each s.maq.pedestals fun s k =>
    let (v, s) := s.fresh
    (s.setLink k { s.link k with next := v % 65536 }).addSeg k .sync

/-- A write of PLC.CTRL. -/
def State.writePlcCtrl (s : State) (v : Nat) : State :=
  let s := s.setF PLC_CTRL_blank_en (v / 2)
  if v % 2 = 1 then s.plcEnable else s.plcDisable

/-- A write of PLC.CFG: ignored while en is 1. -/
def State.writePlcCfg (s : State) (v : Nat) : State :=
  if s.fb PLC_CTRL_en then s
  else
    let cy := max 10 (min 40 (v / 2 % 64))
    s.setAll [(PLC_CFG_coupling, v), (PLC_CFG_cycle, cy), (PLC_CFG_dl_max, min (v / 128 % 64) (cy - 2)), (PLC_CFG_blank_th, v / 8192)]

/-! ## Reception (R399 to R401) -/

/-- The segments of a payload: lsn, kind, ref, body. -/
def parseSegs : Nat → List Byte → List (Nat × Nat × Nat × List Byte)
  | 0, _ => []
  | n + 1, l =>
    if l.length < 8 then []
    else
      let len := leNat ((l.drop 3).take 1)
      (leNat (l.take 2), leNat ((l.drop 2).take 1), leNat ((l.drop 4).take 2), (l.drop 8).take len) :: parseSegs n (l.drop (8 + len))

/-- A request of pedestal k (R400). -/
def State.plcRequest (s : State) (k : Nat) (body : List Byte) : State :=
  let op := leNat ((body.drop 1).take 2)
  let pay := leNat ((body.drop 7).take 16)
  let r : Req := ⟨BitVec.ofNat 16 (0x100 + k), BitVec.ofNat 16 op, BitVec.ofNat 32 (leNat ((body.drop 3).take 4)),
    if op = 0x0601 then s.ptScope (pay % 2 ^ 20) else plcScope, 0, 0, false, true, BitVec.ofNat 8 (min 16 (body.length - 7)), BitVec.ofNat 128 pay⟩
  s.serve .adapter (.queue 6 2) r fun s => if op = 0x0601 then s.pointWrite (.queue 6 2) r else s.rejectFree (.queue 6 2) r

/-- A result of pedestal k for a request segment (R401). -/
def State.plcResult (s : State) (k : Nat) (body : List Byte) : State :=
  let st := leNat ((body.drop 3).take 1)
  let id := leNat ((body.drop 5).take 4)
  let v := leNat ((body.drop 9).take 8)
  let l := s.link k
  match l.segs.find? (fun g => g.reqId == id && (match g.body with | .write _ _ _ => true | .read _ => true | _ => false)) with
  | none => s
  | some g =>
    let s := s.setLink k { l with segs := l.segs.filter fun x => x != g }
    match g.body with
    | .write p q r =>
      let s := if s.writePending p then s else s.ptSetQuality p (withBit (s.ptQuality p) 5 false)
      if st = 3 ∨ st = 5 then s.complete q r 3 0 0 else s.complete q r 1 0 (BitVec.ofNat 64 (r.payload.toNat / 2 ^ 64))
    | .read p => if st = 1 ∨ st = 4 then s.pointAnswer ⟨BitVec.ofNat 20 p, .octets (BitVec.ofNat 64 v)⟩ else s.pointAnswer ⟨BitVec.ofNat 20 p, .exception⟩
    | _ => s

/-- A report of pedestal k: every point of the object takes its value (R401). -/
def State.plcReport (s : State) (k : Nat) (body : List Byte) : State :=
  let obj := leNat ((body.drop 1).take 4)
  let v := leNat ((body.drop 5).take 8)
  let l := s.ptList.filter fun p => s.ptUsed p && s.ptProto p == 4 && s.rd (ptAddr p + 2) 2 / 256 == k && s.rd (ptAddr p + 4) 4 == obj
  l.foldl (fun s p => s.pointReport ⟨BitVec.ofNat 20 p, .octets (BitVec.ofNat 64 v)⟩) s

/-- A data segment is delivered by its type byte. -/
def State.plcDeliver (s : State) (k : Nat) (body : List Byte) : State :=
  match leNat (body.take 1) with
  | 1 => s.plcRequest k body
  | 2 => s.plcResult k body
  | 3 => s.plcReport k body
  | _ => s

/-- An acknowledged segment: a request waits for its result, and is not sent again; every other one has ended. -/
def acked (x : PlcSeg) : Option PlcSeg :=
  match x.body with
  | .write _ _ _ => some { x with tries := 100, due := false }
  | .read _ => some { x with tries := 100, due := false }
  | _ => none

/-- One segment of a burst of pedestal k: a sync clears the set; a data segment already accepted is dropped, and acknowledged again; an
acknowledged segment of the device ends; a negative acknowledgement makes it due. -/
def State.plcSegment (s : State) (k : Nat) (g : Nat × Nat × Nat × List Byte) : State :=
  let (lsn, kind, ref, body) := g
  let l := s.link k
  match kind with
  | 1 =>
    if l.seen.contains lsn then s.setLink k { l with acks := l.acks ++ [lsn] }
    else (s.setLink k { l with seen := (lsn :: l.seen).take 64, acks := l.acks ++ [lsn] }).plcDeliver k body
  | 2 =>
    s.setLink k { l with segs := l.segs.filterMap fun x => if x.lsn = some ref then acked x else some x }
  | 3 => s.setLink k { l with segs := l.segs.map fun x => if x.lsn = some ref then { x with due := true } else x }
  | 4 => s.setLink k { l with seen := [] }
  | _ => s

/-- A segment without an acknowledgement in the receiver's next burst is sent again, and after 4 attempts abandoned
(R399); an acknowledged one waits for its result. -/
def State.plcRetry (s : State) (k : Nat) : State :=
  let l := s.link k
  let open4 := fun (x : PlcSeg) => x.lsn.isSome && decide (4 ≤ x.tries) && decide (x.tries < 100)
  let s := s.setLink k { l with segs := (l.segs.filter fun x => !open4 x).map fun x => if x.lsn.isSome ∧ x.tries < 100 then { x with due := true } else x }
  (l.segs.filter open4).foldl (fun s g => (s.dropSeg g).2) s

/-- PLC_BURST_RECEIVED: the buffer as the modem writes it, Reed-Solomon bytes corrected, impulses blanked. -/
def State.plcReceive (s : State) (buf : List Byte) (fixed impulses : Nat) : State :=
  if !s.fb PLC_CTRL_en then s
  else
    let bad := leNat ((buf.drop 7).take 1) != 0
    let s := ((s.addWrap PLC_STATS_bursts 1).addSat PLC_RX_ERR_rs_fixed fixed).addWrap PLC_NOISE_impulses impulses
    let s := if bad then (s.addSat PLC_STATS_bad 1).plcEvent PLC_EVENTS_rx_bad else s
    match s.ringReceive plcRx buf 2 with
    | (false, s) => s.addSat PLC_RX_ERR_descr 1
    | (true, s) =>
      let s := s.plcEvent PLC_EVENTS_rx
      let k := leNat (buf.take 2)
      if bad then s else ((parseSegs buf.length (buf.drop 16)).foldl (fun s g => s.plcSegment k g) s).plcRetry k

def execPlcBurstReceived (buf : List Byte) (fixed impulses : Nat) (s : State) : Out := s.onLine fun s => (s.plcReceive buf fixed impulses)

/-- T6 answers a pedestal's request with a data segment; nothing while the stored status is PENDING (R400). -/
def State.plcAnswer (s : State) (r : Result) : State :=
  if r.status = 4 ∧ r.detail = 0 then s
  else
    let st := if r.status = 4 then r.detail else r.status
    let det := if r.status = 4 then s.storedDetail (.queue 6 2) r.orig r.reqId else r.detail
    s.addSeg (r.orig.toNat - 0x100) (.result { r with status := st, detail := det })

/-- T6 answers the results that have come for CAN nodes and pedestals since it last did (R392, R400). -/
def State.sendAnswers (s : State) : State :=
  let l := s.outbox.drop s.answered
  l.foldl (fun s r =>
    let o := r.orig.toNat
    if 0x100 ≤ o ∧ o ≤ 0x1FF then s.plcAnswer r else if 0x400 ≤ o ∧ o ≤ 0x7FF then s.canAnswer r else s) { s with answered := s.outbox.length }

end Sys2Proof.Machine
end

