-- ==== Sys2Proof/Machine/Scan.lean ====
section
/-!
DEFINITION. T6's scan cycles, SCAN_NOW, OVERRIDE, HIST_READ and the Modbus service (R364 to R373, R380).
-/
namespace Sys2Proof.Machine

/-! ## Scan cycles (R365, R366) -/

/-- A point of SC0 to SC5 whose read was not answered: stale and uncertain after 3 cycles, bad after 10 (R363). -/
def State.missPoint (s : State) (p : Nat) : State :=
  let m := SMap.get 0 s.net.missed p + 1
  let s := { s with net := { s.net with missed := SMap.set 0 s.net.missed p m } }
  let q := s.ptQuality p
  let hi := q / 8 * 8 + 4
  if m = 3 then (s.ptSetQuality p (hi + 1)).histPoint p
  else if m = 10 then (s.ptSetQuality p (hi + 2)).histPoint p else s

/-- A read of point p that waits for the power line is dropped. -/
def State.dropPlcReads (s : State) (ps : List Nat) : State :=
  let keep := fun (g : PlcSeg) => match g.body with
    | .read p => !ps.contains p
    | _ => true
  { s with plc := { s.plc with links := s.plc.links.map fun x => (x.1, { x.2 with segs := x.2.segs.filter keep }) } }

/-- The cycle of class k ends: unanswered reads are dropped, unacknowledged writes complete DISCARDED, SC7's SCAN_NOW requests complete. -/
def State.scanEnd (s : State) (k : Nat) : State :=
  let s := (s.classSent k).foldl (fun s p => s.endWrite p 3) s
  let s := if k < 6 then s.each (s.classReads k) State.missPoint else s
  let s := ((s.dropPlcReads (s.classReads k)).setSent k []).setReads k []
  let s := if k = 7 then
      let got := s.net.answered
      let s := s.net.scanIds.foldl (fun s (r : Req) =>
        let lo := r.payload.toNat % 2 ^ 20
        let n := (got.filter fun p => lo ≤ p ∧ p ≤ lo + r.payload.toNat / 2 ^ 20 % 512).length
        s.finishServing (.queue 6 1) (fun x => x == r) 1 0 (BitVec.ofNat 64 n)) s
      { s with net := { s.net with answered := [], scanIds := [] } }
    else s
  { s with net := { s.net with running := s.net.running.filter (· != k) } }

/-- Read a device register for a point of protocol 5. -/
def State.readDevice (s : State) (p : Nat) : State :=
  match s.regRead 6 (s.rd (ptAddr p + 4) 4) with
  | some (v, s) => (s.setReads (s.ptClass p) ((s.classReads (s.ptClass p)).filter (· != p))).ptAcquire p (.int v 32)
  | none => s

/-- The reads that a cycle of class k sends: every used point of a source that is read by request, or those that SCAN_NOW names. -/
def State.scanReads (s : State) (k : Nat) : List Nat :=
  let asked := fun p => s.ptUsed p && s.ptProto p != 0 && s.ptProto p != 3
  if k = 6 then [] else if k = 7 then s.net.scanNow.filter asked else (s.classPoints k).filter asked

/-- The read of point p goes out: a device register is read at once, a pedestal's object by a segment. -/
def State.sendRead (s : State) (p : Nat) : State :=
  match s.ptProto p with
  | 4 => s.addSeg (s.rd (ptAddr p + 2) 2 / 256) (.read p)
  | 5 => s.readDevice p
  | _ => s

/-- The pending writes of class k go out: Modbus ones are sent in this cycle, those of CAN nodes into a transmit queue. -/
def State.sendWrites (s : State) (k : Nat) : State :=
  let l := s.ptList.filter fun p => s.ptClass p == k && s.writePending p
  (l.filter fun p => s.ptProto p == 3).foldl State.canWritePoint (s.setSent k (l.filter fun p => s.ptProto p == 1 || s.ptProto p == 2))

/-- A cycle of SC6 takes every queued report. -/
def State.takeReports (s : State) : State :=
  s.net.reports.foldl (fun s a => s.ptAcquire a.point.toNat a.ans) { s with net := { s.net with reports := [] } }

/-- The SCAN_NOW requests that wait are served by the cycle of SC7 that begins. -/
def State.takeScans (s : State) : State :=
  let ids := ((s.queue (.queue 6 1)).serving.filter fun x => x.req.opcode == 0x0602).map (·.req)
  { s with net := { s.net with scanIds := ids, scanNow := [] } }

/-- A cycle of class k begins: the previous one has ended; the rinse; writes; reads; an SC6 cycle takes every queued report. -/
def State.scanBegin (s : State) (k : Nat) : State :=
  let s := (s.scanEnd k).rinse 4 k |>.2
  if s.f NET_PT_CTRL_class_en / 2 ^ k % 2 = 0 then s
  else
    let s := (s.sendWrites k).setReads k (s.scanReads k)
    let s := if k = 7 then s.takeScans else s
    let s := { s with net := { s.net with running := k :: s.net.running } }
    let s := if k = 6 then s.takeReports else s
    let s := s.each (s.classReads k) State.sendRead
    (s.classPoints k).foldl State.histPoint s

/-- T6's scan step at the tick of slot k (R365), with the share of the last cycle in use. -/
def State.scanStep (s : State) (k load : Nat) : State :=
  let s := (s.scanBegin k).sendAnswers
  if k < 6 then
    s.setAll [(NET_CLASS_STAT_load k, min 255 load), (NET_CLASS_STAT_stale k, min 255 ((s.classPoints k).filter fun p => s.ptQuality p / 4 % 2 == 1).length)]
  else s

/-- T6 after a restart: every good value is uncertain until its next acquisition (R364). -/
def State.markUncertain (s : State) : State :=
  s.ptList.foldl (fun s p => if s.ptQuality p % 32 = 0 ∧ s.ptUsed p then s.ptSetQuality p (s.ptQuality p + 1) else s) s

/-- An F2 or higher fault on a source port: its reads and writes in flight go, and its points show source fault (R380). -/
def State.sourceFault (s : State) (sc : Scope) : State :=
  (s.sourcePoints sc).foldl (fun s p => s.ptSetQuality p (withBit (s.ptQuality p) 3 true)) (s.sourceDrop sc)

/-! ## SCAN_NOW, OVERRIDE, HIST_READ (R370, R371) -/

/-- T6's step for SCAN_NOW. -/
def State.scanNow (s : State) (r : Req) : State :=
  let p := r.payload.toNat % 2 ^ 20
  if p = 0 then s.reject (.queue 6 1) r 0x01
  else
    let s := s.defer (.queue 6 1) r
    ({ s with net := { s.net with scanNow := s.net.scanNow ++ (List.range (r.payload.toNat / 2 ^ 20 % 512 + 1)).map (p + ·) } }).kick 6 7

def execScanNow (sd : Sender) (r : Req) (s : State) : Out := .next (s.serve sd (.queue 6 1) r fun s => s.scanNow r)

/-- Whether a request comes from T0 or T7. -/
def fromT0T7 (r : Req) : Bool := r.origId == 1 || r.origId == 8

/-- DONE where the spec defines no result value: a free value (log 6). -/
def State.doneFree (s : State) (q : QId) (r : Req) : State := s.fresh.2.done q r s.fresh.1

/-- T6's step for OVERRIDE. -/
def State.overridePoint (s : State) (r : Req) : State :=
  let q : QId := .queue 6 1
  let p := r.payload.toNat % 2 ^ 20
  if p = 0 then s.reject q r 0x01
  else if !fromT0T7 r then s.rejectFree q r
  else if r.payload.toNat / 2 ^ 32 % 2 = 1 then
    let s := (if s.writePending p then s.endWrite p 3 else s).dropOldWrites p
    ((s.ptUpdate p (r.payload.toNat / 2 ^ 64) s.ptNow (s.ptQuality p / 32 * 32 + 16 + s.ptQuality p / 4 % 4 * 4 + 1)).histPoint p).doneFree q r
  else ((s.ptSetQuality p (withBit (s.ptQuality p) 4 false)).histPoint p).doneFree q r

def execOverride (sd : Sender) (r : Req) (s : State) : Out := .next (s.serve sd (.queue 6 1) r fun s => s.overridePoint r)

/-- The blocks of the history ring that hold anything, oldest first. -/
def State.histBlocks (s : State) : List Nat :=
  let l := dedup ((s.mem.filter fun c => emmcKey 0 ≤ c.1 ∧ c.1 < emmcKey (512 * s.f (NET_BT_WIN_SIZE_blocks 0))).map fun c => (c.1 - emmcKey 0) / 4096)
  l.filter (s.net.nextBlk ≤ ·) ++ l.filter (· < s.net.nextBlk)

/-- The records of point p from a time on in block b: none of a block whose magic or CRC fails (R373). -/
def State.histFrom (s : State) (p t b : Nat) : List Nat :=
  let k := emmcKey (4096 * b)
  let body := s.rdBytes k 4096
  if s.rd k 4 ≠ 0x484E5645 ∨ crc32 (body.take 4 ++ bytesOf 0 4 ++ body.drop 8) ≠ s.rd (k + 4) 4 then []
  else
    let base := s.rd (k + 0x10) 8
    ((List.range (min 252 (s.rd (k + 0x18) 2))).map fun i => s.rd (k + 0x40 + 16 * i) 16).filter fun v =>
      v / 2 ^ 64 % 2 ^ 20 == p && decide (t ≤ base + v / 2 ^ 92 * 256)

/-- T6's step for HIST_READ: up to 255 records, one after the other, to the requester's DRAM. -/
def State.histRead (s : State) (r : Req) : State :=
  let q : QId := .queue 6 1
  let p := r.payload.toNat % 2 ^ 20
  if p = 0 then s.reject q r 0x01
  else if !fromT0T7 r then s.rejectFree q r
  else
    let l := (s.histBlocks.flatMap fun b => s.histFrom p (r.payload.toNat / 2 ^ 32 % 2 ^ 32 * 1000000000) b).take 255
    (s.dmaWrBytes (r.payload.toNat / 2 ^ 64) (l.flatMap fun v => bytesOf v 16)).done q r l.length

def execHistRead (sd : Sender) (r : Req) (s : State) : Out := .next (s.serve sd (.queue 6 1) r fun s => s.histRead r)

/-! ## Modbus service (R368, R369) -/

/-- The originator of a Modbus command. -/
def modbusOrig : ModbusSrc → BitVec 16
  | .tcp k _ _ => BitVec.ofNat 16 (0x1000 + k)
  | .rtu u => BitVec.ofNat 16 (0x1100 + u)

/-- The number of UART u's frame: its predecessor's for an equal frame within 1 s, else the next. -/
def State.rtuCount (s : State) (u addr : Nat) (v : Option Nat) : Nat :=
  let x := SMap.get RtuLast.reset s.net.rtu u
  if x.frame = some (addr, v) ∧ s.now ≤ x.at_ + 400000000 then x.count else (x.count + 1) % 2 ^ 32

/-- The request ID of a Modbus command: a read, or a write of a value. -/
def State.modbusId (s : State) (src : ModbusSrc) (addr : Nat) (v : Option Nat) : BitVec 32 :=
  match src with
  | .tcp _ conn tid => conn ++ tid
  | .rtu u => BitVec.ofNat 32 (s.rtuCount u addr v)

/-- The frame of an RTU master is kept as its last one. -/
def State.modbusKeep (s : State) (src : ModbusSrc) (addr : Nat) (v : Option Nat) : State :=
  match src with
  | .tcp _ _ _ => s
  | .rtu u => { s with net := { s.net with rtu := SMap.set RtuLast.reset s.net.rtu u ⟨s.rtuCount u addr v, s.now, some (addr, v)⟩ } }

/-- Whether a Modbus command can come: by TCP over a PHY, by RTU over a UART (R120). -/
def State.modbusUp (s : State) : ModbusSrc → Bool
  | .tcp _ _ _ => s.lineUp
  | .rtu _ => s.clocked

/-- An answer of the server without a request in the queue. -/
def State.modbusAnswer (s : State) (src : ModbusSrc) (addr : Nat) (v : Option Nat) (exc : Option Nat) (value : DWord) : State :=
  let id := s.modbusId src addr v
  let s := s.modbusKeep src addr v
  { s with modbus := s.modbus ++ [⟨modbusOrig src, id, exc, value⟩] }

/-- MODBUS_WRITE: an address without a map entry answers exception 0x02; every other write becomes a POINT_WRITE in T6's Q2. -/
def execModbusWrite (src : ModbusSrc) (addr : Nat) (v : BitVec 64) (s : State) : Out :=
  let p := SMap.get 0 s.maq.modbusMap addr
  .next (if !s.modbusUp src then s
    else if p = 0 then s.modbusAnswer src addr (some v.toNat) (some 2) 0
    else
      let r : Req := ⟨modbusOrig src, 0x0601, s.modbusId src addr (some v.toNat), s.ptScope p, 0, 0, false, true, 16, v ++ BitVec.ofNat 64 p⟩
      (s.modbusKeep src addr (some v.toNat)).serve .adapter (.queue 6 2) r fun s => s.pointWrite (.queue 6 2) r)

/-- MODBUS_READ: answered at once from the descriptor. -/
def execModbusRead (src : ModbusSrc) (addr : Nat) (s : State) : Out :=
  let p := SMap.get 0 s.maq.modbusMap addr
  .next (if !s.modbusUp src then s
    else if p = 0 then s.modbusAnswer src addr none (some 2) 0 else s.modbusAnswer src addr none none (BitVec.ofNat 64 (s.ptValue p)))

end Sys2Proof.Machine
end

