-- ==== Sys2Proof/Machine/Faults.lean ====
section
/-!
DEFINITION. Modes and what a fault brings: the mode register and the HOLD causes, the discards of a fault at the units, the power-fail
clamp and the shutdown sequence (R19, R41 to R44, R91, R95, R120, R141 to R147).
-/
namespace Sys2Proof.Machine

/-! ## Causes of T7's site F3 besides an engine (R143) -/

def f3Estop : Nat := 8
def f3Hold : Nat := 9
def f3Ecc : Nat := 10
def f3Sram : Nat := 11
def f3Image : Nat := 12

/-! ## The mode (R141 to R144) -/

def modeBoot : Nat := 1
def modeIdle : Nat := 2
def modeRun : Nat := 3
def modeHold : Nat := 4
def modeService : Nat := 5

def State.devMode (s : State) : Nat := s.f SEC_MODE_mode

/-- A bit of PWR or SEC that posts to T7. -/
def State.sysEvent (s : State) (x : Fld) : State := s.setEvent x 7 siteScope [7]

/-- T7 writes SEC.MODE.mode: values other than 1 to 5 are ignored; a change counts, and posts to every engine. -/
def State.setMode (s : State) (m : Nat) : State :=
  if m < 1 ∨ 5 < m ∨ s.devMode = m then s
  else
    (((s.setF SEC_MODE_mode m).setF SEC_DBG_STAT_granted (min (s.f SEC_DBG_STAT_granted) (debugMax m))).addSat SEC_MODE_changes 1).unitRecord 7 7 0x180 siteScope 0 SEC_MODE [0, 1, 2, 3, 4, 5, 6, 7]

/-- The ramp of connector c at a HOLD entry: the reference to zero within 100 ms, at its down-slew rate or a faster one (R144). A
quarter of an ampere in 100 ms takes 10 A/s. -/
def State.rampDown (s : State) (c : Nat) : State :=
  if s.leadOf c = 0 then s
  else
    let need := (s.fi (CONN_IREF_iref c)).natAbs / 2 ^ 18 + 1
    let s := s.writeIset c 0
    s.setF (CONN_ISLEW_down c) (max need (s.f (CONN_ISLEW_down c)))

/-- Table steps at the entry into HOLD (R144). -/
def State.holdEntry (s : State) : State := s.each (List.range 8) State.rampDown

/-- A cause bit takes its value; a bit that becomes 1 posts. -/
def State.causeBit (s : State) (x : Fld) (b : Bool) : State := if b && !s.fb x then s.sysEvent x else s.setB x b

/-- The HOLD causes present (R143). -/
def State.syncCauses (s : State) : State :=
  let s := s.causeBit SEC_MODE_hc_f3 (s.trips.any fun t => t.cls == 3 && t.scope == siteScope)
  let s := s.causeBit SEC_MODE_hc_feed ((s.pwr.feedA.judged && !s.fb (PWR_FEED_HEALTH_healthy 0)) || (s.pwr.feedB.judged && !s.fb (PWR_FEED_HEALTH_healthy 1)))
  let s := s.causeBit SEC_MODE_hc_estop (s.fb SEC_ESTOP_tripped)
  s.causeBit SEC_MODE_hc_discrepancy (s.fb SEC_ESTOP_discrepancy)

/-- Whether a HOLD cause stands. -/
def State.anyCause (s : State) : Bool := s.fb SEC_MODE_hc_f3 || s.fb SEC_MODE_hc_feed || s.fb SEC_MODE_hc_estop || s.fb SEC_MODE_hc_discrepancy

/-- The causes as they stand, and what T7 does about the mode: IDLE and RUN give way to HOLD, and HOLD without cause or enabled phase unit
to IDLE (R142). -/
def State.syncMode (s : State) : State :=
  let s := s.syncCauses
  if s.anyCause && (s.devMode == modeIdle || s.devMode == modeRun) then (s.setMode modeHold).holdEntry
  else if !s.anyCause && s.devMode == modeHold && !s.phuAny then s.setMode modeIdle
  else s

/-! ## Records of declared faults (R94, R95) -/

/-- The record of a fault: T7 and the engine that orig names; for class F2 or higher every engine but T4. -/
def State.faultRecord (s : State) (e cls num : Nat) (sc : Scope) (orig detail : Nat) : State :=
  if 2 ≤ cls then s.unitRecord cls e num sc orig detail [0, 1, 2, 3, 5, 6, 7] else s.engineRecord e cls num sc orig detail

/-- A number of an engine's own records where the spec names none: a free value outside the numbers of R465 (log 6). -/
def State.freeNum (s : State) : Nat × State := (0x20 + s.fresh.1 % 0xE0, s.fresh.2)

/-! ## What a fault discards at the units (R43, R95): each engine's own part, by table step -/

/-- The generators of engine e's connectors within a scope stop, and the ramps to zero that follow are new work (R41, R215). -/
def State.stopConns (s : State) (e : Nat) (within : Scope → Bool) : State :=
  s.each (List.range 8) fun s c => if within (connScope c) && s.fb (CONN_CTRL_en c) && s.connEng c == e then (s.connHold c).writeIset c 0 else s

/-- The pulses in flight of engine e's phase units within a scope are truncated. -/
def State.cutPulses (s : State) (e : Nat) (within : Scope → Bool) : State :=
  s.each (List.range 256) fun s n => if within (phaseScope n) && phuEng n == e then s.forceOff n else s

/-- The frames of engine e's Ethernet ports within a scope that are not handed to the line (R375). -/
def State.dropEth (s : State) (e : Nat) (within : Scope → Bool) : State :=
  s.each (List.range 6) fun s n => if within (unitScope 3 n) && ethEng n == e then s.ethDiscard n false else s

/-- The CAN controllers of a list within a scope discard their queues (R393); the number of requests. -/
def State.dropCans (s : State) (within : Scope → Bool) : List Nat → Nat × State
  | [] => (0, s)
  | n :: t =>
    let (a, s) := if within (canScope n) && s.txCount n != 0 then s.canDiscard n false else (0, s)
    let (b, s) := s.dropCans within t
    (a + b, s)

/-- What the CAN controllers and the modem within a scope have not handed to the line (R393, R402); the number of requests that these frames
carried. -/
def State.dropFrames (s : State) (within : Scope → Bool) : Nat × State :=
  let (a, s) := s.dropCans within (List.range 8)
  let (b, s) := if within plcScope then s.plcDiscard else (0, s)
  (a + b, s)

/-- T6's other messages within a scope, and the reads and writes of its source ports in it (R380). -/
def State.dropMessages (s : State) (within : Scope → Bool) : State :=
  let s := (s.dropEth 6 within).each (List.range 4) fun s u => if within (unitScope 2 u) then s.uartDiscard u false else s
  let ports := ((List.range 6).map (unitScope 3)) ++ ((List.range 4).map (unitScope 2)) ++ ((List.range 8).map canScope) ++ [plcScope]
  (ports.filter within).foldl State.sourceFault s

/-- A power engine that declares or receives a site fault scrubs its staged commands (R91, R144). -/
def State.scrubAll (s : State) (e : Nat) : State := s.setEng e { s.eng e with staging := [] }

/-- Engine e carries out its part of the discard at the units of a trip's scope. Block transfers belong to the site (R41). -/
def State.unitSide (s : State) (t : Trip) (e : Nat) : State :=
  let within := fun x => inScope t.scope t.groups t.relays x
  if e = 0 then s.dropEth 0 within
  else if e = 1 then s.stopConns 1 within
  else if e = 2 ∨ e = 3 then ((if 3 ≤ t.cls then s.scrubAll e else s).cutPulses e within).stopConns e within
  else if e = 6 then (if within siteScope then (s.dropMessages within).histAbandon else s.dropMessages within)
  else if e = 7 then (if within siteScope then s.btDrop 1 else s)
  else s

/-- The engines with a part in the discard at the units. -/
def unitEngines : List Nat := [0, 1, 2, 3, 6, 7]

/-- Whether engine e has work without a request in a scope (R44): pulses, frames, transfers. -/
def State.hasItems (s : State) (within : Scope → Bool) (e : Nat) : Bool :=
  let eth := (List.range 6).any fun n => within (unitScope 3 n) && ethEng n == e &&
    s.ringUsed ⟨NET_ETH_TX_RING_base n, NET_ETH_TX_RING_size n, NET_ETH_TX_IDX_sw n, NET_ETH_TX_IDX_hw n⟩ != 0
  let pulses := (List.range 256).any fun n => within (phaseScope n) && phuEng n == e && s.fb (PHU_STATUS_gate n)
  let uart := (List.range 4).any fun u => within (unitScope 2 u) &&
    s.ringUsed ⟨NET_U_TX_RING_base u, NET_U_TX_RING_size u, NET_U_TX_IDX_sw u, NET_U_TX_IDX_hw u⟩ != 0
  let can := (List.range 8).any fun n => within (canScope n) && s.txCount n != 0
  let bt := fun b => within siteScope && s.f (NET_BT_STATUS_state b) == 1
  eth || pulses || (e == 6 && (uart || can || (within plcScope && s.ringUsed plcTx != 0) || bt 0)) || (e == 7 && bt 1)

/-! ## The power-fail timeline (R120, R135, R147) -/

/-- Steps 2 and 3: lanes parked, coil drivers released, the clocks of T0, T1, T5 and T6 divided by 4, the transceivers down with what has not
reached the line dropped, LPDDR4X asleep. -/
def State.powerClamp (s : State) : State :=
  let s := (s.parkAll 4).releaseCoils
  let s := { s with pwr := { s.pwr with div4 := true, dramAsleep := true } }
  (((s.dropEth 0 fun _ => true).dropEth 6 fun _ => true).dropFrames fun _ => true).2.histAbandon.btDrop 1

/-- The shutdown sequence begins with a cause; after PFW, or in a sequence that runs already, the timeline goes on from where it stands
(R136). -/
def State.shutdownStart (s : State) (cause : Nat) : State :=
  if s.pwr.cause ≠ 0 then s
  else
    let s := { s with pwr := { s.pwr with cause := cause, causeAt := s.now } }
    if s.fb PWR_STATUS_pfw then s else s.powerClamp

/-! ## Declaring a fault -/

/-- What T7 and the hardware do on a declaration: a site F3 brings HOLD, an F4 of device scope the shutdown sequence (R143, R147). -/
def State.faultMode (s : State) (cls : Nat) (sc : Scope) : State :=
  if cls = 4 ∧ sc = deviceScope then s.shutdownStart 2 else s.syncMode

/-- EVPOST declares a fault of class F2 or higher: the trip and the discards in the queues. The engines carry out their parts at the units
each in its next frame with a job (R95; log 22). -/
def State.declared (s : State) (e cls : Nat) (sc : Scope) : State :=
  if cls < 2 ∨ 4 < cls then s
  else
    let groups := s.groupsAt sc
    let relays := s.relaysAt sc
    let also := unitEngines.filter (s.hasItems (inScope sc groups relays))
    let s := if e = 7 ∧ cls = 3 ∧ sc = siteScope then { s with mode := { s.mode with f3 := s.mode.f3 ||| 2 ^ f3Image } } else s
    (s.declareTrip e cls sc 0 also unitEngines).faultMode cls sc

/-- Engine e carries out what trips have left to it; T6 posts a record of the requests that its controllers' frames carried. -/
def State.unitTodo (s : State) (e : Nat) : State :=
  let due := s.trips.filter fun t => t.todo.contains e
  let s := { s with trips := s.trips.map fun (t : Trip) => { t with todo := t.todo.filter (· != e) } }
  due.foldl (fun s t =>
    let (n, s) := if e = 6 then s.dropFrames (inScope t.scope t.groups t.relays) else (0, s)
    let s := if n = 0 then s else s.discardedWork t.cls 6 t.scope n 0
    s.unitSide t e) s

/-- A fault of class F2 or higher that an engine's table step declares: the trip, the discards in the queues, and with them those at the units
(log 22). -/
def State.faultEffect (s : State) (e cls : Nat) (sc : Scope) : State :=
  if cls < 2 ∨ 4 < cls then s
  else
    let t : Trip := ⟨e, cls, sc, s.groupsAt sc, s.relaysAt sc, []⟩
    let within := fun x => inScope sc t.groups t.relays x
    let also := unitEngines.filter (s.hasItems within)
    let (n, s) := s.dropFrames within
    let s := unitEngines.foldl (fun s e => s.unitSide t e) (s.declareTrip e cls sc n also [])
    s.faultMode cls sc

/-- Engine e declares a fault under one of its own event numbers. -/
def State.declareFault (s : State) (e cls num : Nat) (sc : Scope) (orig detail : Nat) : State :=
  (s.faultRecord e cls num sc orig detail).faultEffect e cls sc

/-- T7 declares a fault for which the spec names no event number. -/
def State.wardenFault (s : State) (cls : Nat) (sc : Scope) : State :=
  let (n, s) := s.freeNum
  let (d, s) := s.fresh
  s.declareFault 7 cls n sc 0 (d % 2 ^ 32)

/-- Engine e clears its trip; a site F3 that T7 clears ends that HOLD cause. -/
def State.clearFault (s : State) (e cls : Nat) (sc : Scope) : State :=
  let s := if e = 7 ∧ cls = 3 ∧ sc = siteScope then { s with mode := { s.mode with f3 := 0 } } else s
  (s.clearTrip e cls sc).syncMode

/-! ## The site F3 of T7 and its causes (R143) -/

/-- T7 declares its site F3 for a cause: 0 to 7 an engine, else as named above. -/
def State.siteFault (s : State) (k : Nat) : State := { s with mode := { s.mode with f3 := s.mode.f3 ||| 2 ^ k } }.wardenFault 3 siteScope

/-- Whether a cause has not recovered: an engine not before its first HEARTBEAT after the restart; an SRAM that failed its test at boot, and what
T7's image declared by EVPOST, never by themselves. -/
def State.causeStands (s : State) (k : Nat) : Bool :=
  if k < 8 then !(s.fb (ENG_CTRL_run k) && s.f (ENG_HB_hb_count k) != 0)
  else if k = f3Estop then s.fb SEC_ESTOP_tripped
  else if k = f3Hold then !s.fb PWR_STATUS_hold_ready
  else if k = f3Ecc then !s.ecc.isEmpty
  else true

/-- T7 clears its site F3 once every engine and condition that caused it has recovered. -/
def State.siteRecover (s : State) : State :=
  if s.mode.f3 ≠ 0 ∧ (List.range 13).all fun k => s.mode.f3 / 2 ^ k % 2 == 0 || !s.causeStands k then s.clearFault 7 3 siteScope else s

/-! ## A CAN controller in bus-off, and writes of its CTRL (R382, R387, R388) -/

/-- T6 declares BUS_OFF, whose discard is that of CTRL.discard; 256 does not fit the detail's eight bits for the counter (log 6). -/
def State.canBusOff (s : State) (n : Nat) : State :=
  let (t, s) : Nat × State := if s.f (CAN_ERRCNT_tec n) < 256 then (s.f (CAN_ERRCNT_tec n), s) else (s.fresh.1 % 256, s.fresh.2)
  s.declareFault 6 2 0x0C0 (canScope n) 0 (t + s.f (CAN_ERRCODE_code n) * 256)

/-- Whether T6 has still to declare the bus-off of controller n. -/
def State.busOffDue (s : State) (n : Nat) : Bool :=
  s.f (CAN_STATUS_state n) == 2 && !s.trips.any fun t => t.eng == 6 && t.cls == 2 && t.scope == canScope n

/-- CTRL.discard: in bus-off T6's declaration comes with it. -/
def State.canDiscardWrite (s : State) (n : Nat) (begun : Bool) : State := if s.busOffDue n then s.canBusOff n else s.canDiscardCmd n begun

def execCanDiscard (w n : Fin 8) (begun : Bool) (s : State) : Out := .next (s.guarded w 6 (CAN_CTRL n) (s.canDiscardWrite n begun))

/-- A write of CAN[n].CTRL; `begun` tells a discard whether a frame is in transmission. -/
def State.writeCanCtrl (s : State) (n v : Nat) (begun : Bool) : State :=
  let s := s.setAll [(CAN_CTRL_fd_en n, v / 2), (CAN_CTRL_listen n, v / 16), (CAN_CTRL_loopback n, v / 32)]
  let s := if v % 2 = 1 then s.canEnable n else s.canDisable n
  let s := if v / 8 % 2 = 1 then s.canDiscardWrite n begun else s
  if v / 4 % 2 = 1 then s.canRecover n else s

def execCanEnable (w n : Fin 8) (v : BitVec 32) (s : State) : Out := .next (s.guarded w 6 (CAN_CTRL n) (s.writeCanCtrl n (v.toNat / 2 * 2 + 1) false))

/-! ## Missed heartbeats (R76, R77) -/

/-- T7's answer to a missed heartbeat: the F3 fault of site scope, and the engine restarts; for T2 and T3 this follows their own clamp. T7 itself is
the Warden watchdog's. -/
def State.heartbeatMissed (s : State) (e : Fin 8) : State :=
  if e.val = 7 ∨ !s.fb (ENG_CTRL_run e) ∨ s.debugHalted e then s else (s.siteFault e).engineRestart e

/-- HEARTBEAT_MISSED: the interval has passed, or the engine has met a double trap, which T7 treats so at once (R70). -/
def execHeartbeatMissed (e : Fin 8) (s : State) : Out := s.onClock fun s => (if s.missed e || s.fb (ENG_STATUS_double_trap e) then s.heartbeatMissed e else s)

/-- A double trap that T7 has not treated yet (R70). -/
def State.doubleTraps (s : State) : State :=
  engines.foldl (fun s (e : Fin 8) => if s.fb (ENG_STATUS_double_trap e) then s.heartbeatMissed e else s) s

end Sys2Proof.Machine
end

