-- ==== Sys2Proof/Machine/Supply.lean ====
section
/-!
DEFINITION. Feeds, hold-up, the NV writer, housekeeping, die temperature and the keep-alive domain (R115 to R139).
-/
namespace Sys2Proof.Machine

def State.setPwr (s : State) (f : PwrInt → PwrInt) : State := { s with pwr := f s.pwr }

/-! ## Feeds (R115 to R118) -/

def State.feedInt (s : State) (f : Nat) : FeedInt := if f = 0 then s.pwr.feedA else s.pwr.feedB
def State.setFeedInt (s : State) (f : Nat) (x : FeedInt) : State := s.setPwr fun p => if f = 0 then { p with feedA := x } else { p with feedB := x }

/-- A feed's health as STATUS and FEED_HEALTH show it. -/
def State.showHealth (s : State) (f : Nat) (ok : Bool) : State :=
  (s.setB (PWR_FEED_HEALTH_healthy f) ok).setB (if f = 0 then PWR_STATUS_feed_a_ok else PWR_STATUS_feed_b_ok) ok

/-- The health of a feed changes, or is judged for the first time; on an unhealthy feed T7 declares an F1 of site scope. -/
def State.setHealth (s : State) (f : Nat) (ok : Bool) : State :=
  let x := s.feedInt f
  let was := s.fb (PWR_FEED_HEALTH_healthy f)
  let s := (s.setFeedInt f { x with judged := true, passes := 0 }).showHealth f ok
  if x.judged && was == ok then s
  else if ok then (if x.judged then s.sysEvent PWR_EVENTS_feed_healthy else s).syncMode
  else ((s.sysEvent PWR_EVENTS_feed_unhealthy).wardenFault 1 siteScope).syncMode

/-- One test of a feed has passed or failed: the first gives its health; two failures in a row make it unhealthy, three passes in a row
healthy. -/
def State.judgeFeed (s : State) (f : Nat) (pass : Bool) : State :=
  let x := s.feedInt f
  let s := s.setFeedInt f { x with passes := if pass then x.passes + 1 else 0 }
  if !x.judged then s.setHealth f pass
  else if pass then (if 3 ≤ x.passes + 1 ∧ !s.fb (PWR_FEED_HEALTH_healthy f) then s.setHealth f true else s)
  else if 2 ≤ s.f (PWR_FEED_HEALTH_fails f) ∧ s.fb (PWR_FEED_HEALTH_healthy f) then s.setHealth f false
  else s

/-- A voltage of 4.5 V to 18 V, in mV. -/
def feedRange (mV : Int) : Bool := decide (4500 ≤ mV ∧ mV ≤ 18000)

/-- The standby feed. -/
def State.standby (s : State) : Nat := 1 - s.f PWR_STATUS_active_feed

/-- No test starts during a switch-over gap, after PFW or during the shutdown sequence. -/
def State.mayTest (s : State) : Bool := !s.gap && !s.fb PWR_STATUS_pfw && s.pwr.cause == 0 && !s.mode.keep

/-- Six consecutive skipped path checks raise an F0 notice. -/
def State.countSkip (s : State) (f : Nat) (skipped : Bool) : State :=
  let x := s.feedInt f
  let n := if skipped then x.skips + 1 else 0
  let s := s.setFeedInt f { x with skips := if n = 6 then 0 else n }
  if n = 6 then s.wardenFault 0 siteScope else s

/-- The path check runs: not switched off, and the standby feed within 0.5 V of the active one (R117). -/
def State.pathTest (s : State) : Bool :=
  let a := s.f (PWR_FEED_STAT_voltage 0)
  let b := s.f (PWR_FEED_STAT_voltage 1)
  s.fb PWR_FEED_CFG_pulse_en && decide (a ≤ b + 500 ∧ b ≤ a + 500)

/-- One test of the standby feed: its housekeeping voltage, the reverse current in uA and the path resistance in mOhm; a test that a switch-over
interrupts only records the skip (R117). -/
def State.feedTest (s : State) (revUA mOhm : Nat) (cut : Bool) : State :=
  if !s.mayTest then s
  else
    let s := s.setPwr fun p => { p with testAt := s.now }
    let f := s.standby
    let mV := s.f (PWR_FEED_STAT_voltage f)
    let path := if s.pathTest then some mOhm else none
    if cut then (s.setF (PWR_FEED_HEALTH_path_skipped f) 1).countSkip f true
    else
      let vOk := feedRange mV
      let bOk := decide (revUA < 1000)
      let pOk := match path with
        | some r => decide (r ≤ s.f PWR_FEED_CFG_r_path_max)
        | none => true
      let pass := vOk && bOk && pOk
      let s := s.setAll [(PWR_FEED_HEALTH_v_ok f, boolNat vOk), (PWR_FEED_HEALTH_block_ok f, boolNat bOk), (PWR_FEED_HEALTH_path_skipped f, boolNat path.isNone),
        (PWR_FEED_HEALTH_tests f, s.f (PWR_FEED_HEALTH_tests f) + 1), (PWR_FEED_HEALTH_fails f, if pass then 0 else min 255 (s.f (PWR_FEED_HEALTH_fails f) + 1))]
      let s := match path with
        | some r => s.setAll [(PWR_FEED_HEALTH_path_ok f, boolNat pOk), (PWR_FEED_HEALTH_r_path f, min 255 r)]
        | none => s
      (s.countSkip f path.isNone).judgeFeed f pass

/-- Boot step 7 is complete: a housekeeping round and the standby feed's first test are done (R148). -/
def State.bootAdvance (s : State) : State :=
  if s.f SEC_BOOT_STAT_stage = 7 ∧ s.f SEC_BOOT_STAT_fail = 0 ∧ 1 ≤ s.pwr.hkRound ∧ (s.feedInt s.standby).judged then
    s.bootStep (if s.fb PWR_STATUS_hold_ready then 9 else 8)
  else s

/-- STANDBY_FEED_TEST: 10 s after the test before it, or the release of T7. -/
def execStandbyFeedTest (_mV : NoOperand) (revUA mOhm : Nat) (cut : Bool) (s : State) : Out :=
  .next (if s.fb PWR_CTRL_selftest_en && decide (s.pwr.testAt + 4000000000 ≤ s.now) then (s.feedTest revUA mOhm cut).bootAdvance else s)

/-- SELFTEST_NOW: T7 writes PWR.CTRL.selftest_now, and the test that follows. -/
def execSelftestNow (w : Fin 8) (_mV : NoOperand) (revUA mOhm : Nat) (cut : Bool) (s : State) : Out :=
  .next (s.guarded w 7 PWR_CTRL (s.feedTest revUA mOhm cut).bootAdvance)

/-- A feed out of range is unhealthy; in a switch-over gap the change waits for its end (R118, R136). -/
def State.feedBad (s : State) (f : Nat) : State :=
  if s.mode.keep then s
  else if s.gap then s.setPwr fun p => { p with badInGap := p.badInGap ||| 2 ^ f }
  else s.setHealth f false

/-- The end of the gap judges the feeds that became unhealthy in it. -/
def State.gapHealth (s : State) : State :=
  let b := s.pwr.badInGap
  let s := s.setPwr fun p => { p with badInGap := 0 }
  s.each ([0, 1].filter fun f => b / 2 ^ f % 2 == 1) fun s f => s.setHealth f false

def execFeedOutOfRange (f : Fin 2) (s : State) : Out := .next (s.feedBad f)
def execFeedCollapse (f : Fin 2) (s : State) : Out := .next (s.feedBad f)

/-- The switch-over begins; its hold is a clamp (R21, R116). -/
def State.switchover (s : State) : State :=
  if s.gap || s.fb PWR_STATUS_pfw || s.mode.keep then s
  else (({ s with gap := true }.setPwr fun p => { p with gapAt := s.now, gapPfw := false }).setF PWR_STATUS_switching 1).clampRecord 7 0xA siteScope

def execFeedSwitchover (s : State) : Out := .next s.switchover

/-- The other diode carries the full load: the active feed changes. -/
def State.feedSwap (s : State) : State := (s.setF PWR_STATUS_active_feed s.standby).sysEvent PWR_EVENTS_switchover

/-! ## Hold-up (R123, R124) -/

/-- hold_ready falls (R123): the device is in RUN, and T7 declares an F3 of site scope. -/
def State.holdLost (s : State) : State :=
  if s.fb PWR_STATUS_hold_ready then
    let s := (s.setF PWR_STATUS_hold_ready 0).sysEvent PWR_EVENTS_hold_lost
    if s.devMode = modeRun then s.siteFault f3Hold else s
  else s

/-- The bank holds at least 470 uF, measured, at 26.0 V or more. -/
def State.holdGood (s : State) : Bool := decide (47 ≤ s.f PWR_HOLD_STAT_cap) && decide (208 ≤ s.f PWR_HOLD_STAT_vhold)

/-- hold_ready falls where the bank no longer is good. -/
def State.judgeHold (s : State) : State := if s.holdGood then s else s.holdLost

/-- CAP_MEASURED: the capacitance in units of 10 uF, measured on a charge, which takes the boost, and feeds. -/
def execCapMeasured (cap : Nat) (s : State) : Out :=
  .next (if s.fb PWR_CTRL_boost_en && !s.fb PWR_STATUS_pfw && !s.mode.keep then (s.setF PWR_HOLD_STAT_cap (min 255 cap)).judgeHold else s)

/-- HOLD_READY: the bank is good; boot step 8 completes (R148, R149), and a hold_lost has recovered. -/
def execHoldReady (s : State) : Out :=
  .next (if !s.holdGood || s.mode.keep then s
    else
      let s := (s.setF PWR_STATUS_hold_ready 1).siteRecover
      if s.f SEC_BOOT_STAT_stage = 8 then (s.setF SEC_BOOT_STAT_fail 0).bootStep 9 else s)

/-- HOLD_LOST: VHOLD falls below 26.0 V. -/
def execHoldLost (s : State) : Out := .next s.holdLost

/-- Length of a slot with its header, in 64-byte blocks (R127). -/
def slotBlocks (len : Nat) : Nat := (32 + len + 63) / 64

/-- Duration bound of an operation in 0.1 us: 8 us and 0.4 us for each block of the slot (R125). -/
def nvBound (len : Nat) : Nat := 80 + 4 * slotBlocks len

/-- HOLDUP_BUDGET_UPDATE at a bank voltage of v eighths of a volt: 0.85 x 0.5 x C x (V^2 - 8^2) / 9 W, less the bounds of the granted
writes, in us. -/
def State.budget (s : State) (v : Nat) : State :=
  let granted : Int := (s.pwr.nv.filter fun o => !o.resolve).foldl (fun a o => a + (nvBound o.len : Nat)) 0
  let (b, s) := s.roundOpen ((s.f PWR_HOLD_STAT_cap * 170 : Nat) * ((v : Int) * v - 4096) - granted * 2304) 23040
  s.setAll [(PWR_HOLD_STAT_vhold, min 255 v), (PWR_HOLD_STAT_budget_us, (clampI 0 65535 b).toNat)]

def execHoldupBudgetUpdate (v : Nat) (s : State) : Out := .next (s.budget v).judgeHold

/-! ## The NV writer (R125 to R129) -/

/-- The engine that channel n serves. -/
def nvEng (n : Nat) : Nat := if n = 4 then 7 else n
/-- Where record area n begins. -/
def areaBase (n : Nat) : Nat := 0x70800000 + n * 0x300000
/-- Slot x of a pair. -/
def slotAddr (ch pair len x : Nat) : Nat := areaBase ch + 64 * pair + x * (64 * slotBlocks len)

/-- The CRC of a slot: the header with its crc field zero, then the payload. -/
def slotCrc (tag len seq dt : Nat) (payload : List Byte) : Nat :=
  crc32 (bytesOf 0x4C53564E 4 ++ bytesOf tag 2 ++ bytesOf len 2 ++ bytesOf seq 4 ++ bytesOf 0 4 ++ bytesOf dt 8 ++ bytesOf 0 8 ++ payload)

/-- The slot at an address is valid (R127). -/
def State.slotValid (s : State) (a tag len : Nat) : Bool :=
  s.rd a 4 == 0x4C53564E && s.rd (a + 4) 2 == tag && s.rd (a + 6) 2 == len &&
    s.rd (a + 0xC) 4 == crc32 (s.rdBytes a 12 ++ bytesOf 0 4 ++ s.rdBytes (a + 0x10) 16 ++ s.rdBytes (a + 0x20) len)

/-- The winner of a pair and its seq (R129). -/
def State.nvWinner (s : State) (ch pair tag len : Nat) : Option (Nat × Nat) :=
  let a := slotAddr ch pair len 0
  let b := slotAddr ch pair len 1
  let sa := s.rd (a + 8) 4
  let sb := s.rd (b + 8) 4
  match s.slotValid a tag len, s.slotValid b tag len with
  | true, true => if sa ≠ sb ∧ (sb + 2 ^ 32 - sa) % 2 ^ 32 < 2 ^ 31 then some (1, sb) else some (0, sa)
  | true, false => some (0, sa)
  | false, true => some (1, sb)
  | false, false => none

/-- An operation of channel n ends with a status, and posts NV_DONE (R126, R465). -/
def State.nvEnd (s : State) (n status op slot tag : Nat) : State :=
  let s := s.setF (PWR_NVW_CTRL_status n) status
  s.unitRecord 6 (nvEng n) 0x008 deviceScope (1 + nvEng n) (status + 8 * op + 16 * slot + 32 * n + 65536 * tag) [nvEng n, 7]

/-- The status with which a go is refused; none where it is granted. The conditions are taken in the order of their table. -/
def State.nvRefusal (s : State) (n : Nat) (resolve : Bool) : Option Nat :=
  let len := s.f (PWR_NVW_CTRL_len_m1 n) + 1
  let room := (s.pwr.nv.filter fun o => !o.resolve).foldl (fun a o => a + 32 + o.len) 0
  let late := match s.pwr.pfwAt with
    | some t => decide (t + 2400000 ≤ s.now)
    | none => false
  if 0x300000 < 64 * s.f (PWR_NVW_DST_pair_ofs n) + 128 * slotBlocks len ∨ 0x20000 < s.f (PWR_NVW_SRC_src n) + len then some 5
  else if resolve then none
  else if late then some 4
  else if s.f PWR_HOLD_STAT_budget_us * 10 < nvBound len + 10000 then some 3
  else if 65536 < room + 32 + len then some 7
  else none

/-- A go of channel n (R125, R129): a write takes its payload as data SRAM holds it now. -/
def State.nvGo (s : State) (n : Nat) : State :=
  let resolve := s.f (PWR_NVW_CTRL_op n) == 1
  let tag := s.f (PWR_NVW_DST_tag n)
  let len := s.f (PWR_NVW_CTRL_len_m1 n) + 1
  let pair := s.f (PWR_NVW_DST_pair_ofs n)
  let src := s.f (PWR_NVW_SRC_src n)
  match s.nvRefusal n resolve with
  | some st => s.nvEnd n st (boolNat resolve) (s.f (PWR_NVW_CTRL_slot n)) tag
  | none =>
    let (slot, seq) := match s.nvWinner n pair tag len with
      | some (x, q) => (1 - x, if (q + 1) % 2 ^ 32 = 0 then 1 else (q + 1) % 2 ^ 32)
      | none => (0, 1)
    let payload := if resolve then [] else s.rdBytes (sramKey (nvEng n) (0x10000000 + src)) len
    (s.setPwr fun p => { p with nv := p.nv ++ [⟨n, resolve, src, len, pair, tag, slot, seq, s.dtNs, payload, false⟩] }).setF (PWR_NVW_CTRL_status n) 1

/-- A write of NVW_CTRL[n]: go is ignored while busy. -/
def State.writeNvwCtrl (s : State) (n v : Nat) : State :=
  let s := s.setAll [(PWR_NVW_CTRL_len_m1 n, v), (PWR_NVW_CTRL_op n, if v / 2 ^ 15 % 2 = 1 then 0 else v / 2 ^ 14)]
  if v / 2 ^ 16 % 2 = 1 ∧ s.f (PWR_NVW_CTRL_status n) ≠ 1 then s.nvGo n else s

/-- The write of NVW_CTRL[n] with go, len_m1 and an op. -/
def State.nvCmd (s : State) (w : Fin 8) (n : Nat) (len : Nat) (op : Nat) : State :=
  s.guarded w (nvEng n) (PWR_NVW_CTRL n) (s.writeNvwCtrl n (len % 2 ^ 14 + op * 2 ^ 14 + 2 ^ 16))

def execNvWrite (w n : Fin 8) (lenM1 : BitVec 14) (s : State) : Out := .next (s.nvCmd w n lenM1.toNat 0)
def execNvResolve (w n : Fin 8) (lenM1 : BitVec 14) (s : State) : Out := .next (s.nvCmd w n lenM1.toNat 1)

/-- NV_PAYLOAD_COPIED: the oldest write not yet copied is in the buffer. -/
def execNvPayloadCopied (n : Fin 8) (s : State) : Out :=
  s.onClock fun s => (s.setPwr fun p => { p with nv := p.nv.map fun o => if o.ch = n.val ∧ !o.resolve then { o with copied := true } else o })

/-- The 64-byte blocks of a slot but for its magic. -/
def slotBody (o : NvOp) : List Byte :=
  bytesOf o.tag 2 ++ bytesOf o.len 2 ++ bytesOf o.seq 4 ++ bytesOf (slotCrc o.tag o.len o.seq o.dt o.payload) 4 ++ bytesOf o.dt 8 ++ bytesOf 0 8 ++
    o.payload ++ bytesOf 0 (64 * slotBlocks o.len - 32 - o.len)

/-- The oldest operation, a write, completes in its slot (R128). -/
def State.nvStore (s : State) (o : NvOp) : State :=
  let a := slotAddr o.ch o.pair o.len o.slot
  let s := (s.wrBytes (a + 4) (slotBody o)).wr a 4 0x4C53564E
  (s.setAll [(PWR_NVW_CTRL_slot o.ch, o.slot), (PWR_NVW_SEQ_seq o.ch, o.seq)]).nvEnd o.ch 2 0 o.slot o.tag

/-- The oldest operation, a resolve, copies the winner's payload or reports none (R129). -/
def State.nvFetch (s : State) (o : NvOp) : State :=
  match s.nvWinner o.ch o.pair o.tag o.len with
  | some (x, q) =>
    let s := s.wrBytes (sramKey (nvEng o.ch) (0x10000000 + o.src)) (s.rdBytes (slotAddr o.ch o.pair o.len x + 32) o.len)
    (s.setAll [(PWR_NVW_CTRL_slot o.ch, x), (PWR_NVW_SEQ_seq o.ch, q)]).nvEnd o.ch 2 1 x o.tag
  | none => s.nvEnd o.ch 6 1 (s.f (PWR_NVW_CTRL_slot o.ch)) o.tag

/-- The oldest operation of the writer completes, where it is of channel n and the named kind. -/
def State.nvDone (s : State) (n : Nat) (resolve : Bool) : State :=
  match s.pwr.nv with
  | [] => s
  | o :: t =>
    if o.ch = n ∧ o.resolve = resolve then
      let s := s.setPwr fun p => { p with nv := t }
      if resolve then s.nvFetch o else s.nvStore o
    else s

/-- Every granted write completes before a reset acts (R153). -/
def State.nvFinish (s : State) : State :=
  let l := s.pwr.nv.filter fun o => !o.resolve
  l.foldl State.nvStore (s.setPwr fun p => { p with nv := [] })

/-- A started write that VHOLD cuts leaves its target invalid; the one at the writer's front may have come anywhere in its payload or, that
complete, in its header: free (R122, R128). -/
def State.nvCutOne (s : State) (o : NvOp) (running : Bool) : State :=
  let a := slotAddr o.ch o.pair o.len o.slot
  let s := s.wr a 4 0
  if running then
    let (k, s) := s.fresh
    let room := 64 * slotBlocks o.len - 32
    let k := k % (room + 29)
    (s.wrBytes (a + 32) (((slotBody o).drop 28).take k)).wrBytes (a + 4) ((slotBody o).take (k - room))
  else s

/-- VHOLD cuts every started write. -/
def State.nvCut (s : State) : State :=
  let s := match s.pwr.nv with
    | o :: t => (t.filter fun (o : NvOp) => !o.resolve).foldl (fun (s : State) o => s.nvCutOne o false) (if o.resolve then s else s.nvCutOne o true)
    | [] => s
  s.setPwr fun p => { p with nv := [] }

/-! ## Housekeeping and die temperature (R131 to R135) -/

/-- Limits of channel c in its unit; 7 to 15 and 23 in thousandths of it. -/
def hkLimits (c : Nat) : Int × Int :=
  match c with
  | 0 | 1 => (4500, 18000)
  | 2 | 3 => (8000, 32000)
  | 4 => (18000, 30000)
  | 5 => (26000, 29000)
  | 6 => (2000, 3600)
  | 16 | 17 => (-320, 840)
  | 18 => (-320, 760)
  | 19 | 20 => (0, 13500)
  | 21 => (0, 110)
  | 22 => (0, 24000)
  | 23 => (1237500, 1262500)
  | c => ([750, 850, 900, 1200, 1100, 600, 1800, 3300, 2500].getD (c - 7) 0 * 950, [750, 850, 900, 1200, 1100, 600, 1800, 3300, 2500].getD (c - 7) 0 * 1050)

/-- Channels whose limits are in thousandths. -/
def hkFine (c : Nat) : Bool := (decide (7 ≤ c) && decide (c ≤ 15)) || c == 23

/-- A result over, and under, its limits. -/
def hkOver (c : Nat) (v : Int) : Bool := decide ((hkLimits c).2 < if hkFine c then v * 1000 else v)
def hkUnder (c : Nat) (v : Int) : Bool := decide ((if hkFine c then v * 1000 else v) < (hkLimits c).1)

/-- Engines whose clocks the die throttle halves. -/
def slowEngines : List Nat := [0, 1, 5, 6]

/-- The shutdown clamp of the die (R135). -/
def State.dieShutdown (s : State) : State :=
  if s.pwr.cause ≠ 0 then s else ((s.clampRecord 7 0x10 siteScope).shutdownStart 1).wardenFault 4 deviceScope

/-- The die leaves the throttle level: the clocks are restored. -/
def State.throttleEnd (s : State) : State := (s.each slowEngines fun s e => s.setF (ENG_STATUS_throttled e) 0).setPwr fun p => { p with thrAt := none }

/-- A new level below shutdown, 0 to 2. -/
def State.dieLevel (s : State) (new : Nat) : State :=
  let old := min 2 (s.f PWR_STATUS_die_level)
  let s := if new = old then s else s.setF PWR_STATUS_die_level new
  let s := if old = 0 ∧ 0 < new then (s.sysEvent PWR_EVENTS_die_warn).wardenFault 0 deviceScope else s
  let s := if old < 2 ∧ new = 2 then
      (((s.setPwr fun p => { p with thrAt := some s.now }).setEvent PWR_EVENTS_die_throttle 7 siteScope [0, 1, 2, 3, 5, 6, 7]).addSat PWR_THERM_STAT_throttles 1).wardenFault 1 deviceScope
    else s
  let s := if old = 2 ∧ new < 2 then s.throttleEnd else s
  if 0 < old ∧ new = 0 then s.sysEvent PWR_EVENTS_die_clear else s

/-- The die temperature of a round in 0.125 degC: levels with 5 degC hysteresis (R133). -/
def State.dieTemp (s : State) (t : Int) : State :=
  let s := s.setFi PWR_THERM_STAT_die t
  let old := min 2 (s.f PWR_STATUS_die_level)
  let new := if 920 ≤ t ∨ (old = 2 ∧ 880 ≤ t) then 2 else if 840 ≤ t ∨ (0 < old ∧ 800 ≤ t) then 1 else 0
  let s := s.dieLevel new
  if 1000 ≤ t then s.dieShutdown else s

/-- What else a result feeds. -/
def State.hkFeed (s : State) (c : Nat) (v : Int) : State :=
  match c with
  | 0 | 1 =>
    let s := s.setF (PWR_FEED_STAT_voltage c) (clampI 0 65535 v).toNat
    if c = s.f PWR_STATUS_active_feed ∧ !s.gap then
      let s := s.setB (PWR_FEED_HEALTH_v_ok c) (feedRange v)
      if !(s.feedInt c).judged ∨ feedRange v then s.judgeFeed c (feedRange v) else s.setFeedInt c { s.feedInt c with passes := 0 }
    else s
  | 6 =>
    let (x, s) := s.roundOpen v 20
    s.setAll [(PWR_KEEP_STAT_vbak, (clampI 0 255 x).toNat), (PWR_KEEP_STAT_vbak_low, if v < 2200 then 1 else 0)]
  | 17 => s.dieTemp (max v (toSigned 16 (s.f (PWR_HK_DATA_value 16))))
  | 19 | 20 => s.setF (PWR_FEED_STAT_current (c - 19)) (clampI 0 65535 v).toNat
  | _ => s

/-- HK_CONVERSION: the next channel of the round; with hk_en 0 only channels 16 and 17 are converted. -/
def State.hkConvert (s : State) (v : Int) : State :=
  let c := s.pwr.hkNext
  let round := s.pwr.hkRound
  let s := s.setPwr fun p => { p with hkNext := if c = 23 then 0 else c + 1, hkRound := if c = 23 then round + 1 else round }
  if !s.fb PWR_CTRL_hk_en ∧ c ≠ 16 ∧ c ≠ 17 then s
  else
    let s := (s.setFi (PWR_HK_DATA_value c) v).setAll [(PWR_HK_DATA_round c, round), (PWR_HK_DATA_valid c, 1)]
    let judged := s.f PWR_HK_CFG_mask / 2 ^ c % 2 = 0
    let s := s.setAll [(PWR_HK_DATA_over c, boolNat (judged && hkOver c v)), (PWR_HK_DATA_under c, boolNat (judged && hkUnder c v))]
    let s := if judged ∧ (hkOver c v ∨ hkUnder c v) then s.sysEvent PWR_EVENTS_hk_limit else s
    s.hkFeed c v

/-- A write of HK_CFG: bits 16 and 17 read zero. -/
def State.writeHkCfg (s : State) (v : Nat) : State := s.setF PWR_HK_CFG_mask (v % 2 ^ 16 + v / 2 ^ 18 % 2 ^ 6 * 2 ^ 18)

/-- DIE_THROTTLE_CLAMP: at throttle level for 1 s, and not after PFW (R134, R136). -/
def execDieThrottleClamp (s : State) : Out :=
  let second : Bool := match s.pwr.thrAt with
    | some t => decide (t + 400000000 ≤ s.now)
    | none => false
  .next (if s.f PWR_STATUS_die_level = 2 ∧ second ∧ !s.pwr.div4 then
      let s := ((s.setPwr fun p => { p with thrAt := none }).setF PWR_STATUS_die_level 3).sysEvent PWR_EVENTS_die_halved
      (s.each slowEngines fun s e => s.setF (ENG_STATUS_throttled e) 1).clampRecord 7 0xF siteScope
    else s)

/-! ## The keep-alive domain (R137 to R139) -/

def execShutdownLatchRelease (s : State) : Out :=
  .next (if s.pwr.latch then s.setPwr fun p => { p with latch := false, latchSeen := true } else s)

def execKeepaliveChangeover (onVbak : Bool) (s : State) : Out := .next (s.setB PWR_KEEP_STAT_on_vbak onVbak)

/-- KEEPALIVE_LOST: what the keep-alive domain held is lost. -/
def State.keepLost (s : State) : State :=
  let kept : List Fld := [PWR_HOLD_STAT_cap, PWR_TAMPER_loop0_en, PWR_TAMPER_loop1_en, PWR_TAMPER_log_idx, PWR_TAMPER_log_ovf, PWR_RTC_SUB_sub,
    PWR_RTC_SEC_sec, PWR_FUSE_SHADOW_last_cause, SEC_RESET_CAUSE_warm_count, SEC_AUTH_STAT_fails, SEC_AUTH_STAT_lock_s, SEC_AUTH_STAT_lockout,
    SEC_FREEZE_DT_LO_dt, SEC_FREEZE_DT_HI_dt, SEC_FREEZE_STAT_freezes, SEC_FREEZE_STAT_pause_missing] ++
    (List.range 8).flatMap fun j => [PWR_TAMPER_LOG_sec j, PWR_TAMPER_LOG_loop j, PWR_TAMPER_LOG_kind j]
  let s := (s.setAll (kept.map fun x => (x, x.rst))).setVault fun v => { v with lockTill := 0 }
  s.setPwr fun p => { p with latch := false, latchSeen := false, lostSeen := true, tamper := 0, tamperRead := 0, record := 0, rtcNew := none, rtcSub := none, rtcFrac := 0 }

def execKeepaliveLost (s : State) : Out := .next (if s.fb PWR_KEEP_STAT_on_vbak then s.keepLost else s)

/-- Writes of the real-time clock: RTC_SUB waits for RTC_SEC, and both for the next edge. -/
def State.writeRtcSub (s : State) (v : Nat) : State := s.setPwr fun p => { p with rtcSub := some (v % 2 ^ 15) }
def State.writeRtcSec (s : State) (v : Nat) : State := s.setPwr fun p => { p with rtcNew := some (v % 2 ^ 32) }

def execRtcSecWrite (w : Fin 8) (v : BitVec 32) (s : State) : Out := .next (s.guarded w 7 PWR_RTC_SEC (s.writeRtcSec v.toNat))

/-- RTC_COMMIT. -/
def State.rtcCommit (s : State) : State :=
  match s.pwr.rtcNew with
  | none => s
  | some v =>
    let s := s.setAll [(PWR_RTC_SEC_sec, v), (PWR_RTC_SUB_sub, s.pwr.rtcSub.getD (s.f PWR_RTC_SUB_sub))]
    s.setPwr fun p => { p with rtcNew := none, rtcSub := none, rtcFrac := 0 }

def execRtcCommit (s : State) : Out := .next s.rtcCommit

/-- The real-time clock over 2.5 ns: 32,768 parts of 400,000,000 make an edge, which counts or commits a pending write. -/
def State.tickRtc (s : State) : State :=
  let x := s.pwr.rtcFrac + 32768
  if x < 400000000 then s.setPwr fun p => { p with rtcFrac := x }
  else
    let s := s.setPwr fun p => { p with rtcFrac := x - 400000000 }
    if s.pwr.rtcNew.isSome then s.rtcCommit
    else if s.f PWR_RTC_SUB_sub = 32767 then s.setAll [(PWR_RTC_SUB_sub, 0), (PWR_RTC_SEC_sec, s.f PWR_RTC_SEC_sec + 1)]
    else s.addWrap PWR_RTC_SUB_sub 1

def loopEn (j : Nat) : Fld := if j = 0 then PWR_TAMPER_loop0_en else PWR_TAMPER_loop1_en
def loopOk (j : Nat) : Fld := if j = 0 then PWR_TAMPER_loop0_ok else PWR_TAMPER_loop1_ok

/-- T7 has read entry j of the tamper log. -/
def State.tamperSeen (s : State) (j : Nat) : State :=
  s.setPwr fun p => { p with tamperRead := if p.tamperRead / 2 ^ j % 2 = 1 then p.tamperRead - 2 ^ j else p.tamperRead }

/-- An entry of the tamper log, which may overwrite an unread one; T7 posts TAMPER (0x0E7) where it runs. -/
def State.tamperEntry (s : State) (j kind : Nat) : State :=
  let i := s.f PWR_TAMPER_log_idx
  let s := s.setAll [(PWR_TAMPER_LOG_sec i, s.f PWR_RTC_SEC_sec), (PWR_TAMPER_LOG_loop i, j), (PWR_TAMPER_LOG_kind i, kind), (PWR_TAMPER_log_idx, i + 1)]
  let s := if s.pwr.tamperRead / 2 ^ i % 2 = 1 then s.setF PWR_TAMPER_log_ovf 1 else s
  let s := s.setPwr fun p => { p with tamperRead := p.tamperRead ||| 2 ^ i }
  if s.fb (ENG_CTRL_run 7) then
    s.engineRecord 7 0 0x0E7 siteScope 0 (s.f (PWR_TAMPER_LOG_sec i) + j * 2 ^ 28 + kind * 2 ^ 30)
  else s

/-- TAMPER_PULSE: loop j intact (0), open (1) or short (2); a change of the judgement is an entry. -/
def State.tamperPulse (s : State) (j now : Nat) : State :=
  let was := s.pwr.tamper / 4 ^ j % 4
  if !s.fb (loopEn j) then s
  else
    let s := s.setB (loopOk j) (now == 0)
    if was = now then s
    else (s.setPwr fun p => { p with tamper := p.tamper + now * 4 ^ j - was * 4 ^ j }).tamperEntry j (if now = 0 then 3 else now)

def execTamperPulse (j : Fin 2) (now : Fin 3) (s : State) : Out := .next (s.tamperPulse j now)

end Sys2Proof.Machine
end

