-- ==== Sys2Proof/Machine/Modes.lean ====
section
/-!
DEFINITION. Resets and what they preserve, KEEP, the boot timeline's last steps, the mode writes, the watchdogs' resets and the emergency
stop (R76, R122, R135, R141 to R157).
-/
namespace Sys2Proof.Machine

/-! ## What a reset leaves (R152, R441) -/

/-- The keep class of the register field with a key. -/
def keepOf (key : Nat) : Keep :=
  match blockRows (key / 32) with
  | none => .lost
  | some rows =>
    match findRow rows (key / 32) with
    | none => .lost
    | some (_, _, _, l) => ((l.find? fun x => x.2.2.key == key).map (·.2.1)).getD .lost

/-- Memory that no reset touches: MRAM, NOR, eMMC. -/
def durable (k : Nat) : Bool := (decide (0x60000000 ≤ k) && decide (k < 0x72000000)) || (decide (emmcKey 0 ≤ k) && decide (k < stagingKey 0))

/-- The main domain in reset: everything it holds is lost; fuses, the keep-alive and VSW domains, the durable memories and the levels on
the balls stay. The load switches hold (R304). -/
def State.clearMain (s : State) : State :=
  let s := s.lsHold.cutFuse
  { State.reset with
    now := s.now, pending := s.pending, free := s.free, maq := s.maq, vault := s.vault
    fields := s.fields.filter fun p => decide (keepOf p.1 ≠ .lost)
    mem := s.mem.filter fun p => durable p.1
    lsws := s.lsws, lsExceeded := s.lsExceeded, shedNext := s.shedNext, lsPace := s.lsPace, vswLost := s.vswLost
    coils := s.coils.map fun x => (x.1, { CoilInt.reset with input := x.2.input })
    pwr := { PwrInt.reset with
      latch := s.pwr.latch, latchSeen := s.pwr.latchSeen, lostSeen := s.pwr.lostSeen, rtcFrac := s.pwr.rtcFrac, tamper := s.pwr.tamper,
      tamperRead := s.pwr.tamperRead, rtcNew := s.pwr.rtcNew, rtcSub := s.pwr.rtcSub, record := s.pwr.record }
    mode := { ModeInt.reset with estA := s.mode.estA, estB := s.mode.estB, estHigh := s.mode.estHigh, released := s.now, stepAt := s.now } }

/-- What the sources on the balls show, whatever the reset: the keep-alive source and the active feed. -/
def State.sameSupply (s t : State) : State :=
  t.setAll [(PWR_KEEP_STAT_on_vbak, s.f PWR_KEEP_STAT_on_vbak), (PWR_STATUS_active_feed, s.f PWR_STATUS_active_feed)]

/-! ## The emergency stop (R154 to R157) -/

def estopBit (b : Bool) : Fld := if b then SEC_ESTOP_b_low else SEC_ESTOP_a_low

/-- The clamp: lanes park, the emergency-stop group of load switches turns off. T7 declares the F3 at once, or at boot step 11; in a freeze it is
halted, and the clamp finds the lanes parked and the channels in hold (R157). -/
def State.estopClamp (s : State) : State :=
  let s := (s.parkAll 3).lsEstop
  let s := ((s.addSat SEC_ESTOP_trips 1).sysEvent SEC_ESTOP_tripped).clampRecord 7 8 siteScope
  if s.mode.booted ∨ s.f SEC_BOOT_STAT_stage = 11 then s.siteFault f3Estop else s

/-- A channel becomes low. With the dividers stopped only its level is recorded, and the emergency-stop group cut (R157, R303). -/
def State.estopLow (s : State) (b : Bool) : State :=
  let was := if b then s.mode.estB else s.mode.estA
  let other := if b then s.mode.estA else s.mode.estB
  if was then s
  else
    let s := { s with mode := { s.mode with
      estA := s.mode.estA || !b, estB := s.mode.estB || b, estAt := (match s.mode.estAt with
        | some (c, t) => if c = b then some (c, t) else none
        | none => if other then none else some (b, s.now)),
      estBoth := s.mode.estBoth || other } }
    if s.mode.keep then s.lsEstop
    else if s.frozen then (s.setF (estopBit b) 1).lsEstop
    else
      let s := s.sysEvent (estopBit b)
      (if s.fb SEC_ESTOP_tripped then s else s.estopClamp).syncMode

def execEstopChannelLow (b : Bool) (s : State) : Out := .next (s.estopLow b)

/-- A channel becomes high: a discrepancy ends once both have been low together and then both high. -/
def State.estopHigh (s : State) (b : Bool) : State :=
  let s := { s with mode := { s.mode with estA := s.mode.estA && b, estB := s.mode.estB && !b, estHigh := some s.now } }
  if s.mode.keep then s
  else
    let s := s.setF (estopBit b) 0
    if s.mode.estA || s.mode.estB then s
    else
      let s := if s.mode.estBoth then s.setF SEC_ESTOP_discrepancy 0 else s
      { s with mode := { s.mode with estBoth := false } }.syncMode

def execEstopChannelHigh (b : Bool) (s : State) : Out := .next (if (if b then s.mode.estB else s.mode.estA) then s.estopHigh b else s)

/-- ESTOP_DISCREPANCY: 500 ms from the edge of one channel, in which the other has not become low. -/
def execEstopDiscrepancy (s : State) : Out :=
  let late := match s.mode.estAt with
    | some (_, t) => decide (t + 200000000 ≤ s.now)
    | none => false
  .next (if late && !s.mode.keep && !s.frozen then
      let s := { s with mode := { s.mode with estAt := none, estBoth := false } }
      ((s.sysEvent SEC_ESTOP_discrepancy).wardenFault 1 siteScope).syncMode
    else s)

/-- A write of 1 to rearm (R156): both channels high for 100 ms and no discrepancy; T7 then clears the F3, unless another of its causes stands. -/
def State.rearm (s : State) : State :=
  let long := match s.mode.estHigh with
    | some t => decide (t + 40000000 ≤ s.now)
    | none => true
  if s.mode.estA || s.mode.estB || !long || s.fb SEC_ESTOP_discrepancy then s.sysEvent SEC_ESTOP_rearm_refused
  else if s.fb SEC_ESTOP_tripped then (s.setF SEC_ESTOP_tripped 0).lsRearm.syncMode.siteRecover
  else s

def execEstopRearm (w : Fin 8) (s : State) : Out := .next (s.guarded w 7 SEC_ESTOP s.rearm)

/-- A channel that is low at the release of a reset becomes low at that instant. -/
def State.estopAtRelease (s : State) : State :=
  let a := s.mode.estA
  let b := s.mode.estB
  let s := { s with mode := { s.mode with estA := false, estB := false } }
  let s := if a then s.estopLow false else s
  if b then s.estopLow true else s

/-! ## Resets (R122, R142, R152, R153) -/

/-- The boot timeline begins at step 3; step 2, the keep-alive check, has set its flags. -/
def State.bootBegin (s : State) (kind prev : Nat) : State :=
  let s := s.setAll [(SEC_BOOT_STAT_stage, 3), (SEC_RESET_CAUSE_kind, kind), (SEC_RESET_CAUSE_prev_mode, prev),
    (PWR_KEEP_STAT_ka_lost, boolNat s.pwr.lostSeen), (PWR_KEEP_STAT_shut_latched, boolNat s.pwr.latchSeen)]
  ((s.setPwr fun p => { p with lostSeen := false, latchSeen := false }).loadShadow).estopAtRelease

/-- The state of the root PLL that a warm reset keeps. -/
def pllFields : List Fld :=
  [CLK_STATUS_state, CLK_STATUS_src, CLK_STATUS_band, CLK_STATUS_windows, CLK_TUNE_offset, CLK_REF_CFG_src, CLK_PHASE_ERR_err] ++
    (List.range 8).flatMap fun j => [CLK_LOCK_HIST_diff j, CLK_LOCK_HIST_seq j]

/-- A warm reset, codes 2 to 6: not while PFW is asserted or the shutdown sequence runs. The PLL is kept, and the release is the third boot
step. -/
def State.warmReset (s : State) (kind : Nat) : State :=
  if s.fb PWR_STATUS_pfw || s.pwr.cause != 0 || s.mode.keep then s
  else
    let s := s.nvFinish
    let t := (s.sameSupply s.clearMain).setAll (pllFields.map fun x => (x, s.f x))
    let t := { t with clk := { s.clk with relPending := true, relAt := s.now, hard := false, phase := [0, 0, 0, 0, 0, 0, 0, 0] } }
    (t.setAll [(SEC_BOOT_STAT_warm, 1), (SEC_RESET_CAUSE_warm_count, min 65535 (s.f SEC_RESET_CAUSE_warm_count + 1))]).bootBegin kind s.devMode

def execSoftwareReset (w : Fin 8) (s : State) : Out := .next (s.guarded w 7 SEC_RESET_CTRL (s.warmReset 3))
def execExternalReset (s : State) : Out := .next (s.warmReset (if s.fb SEC_FREEZE_STAT_state then 5 else 4))

/-- KEEP: every domain but the keep-alive and VSW domains is off. A shutdown sequence leaves its cause and the latch (R135, R147). -/
def State.enterKeep (s : State) : State :=
  let cause := s.pwr.cause
  let t := s.nvFinish.clearMain
  let t := t.setF PWR_KEEP_STAT_on_vbak (s.f PWR_KEEP_STAT_on_vbak)
  let t := if cause = 0 then t else (t.setF PWR_FUSE_SHADOW_last_cause cause).setPwr fun p => { p with latch := true }
  { t with mode := { t.mode with keep := true } }

/-- The hold-up is over at the higher feed's voltage in mV: a power-fail reset and boot at 4.5 V or more (R122). -/
def State.powerFailReset (s : State) : State := (s.sameSupply s.clearMain).bootBegin 1 s.devMode

/-- PFW, and 12 ms since. -/
def State.pfwOver (s : State) : Bool := match s.pwr.pfwAt with
  | some t => decide (t + 4800000 ≤ s.now)
  | none => false

/-- HOLDUP_END, 12 ms from PFW and no started write being left: a power-fail reset, else VHOLD goes on (R122). In a shutdown
sequence R135 decides. -/
def State.holdupEnd (s : State) (higher : Nat) : State :=
  if !s.fb PWR_STATUS_pfw || s.pwr.cause != 0 || s.pwr.holdEnded || !s.pfwOver || s.pwr.nv.any (fun o => !o.resolve) then s
  else if 4500 ≤ higher then s.powerFailReset
  else s.setPwr fun p => { p with holdEnded := true }

def execHoldupEnd (higher : Nat) (s : State) : Out := .next (s.holdupEnd higher)

/-- The higher feed as the housekeeping channels last reported it, in mV. -/
def State.higherFeed (s : State) : Nat := max (s.f (PWR_FEED_STAT_voltage 0)) (s.f (PWR_FEED_STAT_voltage 1))

/-- VHOLD_FLOOR, by the higher feed that the housekeeping holds (DESIGN CHOICE): before its end the hold-up ends here; after it, KEEP. -/
def execVholdFloor (s : State) : Out :=
  .next (if !s.fb PWR_STATUS_pfw then s
    else if s.pwr.cause = 0 ∧ !s.pwr.holdEnded ∧ 4500 ≤ s.higherFeed then s.nvCut.powerFailReset
    else s.nvCut.enterKeep)

/-- SHUTDOWN_POWER_OFF: 12 ms from the beginning of the shutdown sequence. -/
def execShutdownPowerOff (s : State) : Out :=
  .next (if s.pwr.cause = 0 ∨ s.mode.keep ∨ s.now < s.pwr.causeAt + 4800000 then s else s.enterKeep)

/-- POWER_ON_RESET with the feeds' voltages in mV: from KEEP without the shutdown latch, and once for the device as it stands at its first
power-up. -/
def State.powerOn (s : State) (va vb : Nat) : State :=
  if (s.mode.keep && !s.pwr.latch) || (!s.mode.keep && s.f SEC_BOOT_STAT_stage == 1) then
    let t := (s.sameSupply s.clearMain).setB PWR_STATUS_active_feed (decide (va ≤ vb + 50))
    (t.setF SEC_RESET_CAUSE_warm_count 0).bootBegin 0 0
  else s

def execPowerOnReset (va vb : Nat) (s : State) : Out := .next (s.powerOn va vb)

/-! ## The Warden watchdog (R21, R76) -/

/-- WARDEN_WATCHDOG: T7 has executed no HEARTBEAT for 100 ms. -/
def execWardenWatchdog (s : State) : Out :=
  .next (if s.fb (ENG_CTRL_run 7) && !s.debugHalted 7 && s.missed 7 && !s.mode.keep && !s.frozen then
      { ((s.parkAll 5).releaseCoils).clampRecord 7 7 siteScope with mode := { s.mode with warden := true } }
    else s)

def execWardenReset (s : State) : Out := .next (if s.mode.warden then s.warmReset 2 else s)

/-! ## The end of the boot timeline (R148) -/

/-- The engines declare what the self-tests have left to them (R148): F2 of a lane's cell by its power engine, and of the group or connector of a
welded position by T0 or T1. -/
def State.bootFaults (s : State) : State :=
  let lanes := s.mode.lanesBad
  let s := { s with mode := { s.mode with lanesBad := 0 } }
  let fault := fun (s : State) (e : Nat) (sc : Scope) => let (n, s) := s.freeNum; let (d, s) := s.fresh; s.declareFault e 2 n sc 0 (d % 2 ^ 32)
  let s := s.each ((List.range 32).filter fun n => lanes / 2 ^ n % 2 == 1) fun s n => fault s (laneEng n) (cellScope n)
  s.each ((List.range 120).filter fun k => s.fb (MTX_COIL_STAT_fail_open k)) fun s k =>
    if k < 96 then fault s 0 (groupScope (k / 12)) else fault s 1 (connScope (if k < 112 then (k - 96) / 2 else k - 112))

/-- Step 11 begins once every engine is released; the faults of an emergency stop and of the self-tests of the boot are declared. -/
def State.bootReleased (s : State) : State :=
  if s.f SEC_BOOT_STAT_stage = 10 ∧ (List.range 8).all fun e => s.fb (ENG_CTRL_run e) then
    let s := (s.bootStep 11).bootFaults
    if s.fb SEC_ESTOP_tripped then s.siteFault f3Estop else s
  else s

/-- The engines in the order of their release at step 10. -/
def releaseOrder : List Nat := [4, 5, 6, 0, 1, 2, 3]

/-- Engine e may be released: at step 10 in its turn, and at any time after the boot. -/
def State.mayRelease (s : State) (e : Nat) : Bool :=
  if s.mode.booted || s.f SEC_BOOT_STAT_stage == 11 then true
  else s.f SEC_BOOT_STAT_stage == 10 && (releaseOrder.takeWhile (· != e)).all fun x => s.fb (ENG_CTRL_run x)

/-- ENGINE_RUN: T7's write of CTRL.run. -/
def State.runWrite (s : State) (e : Nat) (run : Bool) : State := if run && !s.mayRelease e then s else (s.writeRun e run).bootReleased

def execEngineRun (e : Fin 8) (run : Bool) (s : State) : Out := .next (s.runWrite e run)

/-- Step 11 is complete: every engine has executed HEARTBEAT, and T4 has resumed its journal. -/
def State.bootOver (s : State) : Bool :=
  s.f SEC_BOOT_STAT_stage == 11 && !s.mode.booted && (s.fb MET_STATUS_running || s.bill.stopped) &&
    (List.range 8).all fun e => s.fb (ENG_CTRL_run e) && s.f (ENG_HB_hb_count e) != 0

/-- T7 has entered IDLE or HOLD at step 11: the time of the step in ms since the reset release; an SRAM that failed its self-test is an F3 now. -/
def State.bootDone (s : State) : State :=
  let (ms, s) := s.roundOpen ((s.now : Int) - s.mode.released) 400000
  let s := { s.setF SEC_BOOT_STAT_boot_ms (clampI 0 65535 ms).toNat with mode := { s.mode with booted := true } }
  if s.mode.sramBad = 0 then s else s.siteFault f3Sram

/-! ## T7's mode writes (R142, R146) -/

/-- No grant is in force. -/
def State.noGrant (s : State) : Bool := s.alloc.grants.all fun g => g.2.fwd == 0 && g.2.rev == 0 && g.2.mask == 0

/-- Whether the mode may change from one to another as the device stands: the rows of R142, and the ranks of their triggers. -/
def State.modeRow (s : State) (old new : Nat) : Bool :=
  match old, new with
  | 1, 2 => s.bootOver && !s.anyCause
  | 1, 4 => s.bootOver && s.anyCause
  | 2, 3 => !s.anyCause
  | 3, 2 => !s.anyCause && s.noGrant && !s.phuAny
  | 2, 4 | 3, 4 | 5, 4 => s.anyCause
  | 4, 2 => !s.anyCause && !s.phuAny
  | 2, 5 => !s.anyCause && !s.phuAny && (List.range 8).all fun c => (SMap.get SessInt.reset s.sess c).step == 0
  | 5, 2 => !s.anyCause
  | _, _ => false

/-- A write of SEC.MODE by T7: it changes the mode along a row of R142 and does nothing else. Leaving SERVICE after a halt or a single step is a warm
reset of code 6 (R152). -/
def State.writeMode (s : State) (v : Nat) : State :=
  let m := v % 8
  let s := s.syncCauses
  if !s.modeRow s.devMode m then s
  else if s.devMode = modeService ∧ s.mode.svcHalt then s.warmReset 6
  else
    let boot := s.devMode = modeBoot
    let s := s.setMode m
    let s := if m = modeHold then s.holdEntry else s
    (if boot then s.bootDone else s).syncMode

def execModeWrite (w : Fin 8) (v : BitVec 32) (s : State) : Out := .next (s.guarded w 7 SEC_MODE (s.writeMode v.toNat))

/-- What T7 does about the mode by itself (R142, R143, R145): it clears its F3 once the causes have recovered, ends the boot, answers T0's request for
RUN, and leaves HOLD, and RUN without a grant. -/
def State.modeStep (s : State) : State :=
  if !s.fb (ENG_CTRL_run 7) || s.fb (ENG_STATUS_halted 7) then s
  else
    let s := s.siteRecover
    let m := s.devMode
    if m = modeBoot then (if s.bootOver then s.writeMode (if s.anyCause then modeHold else modeIdle) else s)
    else if m = modeHold then s.writeMode modeIdle
    else if m = modeRun ∧ !s.mode.runReq then s.writeMode modeIdle
    else s

end Sys2Proof.Machine
end

