-- ==== Sys2Proof/Machine/Alloc.lean ====
section
/-!
DEFINITION. T0's site allocation: its requests, and one allocation frame as T0's table performs it (R216 to R235).
-/
namespace Sys2Proof.Machine

/-! ## Fractions -/

/-- num / den in lowest terms; den 0 counts as 1. -/
def mkFrac (num : Int) (den : Nat) : Frac :=
  let g := Nat.gcd num.natAbs den
  if den = 0 then ⟨num, 1⟩ else ⟨num / g, den / g⟩
def ofInt (v : Int) : Frac := ⟨v, 1⟩
def Frac.add (a b : Frac) : Frac := mkFrac (a.num * b.den + b.num * a.den) (a.den * b.den)
def Frac.sub (a b : Frac) : Frac := mkFrac (a.num * b.den - b.num * a.den) (a.den * b.den)
def Frac.mul (a b : Frac) : Frac := mkFrac (a.num * b.num) (a.den * b.den)
/-- a / b for b above 0. -/
def Frac.div (a b : Frac) : Frac := mkFrac (a.num * b.den) (a.den * b.num.natAbs)
def Frac.le (a b : Frac) : Bool := decide (a.num * b.den ≤ b.num * a.den)
def Frac.lt (a b : Frac) : Bool := decide (a.num * b.den < b.num * a.den)
def Frac.min (a b : Frac) : Frac := if a.le b then a else b
def Frac.max (a b : Frac) : Frac := if a.le b then b else a
def Frac.floor (a : Frac) : Int := a.num / a.den
def Frac.ceil (a : Frac) : Int := -(-a.num / a.den)
def sumFrac (l : List Frac) : Frac := l.foldl Frac.add (ofInt 0)

/-! ## T0's requests (R220, R221) -/

def allocQ : QId := .queue 0 1
def State.setAlloc (s : State) (f : AllocInt → AllocInt) : State := { s with alloc := f s.alloc }
def State.grant (s : State) (d : Nat) : Grant := SMap.get Grant.reset s.alloc.grants d
def State.setGrant (s : State) (d : Nat) (f : Grant → Grant) : State := s.setAlloc fun a => { a with grants := SMap.set Grant.reset a.grants d (f (s.grant d)) }
def State.demand (s : State) (c : Nat) : Option Demand := SMap.get none s.alloc.demands c

/-- Where T4 publishes the meter values (R328). -/
def pubBase : Nat := 0x21001400
/-- A legal register as published. -/
def State.pubReg (s : State) (a : Nat) : Nat := s.rd (pubBase + 0x180 + 8 * a) 8
/-- The forward energy register of connector c (R308). -/
def connReg (c : Nat) : Nat := 32 + 2 * c

/-- The scope kind and originator that an opcode takes: else REJECTED with detail 0x01. -/
def State.allocReq (s : State) (q : QId) (r : Req) (ok : Bool) (f : State → State) : State := if ok then f s else s.reject q r 0x01

/-- T0's step for POWER_REQ. -/
def State.powerReq (s : State) (r : Req) : State :=
  let p := r.payload.toNat
  let c := r.scope.inst.toNat
  s.allocReq allocQ r (r.origId == 2 && r.scope.kind == 3 && decide (c < 8)) fun s =>
    if 2 < p / 2 ^ 48 % 256 then s.reject allocQ r 0x02
    else
      let d : Demand := ⟨r, true, p % 2 ^ 32, p / 2 ^ 32 % 2 ^ 16, p / 2 ^ 48 % 256, p / 2 ^ 64 % 2 ^ 32, s.pubReg (connReg c), p / 2 ^ 96⟩
      (s.defer allocQ r).setAlloc fun a => { a with demands := SMap.set none a.demands c (some d) }

def execPowerReq (sd : Sender) (r : Req) (s : State) : Out := .next (s.serve sd allocQ r fun s => s.powerReq r)

/-- T0's step for POWER_RELEASE: the demand ends; the positions open in the frames that follow. -/
def State.powerRelease (s : State) (r : Req) : State :=
  let c := r.scope.inst.toNat
  s.allocReq allocQ r (r.origId == 2 && r.scope.kind == 3 && decide (c < 8)) fun s =>
    (s.defer allocQ r).setAlloc fun a => { a with demands := SMap.set none a.demands c none, releases := a.releases ++ [(bits ((List.range 8).map fun g => s.fb (MTX_COIL_CMD_cmd (12 * g + c))), r)] }

def execPowerRelease (sd : Sender) (r : Req) (s : State) : Out := .next (s.serve sd allocQ r fun s => s.powerRelease r)

def State.headroomReq (s : State) (r : Req) : State :=
  let p := r.payload.toNat
  let c := r.scope.inst.toNat
  s.allocReq allocQ r (r.origId == 6 && r.scope.kind == 3 && decide (c < 8)) fun s =>
    (s.defer allocQ r).setAlloc fun a => { a with headroom := SMap.set none a.headroom c (some (p % 2 ^ 32, p / 2 ^ 32 % 2 ^ 32, s.now)) }

def execHeadroom (sd : Sender) (r : Req) (s : State) : Out := .next (s.serve sd allocQ r fun s => s.headroomReq r)

def State.bufferAvail (s : State) (r : Req) : State :=
  let p := r.payload.toNat
  let c := r.scope.inst.toNat
  s.allocReq allocQ r (r.origId == 7 && r.scope.kind == 4 && decide (c < 4)) fun s =>
    (s.defer allocQ r).setAlloc fun a => { a with buffers := SMap.set none a.buffers c (some (p % 2 ^ 16, p / 2 ^ 16 % 2 ^ 16, p / 2 ^ 32 % 2 ^ 16, s.now)) }

def execBufferAvail (sd : Sender) (r : Req) (s : State) : Out := .next (s.serve sd allocQ r fun s => s.bufferAvail r)

/-- T0's queue for a SITE_LIMIT: Q1 from T6, Q2 from a back office. -/
def siteQ : Sender → QId
  | .engine _ => .queue 0 1
  | _ => .queue 0 2

/-- T0's step for SITE_LIMIT: the latest of each originator, up to 4. -/
def State.siteLimit (s : State) (q : QId) (r : Req) : State :=
  let p := r.payload.toNat
  let back := q == .queue 0 2 && decide (0x20 ≤ r.origId.toNat ∧ r.origId.toNat < 0x30)
  s.allocReq q r (r.scope == siteScope && ((r.origId == 7 && q == .queue 0 1) || back)) fun s =>
    let l := s.alloc.limits.filter fun (x : SiteLim) => x.orig != r.origId
    let l := if 4 ≤ l.length then l.drop 1 else l
    (s.defer q r).setAlloc fun a => { a with limits := l ++ [⟨r.origId, p % 2 ^ 32, p / 2 ^ 32 % 2 ^ 32, p / 2 ^ 64 % 2 ^ 32⟩] }

def execSiteLimit (sd : Sender) (r : Req) (s : State) : Out := .next (s.serve sd (siteQ sd) r fun s => s.siteLimit (siteQ sd) r)

/-! ## Inputs (R219, R222) -/

def msTicks : Nat := 400000

/-- An input's age crosses its limit: INPUT_STALE once for each crossing. -/
def State.judgeStale (s : State) (row inst : Nat) (sc : Scope) (stale : Bool) : State :=
  let k := 16 * row + inst
  let was := s.alloc.stale.contains k
  if stale && !was then (s.engineRecord 0 0 0x021 sc 0 row).setAlloc fun a => { a with stale := k :: a.stale }
  else if !stale && was then s.setAlloc fun a => { a with stale := a.stale.filter (· != k) }
  else s

def State.isStale (s : State) (row inst : Nat) : Bool := s.alloc.stale.contains (16 * row + inst)

/-- Age of the published meter values in ns of DT. -/
def State.pubAge (s : State) : Nat := (s.dtNs + 2 ^ 64 - s.rd (pubBase + 0x10) 8) % 2 ^ 64

/-- An input received at tick t is older than ms. -/
def State.older (s : State) (t ms : Nat) : Bool := decide (t + ms * msTicks < s.now)

/-- POWER_REQs that are in force no more leave: those discarded, of a session that has ended, of a tripped connector (R225, R235). -/
def State.dropDemands (s : State) : State :=
  s.each (List.range 8) fun s c => match s.demand c with
    | none => s
    | some d =>
      let lost := d.pending && !(s.queue allocQ).serving.any fun x => x.req == d.req
      if s.tripped (connScope c) || s.tagStale d.req || lost then s.setAlloc fun a => { a with demands := SMap.set none a.demands c none } else s

/-- Step 2 judges every input's age; an expired SITE_LIMIT is dropped, with one INPUT_STALE each. Of a connector T0 may declare nothing (R42): the
notice of its headroom has the site's scope (log 228). -/
def State.allocInputs (s : State) : State :=
  let s := s.judgeStale 0 0 siteScope (decide (50000000 < s.pubAge))
  let s := s.judgeStale 1 0 siteScope (decide (1000000000 < s.pubAge))
  let live := s.alloc.limits.filter fun (l : SiteLim) => l.till == 0 || decide (s.dtNs ≤ l.till * 1000000000)
  let s := s.each (List.range (s.alloc.limits.length - live.length)) fun s _ => s.engineRecord 0 0 0x021 siteScope 0 2
  let s := s.setAlloc fun a => { a with limits := live }
  let s := s.each (List.range 8) fun s c =>
    match SMap.get none s.alloc.headroom c with
    | some h => s.judgeStale 4 c siteScope (s.older h.2.2 500)
    | none => s
  s.each (List.range 4) fun s p =>
    match SMap.get none s.alloc.buffers p with
    | some b => s.judgeStale 5 p (portScope p) (s.older b.2.2.2 3000)
    | none => s

/-- A fault of class F2 or higher stands for the phase, its cell or its group. -/
def State.cellFault (s : State) (n : Nat) : Bool :=
  s.trips.any fun t => decide (2 ≤ t.cls) && decide (t.scope.kind.toNat ≤ 2) && inScope t.scope t.groups t.relays (phaseScope n)

/-- A phase is healthy (R222). -/
def State.healthy (s : State) (n : Nat) : Bool :=
  let st := s.f (LANE_STATUS_state (n / 8))
  let pc := s.f (LANE_STATUS_park_cause (n / 8))
  s.unlatched n && (st == 2 || (st == 3 && !([1, 9, 3, 4].contains pc))) && !s.cellFault n

/-- The 32 phases of group g. -/
def groupPhases (g : Nat) : List Nat := (List.range 32).map (32 * g + ·)

/-- Capacity of group g in kW; 0: unavailable. -/
def State.groupCap (s : State) (g : Nat) : Nat := ((groupPhases g).filter s.healthy).length * s.maq.pPhase

/-- A fault of class F2 or higher stands in group g's own scope or in that of one of its cells (R235). -/
def State.groupFault (s : State) (g : Nat) : Bool :=
  s.trips.any fun t => decide (2 ≤ t.cls) && ((t.scope.kind.toNat == 2 && t.scope.inst.toNat == g) || (t.scope.kind.toNat == 1 && t.scope.inst.toNat / 4 == g))

/-- Group g has to leave the destination that holds it, and is not taken anew while that stands (R235; log 229). -/
def State.unfit (s : State) (g : Nat) : Bool := s.groupCap g == 0 || s.groupFault g

def State.moving (s : State) (g : Nat) : Bool := s.alloc.moves.any fun (m : Move) => m.grp == g
def State.commanded (s : State) (g d : Nat) : Bool := s.fb (MTX_COIL_CMD_cmd (12 * g + d))

/-- The groups that destination d holds and keeps. -/
def State.heldGroups (s : State) (d : Nat) : List Nat := (s.groupsOf d).filter fun g => !(s.alloc.moves.any fun (m : Move) => m.grp == g && m.src == d)

/-- Groups on their way to d. -/
def State.comingGroups (s : State) (d : Nat) : List Nat := (s.alloc.moves.filter fun (m : Move) => m.dst == d).map (·.grp)

def State.capOf (s : State) (l : List Nat) : Nat := l.foldl (fun a g => a + s.groupCap g) 0

/-- A group's dwell has ended, or it has none (R229). -/
def State.dwelt (s : State) (g : Nat) : Bool :=
  match SMap.get 0 s.alloc.closedAt g with
  | 0 => true
  | t + 1 => decide (t + s.maq.dwell * 400000000 ≤ s.now)

/-- A free group (R227): none of its positions is commanded, or still closed. -/
def State.freeGroup (s : State) (g : Nat) : Bool :=
  !s.unfit g && !s.moving g && !((List.range 12).any fun d => s.commanded g d || s.fbClosed (12 * g + d)) && s.dwelt g

/-- A destination is live while a phase unit with its dest is enabled. -/
def State.live (s : State) (d : Nat) : Bool := (List.range 256).any fun n => s.f (PHU_CTRL_dest n) == d && s.fb (PHU_CTRL_en n)

/-- Whether d may take group g where it is free: a live destination only above the lowest group commanded to it. -/
def State.mayJoin (s : State) (d g : Nat) : Bool := !s.live d || (s.groupsOf d).any fun h => decide (h < g)

/-- The free groups that d may take, lowest first. -/
def State.joinable (s : State) (d : Nat) : List Nat := (List.range 8).filter fun g => s.freeGroup g && s.mayJoin d g

/-- d finds only free groups below its lowest one: the first of them (R227). -/
def State.leadBlock (s : State) (d : Nat) : Option Nat := if s.joinable d = [] then (List.range 8).find? s.freeGroup else none

/-- The class of destination x as it now stands: a session's own, a port's of the last sharing. -/
def State.classOf (s : State) (x : Nat) : Nat :=
  if x < 8 then match s.demand x with
    | some d => d.cls
    | none => 255
  else (s.grant x).cls

/-- The groups that destination d of class cls, 0 or 1, may take, with who loses them: of class 3 ports, then of class 2 sessions, the highest first
(R229). -/
def State.losers (s : State) (d cls : Nat) : List (Nat × Nat) :=
  let of := fun x => ((s.heldGroups x).reverse.filter fun g =>
    s.dwelt g && !s.moving g && s.mayJoin d g && (!s.live x || (s.groupsOf x).any fun h => decide (h < g))).map fun g => (x, g)
  if 1 < cls then []
  else [3, 2].flatMap fun k => ((List.range 12).filter fun x => s.classOf x == k && x != d).flatMap of

/-! ## Caps and weights (R225) -/

/-- V of connector c in mV: the larger of MEAS_V and the vessel's voltage. -/
def State.volts (s : State) (c : Nat) (d : Demand) : Nat := max (s.fi (CONN_MEAS_V_v c)).toNat (d.volts * 1000)

/-- Q1.30 of 4,096 A times mV as kW. -/
def power (i mV : Nat) : Frac := mkFrac ((i * mV : Nat) : Int) (2 ^ 18 * 1000000)

/-- Capacity in kW of the groups that d holds or that are on their way to it. -/
def State.roomOf (s : State) (d : Nat) : Nat := s.capOf (dedup (s.heldGroups d ++ s.comingGroups d))

/-- Capacity in kW of the groups held or obtainable by d of class cls: groups are taken from others only where no free one is left. -/
def State.reach (s : State) (d cls : Nat) : Nat :=
  let more := if ((List.range 8).filter s.freeGroup).length = (s.joinable d).length then (s.losers d cls).map (·.2) else []
  s.capOf (dedup (s.heldGroups d ++ s.comingGroups d ++ s.joinable d ++ more))

/-- The cap of connector c. -/
def State.connCap (s : State) (c : Nat) (d : Demand) : Frac :=
  let v := s.volts c d
  match SMap.get none s.alloc.headroom c with
  | none => ofInt 0
  | some (fc, _, at_) =>
    let cap := ((power (min d.ceiling (min fc (3000 * 2 ^ 18))) v).min (ofInt (s.reach c d.cls))).min (ofInt 3750)
    if s.older at_ 2000 then ofInt 0
    else if s.isStale 4 c then cap.min (s.grant c).cap
    else cap

/-- A weight, held at its last value while the energies are stale (R219). -/
def State.heldWeight (s : State) (d cls : Nat) (w : Frac) : Frac := if s.isStale 1 0 ∧ (s.grant d).cls = cls then (s.grant d).weight else w

/-- The weight of connector c: its cap, its required rate, or the maquette's default. -/
def State.connWeight (s : State) (c : Nat) (d : Demand) (cap : Frac) : Frac :=
  s.heldWeight c d.cls <| match d.cls with
  | 0 => cap
  | 1 =>
      let wh : Frac := (ofInt d.energy).sub (mkFrac (((s.pubReg (connReg c) + 2 ^ 64 - d.fromReg) % 2 ^ 64 : Nat) : Int) 1000000)
      let t := (mkFrac ((d.deadline : Int) * 1000000000 - s.dtNs) 1000000000).max (ofInt 60)
      (((wh.mul (mkFrac 36 10)).div t)).max (ofInt 1)
  | _ => ofInt s.maq.wDefault

/-- A destination takes part. -/
def State.takesPart (s : State) (d : Nat) : Bool := !s.tripped (destScope d)

/-! ## The budget (R223, R224) -/

/-- The site limits in force: smallest P and S. -/
def State.siteLims (s : State) : Nat × Nat :=
  (s.alloc.limits.foldl (fun a (l : SiteLim) => min a l.p) s.maq.pHard, s.alloc.limits.foldl (fun a (l : SiteLim) => min a l.q) s.maq.sHard)

/-- A published element's active and reactive power, W and var. -/
def State.elemP (s : State) (e : Nat) : Int := toSigned 32 (s.rd (pubBase + 0x28 + 16 * e) 4)
def State.elemQ (s : State) (e : Nat) : Int := toSigned 32 (s.rd (pubBase + 0x2C + 16 * e) 4)
def State.sumP (s : State) (l : List Nat) : Int := l.foldl (fun a e => a + s.elemP e) 0
def State.sumQ (s : State) (l : List Nat) : Int := l.foldl (fun a e => a + s.elemQ e) 0

/-- The square root of a fraction to 10^-6; what lies between its neighbours is not stated: either (log 6). -/
def State.sqrtFrac (s : State) (x : Frac) : Frac × State :=
  let n := (x.mul (ofInt 1000000000000)).floor.toNat
  let r := isqrt n
  if (mkFrac r 1000000).mul (mkFrac r 1000000) == x then (mkFrac r 1000000, s)
  else (mkFrac (r + s.fresh.1 % 2 : Nat) 1000000, s.fresh.2)

/-- P_in in kW. -/
def State.pIn (s : State) : Frac × State :=
  let (p, m) := s.siteLims
  let q : Frac := if s.isStale 0 0 then ofInt s.maq.qMax else mkFrac (s.sumQ [0, 1, 2, 3, 4, 5]) 1000
  let x := (ofInt ((m : Int) * m)).sub (q.mul q)
  if x.num ≤ 0 then (ofInt 0, s)
  else if ((ofInt p).mul (ofInt p)).le x then (ofInt p, s)
  else s.sqrtFrac x

def State.etaF (s : State) : Frac := mkFrac s.maq.eta 1000

/-- The usable intake U in kW. -/
def State.usable (s : State) : Frac × State :=
  let (pin, s) := s.pIn
  let aux : Frac := if s.isStale 0 0 then ofInt s.maq.auxMax
    else ((mkFrac (s.sumP [0, 1, 2, 3, 4, 5]) 1000).sub ((mkFrac (s.sumP [6, 7, 8, 9, 10, 11, 12, 13, 14, 15, 16, 17]) 1000).div s.etaF)).max (ofInt 0)
  ((pin.sub aux).mul (mkFrac (1000 - s.maq.margin : Nat) 1000), s)

/-- A port's discharge availability and charge acceptance, kW: 0 while stale. -/
def State.portAvail (s : State) (p : Nat) : Nat × Nat :=
  match SMap.get none s.alloc.buffers p with
  | some b => if s.isStale 5 p ∨ !s.takesPart (8 + p) then (0, 0) else (b.1, b.2.1)
  | none => (0, 0)
def State.portVolts (s : State) (p : Nat) : Nat := match SMap.get none s.alloc.buffers p with
  | some b => b.2.2.1
  | none => 0

/-! ## Water-filling (R226) -/

/-- One destination in the sharing. -/
structure Share where
  d : Nat
  cls : Nat
  w : Frac
  cap : Frac
deriving DecidableEq, Repr

/-- The inner procedure: capped members first, the rest in proportion; allocations not yet rounded down. -/
def fill (left : Frac) (free : List Share) : Nat → List (Nat × Frac)
  | 0 => []
  | n + 1 =>
    if free.isEmpty then []
    else
      let lam := left.div (sumFrac (free.map (·.w)))
      let hit := free.filter fun i => i.cap.le (i.w.mul lam)
      if hit.isEmpty then free.map fun i => (i.d, i.w.mul lam)
      else (hit.map fun i => (i.d, i.cap)) ++ fill (left.sub (sumFrac (hit.map (·.cap)))) (free.filter fun i => !i.cap.le (i.w.mul lam)) n

/-- The member that leaves: the smallest weight, then the highest index. -/
def leaver (l : List Share) : Option Share := l.foldl (fun b i => match b with
  | none => some i
  | some x => if x.w.lt i.w then some x else some i) none

/-- One class: members with less than p_min leave one by one. -/
def classFill (rem : Frac) (pMin : Int) (l : List Share) : Nat → List (Nat × Int)
  | 0 => []
  | n + 1 =>
    let a := (fill rem l (l.length + 1)).map fun x => (x.1, x.2.floor)
    let low := l.filter fun i => a.any fun x => x.1 == i.d && decide (0 < x.2) && decide (x.2 < pMin)
    match leaver low with
    | none => a
    | some x => classFill rem pMin (l.filter fun i => i.d != x.d) n

/-- All classes in turn. -/
def waterFill (pMin : Int) (l : List Share) : List Nat → Frac → List (Nat × Int)
  | [], _ => []
  | k :: t, rem =>
    let mine := l.filter fun i => i.cls == k && decide (0 < i.w.num)
    let a := classFill rem pMin mine (mine.length + 1)
    a ++ waterFill pMin l t (rem.sub (ofInt (a.foldl (fun x y => x + y.2) 0)))

/-- The allocation of d. -/
def allocOf (a : List (Nat × Int)) (d : Nat) : Int := ((a.find? fun x => x.1 == d).map (·.2)).getD 0

/-! ## Moving groups (R227 to R229, R234, R235) -/

/-- T0 writes cmd of a matrix position, its other fields as they stand (R209). -/
def State.setCmd (s : State) (k : Nat) (b : Bool) : State :=
  s.writeCoil k (boolNat b + s.f (MTX_COIL_CMD_pull k) * 256 + s.f (MTX_COIL_CMD_hold k) * 65536 + s.f (MTX_COIL_CMD_fb_mode k) * 16777216)

def State.addMove (s : State) (m : Move) : State := s.setAlloc fun a => { a with moves := a.moves ++ [m] }
def State.dropMove (s : State) (m : Move) : State := s.setAlloc fun a => { a with moves := a.moves.filter (· != m) }
def State.advanceMove (s : State) (m : Move) (stage due : Nat) : State :=
  s.setAlloc fun a => { a with moves := a.moves.map fun x => if x = m then { m with stage := stage, due := due } else x }

/-- Every phase of group g is disabled. -/
def State.groupOff (s : State) (g : Nat) : Bool := (groupPhases g).all fun n => !s.fb (PHU_CTRL_en n)

def dropBit (m g : Nat) : Nat := withBit m g false

/-- The output voltage of every cell of group g lies within 2 % of the bus voltage of destination d (R211; log 230). -/
def State.nearBus (s : State) (g d : Nat) : Bool :=
  let bus : Int := if d < 8 then s.fi (CONN_MEAS_VBUS_v d) else s.fi (BUF_PORT_V_v (d - 8))
  let fs := if d < 8 then s.f (CONN_TAP_CFG_v_fs d) else s.f (BUF_PORT_TAP_CFG_v_fs (d - 8))
  (List.range 4).all fun i =>
    let y := sinc3 64 (SMap.get 0 (s.lane (4 * g + i)).hist 8)
    let v := ((fs * 1000 : Nat) * ((y : Int) - (2 ^ 17 : Nat))) / (2 ^ 17 : Nat)
    decide (((v - bus).natAbs : Int) * 50 ≤ bus)

/-- Position (g, d) may be closed (R211, R212, R227): the group's units are disabled or carry nothing; a live destination is met at its voltage, and
above the lowest of its groups. -/
def State.mayClose (s : State) (g d : Nat) : Bool :=
  ((groupPhases g).all fun n => !s.fb (PHU_CTRL_en n) || (s.fi (PHU_MEAS_i_avg n) == 0 && s.fi (PHU_IREF_iref n) == 0)) &&
    (!s.live d || s.nearBus g d) && !s.closeRefused g d

/-- One step of a move, where the one before is complete. A move to a destination that has tripped, or of a group that has become unfit, ends (R235). -/
def State.stepMove (s : State) (m : Move) : State :=
  let k := 12 * m.grp
  match m.stage with
  | 2 => if m.due ≤ s.now then (s.setGrant m.src fun x => { x with mask := dropBit x.mask m.grp }).advanceMove m 4 0 else s
  | 4 => if s.groupOff m.grp then (s.setCmd (k + m.src) false).advanceMove m 5 0 else s
  | 5 =>
    if m.src < 12 ∧ s.fbClosed (k + m.src) then s
    else if 12 ≤ m.dst ∨ s.unfit m.grp ∨ s.tripped (destScope m.dst) ∨ !s.mayJoin m.dst m.grp then s.dropMove m
    else if s.mayClose m.grp m.dst then (s.setCmd (k + m.dst) true).advanceMove m 6 0
    else s
  | _ =>
    if s.fbClosed (k + m.dst) then
      ((s.setGrant m.dst fun x => { x with mask := withBit x.mask m.grp true }).setAlloc fun a => { a with closedAt := SMap.set 0 a.closedAt m.grp (s.now + 1) }).dropMove m
    else s

/-- Begin to move group g from src (12: it is free) to dst (12: to be free). `grace`: the lowering of the source's limit must be enforced first. -/
def State.beginMove (s : State) (g src dst : Nat) (grace : Bool) : State :=
  if 12 ≤ src then s.addMove ⟨g, 12, dst, 5, 0⟩
  else if s.live src then s.addMove ⟨g, src, dst, 2, if grace then s.now + 800000000 else s.now⟩
  else (s.setGrant src fun x => { x with mask := dropBit x.mask g }).addMove ⟨g, src, dst, 4, 0⟩

/-- The forward limit in force of destination d, kW. -/
def State.limitKw (s : State) (d : Nat) : Frac :=
  power (s.grant d).fwd (if d < 8 then match s.demand d with
    | some m => s.volts d m
    | none => (s.fi (CONN_MEAS_V_v d)).toNat
  else s.portVolts (d - 8) * 1000)

/-- The limit of destination x lies above the capacity of its groups but g: R234 lowers it. -/
def State.mustLower (s : State) (x g : Nat) : Bool := (ofInt (s.capOf ((s.heldGroups x).filter (· != g)))).lt (s.limitKw x)

/-- Give destination d groups until its healthy capacity reaches its allocation (R227, R229). T0 declares no notice in a connector's scope (R42): that of a
blocked connector has the site's (log 228). -/
def State.assign (s : State) (d : Nat) : Nat → State
  | 0 => s
  | n + 1 =>
    if (s.grant d).alloc ≤ s.roomOf d then s
    else
      match s.joinable d, s.leadBlock d, s.losers d (s.grant d).cls with
      | g :: _, _, _ => (s.beginMove g 12 d false).assign d n
      | [], some g, _ =>
        (s.engineRecord 0 0 0x022 (if d < 8 then siteScope else destScope d) 0 g).setGrant d fun x => { x with flags := withBit x.flags 3 true }
      | [], none, (x, g) :: _ => ((s.engineRecord 0 7 0x024 (destScope d) 0 (g + 256 * x)).beginMove g x d (s.mustLower x g)).assign d n
      | [], none, [] => s

/-- Give up the highest group where the allocation, of a discharging port its magnitude, has stayed below what remains for 60 s (R228). -/
def State.giveUp (s : State) (d : Nat) : State :=
  match (s.heldGroups d).reverse with
  | [] => s
  | g :: rest =>
    let spare := decide ((s.grant d).alloc.natAbs < s.capOf rest) && (!s.live d || !rest.isEmpty)
    let at_ := (s.grant d).spareAt.getD s.now
    if !spare then s.setGrant d fun x => { x with spareAt := none }
    else if at_ + 24000000000 ≤ s.now && s.dwelt g then (s.setGrant d fun x => { x with spareAt := none }).beginMove g d 12 (s.mustLower d g)
    else s.setGrant d fun x => { x with spareAt := some at_ }

/-- Group g leaves destination d without a grace; a move of it to d ends. -/
def State.expel (s : State) (g d : Nat) : State :=
  let s := s.setAlloc fun a => { a with moves := a.moves.filter fun (m : Move) => !(m.grp == g && m.dst == d) }
  (s.setGrant d fun x => { x with mask := dropBit x.mask g }).addMove ⟨g, d, 12, 4, 0⟩

/-- The current of destination d is at zero: a connector's STATUS.zero; a port has no such flag, and its measured current is 0 (log 229). -/
def State.destZero (s : State) (d : Nat) : Bool := if d < 8 then s.fb (CONN_STATUS_zero d) else s.fi (BUF_PORT_I_i (d - 8)) == 0

/-- The lowest group of live destination d leaves it, or has to. -/
def State.leadLost (s : State) (d : Nat) : Bool :=
  s.live d && match s.groupsOf d with
    | g :: _ => s.unfit g
    | [] => false

/-- A group with a fault or without a healthy phase leaves its destination without a grace; the lowest one of a live destination only at zero
current, its allocation being 0 until then (R235). -/
def State.evict (s : State) (d : Nat) : State :=
  let s := if s.leadLost d then s.setGrant d fun x => { x with alloc := 0 } else s
  s.each (s.heldGroups d) fun s g =>
    if s.unfit g && !(s.live d && (s.groupsOf d).head? == some g && !s.destZero d) then s.expel g d else s

/-- Connector c's positions open once every phase of its groups is disabled and dcp and dcn show open (R235). -/
def State.openConn (s : State) (c : Nat) : State :=
  let l := s.groupsOf c
  if l.all s.groupOff && !s.fbClosed (96 + 2 * c) && !s.fbClosed (97 + 2 * c) then
    (s.each l fun s g => s.setCmd (12 * g + c) false).setGrant c fun x => { x with mask := 0, alloc := 0 }
  else s

/-- Moves to connector c end, after the step that they have reached; the groups are free (R235). -/
def State.endMoves (s : State) (c : Nat) : State :=
  s.setAlloc fun a => { a with moves := a.moves.filterMap fun (m : Move) => if m.dst = c then (if m.src < 12 ∧ m.stage < 5 then some { m with dst := 12 } else none) else some m }

/-- POWER_RELEASE: the connector's positions open; a move to it ends; the request completes when every one of them has confirmed open. -/
def State.doReleases (s : State) : State :=
  s.alloc.releases.foldl (fun s x =>
    let c := x.2.scope.inst.toNat
    let s := (s.endMoves c).openConn c
    if (List.range 8).all fun g => !s.commanded g c && !s.fbClosed (12 * g + c) then
      (s.finishServing allocQ (· == x.2) 1 0 (BitVec.ofNat 64 x.1)).setAlloc fun a => { a with releases := a.releases.filter (· != x) }
    else s) s

/-- A matrix position that has not confirmed: MATRIX_FAIL. -/
def State.matrixFails (s : State) : State :=
  s.each (List.range 96) fun s k =>
    if s.fb (MTX_COIL_STAT_fail_close k) || s.fb (MTX_COIL_STAT_fail_open k) then
      (s.setAll [(MTX_COIL_STAT_fail_close k, 0), (MTX_COIL_STAT_fail_open k, 0)]).declareFault 0 2 0x023 (groupScope (k / 12)) 0 k
    else s

/-! ## Writing the grant (R230 to R232) -/

/-- Amperes as Q1.30 of 4,096 A. -/
def ampQ (a : Int) : Nat := (a * 2 ^ 18).toNat

/-- Whether a new limit is written: it differs by more than 1 % or 10 A, or the change is one that is always written. -/
def bandPass (old new : Nat) (always : Bool) : Bool :=
  old != new && (new == 0 || always || decide (max (old / 100) (10 * 2 ^ 18) < (if old < new then new - old else old - new)))

/-- T0 sends SET_LIMIT to the lead engine of d; without a lead there is nobody to send it to. -/
def State.sendLimit (s : State) (d fwd rev : Nat) : State :=
  match s.leadOf d with
  | 0 => s
  | n =>
    let e : Fin 8 := if n = 1 then 2 else 3
    let (v, s) := s.fresh
    let r : Req := ⟨1, 0x0203, BitVec.ofNat 32 v, destScope d, 0, 0, false, false, 16, BitVec.ofNat 128 (fwd + 2 ^ 32 * rev)⟩
    s.serve (.engine 0) (.queue e 1) r fun s => s.connService e r true fun s => s

/-- The limits of d are written now. -/
def State.putLimit (s : State) (d fwd rev : Nat) : State :=
  let old := s.grant d
  let s := (s.sendLimit d fwd rev).setGrant d fun x => { x with fwd := fwd, rev := rev, held := none, flags := withBit x.flags 0 false }
  let s := if d < 8 ∧ fwd < old.fwd then s.setAlloc fun a => { a with holdTill := max a.holdTill (s.now + 800000000) } else s
  let s := if d < 8 ∧ fwd ≠ old.fwd then (let (n, s) := s.freeNum; s.engineRecord 0 7 n (connScope d) 2 fwd) else s
  match s.demand d with
  | some m =>
    if d < 8 ∧ fwd ≠ 0 ∧ m.pending then
      let g := s.grant d
      let s := s.finishServing allocQ (· == m.req) 1 0 (BitVec.ofNat 64 (fwd + g.alloc.toNat % 2 ^ 16 * 2 ^ 32 + g.mask * 2 ^ 48))
      s.setAlloc fun a => { a with demands := SMap.set none a.demands d (some { m with pending := false }) }
    else s
  | none => s

/-- The limits of d: written, kept by the dead band, or held (R231). `always`: a fall that a forecast, cell health, a site limit or a leaving group (R234) causes. -/
def State.commitLimit (s : State) (d fwd rev : Nat) (always : Bool) : State :=
  let g := s.grant d
  let turn := (g.rev != 0 && fwd != 0) || (g.fwd != 0 && rev != 0)
  let write := bandPass g.fwd fwd (turn || (always && decide (fwd < g.fwd))) || bandPass g.rev rev turn
  let raise := decide (g.fwd < fwd) || (decide (8 ≤ d) && decide (rev < g.rev))
  if !write then s.setGrant d fun x => { x with held := none, flags := withBit x.flags 0 false }
  else if raise && decide (s.now < s.alloc.holdTill) then
    s.setGrant d fun x => { x with held := some (fwd, rev), heldTill := s.dtNs + (s.alloc.holdTill - s.now) * 5 / 2, flags := withBit x.flags 0 true }
  else if raise && s.leadOf d == 0 then s.setGrant d fun x => { x with held := some (fwd, rev), heldTill := s.dtNs, flags := withBit x.flags 0 true }
  else s.putLimit d fwd rev

/-- The bytes of the grant table but for its seq (R232). -/
def State.grantBytes (s : State) (frame budget : Nat) (dis hold : Bool) : List Byte :=
  bytesOf 0 4 ++ bytesOf frame 8 ++ bytesOf s.dtNs 8 ++ bytesOf budget 4 ++ bytesOf (boolNat dis + 2 * boolNat hold) 4 ++
    (List.range 12).flatMap fun d =>
      let g := s.grant d
      let h := g.held.getD (0, 0)
      let old := if d < 8 then s.isStale 4 d else s.isStale 5 (d - 8)
      let fl := g.flags + (if old then 4 else 0) + (if s.tripped (destScope d) then 16 else 0) + (if s.alloc.moves.any fun (m : Move) => m.src == d then 32 else 0)
      bytesOf g.fwd 4 ++ bytesOf g.rev 4 ++ bytesOf (ofSigned 32 g.alloc) 4 ++ bytesOf g.mask 1 ++ bytesOf g.cls 1 ++ bytesOf fl 2 ++
        bytesOf h.1 4 ++ bytesOf h.2 4 ++ bytesOf (if g.held.isSome then g.heldTill else 0) 8

/-- The grant table, clean in LPDDR4X. -/
def State.writeGrants (s : State) (budget : Nat) (dis : Bool) : State :=
  let s := s.setAlloc fun a => { a with commits := a.commits + 1 }
  let b := s.grantBytes ((s.slot 0 0).tick.count) budget dis (s.devMode == modeHold)
  (s.wrBytes (s.maq.grantTable + 4) b).wr s.maq.grantTable 4 (2 * s.alloc.commits)

/-- ALLOC_SHORT of a class 1 destination, at the first such frame and every 60 s. -/
def State.judgeShort (s : State) (d : Nat) : State :=
  let g := s.grant d
  if g.cls = 1 ∧ (ofInt g.alloc).lt g.weight then
    let due := match g.shortAt with
      | none => true
      | some t => decide (t + 24000000000 ≤ s.now)
    let s := s.setGrant d fun x => { x with flags := withBit x.flags 1 true }
    if due then
      let w := g.weight.sub (ofInt g.alloc)
      let (v, s) := s.roundOpen w.num w.den
      (s.engineRecord 0 7 0x020 (destScope d) 0 v.toNat).setGrant d fun x => { x with shortAt := some s.now }
    else s
  else s.setGrant d fun x => { x with shortAt := none, flags := withBit x.flags 1 false }

/-! ## The frame (R217) -/

/-- Steps 3 and 4: caps, weights, budget, sharing: the shares, whether discharge is counted, U, D. -/
def State.allocShares (s : State) : List Share × Bool × Frac × Frac × State :=
  let (u, s) := s.usable
  let conns := (List.range 8).filterMap fun c => match s.demand c with
    | some m =>
      let cap := s.connCap c m
      if s.takesPart c ∧ 0 < cap.num then some ⟨c, m.cls, s.connWeight c m cap, cap⟩ else none
    | none => none
  let dis := ((s.etaF).mul u).lt (sumFrac (conns.map (·.cap)))
  let ports := if dis then [] else (List.range 4).filterMap fun p =>
    let c := (s.portAvail p).2
    if c = 0 then none else some ⟨8 + p, 3, s.heldWeight (8 + p) 3 (ofInt c), ofInt c⟩
  let b : Nat := if dis then (List.range 4).foldl (fun a p => a + (s.portAvail p).1) 0 else 0
  (conns ++ ports, dis, u, (s.etaF).mul (u.add (ofInt b)), s)

/-- The result of the sharing in the grants; a destination that takes no part has no allocation. -/
def State.applyShares (s : State) (l : List Share) (a : List (Nat × Int)) : State :=
  s.each (List.range 12) fun s d =>
    match l.find? fun i => i.d == d with
    | some i => s.setGrant d fun x => { x with alloc := allocOf a d, cls := i.cls, cap := i.cap, weight := i.w, flags := withBit x.flags 3 false }
    | none => s.setGrant d fun x => { x with alloc := 0, cls := 255, flags := withBit x.flags 3 false }

/-- Insert a destination behind those of no smaller weight. -/
def State.insertW (s : State) (d : Nat) : List Nat → List Nat
  | [] => [d]
  | x :: t => if (s.grant x).weight.lt (s.grant d).weight then d :: x :: t else x :: s.insertW d t

/-- Destinations in the order of class, weight from high to low, index. -/
def State.inOrder (s : State) : List Nat :=
  [0, 1, 2, 3].flatMap fun k =>
    ((List.range 12).filter fun d => (s.grant d).cls == k).foldl (fun l d => s.insertW d l) []

/-- The discharge of the ports (R230): the sharing of the discharge power in proportion, each share capped; kW, and whole amperes as Q1.30. -/
def State.portRev (s : State) (dis : Bool) (u : Frac) (p : Nat) : Int × Nat :=
  if !dis then (0, 0)
  else
    let total := (List.range 8).foldl (fun a c => a + (s.grant c).alloc) 0
    let pw := (((ofInt total).div s.etaF).sub u).max (ofInt 0) |>.ceil
    let all := (List.range 4).foldl (fun a q => a + (s.portAvail q).1) 0
    let av := (s.portAvail p).1
    if av = 0 ∨ s.portVolts p = 0 then (0, 0)
    else
      let share := (mkFrac (pw * av) all).min (ofInt av)
      (share.ceil, ampQ ((share.mul (ofInt 1000)).div (ofInt (s.portVolts p))).ceil)

/-- The allocations of discharging ports are negative (R232). -/
def State.setDischarge (s : State) (dis : Bool) (u : Frac) : State :=
  s.each (List.range 4) fun s p => if 0 < (s.portRev dis u p).1 ∧ !s.leadLost (8 + p) then s.setGrant (8 + p) fun x => { x with alloc := -(s.portRev dis u p).1 } else s

/-- Step 5: groups leave, are assigned, and are given up; each allocation is cut to the capacity that its destination ends the frame with. -/
def State.allocGroups (s : State) (dis : Bool) (u : Frac) : State :=
  let s := s.each (List.range 12) State.evict
  let s := s.inOrder.foldl (fun s d => if 0 < (s.grant d).alloc then s.assign d 8 else s) s
  let s := s.each (List.range 12) fun s d => s.setGrant d fun x => { x with alloc := min x.alloc (s.roomOf d) }
  (s.setDischarge dis u).each (List.range 12) State.giveUp

/-- The capacity of the groups in the target mask of d, which the lead engine may use: a limit rises only with it (R234 step 6). -/
def State.maskCap (s : State) (d : Nat) : Nat := s.capOf ((List.range 8).filter fun g => (s.grant d).mask / 2 ^ g % 2 == 1)

/-- What a connector may draw for an allocation of kw, as Q1.30. -/
def State.connAmps (s : State) (c : Nat) (kw : Int) : Nat :=
  match s.demand c with
  | some m => if s.volts c m = 0 then 0 else ampQ (kw * 1000000 / s.volts c m)
  | none => 0

/-- The fall of d's allocation in this frame comes from a lower forecast, from cell health or a leaving group, or from a lower site limit (R230, R234). -/
def State.causedFall (s : State) (d : Nat) (lower : Bool) : Bool :=
  let g := s.grant d
  let heat := match SMap.get none s.alloc.headroom d, s.demand d with
    | some h, some m => decide (d < 8 ∧ h.1 < g.fc ∧ (power h.1 (s.volts d m)).floor ≤ g.alloc)
    | _, _ => false
  lower || heat || decide (s.roomOf d < g.room ∧ (s.roomOf d : Int) ≤ g.alloc) || s.alloc.moves.any fun (m : Move) => m.src == d

/-- The limits of d as step 6 makes them: of its allocation, and of as much of it as its target groups carry. -/
def State.wantedLimits (s : State) (dis : Bool) (u : Frac) (d : Nat) : (Nat × Nat) × (Nat × Nat) :=
  let a := (s.grant d).alloc
  let now := min a (s.maskCap d)
  if d < 8 then ((s.connAmps d a, 0), (s.connAmps d now, 0))
  else
    let v := s.portVolts (d - 8)
    let amps := fun (kw : Int) => if v = 0 then 0 else ampQ (kw * 1000 / v)
    if 0 ≤ a then ((amps a, 0), (amps now, 0))
    else
      let rev := (s.portRev dis u (d - 8)).2
      ((0, rev), (0, if a.natAbs ≤ s.maskCap d then rev else min rev (amps (s.maskCap d))))

/-- Write, keep or hold the limits of d; what its groups do not carry yet is shown as held. -/
def State.limitStep (s : State) (dis : Bool) (u : Frac) (lower : Bool) (d : Nat) : State :=
  let ((fwd, rev), (f, r)) := s.wantedLimits dis u d
  let s := s.commitLimit d f r (s.causedFall d lower)
  if (f < fwd ∨ r < rev) ∧ (s.grant d).held.isNone then
    s.setGrant d fun x => { x with held := some (fwd, rev), heldTill := s.dtNs, flags := withBit x.flags 0 true }
  else s

/-- Step 6 and the SET_LIMITs of step 7: the connectors that fall first, so that a lowering holds every raise of the frame. -/
def State.allocLimits (s : State) (dis : Bool) (u : Frac) (lower : Bool) : State :=
  let falls := (List.range 8).filter fun c => decide ((s.wantedLimits dis u c).2.1 < (s.grant c).fwd)
  let s := s.each (falls ++ (List.range 12).filter fun d => !falls.contains d) fun s d => s.limitStep dis u lower d
  s.each (List.range 12) fun s d => s.setGrant d fun x => { x with room := s.roomOf d, fc := match SMap.get none s.alloc.headroom d with
    | some h => h.1
    | none => 0 }

/-- In HOLD T0 writes no limit other than 0 and takes no matrix step. -/
def State.allocHold (s : State) : State :=
  s.each (List.range 12) fun s d => if (s.grant d).fwd ≠ 0 ∨ (s.grant d).rev ≠ 0 then (s.setGrant d fun x => { x with alloc := 0 }).putLimit d 0 0 else s

/-- T0's own requests that complete at the next commit; no result value is defined: free. -/
def State.allocDone (s : State) : State :=
  let p := fun (r : Req) => r.opcode == 0x0103 || r.opcode == 0x0104 || r.opcode == 0x0105
  let (v, s) := s.fresh
  (s.finishServing allocQ p 1 0 (BitVec.ofNat 64 v)).finishServing (.queue 0 2) p 1 0 (BitVec.ofNat 64 v)

/-- Whether the frame would grant energy to a connector or port. -/
def State.wantsRun (s : State) : Bool := (List.range 12).any fun d => decide (0 < (s.grant d).alloc)

def State.setRunReq (s : State) (b : Bool) : State := { s with mode := { s.mode with runReq := b } }

/-- T0's request for RUN on T7's Q0, whose opcode is not stated: free (R145; log 231). T7 writes SEC.MODE; a RETIRED device refuses it (R411). -/
def State.requestRun (s : State) : State :=
  let (op, s) := s.fresh
  let (id, s) := s.fresh
  let q : QId := .queue 7 0
  let r : Req := ⟨1, BitVec.ofNat 16 op, BitVec.ofNat 32 id, siteScope, 0, 0, false, false, 0, 0⟩
  s.serve (.engine 0) q r fun s => if s.lifecycle = retired then s.reject q r 0x44 else ((s.setRunReq true).writeMode modeRun).done q r 0

/-- Releases, and the positions of tripped connectors, whatever else the frame grants (R220, R235). -/
def State.allocOpenings (s : State) : State :=
  (s.each (List.range 8) fun s c => if s.tripped (connScope c) then (s.endMoves c).openConn c else s).doReleases

/-- The frame in RUN: steps 5 to 7. Closings assigned in the frame are issued in its commit. -/
def State.allocRun (s : State) (dis : Bool) (u : Frac) (lower : Bool) : State :=
  let s := s.allocOpenings.allocGroups dis u
  let s := s.alloc.moves.foldl State.stepMove s
  let s := s.allocLimits dis u lower
  s.setRunReq (s.wantsRun || s.alloc.grants.any fun g => g.2.held.isSome)

/-- The frame in BOOT, IDLE and SERVICE: no grant; what would be one makes T0 ask for RUN, once T7 may answer (R145). -/
def State.allocIdle (s : State) : State :=
  let want := s.wantsRun
  let s := s.allocOpenings.allocHold
  if s.devMode = modeIdle then (if want then s.requestRun else s.setRunReq false) else s

/-- One allocation frame of T0. -/
def State.allocFrame (s : State) : State :=
  let s := ((s.rinse 2 0).2.allocInputs).matrixFails.dropDemands
  let (l, dis, u, d, s) := s.allocShares
  let s := s.applyShares l (waterFill s.maq.pMin l [0, 1, 2, 3] d)
  let lims := s.siteLims
  let lower := decide (lims.1 < s.alloc.lastLim.1) || decide (lims.2 < s.alloc.lastLim.2)
  let s := s.setAlloc fun a => { a with lastLim := lims }
  let s :=
    if s.devMode = modeHold then (s.setRunReq false).allocHold
    else (if s.devMode = modeRun then s.allocRun dis u lower else s.allocIdle).each (List.range 12) State.judgeShort
  let (b, s) := s.roundOpen d.num d.den
  (s.writeGrants (clampI 0 (2 ^ 32 - 1) b).toNat dis).allocDone

end Sys2Proof.Machine
end

