-- ==== Sys2Proof/Machine/Met.lean ====
section
/-!
DEFINITION. The metrology pipeline: samples, energy samples, blocks, cuts, windows, the calibration lock (R308 to R331, R440).
Samples are held in 2^-61 V or A, products in 2^-122 W, energies in 1/(36 2^122) uWh: a sample of 100 us adds its product.
-/
namespace Sys2Proof.Machine

def State.setMet (s : State) (f : MetInt → MetInt) : State := { s with met := f s.met }
def State.metEvent (s : State) (x : Fld) : State := s.setEvent x 4 siteScope [4, 7]
def State.chan (s : State) (m : Nat) : ChanSum := SMap.get ChanSum.reset s.met.chans m
def State.setChan (s : State) (m : Nat) (x : ChanSum) : State := s.setMet fun t => { t with chans := SMap.set ChanSum.reset t.chans m x }
def State.elem (s : State) (e : Nat) : ElemSum := SMap.get ElemSum.reset s.met.elems e
def State.setElem (s : State) (e : Nat) (x : ElemSum) : State := s.setMet fun t => { t with elems := SMap.set ElemSum.reset t.elems e x }
def State.segWord (s : State) (i : Nat) : Nat := SMap.get 0 s.met.seg i

/-! ## Elements (R308) -/

/-- The voltage channel of element e. -/
def elV (e : Nat) : Nat := if e < 3 then e else if e < 6 then 5 + e else 4 + 2 * e
/-- The current channel of element e. -/
def elI (e : Nat) : Nat := if e < 3 then 4 + e else if e < 6 then 9 + e else 5 + 2 * e
/-- Elements 0 to 5 meter alternating current. -/
def elAc (e : Nat) : Bool := decide (e < 6)
/-- The first accumulator of element e. -/
def elAcc (e : Nat) : Nat := if e < 3 then 4 * e else if e < 6 then 4 * e + 4 else 2 * e + 20
/-- The first total accumulator of intake i. -/
def totAcc (i : Nat) : Nat := 12 + 16 * i
def elements : List Nat := List.range 22
def channels : List Nat := List.range 48

/-- EL_STAT.fail of every element follows its channels' failed bits. -/
def State.elFails (s : State) : State :=
  s.each elements fun s e => s.setB (MET_EL_STAT_fail e) (s.fb (MET_CH_STAT_failed (elV e)) || s.fb (MET_CH_STAT_failed (elI e)))

/-! ## Input checks (R311, R321) -/

/-- The conditions of input m as they now stand; either sets failed. -/
def State.inputChecks (s : State) (m : Nat) (stuck dens : Bool) : State :=
  let s := (s.setB (MET_CH_STAT_stuck m) stuck).setB (MET_CH_STAT_dens_out m) dens
  let s := if stuck || dens then s.setMet fun t => { t with backs := SMap.set 0 t.backs m (s.now + 1) } else s
  if (stuck || dens) && !s.fb (MET_CH_STAT_failed m) then
    (((s.setB (MET_CH_STAT_failed m) true).addSat (MET_CH_STAT_fails m) 1).elFails).metEvent MET_EVENTS_ch_fail
  else s

def execMetInputFail (m : Fin 48) (stuck densOut : Bool) (s : State) : Out := s.onClock fun s => (s.inputChecks m stuck densOut)

/-- An input that had a condition and has been free of both for 1 s is back. -/
def State.chBack (s : State) (m : Nat) : State :=
  let a := SMap.get 0 s.met.backs m
  if a = 0 ∨ s.now + 1 < a + 400000000 then s
  else ((s.inputChecks m false false).setMet fun t => { t with backs := SMap.set 0 t.backs m 0 }).metEvent MET_EVENTS_ch_back

def execChBack (m : Fin 48) (s : State) : Out := s.onClock fun s => (s.chBack m)

/-- The boot watch of 10 ms, from the start of boot step 7, sets boot_fail of each input that failed a check in it. -/
def execMetBootInputTest (failed : BitVec 48) (s : State) : Out :=
  .next (if s.met.watch = 0 ∨ s.now < s.met.watch then s
    else (s.setMet fun t => { t with watch := 0 }).each channels fun s m => s.setB (MET_CH_STAT_boot_fail m) (failed.getLsbD m))

/-! ## Samples (R312 to R316) -/

/-- Whether a block runs: CTRL.run, from the 10 ms grid edge at which the first block starts (R317). -/
def State.metRuns (s : State) : Bool := s.fb MET_STATUS_running && decide (s.met.startAt ≤ s.now)

/-- Stage 3: x = fs gain (d - ofs) of channel m for the density d, in 2^-31. -/
def State.stage3 (s : State) (m : Nat) (d : Int) : Int := (s.f (MET_CH_CFG_fs m) : Int) * s.f (MET_CH_GAIN_gain m) * (d - s.fi (MET_CH_OFS_ofs m))

/-- Take a sample of channel m into the block's sums; at or beyond full scale it is clipped. -/
def State.chanSample (s : State) (m : Nat) (x : Int) : State :=
  let c := s.chan m
  let a := x.natAbs
  let fs := s.f (MET_CH_CFG_fs m)
  s.setChan m ⟨c.abs + a, c.sq + a * a, max c.peak a, c.clip || (fs != 0 && decide (fs * 2 ^ 61 ≤ a))⟩

/-- Point k of element e's segment table: breakpoint (2^-16 of full scale) and gain correction (2^-18). -/
def State.segPoint (s : State) (e k : Nat) : Nat × Int :=
  let w := s.segWord (16 * e + 2 * k)
  (w % 2 ^ 16, toSigned 16 (w / 2 ^ 16))

/-- The gain correction at magnitude x between point k and the last of n points, as a fraction over its denominator, in 2^-18. -/
def State.segGain (s : State) (e x : Nat) : Nat → Nat → Int × Nat
  | 0, k => ((s.segPoint e k).2, 1)
  | n + 1, k =>
    let (b0, g0) := s.segPoint e k
    let (b1, g1) := s.segPoint e (k + 1)
    if x ≤ b0 then (g0, 1)
    else if x < b1 then (g0 * ((b1 : Int) - b0) + (g1 - g0) * ((x : Int) - b0), b1 - b0)
    else s.segGain e x n (k + 1)

/-- The current sample i of element e corrected and, for `invert`, negated (R309, R313). The rounding of the product is not stated. -/
def State.corrected (s : State) (e : Nat) (i : Int) : Int × State :=
  let n := s.f (MET_EL_SEG_points e)
  let (i, s) :=
    if n < 2 then (i, s)
    else
      let x := if s.met.first then 0 else s.f (MET_CH_LEVEL_level (elI e))
      let (g, d) := s.segGain e x (n - 1) 0
      s.roundOpen (i * ((2 ^ 18 * d : Nat) + g)) (2 ^ 18 * d)
  (if s.fb (MET_EL_CFG_invert e) then -i else i, s)

/-- The offset o, 2^-28 of v_fs i_fs, in 2^-122 W. -/
def State.elOfs (s : State) (e : Nat) (o : Int) : Int := o * 2 ^ 94 * s.f (MET_CH_CFG_fs (elV e)) * s.f (MET_CH_CFG_fs (elI e))

/-- Add n to accumulator a. -/
def State.accumulate (s : State) (a n : Nat) : State :=
  s.setMet fun t => { t with acc := SMap.set 0 t.acc a (SMap.get 0 t.acc a + n) }

/-- One energy sample of element e goes by its sign alone: to import (offset k) or export (k + 1), and with it to the intake's totals
(R315). -/
def State.energySample (s : State) (e k : Nat) (x : Int) : State :=
  if x = 0 then s
  else
    let j := k + (if x < 0 then 1 else 0)
    let s := s.accumulate (elAcc e + j) x.natAbs
    let s := if elAc e then s.accumulate (totAcc (e / 3) + j) x.natAbs else s
    if k = 0 then s.setB (MET_EL_STAT_import e) (decide (0 < x)) else s

/-- The voltage v of element e against the hysteresis of 2 % of v_nom: a change of sides is a zero crossing (R315). -/
def State.elemWave (s : State) (e : Nat) (v : Int) : State :=
  let x := s.elem e
  let h : Int := s.f (MET_EL_CFG_v_nom e) * 2 ^ 61
  let pos := if h < 50 * v then true else if 50 * v < -h then false else x.pos
  s.setElem e { x with pos := pos, crossed := x.crossed || pos != x.pos, len := x.len + 1 }

/-- Stages 4 to 6 of element e for one sample: voltage v, current i; shifted voltage w (R314). -/
def State.elemSample (s : State) (e : Nat) (v i w : Int) : State :=
  let s := if elAc e then s.elemWave e v else s
  if !s.fb (MET_EL_CFG_en e) then s
  else
    let (i, s) := s.corrected e i
    let p := v * i - s.elOfs e (s.fi (MET_EL_OFS_p_ofs e))
    let q := if elAc e then w * i - s.elOfs e (s.fi (MET_EL_OFS_q_ofs e)) else 0
    let x := s.elem e
    let x := { x with v := x.v + v, i := x.i + i, vSq := x.vSq + v.natAbs * v.natAbs, iSq := x.iSq + i.natAbs * i.natAbs, p := x.p + p, q := x.q + q }
    if elAc e then s.setElem e { x with halfP := x.halfP + p, halfQ := x.halfQ + q }
    else (s.setElem e x).energySample e 0 p

/-- The k-th number of a list, 0 beyond its end. -/
def nthI (l : List Int) (k : Nat) : Int := l.getD k 0

/-- One sample of every channel (R312): the densities after the decimators, in 2^-31; for each AC element the interpolated voltage a quarter
period earlier and the current as the fractional-delay interpolator gives it, as densities too (R313, R314). -/
def State.metSample (s : State) (dens shifted delayed : List Int) : State :=
  let s := s.each channels fun s m => s.chanSample m (s.stage3 m (nthI dens m))
  let s := s.each elements fun s e =>
    let di := if elAc e && decide (2 ≤ s.f (MET_EL_SEG_points e)) then nthI delayed e else nthI dens (elI e)
    s.elemSample e (s.stage3 (elV e) (nthI dens (elV e))) (s.stage3 (elI e) di) (s.stage3 (elV e) (nthI shifted e))
  (s.setMet fun t => { t with slots := t.slots + 1, cutDue := s.fb MET_STATUS_cut_pending }).addWrap MET_STATUS_samples 1

/-- The next of the 100 samples of the running 10 ms is due. -/
def State.sampleDue (s : State) : Bool := s.metRuns && decide (s.met.slots < 100) && decide (s.met.startAt + (s.met.slots + 1) * 40000 ≤ s.now)

def execMetrologySample (dens shifted delayed : List Int) (s : State) : Out :=
  s.onClock fun s => (if s.sampleDue then s.metSample dens shifted delayed else s)

/-- The element whose voltage gives intake i its fundamental: L1, or L2 or L3 where the one before is absent (R326). -/
def State.refElem (s : State) (i : Nat) : Nat :=
  if !s.fb (MET_EL_STAT_v_absent (3 * i)) then 3 * i else if !s.fb (MET_EL_STAT_v_absent (3 * i + 1)) then 3 * i + 1 else 3 * i + 2

/-- A half-cycle of element e counts towards its intake's window where e is the reference. -/
def State.countHalf (s : State) (e : Nat) : State :=
  if s.refElem (e / 3) = e then s.setMet fun t => { t with halves := SMap.set 0 t.halves (e / 3) (SMap.get 0 t.halves (e / 3) + 1) } else s

/-- The half-cycle of element e is over: its voltage has crossed zero, or 12 ms are past; the sample that shows it is its last (log 235). -/
def State.halfDue (s : State) (e : Nat) : Bool := s.metRuns && ((s.elem e).crossed || decide (120 ≤ (s.elem e).len))

/-- An AC element's half-cycle ends: its two energy samples (R315). -/
def State.halfCycle (s : State) (e : Nat) : State :=
  let x := s.elem e
  let s := (s.setElem e { x with halfP := 0, halfQ := 0, crossed := false, len := 0 }).countHalf e
  (s.energySample e 0 x.halfP).energySample e 2 x.halfQ

def execHalfCycleEnd (e : Fin 6) (s : State) : Out := s.onClock fun s => (if s.halfDue e then s.halfCycle e else s)

/-! ## Blocks (R317 to R319, R327) -/

/-- The square root of num / den, den above 0: exact, or either neighbour, since the spec gives no rounding. -/
def State.rootOpen (s : State) (num den : Nat) : Nat × State :=
  let r := isqrt (num / den)
  if r * r * den = num then (r, s) else (r + s.fresh.1 % 2, s.fresh.2)

/-- The root mean square of n samples with the sum of squares sq, times k / 2^61. -/
def State.rms (s : State) (sq n k : Nat) : Nat × State := if n = 0 then (0, s) else s.rootOpen (sq * (k * k)) (n * 2 ^ 122)

/-- The mean of n samples with the given sum, times k / 2^b. -/
def State.mean (s : State) (sum : Int) (n k b : Nat) : Int × State := if n = 0 then (0, s) else s.roundOpen (sum * k) (n * 2 ^ b)

/-- CH_LEVEL and CH_STAT.clipped of channel m over a block of n samples. -/
def State.chanLevel (s : State) (n m : Nat) : State :=
  let c := s.chan m
  let fs := s.f (MET_CH_CFG_fs m)
  let s := s.setB (MET_CH_STAT_clipped m) c.clip
  if fs = 0 ∨ n = 0 then s.setAll [(MET_CH_LEVEL_level m, 0), (MET_CH_LEVEL_peak m, 0)]
  else
    let (l, s) := if s.fb (MET_CH_CFG_ac m) then s.rootOpen c.sq (n * 2 ^ 90 * fs * fs)
      else (((s.roundOpen c.abs (n * 2 ^ 45 * fs)).1).toNat, (s.roundOpen c.abs (n * 2 ^ 45 * fs)).2)
    let (k, s) := s.roundOpen (c.peak : Int) (2 ^ 45 * fs)
    s.setAll [(MET_CH_LEVEL_level m, min l 65535), (MET_CH_LEVEL_peak m, min (Int.toNat k) 65535)]

/-- The voltage of element e is absent below 10 % of v_nom, present again from 20 % (R327). -/
def State.judgeVoltage (s : State) (n e : Nat) : State :=
  let sq := (s.elem e).vSq
  let lim := s.f (MET_EL_CFG_v_nom e) ^ 2 * n * 2 ^ 122
  let was := s.fb (MET_EL_STAT_v_absent e)
  let is := if was then decide (sq * 25 < lim) else decide (sq * 100 < lim)
  if was == is then s
  else
    let s := (s.setB (MET_EL_STAT_v_absent e) is).metEvent MET_EVENTS_v_absent
    if elAc e then
      let i := e / 3
      let b := 2 ^ (e % 3)
      let v := s.f (MET_INTAKE_STAT_v_absent i)
      s.setF (MET_INTAKE_STAT_v_absent i) (if is then v + b else v - b)
    else s

/-- With a phase of intake i absent, seq_ok and seq_wrong are 0. -/
def State.noSeq (s : State) (i : Nat) : State :=
  if s.f (MET_INTAKE_STAT_v_absent i) ≠ 0 ∧ (s.fb (MET_INTAKE_STAT_seq_ok i) ∨ s.fb (MET_INTAKE_STAT_seq_wrong i)) then
    (s.setAll [(MET_INTAKE_STAT_seq_ok i, 0), (MET_INTAKE_STAT_seq_wrong i, 0)]).metEvent MET_EVENTS_seq_change
  else s

/-- An element's 16 bytes of a block of n samples: voltage, current, P, Q. -/
def State.elemBytes (s : State) (n e : Nat) : List Byte × State :=
  let x := s.elem e
  let (v, s) := if elAc e then ((Int.ofNat (s.rms x.vSq n 1000).1), (s.rms x.vSq n 1000).2) else s.mean x.v n 1000 61
  let (i, s) := if elAc e then ((Int.ofNat (s.rms x.iSq n 1000).1), (s.rms x.iSq n 1000).2) else s.mean x.i n 1000 61
  let (p, s) := s.mean x.p n 1 122
  let (q, s) := s.mean x.q n 1 122
  (bytesOf (ofSigned 32 v) 4 ++ bytesOf (ofSigned 32 i) 4 ++ bytesOf (ofSigned 32 p) 4 ++ bytesOf (ofSigned 32 q) 4, s)

/-- An intake's 16 bytes: frequency, neutral voltage and current. -/
def State.intakeBytes (s : State) (n i : Nat) : List Byte × State :=
  let (v, s) := s.rms (s.chan (8 * i + 3)).sq n 1000
  let (c, s) := s.rms (s.chan (8 * i + 7)).sq n 1000
  (bytesOf (s.f (MET_INTAKE_STAT_freq i)) 4 ++ bytesOf v 4 ++ bytesOf c 4 ++ bytesOf 0 4, s)

/-- The bytes that each of a list of indices gives, in order. -/
def State.gather (s : State) (f : State → Nat → List Byte × State) : List Nat → List Byte × State
  | [] => ([], s)
  | k :: t =>
    let (b, s) := f s k
    let (r, s) := s.gather f t
    (b ++ r, s)

/-- A word with bit e for each element that p selects. -/
def elemBits (p : Nat → Bool) : Nat := (elements.filter p).foldl (fun v e => v + 2 ^ e) 0

/-- uWh in an accumulator's unit (R316). -/
def accUnit : Nat := 36 * 2 ^ 122

/-- The energy of accumulator a in the closing block, uWh. -/
def State.blockEnergy (s : State) (a : Nat) : Nat := SMap.get 0 s.met.acc a / accUnit

/-- The whole uWh of the block go into the tallies; each residue stays (R316, R317). -/
def State.tallyBlock (s : State) : State :=
  s.each (List.range 64) fun s a =>
    s.setMet fun t => { t with tally := SMap.set 0 t.tally a (SMap.get 0 t.tally a + s.blockEnergy a), acc := SMap.set 0 t.acc a (SMap.get 0 t.acc a % accUnit) }

/-- Close the running block: its result (R318), levels and flags; the next block starts. `cut`: flags[1]. -/
def State.closeBlock (s : State) (cut : Bool) : State :=
  let n := s.f MET_STATUS_samples
  let energy := (List.range 64).flatMap fun a => bytesOf (s.blockEnergy a) 8
  let s := s.tallyBlock
  let s := s.each channels fun s m => s.chanLevel n m
  let s := s.each elements fun s e =>
    s.setB (MET_EL_STAT_clipped e) (s.fb (MET_CH_STAT_clipped (elV e)) || s.fb (MET_CH_STAT_clipped (elI e)))
  let s := (s.each elements fun s e => s.judgeVoltage n e).each [0, 1] fun s i => s.noSeq i
  let (elem, s) := s.gather (fun s e => s.elemBytes n e) elements
  let (intake, s) := s.gather (fun s i => s.intakeBytes n i) [0, 1]
  let t := s.met
  let flags := (if t.rel then 1 else 0) + (if cut then 2 else 0) + (if t.first then 4 else 0)
  let head := bytesOf t.block 8 ++ bytesOf s.dt 8 ++ bytesOf n 4 ++ bytesOf flags 4 ++ bytesOf (elemBits fun e => s.fb (MET_EL_STAT_fail e)) 4 ++
    bytesOf (elemBits fun e => s.fb (MET_EL_STAT_clipped e)) 4 ++ bytesOf (elemBits fun e => s.fb (MET_EL_STAT_v_absent e)) 4 ++ bytesOf 0 28
  let tally := (List.range 64).flatMap fun a => bytesOf (SMap.get 0 t.tally a) 8
  let s := s.setAll [(MET_STATUS_samples, 0), (MET_STATUS_cut_pending, 0)]
  s.setMet fun t =>
    { t with
      cutDue := false
      closed := t.closed ++ [head ++ energy ++ tally ++ elem ++ intake], chans := [], block := t.block + 1, first := false, rel := false
      elems := (t.elems.map fun p => (p.1, { p.2 with v := 0, i := 0, vSq := 0, iSq := 0, p := 0, q := 0 })).filter fun p => p.2 != ElemSum.reset }

/-- The running 10 ms end with their 100th sample, and the next begin (R317). -/
def State.gridEnd (s : State) : State :=
  (s.closeBlock (s.fb MET_STATUS_cut_pending)).setMet fun t => { t with startAt := t.startAt + 4000000, slots := 0 }

/-- A block ends: a cut still waiting for this boundary closes it too. -/
def execBlockEnd (s : State) : Out := s.onClock fun s => (if s.metRuns && s.met.slots == 100 then s.gridEnd else s)

/-- A cut at its sample boundary (R319); one at the end of the 10 ms is the block's own end. -/
def execCutBoundary (s : State) : Out :=
  s.onClock fun s => (if s.fb MET_STATUS_cut_pending && s.met.cutDue && s.met.slots != 100 then s.closeBlock true else s)

/-- The number of a block result. -/
def blockNo (b : List Byte) : Nat := leNat (b.take 8)

/-- Delivery of the oldest closed block into its half of T4's data SRAM (R318). -/
def State.deliverBlock (s : State) : State :=
  match s.met.closed with
  | [] => s
  | b :: rest =>
    let h := blockNo b % 2
    let held := s.met.unacked / 2 ^ h % 2 == 1
    let s := s.wrBytes (sramKey 4 (0x1001D000 + 0x800 * h)) b
    let s := s.setMet fun t => { t with closed := rest, unacked := if held then t.unacked else t.unacked + 2 ^ h }
    let s := s.setAll [(MET_STATUS_half, h), (MET_STATUS_unacked, 1), (MET_BLOCK_LO_block, blockNo b), (MET_BLOCK_HI_block, blockNo b / 2 ^ 32)]
    let s := if held then s.metEvent MET_EVENTS_overwrite else s
    s.metEvent MET_EVENTS_block_done

/-! ## MET.CTRL -/

/-- run, written from 0 to 1: the first block starts at the next edge of the 10 ms grid from the frame epoch (R317). -/
def State.metRun (s : State) : State :=
  if s.fb MET_CTRL_run then s
  else (s.setAll [(MET_CTRL_run, 1), (MET_STATUS_running, 1)]).setMet fun t => { t with startAt := s.epoch + ((s.now - s.epoch) / 4000000 + 1) * 4000000 }

/-- cut: it waits for the next sample boundary; with no sample in the running block it closes nothing (R319). -/
def State.metCut (s : State) : State :=
  if s.metRuns && s.f MET_STATUS_samples != 0 && !s.fb MET_STATUS_cut_pending then (s.setB MET_STATUS_cut_pending true).setMet fun t => { t with cutDue := false } else s

def State.calLock (s : State) : State := s.setAll [(MET_CTRL_cal_lock, 1), (MET_STATUS_cal_locked, 1)]

/-- ack: the latest delivered block is taken; each failed whose condition no longer stands clears (R321). -/
def State.metAck (s : State) : State :=
  let h := s.f MET_STATUS_half
  let s := s.setMet fun t => { t with unacked := if t.unacked / 2 ^ h % 2 = 1 then t.unacked - 2 ^ h else t.unacked }
  let s := s.setB MET_STATUS_unacked false
  (s.each channels fun s m =>
    if s.fb (MET_CH_STAT_stuck m) || s.fb (MET_CH_STAT_dens_out m) then s else s.setB (MET_CH_STAT_failed m) false).elFails

/-- A write of MET.CTRL. -/
def State.writeMetCtrl (s : State) (v : Nat) : State :=
  let s := if v % 2 = 1 then s.metRun else s
  let s := if v / 2 % 2 = 1 then s.metCut else s
  let s := if v / 4 % 2 = 1 then s.calLock else s
  if v / 8 % 2 = 1 then s.metAck else s

def execMeterRun (w : Fin 8) (s : State) : Out := .next (s.guarded w 4 MET_CTRL s.metRun)
def execMeterCut (w : Fin 8) (s : State) : Out := .next (s.guarded w 4 MET_CTRL s.metCut)
def execMeterAck (w : Fin 8) (s : State) : Out := .next (s.guarded w 4 MET_CTRL s.metAck)
def execCalLock (w : Fin 8) (s : State) : Out := .next (s.guarded w 4 MET_CTRL s.calLock)

/-! ## Windows and grid conditions (R326, R327) -/

/-- The run of windows of condition k of intake i after one more window. -/
def State.gridRun (s : State) (i k : Nat) (on off : Bool) : GridRun × State :=
  let r := SMap.get GridRun.reset s.met.grid (4 * i + k)
  let r : GridRun := ⟨if on then min 5 (r.on + 1) else 0, if off then min 5 (r.off + 1) else 0⟩
  (r, s.setMet fun t => { t with grid := SMap.set GridRun.reset t.grid (4 * i + k) r })

/-- A grid condition after a window: five consecutive windows set or clear its bit. -/
def State.gridJudge (s : State) (i k : Nat) (x ev : Fld) (on off : Bool) : State :=
  let (r, s) := s.gridRun i k on off
  if !s.fb x && r.on == 5 then (s.setB x true).metEvent ev
  else if s.fb x && r.off == 5 then (s.setB x false).metEvent ev
  else s

/-- The lag lies within 30 degrees of a (0.001 degree). -/
def lagNear (lag a : Nat) : Bool := decide (a ≤ lag % 360000 + 30000 ∧ lag % 360000 ≤ a + 30000)

/-- The frequency lies within 5 % of nominal. -/
def State.nearNominal (s : State) (f : Nat) : Bool :=
  let n := if s.fb MET_NOMINAL_f_nom then 60000 else 50000
  decide (95 * n ≤ 100 * f ∧ 100 * f ≤ 105 * n)

/-- Where the results of intake i's window lie in T4's data SRAM: as in the published area. -/
def windowKey (i : Nat) : Nat := sramKey 4 (0x1001C000 + 768 * i)

/-- A window of intake i: its frequency in mHz, the lag of L2 behind L1 in 0.001 degree, the neutral-to-PE fundamental and the zero-sequence voltage
in mV, and the 6 times 64 results in the order of the published area. -/
def State.window (s : State) (i freq lag npe zs : Nat) (harm : List (BitVec 16)) : State :=
  let s := (s.setF (MET_INTAKE_STAT_freq i) freq).setMet fun t => { t with halves := SMap.set 0 t.halves i 0 }
  let full := s.f (MET_INTAKE_STAT_v_absent i) == 0
  let vn := s.f (MET_EL_CFG_v_nom (3 * i)) * 1000
  let s := if full then
      let s := s.gridJudge i 0 (MET_INTAKE_STAT_seq_ok i) MET_EVENTS_seq_change (lagNear lag 120000) (!lagNear lag 120000)
      s.gridJudge i 1 (MET_INTAKE_STAT_seq_wrong i) MET_EVENTS_seq_change (lagNear lag 240000) (!lagNear lag 240000)
    else ((s.gridRun i 0 false true).2.gridRun i 1 false true).2
  let s := s.gridJudge i 2 (MET_INTAKE_STAT_missing_n i) MET_EVENTS_neutral
    (decide (vn < 5 * npe) || (full && decide (vn < 10 * zs))) (decide (10 * npe < vn) && decide (20 * zs < vn))
  if s.nearNominal freq then
    let s := s.wrBytes (windowKey i) (((harm ++ List.replicate 384 0).take 384).flatMap fun (v : BitVec 16) => bytesOf v.toNat 2)
    let s := (s.wr (sramKey 4 0x1001C600) 8 s.dt).setB (MET_INTAKE_STAT_harm_valid i) true
    s.metEvent MET_EVENTS_harm_done
  else s.setB (MET_INTAKE_STAT_harm_valid i) false

/-- A window's 10 or 12 cycles of the reference voltage are complete. -/
def State.windowDue (s : State) (i : Nat) : Bool := s.metRuns && decide ((if s.fb MET_NOMINAL_f_nom then 24 else 20) ≤ SMap.get 0 s.met.halves i)

def execHarmonicWindow (i : Fin 2) (freq lag npe zs : Nat) (harm : List (BitVec 16)) (s : State) : Out :=
  s.onClock fun s => (if s.windowDue i then s.window i freq lag npe zs harm else s)

/-! ## Segment RAM and the read latch (R313, R440) -/

/-- After an access of SEG_DATA the index advances where inc is 1. -/
def State.segNext (s : State) : State := if s.fb MET_SEG_ADDR_inc then s.addWrap MET_SEG_ADDR_index 1 else s

/-- A read of SEG_DATA: words 352 to 511 read zero. -/
def State.segRead (s : State) : Nat × State :=
  let i := s.f MET_SEG_ADDR_index
  (if i < 352 then s.segWord i else 0, s.segNext)

/-- A write of a Locked register after the lock (R331). -/
def State.lockedWrite (s : State) (t : State) : State := if s.fb MET_STATUS_cal_locked then s.metEvent MET_EVENTS_cal_write else t

/-- A write of SEG_DATA by T4. -/
def State.segWrite (s : State) (v : Nat) : State :=
  let i := s.f MET_SEG_ADDR_index
  s.lockedWrite ((if i < 352 then s.setMet fun t => { t with seg := SMap.set 0 t.seg i (v % 2 ^ 32) } else s).segNext)

def execSegDataAccess (e : Fin 8) (write : Option (BitVec 32)) (s : State) : Out :=
  .next (match write with
    | none => s.segRead.2
    | some v => s.guarded e 4 MET_SEG_DATA (s.segWrite v.toNat))

def execBlockReadLatch (e : Fin 8) (s : State) : Out := .next (s.setEng e { s.eng e with blkLatch := s.f MET_BLOCK_HI_block })

end Sys2Proof.Machine
end

