-- ==== Sys2Proof/Machine/Tariff.lean ====
section
/-!
DEFINITION. Tariff objects: their fields, checks, zones, calendar and the instants at which they place boundaries (R335 to R337). Bytes: an
object as R336 lays it out; the empty list is the default tariff.
-/
namespace Sys2Proof.Machine

/-- n little-endian bytes of a list from offset k. -/
def fieldAt (l : List Byte) (k n : Nat) : Nat := leNat ((l.drop k).take n)

def tarId (o : List Byte) : Nat := fieldAt o 0x008 4
def tarActivation (o : List Byte) : Nat := fieldAt o 0x010 8
def tarRates (o : List Byte) : Nat := fieldAt o 0x007 1
/-- The demand interval in minutes: 15 under the default tariff. -/
def tarDiLen (o : List Byte) : Nat := if o.isEmpty then 15 else fieldAt o 0x018 1
def tarBpKind (o : List Byte) : Nat := fieldAt o 0x019 1
def tarBpDay (o : List Byte) : Nat := fieldAt o 0x01A 1
def tarBpMinute (o : List Byte) : Nat := fieldAt o 0x01C 2
/-- The accumulator of tariffed quantity q; 0xFF none. -/
def tarQuantity (o : List Byte) (q : Nat) : Nat := if o.isEmpty then 32 + 2 * q else fieldAt o (0x020 + q) 1
/-- The accumulator of demand channel d. -/
def tarDemand (o : List Byte) (d : Nat) : Nat := if o.isEmpty then [12, 28, 13, 29].getD d 0 else fieldAt o (0x028 + d) 1

/-! ## Zones -/

/-- The zone entries in use: start in UTC seconds, offset in minutes. -/
def tarZones (o : List Byte) : List (Nat × Int) :=
  ((List.range 16).map fun k => (fieldAt o (0x030 + 8 * k) 5, toSigned 16 (fieldAt o (0x035 + 8 * k) 2))).filter fun z => z != (0, 0)

/-- The zone offset at UTC second u, minutes: 0 before the first entry. -/
def zoneAt (o : List Byte) (u : Int) : Int := (tarZones o).foldl (fun v z => if (z.1 : Int) ≤ u then z.2 else v) 0

/-- The latest local second reached up to and at UTC second u: local time itself, or what it was just before an offset change set it
back. A local clock time falls at the first instant at which this reaches it: its first occurrence, or the change that skips it (R335). -/
def localMax (o : List Byte) (u : Int) : Int :=
  ((tarZones o).foldl (fun (a : Int × Int) z =>
    if (z.1 : Int) ≤ u then (max a.1 ((z.1 : Int) - 1 + 60 * a.2), z.2) else a) (u + 60 * zoneAt o u, 0)).1

/-! ## Calendar -/

/-- Year, month and day of a day number counted from 1 January 1970. -/
def civil (day : Int) : Nat × Nat × Nat :=
  let z := (day + 719468).toNat
  let era := z / 146097
  let doe := z % 146097
  let yoe := (doe - doe / 1460 + doe / 36524 - doe / 146096) / 365
  let doy := doe - (365 * yoe + yoe / 4 - yoe / 100)
  let mp := (5 * doy + 2) / 153
  let m := if mp < 10 then mp + 3 else mp - 9
  (yoe + 400 * era + (if m ≤ 2 then 1 else 0), m, doy - (153 * mp + 2) / 5 + 1)

/-- The day profile of a local day: a special day's, else that of its weekday. -/
def dayProfile (o : List Byte) (day : Int) : Nat :=
  let (y, m, d) := civil day
  match (List.range 32).find? fun k =>
    let w := fieldAt o (0x240 + 8 * k) 8
    w / 2 ^ 35 % 2 == 1 && w % 2 ^ 16 == y && w / 2 ^ 16 % 256 == m && w / 2 ^ 24 % 256 == d with
  | some k => fieldAt o (0x240 + 8 * k) 8 / 2 ^ 32 % 8
  | none => fieldAt o (0x0B0 + ((day + 3) % 7).toNat) 1

/-- The points in use of a day profile: minute and rate. -/
def dayPoints (o : List Byte) (p : Nat) : List (Nat × Nat) :=
  (((List.range 12).map fun k => fieldAt o (0x0C0 + 48 * p + 4 * k) 4).filter fun w => w / 2 ^ 14 % 2 == 1).map fun w => (w % 2 ^ 11, w / 2 ^ 11 % 8)

/-- The rate at a local second: that of the latest point of its day at or before it. -/
def rateAt (o : List Byte) (l : Int) : Nat :=
  let m := (l % 86400 / 60).toNat
  ((dayPoints o (dayProfile o (l / 86400))).foldl (fun (a : Nat × Nat) p => if p.1 ≤ m ∧ a.1 ≤ p.1 then p else a) (0, 0)).2

/-- Whether a rate point falls at local minute k. -/
def isSwitch (o : List Byte) (k : Int) : Bool :=
  !o.isEmpty && (dayPoints o (dayProfile o (k / 1440))).any fun p => (p.1 : Int) == k % 1440

/-- Whether a billing boundary falls at local minute k. -/
def isBilling (o : List Byte) (k : Int) : Bool :=
  tarBpKind o != 0 && (tarBpMinute o : Int) == k % 1440 && (tarBpKind o == 2 || (civil (k / 1440)).2.2 == tarBpDay o)

/-- Whether p holds of a local minute after second a up to and at second b. -/
def anyMinute (p : Int → Bool) (a b : Int) : Bool := (List.range ((b / 60 - a / 60).toNat)).any fun k => p (a / 60 + 1 + k)

/-! ## Instants, in ns of DT -/

/-- The UTC second of an instant. -/
def utcOf (ofs : Int) (t : Nat) : Int := (t / 1000000000 : Nat) - ofs

/-- The next end of a demand interval after t. -/
def nextDi (o : List Byte) (ofs : Int) (t : Nat) : Nat :=
  let len : Int := tarDiLen o * 60
  ((utcOf ofs t / len + 1) * len + ofs).toNat * 1000000000

/-- The next instant after t at which a boundary can fall: a UTC minute, an offset change, the activation of the pending object. -/
def nextInstant (o pend : List Byte) (ofs : Int) (t : Nat) : Nat :=
  let minute := ((utcOf ofs t / 60 + 1) * 60 + ofs).toNat * 1000000000
  let others := ((tarZones o).map fun z => ((z.1 : Int) + ofs).toNat * 1000000000) ++ (if pend.isEmpty then [] else [tarActivation pend * 1000000000])
  others.foldl (fun v x => if t < x ∧ x < v then x else v) minute

/-! ## Acceptance (R337) -/

/-- Strictly ascending. -/
def ascending : List Nat → Bool
  | a :: b :: t => decide (a < b) && ascending (b :: t)
  | _ => true

/-- Every entry after the first unused zone entry is unused, and the used ones ascend. -/
def zonesOk (o : List Byte) : Bool :=
  let w := (List.range 16).map fun k => fieldAt o (0x030 + 8 * k) 8
  let used := w.takeWhile (· != 0)
  (w.drop used.length).all (· == 0) && w.all (fun x => decide (x < 2 ^ 56)) && ascending (used.map fun x => x % 2 ^ 40)

/-- A used point's minute and rate, a day's first point. -/
def daysOk (o : List Byte) : Bool :=
  (List.range 8).all fun p =>
    fieldAt o (0x0C0 + 48 * p) 4 % 2 ^ 11 == 0 && fieldAt o (0x0C0 + 48 * p) 4 / 2 ^ 14 % 2 == 1 &&
      (dayPoints o p).all fun x => decide (x.1 ≤ 1439 ∧ x.2 < tarRates o)

/-- The used special days name a day of a month. -/
def specialOk (o : List Byte) : Bool :=
  (List.range 32).all fun k =>
    let w := fieldAt o (0x240 + 8 * k) 8
    w / 2 ^ 35 % 2 == 0 || (decide (1 ≤ w / 2 ^ 16 % 256 ∧ w / 2 ^ 16 % 256 ≤ 12) && decide (1 ≤ w / 2 ^ 24 % 256 ∧ w / 2 ^ 24 % 256 ≤ 31))

/-- Every field lies in its stated range. -/
def tariffInRange (o : List Byte) : Bool :=
  o.length == 928 && fieldAt o 0 4 == 0x544E5645 && fieldAt o 4 2 == 1 && decide (fieldAt o 6 1 ≤ 1) && decide (1 ≤ tarRates o ∧ tarRates o ≤ 8) &&
    fieldAt o 0x00C 4 == 0 && decide (1 ≤ tarDiLen o) && 60 % tarDiLen o == 0 && decide (tarBpKind o ≤ 2) &&
    (tarBpKind o != 1 || decide (1 ≤ tarBpDay o ∧ tarBpDay o ≤ 28)) && fieldAt o 0x01B 1 == 0 && decide (tarBpMinute o ≤ 1439) && fieldAt o 0x01E 2 == 0 &&
    (List.range 8).all (fun q => decide (tarQuantity o q ≤ 63) || tarQuantity o q == 0xFF) && (List.range 4).all (fun d => decide (tarDemand o d ≤ 63)) &&
    fieldAt o 0x02C 4 == 0 && zonesOk o && (List.range 7).all (fun k => decide (fieldAt o (0x0B0 + k) 1 < 8)) && fieldAt o 0x0B7 9 == 0 &&
    daysOk o && specialOk o && fieldAt o 0x340 32 == 0

/-- The signature verifies with the tariff key that the object names. -/
def State.tariffSigned (s : State) (o : List Byte) : Bool :=
  o.length == 928 && signed (SMap.get [] s.maq.tariffKeys (fieldAt o 6 1)) (o.take 0x360) (o.drop 0x360)

end Sys2Proof.Machine
end

