-- ==== Sys2Proof/Machine/Bill.lean ====
section
/-!
DEFINITION. T4's metrology table: commit of blocks, legal time, boundaries, demand intervals and billing periods, credit, the journal, legal
records, publication, flush and resume (R320 to R354).
-/
namespace Sys2Proof.Machine

def State.setBill (s : State) (f : BillInt → BillInt) : State := { s with bill := f s.bill }
/-- Legal register a (R323). -/
def State.legal (s : State) (a : Nat) : Nat := SMap.get 0 s.bill.regs a
def State.tx (s : State) (c : Nat) : Tx := SMap.get Tx.reset s.bill.txs c
def State.setTx (s : State) (c : Nat) (f : Tx → Tx) : State := s.setBill fun b => { b with txs := SMap.set Tx.reset b.txs c (f (s.tx c)) }
/-- An event of T4 (R358): class 7; orig the ID of the named recipient. -/
def State.t4Event (s : State) (num : Nat) (sc : Scope) (orig detail : Nat) : State := s.engineRecord 4 7 num sc orig (detail % 2 ^ 32)
def State.epochNo (s : State) : Nat := s.f SEC_EPOCH_epoch
/-- meter_id: the low 64 bits of SHA-256 of the meter public key (R348, R407). -/
def State.meterId (s : State) : Nat := beNat (((List.range 8).flatMap fun j => bytesOf (s.f (SEC_KEY_HASH_hash 7 j)) 4).drop 24)

/-! ## The billing registers -/

/-- The remaining credit of a connector's transaction, uWh (R346). -/
def State.remaining (s : State) (c : Nat) : Int := (s.tx c).credit - ((s.legal (connReg c) : Int) - (s.tx c).startImp)
/-- Demand in W of e uWh over n samples of 100 us. -/
def State.demandW (s : State) (e n : Nat) : Nat × State := if n = 0 then (0, s) else ((s.roundOpen (36 * e : Nat) n).1.toNat, (s.roundOpen (36 * e : Nat) n).2)
/-- The slots left before the oldest unconfirmed end record is overwritten (R344). -/
def State.slotsLeft (s : State) : Nat := (s.bill.unconf.map fun u => u.2 + 20480 - s.bill.rseq).foldl min 20480
def State.ringLow (s : State) : Bool := decide (s.slotsLeft ≤ 1024)
/-- The import of the open transaction, or of the last one, uWh. -/
def State.txImport (s : State) (c : Nat) : Nat := if (s.tx c).isOpen then s.legal (connReg c) - (s.tx c).startImp else (s.tx c).endImp - (s.tx c).startImp

/-- T4 writes the transaction registers of connector c. -/
def State.txRegs (s : State) (c : Nat) : State :=
  let t := s.tx c
  let s := s.setAll [(BILL_TX_NO_number c, t.number), (BILL_TX_ENERGY_import c, s.txImport c / 1000000)]
  let s := s.setFi (BILL_CREDIT_remaining c) (if t.prepay then s.remaining c / 1000000 else 0)
  let l : List (Fld × Bool) := [(BILL_TX_STAT_open c, t.isOpen), (BILL_TX_STAT_prepay c, t.prepay), (BILL_TX_STAT_exhausted c, t.exhausted),
    (BILL_TX_STAT_excluded c, t.excluded), (BILL_TX_STAT_blocked c, t.blocked), (BILL_TX_STAT_men c, s.fb (MET_MEN_en c)), (BILL_TX_STAT_replay c, t.inReplay)]
  l.foldl (fun s x => s.setB x.1 x.2) s

/-- T4 rewrites BILL from what it holds. -/
def State.billRegs (s : State) : State :=
  let b := s.bill
  let u := utcOf b.utcOfs b.lt
  let was := s.fb BILL_STATUS_ring_low
  let s := s.setAll [(BILL_CTRL_run, if b.started then 1 else 0), (BILL_CTRL_final, if b.final then 1 else 0), (BILL_STATUS_replay, if b.replay.isSome then 1 else 0),
    (BILL_STATUS_sealed, if s.f SEC_LIFECYCLE_state = 2 then 1 else 0), (BILL_STATUS_default, if b.active.isEmpty then 1 else 0),
    (BILL_STATUS_ring_low, if s.ringLow then 1 else 0), (BILL_STATUS_flush_missing, if b.missing then 1 else 0), (BILL_STATUS_rate, b.rate),
    (BILL_STATUS_epoch, s.epochNo), (BILL_TARIFF_id, tarId b.active), (BILL_PENDING_id, tarId b.pend), (BILL_LT_LO_lt, b.lt), (BILL_LT_HI_lt, b.lt / 2 ^ 32),
    (BILL_HWM_LO_hwm, b.hwm), (BILL_HWM_HI_hwm, b.hwm / 2 ^ 32), (BILL_ADJ_STAT_total, min 65535 (b.adjTotal / 1000000)),
    (BILL_ADJ_STAT_large, min 255 b.adjLarge), (BILL_OFFSETS_utc_ofs, ofSigned 16 b.utcOfs), (BILL_OFFSETS_zone, ofSigned 16 (zoneAt b.active u)),
    (BILL_PERIODS_di_len, tarDiLen b.active), (BILL_PERIODS_di_seq, b.diSeq), (BILL_PERIODS_bp_seq, b.bpSeq), (BILL_RSEQ_LO_rseq, b.rseq),
    (BILL_RSEQ_HI_rseq, b.rseq / 2 ^ 32)]
  let s := s.each [0, 1, 2, 3] fun s d =>
    let (w, s) := s.demandW (SMap.get 0 b.demand d) b.diSamples
    s.setAll [(BILL_DEMAND_w d, w), (BILL_MAXDEM_w d, (SMap.get (0, 0) b.maxDem d).1)]
  let s := s.each (List.range 8) State.txRegs
  if s.ringLow && !was then s.t4Event 0x08C siteScope 1 s.slotsLeft else s

/-! ## Records and journal entries (R323, R348 to R350) -/

def bitIf (b : Bool) (i : Nat) : Nat := if b then 2 ^ i else 0

/-- Bits of a legal record's flags (R348). -/
def flSkipped : Nat := 2 ^ 1
def flPowerOff : Nat := 2 ^ 2
def flIncomplete : Nat := 2 ^ 3
def flMissing : Nat := 2 ^ 4
def flExcluded : Nat := 2 ^ 5
def flSplit : Nat := 2 ^ 6
def flRelease : Nat := 2 ^ 7
def flRestart : Nat := 2 ^ 8
def flCredit : Nat := 2 ^ 10
def flRelay : Nat := 2 ^ 11

/-- Put a legal record on T4's list: kind, flags, LT, subject, number, start, values. -/
def State.mkRecord (s : State) (kind flags lt subject number start : Nat) (v : List Nat) (after : List T4After) : State :=
  let b := s.bill
  let fl := flags ||| bitIf b.replay.isSome 0 ||| bitIf (s.f SEC_LIFECYCLE_state != 2) 9
  let zone := zoneAt b.active (utcOf b.utcOfs lt)
  let body := bytesOf 0x43455253 4 ++ bytesOf 1 1 ++ bytesOf kind 1 ++ bytesOf s.epochNo 2 ++ bytesOf b.rseq 8 ++ bytesOf lt 8 ++ bytesOf fl 2 ++
    bytesOf (ofSigned 16 zone) 2 ++ bytesOf (tarId b.active) 4 ++ bytesOf s.meterId 8 ++ bytesOf subject 1 ++ bytesOf b.rate 1 ++
    bytesOf (ofSigned 16 b.utcOfs) 2 ++ bytesOf number 4 ++ bytesOf start 8 ++ ((v ++ List.replicate 9 0).take 9).flatMap fun x => bytesOf x 8
  s.setBill fun b => { b with todo := b.todo ++ [.record b.rseq body after], rseq := b.rseq + 1 }

/-- The billing field of a journal entry (R350). -/
def State.billingField (s : State) : List Byte :=
  let b := s.bill
  let tx := fun c =>
    let t := s.tx c
    bytesOf t.number 4 ++ bytesOf (bitIf t.isOpen 0 + bitIf t.prepay 1 + bitIf t.exhausted 2 + bitIf t.inReplay 3 + bitIf t.excluded 4) 2 ++
      bytesOf t.exclBlocks 2 ++ bytesOf t.startImp 8 ++ bytesOf t.startExp 8 ++ bytesOf (ofSigned 64 t.credit) 8
  let dem := fun d =>
    let m := SMap.get (0, 0) b.maxDem d
    bytesOf (SMap.get 0 b.demand d) 8 ++ bytesOf m.1 4 ++ bytesOf m.2 4
  bytesOf (tarId b.active) 4 ++ bytesOf (tarId b.pend) 4 ++ bytesOf b.rate 1 ++
    bytesOf (bitIf b.replay.isSome 0 + bitIf (b.diFlags / flSplit % 2 == 1) 1 + bitIf b.final 2) 1 ++ bytesOf (ofSigned 16 b.utcOfs) 2 ++
    bytesOf b.txNext 4 ++ bytesOf b.lt 8 ++ bytesOf b.hwm 8 ++ bytesOf (nextDi b.active b.utcOfs (max b.lt b.hwm)) 8 ++ bytesOf b.diStart 8 ++
    bytesOf b.diSeq 4 ++ bytesOf b.bpSeq 2 ++ bytesOf (min 65535 (b.adjTotal / 1000000)) 2 ++ bytesOf b.diSamples 4 ++ bytesOf b.daySamples 4 ++
    (List.range 64).flatMap (fun k => bytesOf (SMap.get 0 b.rateReg k) 8) ++ (List.range 8).flatMap (fun q => bytesOf (SMap.get 0 b.period q) 8) ++
    (List.range 4).flatMap dem ++ (List.range 8).flatMap tx

/-- The bytes of a journal entry; its crc covers them with the crc field zero. -/
def State.entryBytes (s : State) (kind jseq block dt flags excl : Nat) (tally : Nat → Nat) : List Byte :=
  let head := bytesOf 0x4E524A4D 4 ++ bytesOf kind 2 ++ bytesOf s.epochNo 2 ++ bytesOf jseq 8 ++ bytesOf block 8 ++ bytesOf dt 8 ++ bytesOf flags 4 ++ bytesOf excl 4
  let body := bytesOf 0 20 ++ (List.range 64).flatMap (fun a => bytesOf (s.legal a) 8) ++ (List.range 64).flatMap (fun a => bytesOf (tally a) 8) ++ s.billingField
  head ++ bytesOf (crc32 (head ++ bytesOf 0 4 ++ body)) 4 ++ body

/-- Put a journal entry on T4's list. -/
def State.mkEntry (s : State) (kind block dt flags excl : Nat) (tally : Nat → Nat) (after : List T4After) : State :=
  let j := s.bill.jseq + 1
  let body := s.entryBytes kind j block dt flags excl tally
  s.setBill fun b => { b with jseq := j, todo := b.todo ++ [.entry j body after] }

/-- Where record rseq lies (R349). -/
def recordAt (rseq : Nat) : Nat := 0x70200000 + rseq % 20480 * 256
/-- Where journal entry j lies (R323). -/
def journalAt (j : Nat) : Nat := 0x70000000 + j % 1024 * 0x800

/-! ## The meter enable (R344, R345) -/

/-- MEN falls; its feedback is checked from 100 ms on. -/
def State.menFall (s : State) (c : Nat) : State :=
  if s.fb (MET_MEN_en c) then (s.writeMen c 0).setTx c fun t => { t with relAt := some s.now, fallAt := none } else s.setTx c fun t => { t with fallAt := none }

/-! ## Publication (R328) -/

/-- The header's flags, with a seq that is odd while T4 writes and even after. -/
def State.pubHead (s : State) : State :=
  let b := s.bill
  let flags := bitIf b.started 0 + bitIf (s.fb MET_STATUS_cal_locked) 1 + bitIf (b.excl != 0) 2
  (((s.wr pubBase 4 (2 * (b.pubSeq + 1))).wr (pubBase + 4) 2 s.epochNo).wr (pubBase + 6) 2 flags).setBill fun b => { b with pubSeq := b.pubSeq + 1 }

/-- The grid conditions of intake i as published. -/
def State.gridWord (s : State) (i : Nat) : Nat :=
  s.f (MET_INTAKE_STAT_seq_ok i) + 2 * s.f (MET_INTAKE_STAT_seq_wrong i) + 4 * s.f (MET_INTAKE_STAT_missing_n i) + 8 * s.f (MET_INTAKE_STAT_v_absent i) +
    64 * s.f (MET_INTAKE_STAT_harm_valid i)

/-- Publish a committed block: its element values, the legal registers, the intakes and the last window. -/
def State.publish (s : State) (block : List Byte) : State :=
  let s := s.pubHead.wrBytes (pubBase + 8) (block.take 16)
  let s := s.wrBytes (pubBase + 0x20) ((block.drop 0x440).take 352)
  let s := s.wrBytes (pubBase + 0x180) ((List.range 64).flatMap fun a => bytesOf (s.legal a) 8)
  let s := s.wrBytes (pubBase + 0x380) ([0, 1].flatMap fun i => (block.drop (0x5A0 + 16 * i)).take 12 ++ bytesOf (s.gridWord i) 4)
  s.wrBytes (pubBase + 0x3A0) (s.rdBytes (windowKey 0) 1536 ++ s.rdBytes (sramKey 4 0x1001C600) 8)

/-! ## What follows a written record or entry -/

def State.afterOne (s : State) : T4After → State
  | .nothing => s
  | .complete r v => s.finishServing .mailbox (· == r) 1 0 (BitVec.ofNat 64 v)
  | .txOpen c r v =>
    let s := if (s.tx c).isOpen && !(s.tx c).exhausted && !(s.tx c).excluded then s.writeMen c 1 else s
    s.finishServing .mailbox (· == r) 1 0 (BitVec.ofNat 64 v)
  | .blockDone b => (s.publish b).metAck
  | .resumed => if s.fb MET_STATUS_running || s.bill.stopped then s.pubHead else s.pubHead.metRun
  | .flushed => (s.finishServing .mailbox (fun r => r.opcode == 0x0409) 1 0 0).flushConfirmed

/-- Write the entries that head the list, up to the next record that waits for its signature. -/
def State.writeEntries (s : State) : List T4Item → State
  | .entry j body after :: t => (after.foldl State.afterOne ((s.wrBytes (journalAt j) body))).writeEntries t
  | l => s.setBill fun b => { b with todo := l }

/-- T4 writes on what needs no signature. -/
def State.goOn (s : State) : State := (s.writeEntries s.bill.todo).billRegs

/-! ## Blocks as T4 reads them -/

def blkSamples (b : List Byte) : Nat := fieldAt b 0x010 4
def blkDt (b : List Byte) : Nat := fieldAt b 0x008 8
def blkFlags (b : List Byte) : Nat := fieldAt b 0x014 4
def blkFail (b : List Byte) : Nat := fieldAt b 0x018 4
def blkEnergy (b : List Byte) (a : Nat) : Nat := fieldAt b (0x040 + 8 * a) 8
def blkTally (b : List Byte) (a : Nat) : Nat := fieldAt b (0x240 + 8 * a) 8
/-- The current of element e, mA. -/
def blkCurrent (b : List Byte) (e : Nat) : Int := toSigned 32 (fieldAt b (0x444 + 16 * e) 4)

/-- The block result in half h of T4's data SRAM. -/
def State.half (s : State) (h : Nat) : List Byte := s.rdBytes (sramKey 4 (0x1001D000 + 0x800 * h)) 0x5C0

/-- How many blocks have been delivered since run. -/
def State.delivered (s : State) : Nat := s.met.block - s.met.closed.length

/-- An element is excluded when its fail bit is set or a used channel of it failed the boot test (R320). -/
def State.isExcluded (s : State) (fail e : Nat) : Bool :=
  fail / 2 ^ e % 2 == 1 || (s.fb (MET_CH_CFG_used (elV e)) && s.fb (MET_CH_STAT_boot_fail (elV e))) ||
    (s.fb (MET_CH_CFG_used (elI e)) && s.fb (MET_CH_STAT_boot_fail (elI e)))

/-- The element that owns accumulator a, with its offset; none for the intake totals. -/
def accOwner (a : Nat) : Option (Nat × Nat) :=
  if a < 12 then some (a / 4, a % 4)
  else if a < 16 then none
  else if a < 28 then some (3 + (a - 16) / 4, a % 4)
  else if a < 32 then none
  else some ((a - 20) / 2, a % 2)

/-- The energy that accumulator a's register receives: none of an excluded element; an intake total the sum of its committed elements
(R320). -/
def committed (excl : Nat) (raw : Nat → Nat) (a : Nat) : Nat :=
  let own := fun e k => if excl / 2 ^ e % 2 = 1 then 0 else raw (elAcc e + k)
  match accOwner a with
  | some (e, k) => own e k
  | none => let i := if a < 16 then 0 else 1
            own (3 * i) (a % 4) + own (3 * i + 1) (a % 4) + own (3 * i + 2) (a % 4)

/-! ## Demand intervals and billing periods (R341, R342) -/

/-- A running total of the four channels, or of the eight quantities. -/
def listOf (m : SMap Nat) (n : Nat) : List Nat := (List.range n).map fun k => SMap.get 0 m k

/-- The four demands of the running interval. -/
def State.demands (s : State) : List Nat → List Nat × State
  | [] => ([], s)
  | d :: t =>
    let (w, s) := s.demandW (SMap.get 0 s.bill.demand d) s.bill.diSamples
    let (l, s) := s.demands t
    (w :: l, s)

/-- The interval restarts at an instant. -/
def State.openInterval (s : State) (at_ flags : Nat) : State :=
  (s.setBill fun b => { b with diStart := at_, diSamples := 0, demand := [], diFlags := flags, diSeq := b.diSeq + 1 }).advancePeriod 6 0

/-- The period's maximum demands after the running interval (R341). -/
def State.maximum (s : State) (at_ : Nat) (w : List Nat) : State :=
  s.each [0, 1, 2, 3] fun s d =>
    if (SMap.get (0, 0) s.bill.maxDem d).1 < w.getD d 0 then s.setBill fun b => { b with maxDem := SMap.set (0, 0) b.maxDem d (w.getD d 0, at_ / 1000000000) } else s

/-- Close the running interval at an instant with flags besides its own; the next opens there with its own flags. -/
def State.closeInterval (s : State) (at_ flags next : Nat) : State :=
  let (w, s) := s.demands [0, 1, 2, 3]
  let b := s.bill
  let fl := b.diFlags ||| flags
  let s := s.mkRecord 3 fl at_ 0xFF b.diSeq b.diStart (listOf b.demand 4 ++ w ++ [b.diSamples]) [.nothing]
  let s := if fl / flSkipped % 2 = 0 ∧ fl / flExcluded % 2 = 0 ∧ tarDiLen b.active * 300000 ≤ b.diSamples then s.maximum at_ w else s
  (s.setF BILL_EVENTS_interval 1).openInterval at_ next

/-- The period accumulators and maximum demands restart. -/
def State.openPeriod (s : State) (at_ : Nat) : State :=
  (s.setBill fun b => { b with bpStart := at_, bpFlags := 0, period := [], maxDem := [], bpSeq := b.bpSeq + 1 }).advancePeriod 7 0

/-- Close the billing period at an instant: one record per tariffed quantity, one of the maxima. -/
def State.closePeriod (s : State) (at_ flags : Nat) : State :=
  let b := s.bill
  let fl := b.bpFlags ||| flags
  let s := s.each (List.range 8) fun s q =>
    let a := tarQuantity b.active q
    if a = 0xFF then s
    else s.mkRecord 4 fl at_ a b.bpSeq b.bpStart ((List.range 8).map (fun r => SMap.get 0 b.rateReg (8 * q + r)) ++ [SMap.get 0 b.period q]) [.nothing]
  let m := (List.range 4).map fun d => SMap.get (0, 0) b.maxDem d
  let s := s.mkRecord 5 fl at_ 0xFF b.bpSeq b.bpStart (m.map (·.1) ++ m.map (·.2)) [.nothing]
  (s.setF BILL_EVENTS_period 1).openPeriod at_

/-! ## Boundaries (R334, R338, R339, R353) -/

/-- How boundaries are processed: flags of what they close; `jump`: the running interval was closed before, so that the first boundary only
opens one (R334); `capDi`, `capBp`: more than 96 fall in the jump. -/
structure BndMode where
  flags : Nat
  jump : Bool
  capDi : Bool
  capBp : Bool
deriving DecidableEq, Repr

/-- The demand interval's part of a boundary, the k-th of its kind. -/
def State.diBoundary (s : State) (m : BndMode) (k at_ flags : Nat) : State :=
  if m.jump ∧ k = 0 then s.setBill fun b => { b with diStart := at_, diFlags := 0 }
  else if m.capDi ∧ 95 ≤ k then s.openInterval at_ 0
  else s.closeInterval at_ (m.flags ||| flags) 0

/-- The billing period's part. -/
def State.bpBoundary (s : State) (m : BndMode) (k at_ : Nat) : State :=
  if m.capBp ∧ 95 ≤ k then s.openPeriod at_ else s.closePeriod at_ m.flags

/-- The pending object becomes active, in its slot of the meter partition too, with its rate (R337). -/
def State.activate (s : State) (at_ : Nat) : State :=
  let o := s.bill.pend
  let s := (s.wrBytes 0x70700000 o).wr 0x70701000 4 0
  let s := s.setBill fun b => { b with active := o, pend := [], rate := rateAt o (localMax o (utcOf b.utcOfs at_)) }
  (s.setF BILL_EVENTS_tariff 1).t4Event 0x084 siteScope 1 (tarId o)

/-- One boundary instant: what is due, in the order of R339. `act`: the pending object activates there. The counts of interval and period
boundaries so far go on. -/
def State.boundary (s : State) (m : BndMode) (k : Nat × Nat) (at_ : Nat) (act : Bool) : (Nat × Nat) × State :=
  let b := s.bill
  let u := utcOf b.utcOfs at_
  let whole := at_ % 1000000000 == 0
  let l0 := localMax b.active (u - 1)
  let l1 := localMax b.active u
  let di := whole && u % (tarDiLen b.active * 60) == 0
  let sw := whole && anyMinute (isSwitch b.active) l0 l1
  let bp := act || (whole && anyMinute (isBilling b.active) l0 l1)
  let s := if di || act then s.diBoundary m k.1 at_ (bitIf (!di) 6) else s
  let s := if act then s.activate at_
    else if sw then s.setBill fun b => { b with rate := rateAt b.active l1 }
    else s
  let s := if bp then s.bpBoundary m k.2 at_ else s
  ((k.1 + (if di || act then 1 else 0), k.2 + (if bp then 1 else 0)), s)

/-- Every boundary after t and below hi, in time order, for at most n instants. -/
def State.boundariesFrom (m : BndMode) (hi : Nat) : Nat → Nat → Nat × Nat → State → (Nat × Nat) × State
  | 0, _, k, s => (k, s)
  | n + 1, t, k, s =>
    let b := s.bill
    let x := nextInstant b.active b.pend b.utcOfs t
    if hi ≤ x then (k, s)
    else
      let (k, s) := s.boundary m k x (!b.pend.isEmpty && tarActivation b.pend * 1000000000 == x)
      State.boundariesFrom m hi n x k s

/-- A bound on the instants between lo and hi: the minutes, the offset changes, the activation. -/
def instants (lo hi : Nat) : Nat := (hi - lo) / 60000000000 + 20

/-- An activation whose instant is past takes effect at the start of the block (R337). -/
def State.lateActivation (s : State) (m : BndMode) (at_ : Nat) : State :=
  if !s.bill.pend.isEmpty ∧ tarActivation s.bill.pend * 1000000000 ≤ at_ ∧ s.bill.replay.isNone then (s.boundary m (0, 0) at_ true).2 else s

/-- The boundaries of a jump from lo up to and including hi, under the span rule of R334. -/
def State.jumpBoundaries (s : State) (flags lo hi : Nat) (jump : Bool) : State :=
  let n := instants lo hi
  let c := (State.boundariesFrom ⟨flags, jump, false, false⟩ (hi + 1) n lo (0, 0) s).1
  let m : BndMode := ⟨flags, jump, decide (96 < c.1), decide (96 < c.2)⟩
  let (c, s) := State.boundariesFrom m (hi + 1) n lo (0, 0) s
  let s := if m.capDi then s.mkRecord 16 flags hi 0xFF s.bill.diSeq 0 [c.1 - 95, 3] [.nothing] else s
  if m.capBp then s.mkRecord 16 flags hi 0xFF s.bill.bpSeq 0 [c.2 - 95, 4] [.nothing] else s

/-! ## Transactions (R343 to R347) -/

/-- The values and flags of an end record. -/
def State.endValues (s : State) (c : Nat) : List Nat :=
  let t := s.tx c
  let imp := s.legal (connReg c)
  let ex := s.legal (connReg c + 1)
  [imp, ex, imp - t.startImp, ex - t.startExp, ofSigned 64 (s.remaining c), t.exclBlocks]

/-- Close the open transaction of connector c at LT lt with flags besides its own: its end record. -/
def State.closeTx (s : State) (c lt flags : Nat) (after : Nat → List T4After) : State :=
  let t := s.tx c
  let r := s.bill.rseq
  let fl := flags ||| bitIf t.excluded 5 ||| bitIf t.exhausted 10 ||| bitIf t.blocked 11
  let s := s.mkRecord 2 fl lt c t.number t.openLt (s.endValues c) (after r)
  let s := s.setBill fun b => { b with unconf := b.unconf ++ [(t.number, r)] }
  let s := s.setTx c fun t => { t with isOpen := false, endImp := s.legal (connReg c), fallAt := none }
  s.t4Event 0x081 (connScope c) 2 t.number

/-- Credit and exclusion of connector c at the commit of a block (R346, R347). -/
def State.creditStep (s : State) (block : List Byte) (excl c : Nat) : State :=
  let t := s.tx c
  if !t.isOpen then s
  else
    let e := 6 + c
    let ex := excl / 2 ^ e % 2 == 1
    let s := if ex then s.setTx c fun t => { t with exclBlocks := t.exclBlocks + 1 } else s
    let s := if ex && !t.excluded then
        (((s.setTx c fun t => { t with excluded := true, fallAt := some (t.fallAt.getD s.now) }).setF BILL_EVENTS_excluded 1).t4Event 0x089 (connScope c) 2 e)
      else s
    let rem := s.remaining c
    let s := if t.prepay && !t.low && decide (20 * rem < t.credit) then
        ((s.setTx c fun t => { t with low := true }).setF BILL_EVENTS_credit 1).t4Event 0x087 (connScope c) 1 (ofSigned 32 (rem / 1000000))
      else s
    let s := if t.prepay && !t.exhausted && decide (rem ≤ 0) then
        (((s.setTx c fun t => { t with exhausted := true, fallAt := some (t.fallAt.getD s.now) }).setF BILL_EVENTS_credit 1).t4Event 0x088 (connScope c) 2 t.number)
      else s
    match (s.tx c).fallAt with
    | some a =>
      if decide ((blkCurrent block e).natAbs * 100 ≤ s.f (MET_CH_CFG_fs (elI e)) * 1000) || decide (a + 400000000 ≤ s.now) then s.menFall c else s
    | none => s

/-- The contactor of a released meter enable, at the first commit 100 ms or more after the release (R345). -/
def State.relayCheck (s : State) (c : Nat) : State :=
  match (s.tx c).relAt with
  | none => s
  | some a =>
    if s.now < a + 40000000 then s
    else
      let s := s.setTx c fun t => { t with relAt := none }
      let p := s.fbClosed (96 + 2 * c)
      let n := s.fbClosed (97 + 2 * c)
      if p || n then
        let s := s.mkRecord 12 flRelay s.bill.lt c 0 0 [1, if p then 1 else 0, if n then 1 else 0] [.nothing]
        let s := ((s.setTx c fun t => { t with blocked := true }).setF BILL_EVENTS_relay 1).t4Event 0x08A (connScope c) 2 (bitIf p 0 + bitIf n 1)
        let (num, s) := s.freeNum
        s.declareFault 1 2 num (connScope c) 0 0
      else s

/-! ## The billing steps of a block (R332 to R335, R338) -/

/-- A clock-adjustment record (R348). -/
def State.adjustRecord (s : State) (lt : Nat) (d : Int) (how : Nat) : State :=
  let s := s.mkRecord 8 0 lt 0xFF 0 0 [ofSigned 64 d, s.bill.adjTotal / 1000000, how] [.nothing]
  (s.setF BILL_EVENTS_adjust 1).t4Event 0x085 siteScope 1 (ofSigned 32 (satSigned 32 (d / 1000000)))

/-- A changed TAI - UTC, at the next block (R335). -/
def State.applyOfs (s : State) : State :=
  match s.bill.newOfs with
  | none => s
  | some (v, r) =>
    let b := s.bill
    let d := v - b.utcOfs
    let s := s.setBill fun b =>
      { b with newOfs := none, utcOfs := v, adjTotal := b.adjTotal + d.natAbs * 1000000000, guard := max b.guard (max b.lt b.hwm + d.toNat * 1000000000) }
    let s := if d = 0 then s else s.adjustRecord b.lt (d * 1000000000) 2
    s.finishServing .mailbox (· == r) 1 0 0

/-- CREDIT_SET, at the next block (R343). -/
def State.applyCredits (s : State) : State :=
  let l := s.bill.newCredits
  let s := s.setBill fun b => { b with newCredits := [] }
  l.foldl (fun s x =>
    let c := x.2.scope.inst.toNat
    if (s.tx c).isOpen && !(s.tx c).exhausted then
      (s.setTx c fun t => { t with credit := x.1, low := false }).finishServing .mailbox (· == x.2) 1 0 0
    else s.finishServing .mailbox (· == x.2) 2 0x14 0) s

/-- The block's energy into rate registers, period accumulators and demand channels (R338 step 2). -/
def State.billEnergy (s : State) (e : Nat → Nat) : State :=
  let o := s.bill.active
  let s := s.each (List.range 8) fun s q =>
    let a := tarQuantity o q
    if a = 0xFF then s
    else s.setBill fun b =>
      { b with
        rateReg := SMap.set 0 b.rateReg (8 * q + b.rate) (SMap.get 0 b.rateReg (8 * q + b.rate) + e a), period := SMap.set 0 b.period q (SMap.get 0 b.period q + e a) }
  s.each [0, 1, 2, 3] fun s d => s.setBill fun b => { b with demand := SMap.set 0 b.demand d (SMap.get 0 b.demand d + e (tarDemand o d)) }

/-- The judgement of d = dt - LT' (R332 to R334). -/
def State.judge (s : State) (pred dt : Nat) : State :=
  let d : Int := (dt : Int) - pred
  let b := s.bill
  if d = 0 then s
  else if d.natAbs ≤ 2000000000 ∧ b.adjTotal + d.natAbs ≤ 10000000000 then
    let s := s.setBill fun b => { b with adjTotal := b.adjTotal + d.natAbs }
    if 100000000 ≤ d.natAbs then s.adjustRecord pred d 0 else s
  else
    let s := (s.adjustRecord pred d 1).setBill fun b => { b with adjLarge := b.adjLarge + 1 }
    let s := s.closeInterval pred flSplit flSplit
    let s := if 0 < d then s.jumpBoundaries flSkipped (max pred (max b.hwm b.guard)) dt true else s
    s.setBill fun b => { b with diStart := dt, diFlags := b.diFlags ||| flSplit }

/-- LT moves to v; the high-water mark has reached the block's predicted end and v (R333). -/
def State.setLt (s : State) (pred v : Nat) : State :=
  s.setBill fun b =>
    let h := max b.hwm (max pred v)
    { b with lt := v, hwm := h, replay := if b.replay.isNone ∧ v < h then some v else b.replay }

/-- Replay ends at the first block whose predicted end exceeds the high-water mark. -/
def State.endReplay (s : State) (pred : Nat) : State :=
  match s.bill.replay with
  | none => s
  | some t =>
    if s.bill.hwm < pred then
      ((s.setBill fun b => { b with replay := none }).setF BILL_EVENTS_replay_end 1).t4Event 0x086 siteScope 1 ((pred - t) / 1000000000)
    else s

/-- The samples of the running interval and of the 24 h count. -/
def State.countSamples (s : State) (n flags excl : Nat) : State :=
  s.setBill fun b =>
    let day := b.daySamples + n
    let fl := bitIf (excl != 0) 5
    { b with
      diSamples := b.diSamples + n, diFlags := b.diFlags ||| fl ||| bitIf (flags % 2 == 1) 7, bpFlags := b.bpFlags ||| fl, daySamples := day % 864000000
      adjTotal := if 864000000 ≤ day then 0 else b.adjTotal }

/-- Step 3 of R320 for a block; `judged`: false for the cut block of a flush. -/
def State.billingSteps (s : State) (block : List Byte) (excl : Nat) (e : Nat → Nat) (judged : Bool) : State :=
  let s := s.applyOfs.applyCredits
  let b := s.bill
  let pred := b.lt + blkSamples block * 100000
  let s := s.endReplay pred
  let lo := max (max b.lt b.hwm) b.guard
  let m : BndMode := ⟨0, false, false, false⟩
  let s := s.lateActivation m lo
  let s := (State.boundariesFrom m pred (instants lo pred) lo (0, 0) s).2
  let s := (s.billEnergy e).countSamples (blkSamples block) (blkFlags block) excl
  let s := s.each (List.range 8) fun s c => (s.creditStep block excl c).relayCheck c
  if judged then (s.judge pred (blkDt block)).setLt pred (blkDt block) else s.setLt pred pred

/-! ## Committing blocks (R320, R325, R351, R352) -/

/-- The closing of a final flush: every transaction, the interval, the period; the epoch-end record (R352). -/
def State.finalClose (s : State) : State :=
  let lt := s.bill.lt
  let s := s.each (List.range 8) fun s c => if (s.tx c).isOpen then (s.menFall c).closeTx c lt 0 fun _ => [.nothing] else s
  let s := (s.closeInterval lt 0 0).closePeriod lt 0
  let h := sha256 ((List.range 64).flatMap fun a => bytesOf (s.legal a) 8)
  let s := s.mkRecord 14 0 lt 0xFF 0 0 ((List.range 4).map fun k => fieldAt h (8 * k) 8) [.nothing]
  s.setBill fun b => { b with final := true }

/-- The pause record of a freeze (R354). -/
def State.pauseRecord (s : State) : State := s.mkRecord 10 0 s.bill.lt 0xFF 0 0 [s.bill.jseq] [.nothing]

/-- The entry that ends a flush or pause, with what it includes. -/
def State.flushEntry (s : State) (a : FlushAsk) (flags excl : Nat) (after : List T4After) : State :=
  let s := if a.last then s.finalClose else s
  let s := if a.kind = 3 then s.pauseRecord else s
  let b := s.bill
  let s := s.mkEntry a.kind (b.next - 1) b.lastDt flags excl (fun k => SMap.get 0 b.tallies k) (after ++ [.flushed])
  s.setBill fun b => { b with ask := none, stopped := true }

/-- Commit one block; `last` the flush or pause that it ends with. -/
def State.commitBlock (s : State) (block : List Byte) (last : Option FlushAsk) : State :=
  let s := s.advancePeriod 5 0
  let b := s.bill
  let fail := blkFail block
  let excl := elemBits fun e => s.isExcluded fail e
  let raw := fun a => if b.tallyDue then blkTally block a - SMap.get 0 b.tallies a else blkEnergy block a
  let e := committed excl raw
  let s := s.setBill fun b =>
    { b with
      regs := (List.range 64).foldl (fun r a => SMap.set 0 r a (SMap.get 0 r a + e a)) b.regs
      tallies := (List.range 64).foldl (fun r a => SMap.set 0 r a (blkTally block a)) b.tallies
      next := blockNo block + 1, tallyDue := false, excl := excl, lastDt := blkDt block }
  let s := s.billingSteps block excl e last.isNone
  let flags := blkFlags block % 4 + (if b.tallyDue then 4 else 0)
  match last with
  | some a => s.flushEntry a flags excl [.blockDone block]
  | none => s.mkEntry 1 (blockNo block) (blkDt block) flags excl (blkTally block) [.blockDone block]

/-- The next delivered block: after a gap, the latest, by a tally commit (R322, R331). -/
def State.nextBlock (s : State) : Option (List Byte) :=
  let d := s.delivered
  let n := s.bill.next
  if d ≤ n then none
  else if s.bill.tallyDue ∨ n + 2 < d then some (s.half ((d - 1) % 2))
  else some (s.half (n % 2))

/-- One block, or the flush that is asked for and due; nothing while a signature is awaited or after a flush. -/
def State.takeBlock (s : State) : State :=
  let b := s.bill
  if !b.started || b.stopped || !b.todo.isEmpty then s
  else
    let due := !s.fb MET_STATUS_cut_pending && s.met.closed.isEmpty
    match s.nextBlock with
    | some block =>
      let s := if blockNo block = b.next then s else s.setBill fun b => { b with tallyDue := true }
      let last := if due ∧ s.delivered = blockNo block + 1 then b.ask else none
      (s.commitBlock block last).goOn
    | none =>
      match b.ask with
      | some a => if due then (s.flushEntry a 0 b.excl []).goOn else s
      | none => s

/-- Every delivered block, at most two in T4's SRAM, and a flush that is due. -/
def State.takeBlocks (s : State) : State := s.takeBlock.takeBlock.takeBlock

/-- Ask for a flush or pause: T4 cuts the running block (R325, R352). -/
def State.askFlush (s : State) (a : FlushAsk) : State :=
  if s.bill.started && !s.bill.stopped && s.bill.ask.isNone then (s.metCut.setBill fun b => { b with ask := some a }).takeBlocks else s

/-- BLOCK_DELIVERY; a flush that waits for the block goes on. -/
def execBlockDelivery (s : State) : Out :=
  s.onClock fun s => (let s := s.deliverBlock
         if s.bill.ask.isSome then s.takeBlocks else s)

/-- RECORD_SIGNED: the signature of the record at the head of the list (the meter key is private: a free value), then what follows. -/
def State.recordSigned (s : State) : State :=
  match s.bill.todo with
  | .record r body after :: t =>
    let (sig, s) := s.fresh
    let s := s.wrBytes (recordAt r) (body ++ bytesOf sig 64 ++ bytesOf 0 64)
    let s := s.setBill fun b => { b with todo := t }
    let s := (after.foldl State.afterOne s).goOn
    if s.bill.ask.isSome then s.takeBlocks else s
  | _ => s

def execRecordSigned (s : State) : Out := s.onClock fun s => s.recordSigned

end Sys2Proof.Machine
end

