-- ==== Sys2Proof/Machine/Meter.lean ====
section
/-!
DEFINITION. T4's mailbox requests (R343 to R347, R349, R352), its start and the journal's resolution (R322, R324, R353), the legal displays
(R356, R357), and T4's frame (R320).
-/
namespace Sys2Proof.Machine

/-! ## Requests -/

/-- T4 serves its mailbox once it has started; an originator or scope kind that the opcode does not list is REJECTED with detail 0x01 (R343). -/
def State.t4Serve (s : State) (sd : Sender) (r : Req) (origs : List Nat) (kind : Nat) (f : State → State) : State :=
  if s.bill.started then
    s.serve sd .mailbox r fun s =>
      if origs.contains r.origId.toNat ∧ r.scope.kind.toNat = kind ∧ (kind = 3 → r.scope.inst.toNat < 8) then (f s).goOn else s.reject .mailbox r 0x01
  else if s.clocked then s.commit sd .mailbox r
  else s

/-- TX_OPEN: the refusals in their order, else the next number, the start values and the start record; MEN follows the record (R344). -/
def State.txOpen (s : State) (r : Req) : State :=
  let c := r.scope.inst.toNat
  let p := r.payload.toNat
  let b := s.bill
  if b.excl / 2 ^ (6 + c) % 2 = 1 then s.reject .mailbox r 0x10
  else if (s.tx c).blocked then s.reject .mailbox r 0x11
  else if s.ringLow then s.reject .mailbox r 0x12
  else if (s.tx c).isOpen then s.reject .mailbox r 0x13
  else if b.stopped then s.rejectFree .mailbox r
  else
    let imp := s.legal (connReg c)
    let ex := s.legal (connReg c + 1)
    let n := b.txNext
    let credit := p / 2 ^ 64
    let s := (s.defer .mailbox r).mkRecord 1 0 b.lt c n 0 [imp, ex, credit, p / 2 ^ 32 % 2 ^ 32] [.txOpen c r (n + b.rseq % 2 ^ 32 * 2 ^ 32)]
    let s := s.setTx c fun t =>
      { Tx.reset with
        number := n, isOpen := true, prepay := p % 2 == 1, inReplay := b.replay.isSome, startImp := imp, startExp := ex, credit := credit, openLt := b.lt, relAt := t.relAt }
    (s.setBill fun b => { b with txNext := n + 1 }).t4Event 0x080 (connScope c) 2 n

def execTxOpen (sd : Sender) (r : Req) (s : State) : Out := .next (s.t4Serve sd r [2] 3 fun s => s.txOpen r)

/-- TX_CLOSE: MEN falls at the take; DONE with the end record written. Without an open transaction the spec names no answer. -/
def State.txClose (s : State) (r : Req) : State :=
  let c := r.scope.inst.toNat
  if !(s.tx c).isOpen then s.rejectFree .mailbox r
  else
    let n := (s.tx c).number
    ((s.defer .mailbox r).menFall c).closeTx c s.bill.lt 0 fun rseq => [.complete r (n + rseq % 2 ^ 32 * 2 ^ 32)]

def execTxClose (sd : Sender) (r : Req) (s : State) : Out := .next (s.t4Serve sd r [2] 3 fun s => s.txClose r)

/-- TX_CONFIRM: the confirmation record; the end record need not be kept for it any longer. -/
def State.txConfirm (s : State) (r : Req) : State :=
  let n := r.payload.toNat % 2 ^ 32
  let s := (s.defer .mailbox r).mkRecord 15 0 s.bill.lt 0xFF n 0 [n] [.complete r 0]
  if r.payload.toNat / 2 ^ 32 % 2 ^ 16 = s.epochNo then s.setBill fun b => { b with unconf := b.unconf.filter fun u => u.1 != n } else s

def execTxConfirm (sd : Sender) (r : Req) (s : State) : Out := .next (s.t4Serve sd r [1] 6 fun s => s.txConfirm r)

/-- The record of an accepted or refused tariff object (R337). -/
def State.tariffRecord (s : State) (kind : Nat) (o : List Byte) (detail : Nat) (after : List T4After) : State :=
  let h := sha256 o
  (s.mkRecord kind 0 s.bill.lt 0xFF 0 0 (tarId o :: (List.range 4).map (fun k => fieldAt h (8 * k) 8) ++ [detail]) after).setF BILL_EVENTS_tariff 1

/-- TARIFF_LOAD: the object that the payload names. -/
def State.tariffLoad (s : State) (r : Req) : State :=
  let o := if r.indirect then s.dmaRdBytes r.indAddr r.indLen else []
  let refuse := fun (d : Nat) => ((s.tariffRecord 7 o d [.nothing]).t4Event 0x083 siteScope 1 d).reject .mailbox r d
  if !s.tariffSigned o then refuse 0x20
  else if !tariffInRange o then refuse 0x21
  else if tarId o ≤ tarId s.bill.active ∨ tarId o ≤ tarId s.bill.pend then refuse 0x22
  else
    let s := (s.wrBytes 0x70701000 o).setBill fun b => { b with pend := o }
    ((s.defer .mailbox r).tariffRecord 6 o 0 [.complete r (tarId o)]).t4Event 0x082 siteScope 1 (tarId o)

def execTariffLoad (sd : Sender) (r : Req) (s : State) : Out := .next (s.t4Serve sd r [1] 6 fun s => s.tariffLoad r)

/-- UTC_OFFSET: applied at the next block. -/
def State.utcOffset (s : State) (r : Req) : State :=
  let v := toSigned 16 r.payload.toNat
  if 2 < (v - s.bill.utcOfs).natAbs then (s.setBill fun b => { b with newOfs := none }).reject .mailbox r 0x30
  else (s.defer .mailbox r).setBill fun b => { b with newOfs := some (v, r) }

def execUtcOffset (sd : Sender) (r : Req) (s : State) : Out := .next (s.t4Serve sd r [1] 6 fun s => s.utcOffset r)

/-- CREDIT_SET: applied at the next block. -/
def State.creditSet (s : State) (r : Req) : State :=
  let t := s.tx r.scope.inst.toNat
  let s := s.setBill fun b => { b with newCredits := b.newCredits.filter fun x => x.2.scope != r.scope }
  if t.isOpen ∧ !t.exhausted ∧ t.number = r.payload.toNat / 2 ^ 64 % 2 ^ 32 then
    (s.defer .mailbox r).setBill fun b => { b with newCredits := b.newCredits ++ [(r.payload.toNat % 2 ^ 64, r)] }
  else s.reject .mailbox r 0x14

def execCreditSet (sd : Sender) (r : Req) (s : State) : Out := .next (s.t4Serve sd r [1] 3 fun s => s.creditSet r)

/-- The record whose number ends in the given 32 bits, of the last 20,480: none where it is not held or not yet written (R349). -/
def State.heldRecord (s : State) (low : Nat) : Option Nat :=
  let next := s.bill.rseq
  let top := (next - 1) / 2 ^ 32 * 2 ^ 32 + low
  let n := if next ≤ top then top - 2 ^ 32 else top
  if 1 ≤ n ∧ n < next ∧ next ≤ n + 20480 ∧ s.rd (recordAt n) 4 = 0x43455253 ∧ s.rd (recordAt n + 6) 2 = s.epochNo ∧ s.rd (recordAt n + 8) 8 = n then some n else none

/-- RECORD_READ: one word of a held record. -/
def State.recordRead (s : State) (r : Req) : State :=
  let w := r.payload.toNat / 2 ^ 32 % 32
  match s.heldRecord (r.payload.toNat % 2 ^ 32) with
  | some n => if w < 24 then s.done .mailbox r (s.rd (recordAt n + 8 * w) 8) else s.rejectFree .mailbox r
  | none => s.reject .mailbox r 0x15

def execRecordRead (sd : Sender) (r : Req) (s : State) : Out := .next (s.t4Serve sd r [1, 8] 6 fun s => s.recordRead r)

/-- TX_UNCONFIRMED: the next closed transaction not confirmed, above a number. -/
def State.txUnconfirmed (s : State) (r : Req) : State :=
  let after := r.payload.toNat % 2 ^ 32
  let best := s.bill.unconf.foldl (fun (a : Nat × Nat) u => if after < u.1 ∧ (a.1 = 0 ∨ u.1 < a.1) then u else a) (0, 0)
  s.done .mailbox r (best.1 + best.2 % 2 ^ 32 * 2 ^ 32)

def execTxUnconfirmed (sd : Sender) (r : Req) (s : State) : Out := .next (s.t4Serve sd r [1] 6 fun s => s.txUnconfirmed r)

/-- FLUSH: T4 cuts; DONE with the flush entry written. After an earlier flush only the entry is left to write. -/
def State.flushReq (s : State) (r : Req) : State :=
  let last := r.payload.toNat % 2 == 1
  let s := s.defer .mailbox r
  match s.bill.ask with
  | some a => s.setBill fun b => { b with ask := some { a with last := a.last || last } }
  | none =>
    if s.bill.stopped then s.flushEntry ⟨2, last && !s.bill.final⟩ 0 s.bill.excl [] else s.askFlush ⟨2, last⟩

def execFlush (sd : Sender) (r : Req) (s : State) : Out := .next (s.t4Serve sd r [8] 7 fun s => s.flushReq r)

/-- RELAY_CLEAR: the block is lifted in SERVICE with both feedbacks open (R345). -/
def State.relayClear (s : State) (r : Req) : State :=
  let c := r.scope.inst.toNat
  if s.devMode ≠ modeService ∨ s.fbClosed (96 + 2 * c) ∨ s.fbClosed (97 + 2 * c) then s.reject .mailbox r 0x16
  else ((s.defer .mailbox r).setTx c fun t => { t with blocked := false }).mkRecord 12 flRelay s.bill.lt c 0 0 [0, 0, 0] [.complete r 0]

def execRelayClear (sd : Sender) (r : Req) (s : State) : Out := .next (s.t4Serve sd r [8] 3 fun s => s.relayClear r)

/-! ## The start of T4 (R322, R324, R353) -/

/-- A valid journal entry of the current epoch in a slot. -/
def State.validEntry (s : State) (slot : Nat) : Option (List Byte) :=
  let a := journalAt slot
  if s.rd a 4 = 0x4E524A4D ∧ s.rd (a + 6) 2 = s.epochNo then
    let b := s.rdBytes a 0x800
    if crc32 (b.take 0x28 ++ bytesOf 0 4 ++ b.drop 0x2C) = fieldAt b 0x28 4 then some b else none
  else none

/-- The winner: the valid entry with the highest journal number. -/
def State.winner (s : State) : Option (List Byte) :=
  (List.range 1024).foldl (fun w k =>
    match s.validEntry k, w with
    | some b, some x => if fieldAt x 8 8 < fieldAt b 8 8 then some b else some x
    | some b, none => some b
    | none, _ => w) none

/-- A list of 8-byte fields from an offset as a map. -/
def mapAt (l : List Byte) (k n : Nat) : SMap Nat := (List.range n).foldl (fun m a => SMap.set 0 m a (fieldAt l (k + 8 * a) 8)) []

/-- A transaction as a journal's billing field holds it (R350). -/
def txOf (l : List Byte) (c : Nat) : Tx :=
  let k := 0x2C0 + 32 * c
  let fl := fieldAt l (k + 4) 2
  let bit := fun i => fl / 2 ^ i % 2 == 1
  { Tx.reset with
    number := fieldAt l k 4, isOpen := bit 0, prepay := bit 1, exhausted := bit 2, inReplay := bit 3, excluded := bit 4, exclBlocks := fieldAt l (k + 6) 2,
    startImp := fieldAt l (k + 8) 8, startExp := fieldAt l (k + 16) 8, credit := toSigned 64 (fieldAt l (k + 24) 8) }

/-- A record of the ring as T4 reads it at its start: kind, rseq, subject, number, v0. -/
structure RingRec where
  kind : Nat
  rseq : Nat
  subject : Nat
  number : Nat
  v0 : Nat

/-- The records of this epoch in the ring. -/
def State.ringRecords (s : State) : List RingRec :=
  (List.range 20480).filterMap fun k =>
    let a := 0x70200000 + 256 * k
    if s.rd a 4 = 0x43455253 ∧ s.rd (a + 6) 2 = s.epochNo then some ⟨s.rd (a + 5) 1, s.rd (a + 8) 8, s.rd (a + 0x28) 1, s.rd (a + 0x2C) 4, s.rd (a + 0x38) 8⟩ else none

/-- The highest number written, and the end records without a confirmation. -/
def scanRecords (l : List RingRec) : Nat × List (Nat × Nat) :=
  let conf := (l.filter fun x => x.kind == 15).map fun x => x.v0
  (l.foldl (fun m x => max m x.rseq) 0, ((l.filter fun x => x.kind == 2 && !conf.contains x.number).map fun x => (x.number, x.rseq)))

/-- Whether the last relay record of connector c sets its block, which only RELAY_CLEAR lifts (R345). -/
def relayBlocked (l : List RingRec) (c : Nat) : Bool :=
  (l.foldl (fun (m : Nat × Bool) x => if x.kind = 12 ∧ x.subject = c ∧ m.1 < x.rseq then (x.rseq, x.v0 == 1) else m) (0, false)).2

/-- The stored tariff objects: the active slot where the winner names one; the pending slot while its magic and signature are correct. -/
def State.storedTariffs (s : State) (id : Nat) : List Byte × List Byte :=
  let a := s.rdBytes 0x70700000 928
  let p := s.rdBytes 0x70701000 928
  (if id ≠ 0 then a else [], if fieldAt p 0 4 == 0x544E5645 && s.tariffSigned p then p else [])

/-- T4 takes up what the winner and the record ring hold. -/
def State.loadWinner (s : State) (w : List Byte) : State :=
  let l := w.drop 0x440
  let ring := s.ringRecords
  let (top, unconf) := scanRecords ring
  let (active, pend) := s.storedTariffs (fieldAt l 0 4)
  let txs := (List.range 8).foldl (fun m c => SMap.set Tx.reset m c { txOf l c with blocked := relayBlocked ring c }) []
  let maxs := (List.range 4).foldl (fun m d => SMap.set (0, 0) m d (fieldAt l (0x288 + 16 * d) 4, fieldAt l (0x28C + 16 * d) 4)) []
  let dem := (List.range 4).foldl (fun m d => SMap.set 0 m d (fieldAt l (0x280 + 16 * d) 8)) []
  s.setBill fun b =>
    { b with
      regs := mapAt w 0x40 64, tallies := mapAt w 0x240 64, jseq := fieldAt w 8 8, lastDt := fieldAt w 0x18 8, excl := fieldAt w 0x24 4
      active := active, pend := pend, rate := fieldAt l 8 1, final := fieldAt l 9 1 / 4 % 2 == 1, utcOfs := toSigned 16 (fieldAt l 0xA 2)
      txNext := fieldAt l 0xC 4, lt := fieldAt l 0x10 8, hwm := fieldAt l 0x18 8, replay := if fieldAt l 9 1 % 2 = 1 then some (fieldAt l 0x10 8) else none
      diStart := fieldAt l 0x28 8, diSeq := fieldAt l 0x30 4, bpSeq := fieldAt l 0x34 2, adjTotal := fieldAt l 0x36 2 * 1000000
      diSamples := fieldAt l 0x38 4, daySamples := fieldAt l 0x3C 4, diFlags := bitIf (fieldAt l 9 1 / 2 % 2 == 1) 6
      rateReg := mapAt l 0x40 64, period := mapAt l 0x240 8, demand := dem, maxDem := maxs, txs := txs, rseq := top + 1, unconf := unconf }

/-- Step 1 of R353: one flush-missing record per enabled element, bounded by v_fs i_fs 20 ms in uWh. -/
def State.flushMissing (s : State) : State :=
  let l := elements.filter fun e => s.fb (MET_EL_CFG_en e)
  let s := s.each l fun s e =>
    s.mkRecord 9 flMissing s.bill.lt e 0 0 [(50 * s.f (MET_CH_CFG_fs (elV e)) * s.f (MET_CH_CFG_fs (elI e)) + 8) / 9] [.nothing]
  (s.setBill fun b => { b with missing := true }).t4Event 0x08B siteScope 1 (elemBits fun e => l.contains e)

/-- T0 reports a transaction that the reset left open Ended with stoppedReason Other, of which the spec gives no code: a free one (R265). -/
def State.reportEnded (s : State) (c number : Nat) : State :=
  let (r, s) := s.fresh
  { s with ocpp := { s.ocpp with events := s.ocpp.events ++ [⟨c, 3, r % 256, number⟩] } }

/-- Steps 2 to 5 of R353. -/
def State.resumeLegal (s : State) (missing : Bool) (kind gap : Nat) : State :=
  let b := s.bill
  let s := s.each (List.range 8) fun s c =>
    if (s.tx c).isOpen then (s.closeTx c b.lt (flRestart ||| bitIf missing 4) fun _ => [.nothing]).reportEnded c (s.tx c).number else s
  let dt := s.dt
  let s := s.setBill fun b => { b with lt := dt, replay := none, diFlags := b.diFlags ||| flIncomplete, bpFlags := b.bpFlags ||| flIncomplete }
  let s := s.jumpBoundaries flPowerOff (max b.lt b.hwm) dt false
  let s := s.setBill fun b => { b with diFlags := b.diFlags ||| flIncomplete, bpFlags := b.bpFlags ||| flIncomplete }
  let s := s.setLt dt dt
  s.mkRecord 11 0 dt 0xFF 0 0 [b.jseq, kind, gap] [.nothing]

/-- The gap of a resume record: from FREEZE_DT after a freeze, else from the winner's end (R428). -/
def State.resumeGap (s : State) (kind : Nat) : Nat :=
  s.dt - (if kind = 5 then s.f SEC_FREEZE_DT_LO_dt + 2 ^ 32 * s.f SEC_FREEZE_DT_HI_dt else s.bill.lastDt)

/-- T4 loads the calibration of the plinth image into the Locked registers and freezes them. -/
def State.loadCalibration (s : State) : State :=
  ((s.setAll s.maq.calib).setMet fun t => { t with seg := s.maq.calSeg.foldl (fun m x => SMap.set 0 m x.1 (x.2 % 2 ^ 32)) t.seg }).calLock

/-- A start after a device reset (STATUS.running 0). -/
def State.coldStart (s : State) : State :=
  let s := s.loadCalibration
  let kind := s.f SEC_RESET_CAUSE_kind
  match s.winner with
  | none =>
    let h := sha256 (bytesOf 0 512)
    let s := s.setBill fun b => { b with started := true, lt := s.dt, hwm := s.dt, diStart := s.dt, bpStart := s.dt }
    (s.mkRecord 13 0 s.dt 0xFF 0 0 ((List.range 4).map fun k => fieldAt h (8 * k) 8) [.nothing]).mkEntry 4 0 s.dt 8 0 (fun _ => 0) [.resumed]
  | some w =>
    let s := (s.loadWinner w).setBill fun b => { b with started := true }
    if s.bill.final then
      -- R412: the epoch has not ended; T4 stays final, and T7 says so
      let (op, s) := s.fresh
      ((s.setBill fun b => { b with stopped := true }).setB SEC_LIFECYCLE_final_pending true).engineRecord 7 1 0x0E9 deviceScope 0 (op % 2 ^ 32) |>.pubHead
    else if s.f SEC_LIFECYCLE_state = 3 then (s.setBill fun b => { b with stopped := true }).pubHead
    else
      let missing := fieldAt w 4 2 ≠ 2 ∧ fieldAt w 4 2 ≠ 3
      let s := if missing then s.flushMissing else s
      let s := s.resumeLegal (decide missing) kind (s.resumeGap kind)
      (s.setBill fun b => { b with tallies := [] }).mkEntry 4 0 s.dt 8 0 (fun _ => 0) [.resumed]

/-- A start after T4's restart (STATUS.running 1): the tally commit follows at the next block (R322). The resume record's reset kind has no
code for an engine restart. -/
def State.warmStart (s : State) : State :=
  match s.winner with
  | none => s.setBill fun b => { b with started := true, next := s.delivered, tallyDue := true, lt := s.dt, hwm := s.dt }
  | some w =>
    let s := s.loadWinner w
    let (k, s) := s.fresh
    let s := s.setBill fun b => { b with started := true, next := s.delivered, tallyDue := true }
    let s := s.mkRecord 11 0 s.bill.lt 0xFF 0 0 [fieldAt w 8 8, k % 2 ^ 64, s.dt - s.bill.lastDt] [.nothing]
    s.mkEntry 4 (fieldAt w 0x10 8) s.dt 0 s.bill.excl (fun a => SMap.get 0 s.bill.tallies a) [.resumed]

/-- T4 starts; in BLANK there is no meter, and in RETIRED it commits no block (R404). -/
def State.meterStart (s : State) : State :=
  if s.f SEC_LIFECYCLE_state = 0 then s
  else
    let s := if s.fb MET_STATUS_running then s.warmStart else s.coldStart
    (s.setBill fun b => { b with stopped := b.stopped || s.f SEC_LIFECYCLE_state == 3 }).goOn

/-! ## The legal displays (R356, R357) -/

def State.disp (s : State) (c : Nat) : Disp := SMap.get Disp.reset s.bill.disps c

/-- Send display c a frame with its item. The text's format is sealed in the plinth image: free values. -/
def State.dispSend (s : State) (c : Nat) : State :=
  let d := s.disp c
  let t := s.tx c
  let fl := s.f (BILL_DISP_STAT_manual c) + bitIf s.bill.replay.isSome 1 + bitIf (s.f SEC_LIFECYCLE_state != 2) 2 + bitIf (t.blocked || t.excluded) 3
  let (text, s) := s.fresh
  let head := bytesOf 0xA5 1 ++ bytesOf (s.f (BILL_DISP_STAT_item c)) 1 ++ bytesOf fl 1 ++ bytesOf d.count 1 ++ bytesOf text 24
  let s := s.setBill fun b => { b with disps := SMap.set Disp.reset b.disps c { d with count := (d.count + 1) % 256, sentAt := s.now, frame := head ++ bytesOf (crc32 head) 4 } }
  s.addSat (BILL_DISP_STAT_frames c) 1

/-- Display c moves to its next item at once. -/
def State.dispNext (s : State) (c : Nat) : State :=
  let i := s.f (BILL_DISP_STAT_item c)
  let s := s.setF (BILL_DISP_STAT_item c) (if i = 0 ∨ 7 ≤ i then 1 else i + 1)
  let d := s.disp c
  (s.setBill fun b => { b with disps := SMap.set Disp.reset b.disps c { d with itemAt := s.now } }).dispSend c

def State.dispOn (s : State) (c : Nat) : Bool := s.f BILL_DISP_CTRL_en / 2 ^ c % 2 == 1

/-- The scroll of display c: 2 s an item; manual mode for 30 s after a press; a frame at least every 2 s. -/
def State.dispStep (s : State) (c : Nat) : State :=
  let d := s.disp c
  if !s.dispOn c then s
  else if s.fb (BILL_DISP_STAT_manual c) then
    if d.itemAt + 12000000000 ≤ s.now then (s.setF (BILL_DISP_STAT_manual c) 0).dispNext c
    else if d.sentAt + 800000000 ≤ s.now then s.dispSend c
    else s
  else if d.frame.isEmpty ∨ d.itemAt + 800000000 ≤ s.now then s.dispNext c
  else s

/-- DSP_STEP_PRESS. -/
def execDspStepPress (c : Fin 8) (s : State) : Out :=
  s.onClock fun s => (if s.bill.started && s.dispOn c then (s.setF (BILL_DISP_STAT_manual c) 1).dispNext c else s)

/-! ## T4's frame -/

/-- A frame of T4's metrology table. -/
def State.meterFrame (s : State) : State :=
  let s := if s.bill.started then s else s.meterStart
  s.takeBlocks.each (List.range 8) State.dispStep

end Sys2Proof.Machine
end

