-- ==== Sys2Proof/Machine/Sessions.lean ====
section
/-!
DEFINITION. The line units, the lock and the 10BASE-T1S link (R250 to R253), T1's session lifecycle (R251 to R262, R266, R267, R269), and T0's
back-office link (R265, R268).
-/
namespace Sys2Proof.Machine

def State.ses (s : State) (c : Nat) : SessInt := SMap.get SessInt.reset s.sess c
def State.setSes (s : State) (c : Nat) (f : SessInt → SessInt) : State := { s with sess := SMap.set SessInt.reset s.sess c (f (s.ses c)) }
def State.sessEvent (s : State) (c : Nat) (x : Fld) : State := s.setEvent x 1 (connScope c) [1, 7]

/-! ## Line units (R250) -/

/-- The band of a sample in mV: the first whose upper threshold (100 mV) lies above it, else 4. -/
def bandOf (v : Int) : List Nat → Nat
  | [] => 0
  | t :: r => if v < t * 100 then 0 else bandOf v r + 1

/-- A band after one more sample: taken once it has held for 3 samples. -/
def State.takeBand (s : State) (c band : Nat) (was : Nat × Nat) (x ev : Fld) : (Nat × Nat) × State :=
  let run := if was.1 = band then min 3 (was.2 + 1) else 1
  ((band, run), if 3 ≤ run ∧ s.f x ≠ band then (s.setF x band).sessEvent c ev else s)

def State.lineSample (s : State) (c : Nat) (cpl prx : Int) : State :=
  let s := (s.setFi (SESS_CPL_MEAS_v c) cpl).setFi (SESS_PRX_MEAS_v c) prx
  let bc := bandOf cpl [s.f (SESS_CPL_CFG_th0 c), s.f (SESS_CPL_CFG_th1 c), s.f (SESS_CPL_CFG_th2 c), s.f (SESS_CPL_CFG_th3 c)]
  let bp := bandOf prx [s.f (SESS_PRX_CFG_th0 c), s.f (SESS_PRX_CFG_th1 c), s.f (SESS_PRX_CFG_th2 c), s.f (SESS_PRX_CFG_th3 c)]
  let (x, s) := s.takeBand c bc (s.ses c).cpl (SESS_STATUS_cpl_band c) (SESS_EVENTS_cpl_change c)
  let (y, s) := s.takeBand c bp (s.ses c).prx (SESS_STATUS_prx_band c) (SESS_EVENTS_prx_change c)
  s.setSes c fun t => { t with cpl := x, prx := y }

def execLineSample (c : Fin 8) (cpl prx : Int) (s : State) : Out := s.onClock fun s => (s.lineSample c cpl prx)

/-- What the maquette maps the bands in STATUS to. -/
def State.cplIs (s : State) (c : Nat) : Nat := SMap.get 0 s.maq.cplMap (5 * c + s.f (SESS_STATUS_cpl_band c))
def State.prxIs (s : State) (c : Nat) : Nat := SMap.get 0 s.maq.prxMap (5 * c + s.f (SESS_STATUS_prx_band c))

/-! ## The lock (R252) -/

/-- A pulse of the lock or unlock output, of LOCK_CFG.pulse times 10 ms; its feedback is awaited. -/
def State.lockPulse (s : State) (c : Nat) (lock : Bool) : State :=
  let off := s.now + s.f (SESS_LOCK_CFG_pulse c) * 4000000
  s.setSes c fun t => { t with pulse := some (lock, off), await := if s.fb (SESS_STATUS_locked c) == lock then none else some (lock, s.now) }

def execLockPulse (w c : Fin 8) (s : State) : Out := .next (s.guarded w 1 (SESS_CTRL c) (s.lockPulse c true))
def execUnlockPulse (w c : Fin 8) (s : State) : Out := .next (s.guarded w 1 (SESS_CTRL c) (s.lockPulse c false))
/-- The pulse's length has gone by: the output falls. -/
def State.pulseEnd (s : State) (c : Nat) : State := s.setSes c fun t => { t with pulse := t.pulse.filter (s.now < ·.2) }

def execLockPulseEnd (c : Fin 8) (s : State) : Out := s.onClock fun s => (s.pulseEnd c)

/-- The feedback input's level: low shows locked where fb_pol is 1. An UNLOCK waits for the unlocked feedback. -/
def State.lockFeedback (s : State) (c : Nat) (high : Bool) : State :=
  let locked := high != s.fb (SESS_LOCK_CFG_fb_pol c)
  let s := s.setSes c fun t => { t with feedback := high, await := t.await.filter (·.1 != locked), lockFailed := false }
  let s := if s.fb (SESS_STATUS_locked c) == locked then s else (s.setB (SESS_STATUS_locked c) locked).sessEvent c (SESS_EVENTS_lock_change c)
  match (s.ses c).unlockReq with
  | some r =>
    if locked then s else (s.setSes c fun t => { t with unlockReq := none }).finishServing (.queue 1 1) (· == r) 1 0 0
  | none => s

def execLockFeedbackChange (c : Fin 8) (high : Bool) (s : State) : Out := .next (s.lockFeedback c high)

/-- The feedback has not followed within 1 s: lock_timeout, and T1 declares LOCK_FAIL. -/
def State.lockTimeout (s : State) (c : Nat) : State :=
  match (s.ses c).await with
  | none => s
  | some (lock, since) =>
    if s.now < since + 400000000 then s
    else ((s.sessEvent c (SESS_EVENTS_lock_timeout c)).setSes c fun t => { t with await := none, lockFailed := true }).declareFault 1 2 0x064 (connScope c) 0
      (if lock then 1 else 0)

def execLockTimeout (c : Fin 8) (s : State) : Out := s.onClock fun s => (s.lockTimeout c)

/-- The conditions without which T1 does not pulse unlock: DC+ and DC- open, below 60 V, no phase unit enabled on c (R252). -/
def State.mayUnlock (s : State) (c : Nat) : Bool :=
  !s.fbClosed (96 + 2 * c) && !s.fbClosed (97 + 2 * c) && decide (s.fi (CONN_MEAS_V_v c) < 60000) &&
    !(List.range 256).any fun n => s.f (PHU_CTRL_dest n) == c && s.fb (PHU_CTRL_en n)

/-! ## The link (R253) -/

def State.linkChange (s : State) (c : Nat) (up : Bool) : State :=
  if s.fb (SESS_STATUS_link c) == up then s
  else
    let s := s.setB (SESS_STATUS_link c) up
    if up then s.sessEvent c (SESS_EVENTS_link_up c)
    else ((s.addSat (SESS_T1S_STAT_link_drops c) 1).setF (SESS_STATUS_tls c) 0).sessEvent c (SESS_EVENTS_link_down c)

def execT1sLinkChange (c : Fin 8) (up : Bool) (s : State) : Out := s.onClock fun s => (s.linkChange c up)

/-! ## T0's link to the back office (R265, R266, R268) -/

def backQ : QId := .queue 0 1

/-- The step of T0 for TX_EVENT: queued, at most 4,096; beyond that the spec names no answer. -/
def State.txEvent (s : State) (r : Req) : State :=
  let p := r.payload.toNat
  if r.origId ≠ 2 ∨ r.scope.kind ≠ 3 then s.rejectFree backQ r
  else if 4096 ≤ s.ocpp.events.length then s.rejectFree backQ r
  else
    let e : TxEvent := ⟨r.scope.inst.toNat, p % 256, p / 256 % 256, p / 2 ^ 32 % 2 ^ 32⟩
    { s with ocpp := { s.ocpp with events := s.ocpp.events ++ [e] } }.done backQ r 0

def execTxEvent (sd : Sender) (r : Req) (s : State) : Out := .next (s.serve sd backQ r fun s => s.txEvent r)

/-- Forget the MessageIds of connection k whose CALL was answered BUSY or DISCARDED (R268). -/
def State.pruneIds (s : State) (k : Nat) : State :=
  let gone := fun (id : BitVec 32) => s.outbox.any fun (x : Result) => x.orig.toNat == 0x20 + k && x.reqId == id && (x.status == 3 || x.status == 5)
  let l := (SMap.get [] s.ocpp.ids k).filter fun x => !gone x.2
  { s with ocpp := { s.ocpp with ids := SMap.set [] s.ocpp.ids k l } }

/-- The req_id of a MessageId: the one it has, else the next value of the connection's counter. -/
def State.callId (s : State) (k msg : Nat) : BitVec 32 × State :=
  let s := s.pruneIds k
  let l := SMap.get [] s.ocpp.ids k
  match l.find? fun x => x.1 == msg with
  | some x => (x.2, s)
  | none =>
    let n := SMap.get 0 s.ocpp.counter k
    (BitVec.ofNat 32 n, { s with ocpp := { s.ocpp with
      ids := SMap.set [] s.ocpp.ids k (((msg, BitVec.ofNat 32 n) :: l).take 64), counter := SMap.set 0 s.ocpp.counter k ((n + 1) % 2 ^ 32) } })

/-- OCPP_CALL of connection k with its MessageId: the request that T0's adapter forms from it. -/
def State.ocppRequest (s : State) (k msg : Nat) (r : Req) : State :=
  let (id, s) := s.callId k msg
  let r := { r with origId := BitVec.ofNat 16 (0x20 + k), reqId := id }
  let q : QId := .queue 0 2
  (if r.opcode = 0x0105 then s.serve .adapter q r fun s => s.siteLimit q r
    else if 0x0101 ≤ r.opcode.toNat ∧ r.opcode.toNat ≤ 0x0104 then s.serve .adapter q r fun s => s.reject q r 0x01
    else s.commit .adapter q r).pruneIds k

/-- A record of the back office's link that fails its authentication closes the connection, and no CALL enters; T1 posts TLS_FAIL (R255), of
which the spec names a connector scope: a free connector. -/
def State.ocppCall (s : State) (k msg : Nat) (r : Req) (tls : Option (BitVec 8)) : State :=
  match tls with
  | none => s.ocppRequest k msg r
  | some a =>
    let (c, s) := s.fresh
    s.engineRecord 1 0 0x066 (connScope (c % 8)) 0 a.toNat

def execOcppCall (k : Fin 16) (msg : Nat) (r : Req) (tls : Option (BitVec 8)) (s : State) : Out := s.onLine fun s => (s.ocppCall k msg r tls)

/-! ## T1's own requests and writes -/

/-- A request that T1 sends; `deliver` brings it to its queue and serves it. -/
def State.t1Send (s : State) (opcode c : Nat) (tagged : Bool) (payload : Nat) (deliver : Req → State → State) : State :=
  let r : Req :=
    { origId := 2, opcode := BitVec.ofNat 16 opcode, reqId := BitVec.ofNat 32 s.t1Req, scope := connScope c, periodKind := if tagged then 8 else 0
      periodSeq := if tagged then BitVec.ofNat 12 (s.f (SESS_SESSION_seq c)) else 0, indirect := false, replyWanted := true, payloadLen := 16
      payload := BitVec.ofNat 128 payload }
  deliver r { s with t1Req := (s.t1Req + 1) % 2 ^ 32 }

/-- SET_I to the lead engine; without one T1 writes ISET itself (R213, R261). -/
def State.setCurrent (s : State) (c i down : Nat) : State :=
  let p := i + s.f (CONN_ISLEW_up c) * 2 ^ 32 + down * 2 ^ 48
  if s.connEng c = 1 then (s.writeIset c i).writeIslew c (p / 2 ^ 32)
  else
    let e : Fin 8 := if s.connEng c = 2 then 2 else 3
    s.t1Send 0x0202 c false p fun r s => s.serve (.engine 1) (.queue e 1) r fun s => s.connService e r false fun s => (s.writeIset c i).writeIslew c (p / 2 ^ 32)

/-- Command a contactor of T1, with its other settings as they stand. -/
def State.contactor (s : State) (c k : Nat) (close : Bool) : State :=
  let v := (if close then 1 else 0) + s.f (MTX_COIL_CMD_pull k) * 2 ^ 8 + s.f (MTX_COIL_CMD_hold k) * 2 ^ 16 + s.f (MTX_COIL_CMD_fb_mode k) * 2 ^ 24
  (s.writeCoil k v).setSes c fun t => { t with coilAt := s.now, coilTold := false }

def State.powerReqOf (s : State) (c : Nat) : State :=
  let t := s.ses c
  let cls := if t.critical then 0 else if t.depart ≠ 0 then 1 else 2
  let p := t.iMax + t.volts * 2 ^ 32 + cls * 2 ^ 48 + t.energy * 2 ^ 64 + t.depart * 2 ^ 96
  s.t1Send 0x0101 c true p fun r s => s.serve (.engine 1) allocQ r fun s => s.powerReq r

def State.sendTxEvent (s : State) (c kind : Nat) (tagged : Bool) : State :=
  let p := kind + (s.ses c).reason * 2 ^ 8 + (s.tx c).number * 2 ^ 32
  let s := s.setSes c fun t => { t with sentAt := s.now, sentOffer := s.f (SESS_OFFER_i_offer c) }
  s.t1Send 0x0111 c tagged p fun r s => s.serve (.engine 1) backQ r fun s => s.txEvent r

/-- A fault of connector scope that T1 declares under a number that the spec does not name. -/
def State.t1Fault (s : State) (c cls : Nat) : State :=
  let (n, s) := s.freeNum
  let (d, s) := s.fresh
  s.declareFault 1 cls n (connScope c) 0 (d % 2 ^ 32)

/-! ## Steps of the lifecycle (R257) -/

/-- SESS.STATUS.state in a step. -/
def stepState (n : Nat) : Nat := [0, 1, 2, 3, 4, 3, 5, 6, 6, 7, 8, 9, 10, 9, 11, 12].getD n 0

def State.goStep (s : State) (c n : Nat) : State := (s.setSes c fun t => { t with step := n, stepAt := s.now }).setF (SESS_STATUS_state c) (stepState n)

/-- Step 11: ISET 0; the session ends with a reason. -/
def State.sessRamp (s : State) (c reason : Nat) : State :=
  ((s.setSes c fun t => { t with reason := reason }).setCurrent c 0 (s.f (CONN_ISLEW_down c))).goStep c 11

/-- A session that ends runs whatever of steps 11 to 14 its state requires. -/
def State.endSession (s : State) (c reason : Nat) : State :=
  let t := s.ses c
  if s.fbClosed (96 + 2 * c) ∨ s.fbClosed (97 + 2 * c) ∨ s.fb (MTX_COIL_CMD_cmd (97 + 2 * c)) then s.sessRamp c reason
  else
    let s := s.setSes c fun t => { t with reason := reason }
    s.goStep c (if !t.ended ∧ ((s.demand c).isSome ∨ (s.tx c).isOpen) then 13 else if s.fb (SESS_STATUS_locked c) ∧ !t.lockFailed then 14 else 15)

/-- Step 1 (R257): the lock is pulsed. -/
def State.beginSession (s : State) (c : Nat) : State :=
  let old := s.ses c
  let s := s.setSes c fun t => { SessInt.reset with cpl := t.cpl, prx := t.prx, feedback := t.feedback, isoNotice := t.isoNotice, imdSeen := t.imdSeen, held := t.held, operative := t.operative
                                                    ceiling := t.ceiling, ceilReq := t.ceilReq, availReq := old.availReq, unlockReq := t.unlockReq, lastAt := s.now }
  ((s.lockPulse c true).goStep c 1).engineRecord 1 7 0x060 (connScope c) 0 (s.f (SESS_SESSION_seq c))

/-- The session rinse (R259), with what it ends. -/
def State.sessionRinse (s : State) (c : Nat) : State :=
  let reason := (s.ses c).reason
  let avail := (s.ses c).availReq.filter fun r => (s.queue (.queue 1 1)).serving.any (·.req == r)
  let s := (s.connRinse c).advancePeriod 8 c
  let q := s.queue (.queue 1 2)
  let s := s.setQueue (.queue 1 2) { q with lints := q.lints.filter fun l => l.orig.toNat != 0x10 + c }
  let s := s.setAll [(SESS_SESSION_seq c, s.f (CONN_COUNTS_sessions c)), (SESS_SESSION_msg c, 0), (SESS_COUNTS_dups c, 0), (SESS_STATUS_tls c, 0), (SESS_CTRL_t1s_en c, 0)]
  let s := if reason = 1 then s.addWrap (SESS_COUNTS_ended_ok c) 1 else s.addSat (SESS_COUNTS_aborted c) 1
  let s := (s.engineRecord 1 7 0x061 (connScope c) 0 reason).goStep c 0
  let s := s.setSes c fun t => { SessInt.reset with cpl := t.cpl, prx := t.prx, feedback := t.feedback, isoNotice := t.isoNotice, imdSeen := t.imdSeen, held := t.held, operative := t.operative && avail.isNone
                                                    ceiling := t.ceiling, ceilReq := t.ceilReq, unlockReq := t.unlockReq }
  match avail with
  | some r => s.finishServing (.queue 1 1) (· == r) 1 0 0
  | none => s

/-- R259's conditions. -/
def State.mayRinse (s : State) (c : Nat) : Bool :=
  !s.fbClosed (96 + 2 * c) && !s.fbClosed (97 + 2 * c) && (!s.fb (SESS_STATUS_locked c) || (s.ses c).lockFailed) && s.prxIs c != 1 &&
    !(List.range 256).any fun n => s.f (PHU_CTRL_dest n) == c && s.fb (PHU_CTRL_en n)

/-- The connection with the vessel is lost: its link or TLS is down (R255, R262). -/
def State.lost (s : State) (c : Nat) : Bool := !s.fb (SESS_STATUS_link c) || !s.fb (SESS_STATUS_tls c)

/-- The session's next DC_CableCheck is its first, and has not come: until then T1 accepts a new connection (R255). -/
def SessInt.unchecked (t : SessInt) : Bool :=
  (3 ≤ t.step && t.step ≤ 5) || (t.step == 6 && (match t.last with | some (.schedule _ _ _) => true | _ => false))

/-- New sessions begin in IDLE and RUN only (the table of operating modes, R144). -/
def State.admits (s : State) : Bool := s.devMode == modeIdle || s.devMode == modeRun

/-- The gate of R208 for closing DC- and the precharge contactor. -/
def State.isoOk (s : State) (c : Nat) : Bool :=
  s.fb (CONN_IMD_ok c) && decide (s.f (CONN_IMD_age c) ≤ 10) && decide (625 ≤ s.f (CONN_IMD_r_iso c))

/-- T0's grant stands with its positions confirmed. -/
def State.grantReady (s : State) (c : Nat) : Bool :=
  match s.demand c with
  | some d => !d.pending && !(s.groupsOf c).isEmpty && (s.groupsOf c).all fun g => s.fbClosed (12 * g + c)
  | none => false

/-- The offered current (R260), Q1.30 of 4,096 A: 0 in HOLD. -/
def State.offer (s : State) (c : Nat) : Nat :=
  let top := 3000 * 2 ^ 18
  let v := min (min (s.grant c).fwd (s.f (CONN_ILIM_limit c))) top
  let v := match (s.ses c).ceiling with
    | some (x, till) => if till = 0 ∨ s.dt / 1000000000 < till then min v x else v
    | none => v
  if s.devMode = modeHold then 0 else v

/-- Build an offer: OFFER in A and kW; a SET_CEILING completes. -/
def State.makeOffer (s : State) (c : Nat) : State :=
  let a := s.offer c / 2 ^ 18
  let s := s.setAll [(SESS_OFFER_i_offer c, a), (SESS_OFFER_p_offer c, min 3750 (a * 1250 / 1000))]
  match (s.ses c).ceilReq with
  | some r => (s.setSes c fun t => { t with ceilReq := none }).finishServing (.queue 1 1) (· == r) 1 0 0
  | none => s

/-! ## What a vessel's request does (R254, R257, R258, R260 to R262) -/

/-- PRECHARGE_FAIL: the vessel's target differs from MEAS_V by more than 5 % of MEAS_V. -/
def State.preChargeCheck (s : State) (c mV : Nat) : State :=
  let v := s.fi (CONN_MEAS_V_v c)
  let d := (mV : Int) - v
  if 20 * d.natAbs > v.natAbs then s.declareFault 1 2 0x068 (connScope c) 0 (d.natAbs / 1000) else s

/-- A message outside what the step expects ends the session with reason 4 (R254). -/
def State.unexpected (s : State) (c : Nat) : State := s.endSession c 4

def State.vesselStep (s : State) (c : Nat) (m : VMsg) : State :=
  let t := s.ses c
  match m with
  | .appProtocol dc _ =>
    if t.step = 2 ∨ t.step = 3 then (if dc then (s.setF (SESS_STATUS_tls c) 1).goStep c 3 else s.unexpected c)
    else if t.step = 10 then s.setF (SESS_STATUS_tls c) 1
    else if 4 ≤ t.step ∧ t.step ≤ 6 ∧ dc ∧ !s.fb (SESS_STATUS_tls c) then (s.setF (SESS_STATUS_tls c) 1).goStep c 3
    else s.unexpected c
  | .sessionSetup resume _ =>
    if t.step = 3 ∧ !resume then s
    else if t.step = 10 ∧ resume ∧ s.devMode ≠ modeHold then ((s.setSes c fun t => { t with started := false, preAt := none }).powerReqOf c).goStep c 6
    else if t.step = 10 then s
    else s.unexpected c
  | .authorizationSetup _ => if t.step = 3 ∨ t.step = 4 then s else s.unexpected c
  | .authorization pnc _ =>
    if t.step = 3 ∨ t.step = 4 then
      let s := s.setSes c fun t => { t with pnc := pnc }
      if t.step = 3 then s.goStep c 4 else s
    else if t.step = 5 then s
    else s.unexpected c
  | .service dcOnly _ => if (t.step = 3 ∨ t.step = 4 ∨ t.step = 5) ∧ dcOnly then s else s.unexpected c
  | .chargeParameters i v _ =>
    if t.step = 5 then (s.setSes c fun t => { t with iMax := i.toNat, volts := v.toNat }).makeOffer c else s.unexpected c
  | .schedule e d _ =>
    if t.step = 5 then ((s.setSes c fun t => { t with energy := e.toNat, depart := d.toNat }).powerReqOf c).goStep c 6 else s.unexpected c
  | .cableCheck _ =>
    if t.step = 6 then (if s.grantReady c && s.isoOk c && s.devMode != modeHold then (s.contactor c (97 + 2 * c) true).goStep c 7 else s) else s.unexpected c
  | .preCharge mV _ => if t.step = 7 ∨ t.step = 8 then s.preChargeCheck c mV else s.unexpected c
  | .powerStart _ => if t.step = 7 ∨ t.step = 8 then s.setSes c fun t => { t with started := true } else s.unexpected c
  | .powerStop _ => if t.step = 9 ∨ t.step = 8 ∨ t.step = 10 then s.sessRamp c 1 else if 11 ≤ t.step then s else s.unexpected c
  | .chargeLoop i _ =>
    if t.step = 9 ∨ t.step = 10 then
      let s := (s.setSes c fun t => { t with loopAt := s.now, idle := false }).makeOffer c
      if t.step = 9 ∧ s.devMode ≠ modeHold then s.setCurrent c (min i.toNat (s.ilimEnf c)) (s.f (CONN_ISLEW_down c)) else s
    else if 11 ≤ t.step then s
    else s.unexpected c
  | .welding _ => if 11 ≤ t.step then s else s.unexpected c
  | .sessionStop _ => if 11 ≤ t.step then s else s.endSession c 1
  | .certificateInstallation _ => if t.step = 3 ∨ t.step = 4 then s else s.unexpected c
  | .unsupported _ => s.unexpected c
  | .tlsFail _ => s

/-- A TLS handshake or record of the vessel's link that fails: the TCP connection closes, and T1 posts TLS_FAIL (R255). -/
def State.tlsFail (s : State) (c : Nat) (alert : BitVec 8) : State :=
  (s.setF (SESS_STATUS_tls c) 0).engineRecord 1 0 0x066 (connScope c) 0 alert.toNat

/-- VESSEL_REQUEST (R267): the number m of the request, kept by a retransmission; T1's Q2; T1's table step, whose response value the spec does
not lay out. -/
def State.vesselMessage (s : State) (c : Nat) (msg : VMsg) : State :=
  let t := s.ses c
  if t.step < 2 ∨ !s.fb (SESS_CTRL_t1s_en c) then s
  else
    let again := t.last == some msg
    let m := if again then t.m else t.m + 1
    let s := s.setSes c fun t => { t with m := m, last := some msg }
    let s := if again then s.addSat (SESS_COUNTS_dups c) 1 else s.setF (SESS_SESSION_msg c) m
    let (op, s) := s.fresh
    let r : Req :=
      { origId := BitVec.ofNat 16 (0x10 + c), opcode := BitVec.ofNat 16 op, reqId := BitVec.ofNat 32 (s.f (SESS_SESSION_seq c) * 65536 + m % 65536)
        scope := connScope c, periodKind := 8, periodSeq := BitVec.ofNat 12 (s.f (SESS_SESSION_seq c)), indirect := false, replyWanted := false, payloadLen := 0, payload := 0 }
    s.serve .adapter (.queue 1 2) r fun s =>
      let s := (s.vesselStep c msg).setSes c fun t => { t with lastAt := s.now }
      let (v, s) := s.fresh
      s.done (.queue 1 2) r v

/-- VESSEL_REQUEST: a message, or a connection that fails in its place. -/
def State.vesselRequest (s : State) (c : Nat) (msg : VMsg) : State :=
  match msg with
  | .tlsFail a => if (s.ses c).step < 2 ∨ !s.fb (SESS_CTRL_t1s_en c) then s else s.tlsFail c a
  | m => s.vesselMessage c m

def execVesselRequest (c : Fin 8) (msg : VMsg) (s : State) : Out := s.onLine fun s => (s.vesselRequest c msg)

/-! ## AUTHORIZE (R258, R266) -/

/-- T1 has T0's result for connector c. -/
def State.authorized (s : State) (c : Nat) (a : AuthResult) : State :=
  if (s.ses c).step ≠ 4 then s
  else if a.accepted then
    -- a REMOTE_START's token is used once
    (s.setSes c fun t => { t with critical := a.critical, token := a.token.toNat, held := if t.pnc then t.held else none }).goStep c 5
  else (s.engineRecord 1 7 0x067 (connScope c) 0 (if (s.ses c).pnc then 2 else 1)).endSession c 2

/-- T0's step for AUTHORIZE, with what the back office or the local list finds. -/
def State.authorize (s : State) (r : Req) (a : AuthResult) : State :=
  if r.origId ≠ 2 ∨ r.scope.kind ≠ 3 ∨ 8 ≤ r.scope.inst.toNat then s.rejectFree backQ r
  else
    (s.done backQ r ((if a.accepted then 1 else 0) + (if a.critical then 2 else 0) + a.token.toNat * 2 ^ 32)).authorized r.scope.inst.toNat a

def execAuthorize (sd : Sender) (r : Req) (a : AuthResult) (s : State) : Out := .next (s.serve sd backQ r fun s => s.authorize r a)

/-! ## T1's requests from T0 (R266) -/

def t1Q : QId := .queue 1 1

/-- T1 takes these from T0 with a connector's scope; the spec names no detail for others. -/
def State.t1Serve (s : State) (sd : Sender) (r : Req) (f : State → State) : State :=
  s.serve sd t1Q r fun s => if r.origId = 1 ∧ r.scope.kind = 3 ∧ r.scope.inst.toNat < 8 then f s else s.rejectFree t1Q r

def execRemoteStart (sd : Sender) (r : Req) (s : State) : Out :=
  .next (s.t1Serve sd r fun s =>
    let c := r.scope.inst.toNat
    if (s.ses c).step ≠ 0 then s.reject t1Q r 0x01
    else (s.setSes c fun t => { t with held := some (r.payload.toNat / 2 ^ 32 % 2 ^ 32, s.now + 24000000000) }).done t1Q r 0)

def execRemoteStop (sd : Sender) (r : Req) (s : State) : Out :=
  .next (s.t1Serve sd r fun s =>
    let c := r.scope.inst.toNat
    if !(s.tx c).isOpen ∨ (s.tx c).number ≠ r.payload.toNat % 2 ^ 32 then s.reject t1Q r 0x01
    else (if (s.ses c).step < 11 then s.sessRamp c 1 else s).done t1Q r 0)

def execSetAvailable (sd : Sender) (r : Req) (s : State) : Out :=
  .next (s.t1Serve sd r fun s =>
    let c := r.scope.inst.toNat
    let idle := decide ((s.ses c).step = 0)
    if r.payload.toNat % 2 = 1 then
      ((s.setSes c fun t => { t with operative := true, availReq := none }).setF (SESS_STATUS_state c) (if idle then 0 else s.f (SESS_STATUS_state c))).done t1Q r 0
    else if idle then ((s.setSes c fun t => { t with operative := false, availReq := none }).setF (SESS_STATUS_state c) 13).done t1Q r 0
    else (s.setSes c fun t => { t with availReq := some r }).defer t1Q r)

def execUnlock (sd : Sender) (r : Req) (s : State) : Out :=
  .next (s.t1Serve sd r fun s =>
    let c := r.scope.inst.toNat
    if !s.mayUnlock c then s.reject t1Q r 0x02
    else if !s.fb (SESS_STATUS_locked c) then s.done t1Q r 0
    else ((s.lockPulse c false).setSes c fun t => { t with unlockReq := some r }).defer t1Q r)

def execSetCeiling (sd : Sender) (r : Req) (s : State) : Out :=
  .next (s.t1Serve sd r fun s =>
    let p := r.payload.toNat
    (s.setSes r.scope.inst.toNat fun t => { t with ceiling := some (p % 2 ^ 32, p / 2 ^ 32 % 2 ^ 32), ceilReq := some r }).defer t1Q r)

/-! ## SESSION_DISABLE (R47, R269) -/

/-- Clearing CTRL.en: the requests in flight in the connector's scope are discarded and the session ends from step 11 with reason 7. -/
def State.sessionDisable (s : State) (c : Nat) : State :=
  if !s.fb (SESS_CTRL_en c) then s
  else
    let s := s.setF (SESS_CTRL_en c) 0
    let s := s.disableWork 1 (connScope c) 0
    if 1 ≤ (s.ses c).step ∧ (s.ses c).step ≤ 10 then s.sessRamp c 7 else s

def execSessionDisable (w c : Fin 8) (s : State) : Out := .next (s.guarded w 1 (SESS_CTRL c) (s.sessionDisable c))

/-- A write of SESS[c].CTRL. -/
def State.writeSessCtrl (s : State) (c v : Nat) : State :=
  let s := if v % 2 = 1 then s.setF (SESS_CTRL_en c) 1 else s.sessionDisable c
  let s := s.setAll [(SESS_CTRL_src_en c, v / 2), (SESS_CTRL_t1s_en c, v / 4), (SESS_CTRL_plca_en c, v / 8)]
  let s := if v / 16 % 2 = 1 then s.lockPulse c true else s
  if v / 32 % 2 = 1 then s.lockPulse c false else s

/-! ## T1's frame of 1 ms -/

/-- Reactions to the lines (R251): an unplugged or faulty line, and a plug removed without current. -/
def State.lineReact (s : State) (c : Nat) : State :=
  let t := s.ses c
  let sc := connScope c
  let out := s.prxIs c != 1
  let live := s.fbClosed (97 + 2 * c) || !s.atZero c
  if t.step ≠ 0 ∧ out ∧ live ∧ !t.unplugged then
    let a := (s.fi (CONN_MEAS_I_i c)).natAbs / 2 ^ 18
    ((s.setSes c fun t => { t with unplugged := true }).setCurrent c 0 65535).declareFault 1 2 0x062 sc 0 a
  else if (s.cplIs c = 3 ∨ s.prxIs c = 3) ∧ !t.lineTold then
    let p := s.prxIs c = 3
    (s.setSes c fun t => { t with lineTold := true }).declareFault 1 2 0x063 sc 0 (if p then s.f (SESS_STATUS_prx_band c) + 8 else s.f (SESS_STATUS_cpl_band c))
  else if 1 ≤ t.step ∧ t.step ≤ 10 ∧ out ∧ !live then
    let (r, s) := s.fresh
    s.endSession c (1 + r % 8)
  else if s.cplIs c ≠ 3 ∧ s.prxIs c ≠ 3 then s.setSes c fun t => { t with lineTold := false }
  else s

/-- T1 keeps IMD current from the insulation monitor's point: a new acquisition, or another quality, is written; ok is the good quality (R208; log 232). -/
def State.isoRead (s : State) (c : Nat) : State :=
  let p := SMap.get 0 s.maq.imdPts c
  let key := s.ptTime p * 256 + s.ptQuality p
  if p = 0 ∨ !s.ptUsed p ∨ s.ptQuality p % 4 = 3 ∨ (s.ses c).imdSeen = key then s
  else (s.writeImd c (min (2 ^ 20 - 1) (s.ptInt p).toNat + 2 ^ 20 * boolNat (s.ptGood p))).setSes c fun t => { t with imdSeen := key }

/-- The insulation rules of R208: the notice, and the trip while a session holds DC- closed. Each is declared once while its cause stands. -/
def State.isoReact (s : State) (c : Nat) : State :=
  let r := s.f (CONN_IMD_r_iso c)
  let low := decide (125 ≤ r ∧ r < 625)
  let s := if low && !(s.ses c).isoNotice then s.t1Fault c 0 else s
  let holds := (s.ses c).step != 0 && s.fbClosed (97 + 2 * c)
  let bad := holds && (decide (r < 125) || !s.fb (CONN_IMD_ok c) || decide (20 < s.f (CONN_IMD_age c)))
  let s := if bad && !(s.ses c).isoTold then s.t1Fault c 2 else s
  s.setSes c fun t => { t with isoNotice := low, isoTold := bad }

/-- A contactor, or in step 6 a matrix position, that has not confirmed within 100 ms: T1's F2, once for each command (R206, R207). -/
def State.coilFault (s : State) (c : Nat) (late : Bool) : State :=
  if late && !(s.ses c).coilTold then (s.t1Fault c 2).setSes c fun t => { t with coilTold := true } else s

/-- A position commanded for c that has not confirmed within 100 ms. -/
def State.unconfirmed (s : State) (c : Nat) : Bool :=
  (s.groupsOf c).any fun g => !s.fbClosed (12 * g + c) && decide ((s.coil (12 * g + c)).onAt + 40000000 ≤ s.now)

/-- PAUSED (R262): ISET 0; the contactors open under R207. -/
def State.pauseSession (s : State) (c : Nat) : State := (s.setCurrent c 0 (s.f (CONN_ISLEW_down c))).goStep c 10

/-- The contactors of connector c open under R207: DC+ and a closed precharge contactor at zero current, then DC-; `done` once both have confirmed. DC+
that a clamp or the meter enable has released (R18) waits for nothing. -/
def State.openOutput (s : State) (c : Nat) (late : Bool) (done : State → State) : State :=
  let dcp := s.fbClosed (96 + 2 * c)
  let free := s.fb (CONN_STATUS_zero c) || !s.fb (MTX_COIL_STAT_on (96 + 2 * c))
  if s.fb (MTX_COIL_CMD_cmd (112 + c)) then (if free then s.contactor c (112 + c) false else s)
  else if s.fb (MTX_COIL_CMD_cmd (96 + 2 * c)) then (if free then s.contactor c (96 + 2 * c) false else s)
  else if dcp then s.coilFault c late
  else if s.fb (MTX_COIL_CMD_cmd (97 + 2 * c)) then s.contactor c (97 + 2 * c) false
  else if s.fbClosed (97 + 2 * c) then s.coilFault c late
  else done s

/-- The steps' own progress. -/
def State.stepForward (s : State) (c : Nat) : State :=
  let t := s.ses c
  let dcp := s.fbClosed (96 + 2 * c)
  let dcn := s.fbClosed (97 + 2 * c)
  let late := decide (t.coilAt + 40000000 ≤ s.now)
  match t.step with
  | 1 => if s.fb (SESS_STATUS_locked c) then (s.setF (SESS_CTRL_t1s_en c) 1).goStep c 2 else s
  | 2 => if s.fb (SESS_STATUS_link c) ∧ s.fb (SESS_STATUS_tls c) then s.goStep c 3 else s
  | 6 => if s.lost c ∧ !t.unchecked then s.pauseSession c else s.coilFault c (s.unconfirmed c)
  | 7 =>
    if s.devMode = modeHold ∨ s.lost c then s.pauseSession c
    else if dcn then (if s.fb (CONN_STATUS_match c) then s.goStep c 8 else s) else s.coilFault c late
  | 8 =>
    if s.devMode = modeHold ∨ s.lost c then s.pauseSession c
    else if !t.opened then
      if (s.tx c).isOpen then s.setSes c fun t => { t with opened := true }
      else (s.setSes c fun t => { t with opened := true }).t1Send 0x0401 c true (t.token * 2 ^ 32) fun r s => s.t4Serve (.engine 1) r [2] 3 fun s => s.txOpen r
    else if !(s.tx c).isOpen then s.endSession c 5
    else if !t.started ∨ !s.fb (MET_MEN_en c) then s
    else
      -- precharge contactor, DC+, precharge contactor again: each is awaited before the next (R206 steps 4 to 6)
      let pre := s.fbClosed (112 + c)
      match t.preAt with
      | none =>
        if !s.fb (MTX_COIL_CMD_cmd (112 + c)) then (if s.fb (CONN_STATUS_match c) ∧ s.isoOk c then s.contactor c (112 + c) true else s)
        else if pre then s.setSes c fun t => { t with preAt := some s.now }
        else s.coilFault c late
      | some a =>
        if dcp then
          if s.fb (MTX_COIL_CMD_cmd (112 + c)) then s.contactor c (112 + c) false
          else if pre then s.coilFault c late
          else ((s.setSes c fun t => { t with loopAt := s.now, idle := false }).goStep c 9).sendTxEvent c 1 true
        else if s.fb (MTX_COIL_CMD_cmd (96 + 2 * c)) then s.coilFault c late
        else if a + 8000000 ≤ s.now ∧ s.fb (CONN_STATUS_match c) then s.contactor c (96 + 2 * c) true
        else s
  | 9 =>
    if (s.tx c).exhausted then s.sessRamp c 8
    else if (s.tx c).excluded then s.sessRamp c 5
    else if s.devMode = modeHold ∨ s.lost c then s.pauseSession c
    else if s.cplIs c ≠ 2 then s.sessRamp c 1
    else if t.loopAt + 2000000000 ≤ s.now then
      (s.declareFault 1 1 0x065 (connScope c) 0 ((s.now - t.loopAt) / 400000)).sessRamp c 3
    else if t.loopAt + 400000000 ≤ s.now ∧ !t.idle then (s.setSes c fun t => { t with idle := true }).setCurrent c 0 (s.f (CONN_ISLEW_down c))
    else s
  | 10 => s.openOutput c late fun s => s.setSes c fun t => { t with preAt := none }
  | 11 => if s.fb (CONN_STATUS_zero c) ∨ !dcp then s.goStep c 12 else s
  | 12 => s.openOutput c late fun s => s.goStep c 13
  | 13 =>
    if !t.ended then
      let s := s.setSes c fun t => { t with ended := true }
      let open_ := (s.tx c).isOpen
      let s := if (s.demand c).isSome then s.t1Send 0x0102 c false 0 fun r s => s.serve (.engine 1) allocQ r fun s => s.powerRelease r else s
      if open_ then
        (s.t1Send 0x0402 c false t.reason fun r s => s.t4Serve (.engine 1) r [2] 3 fun s => s.txClose r).sendTxEvent c 3 false
      else s
    else if (s.tx c).isOpen ∨ (s.demand c).isSome then s
    else s.goStep c 14
  | 14 =>
    if !s.fb (SESS_STATUS_locked c) ∨ t.lockFailed then s.goStep c 15
    else if t.pulse.isNone ∧ t.await.isNone ∧ s.mayUnlock c then s.lockPulse c false
    else s
  | 15 => if s.mayRinse c then s.sessionRinse c else s
  | _ => s

/-- The bound of a step, ms; 0: none. -/
def stepBound (n : Nat) : Nat := [0, 1000, 3000, 10000, 60000, 10000, 30000, 10000, 5000, 0, 600000, 5000, 5000, 2000, 1000, 0].getD n 0

/-- A missed bound (R257), a pause of 10 min (R262), a silence of 60 s (R256). -/
def State.bounds (s : State) (c : Nat) : State :=
  let t := s.ses c
  let b := if t.unchecked && s.lost c then stepBound 4 else stepBound t.step
  if b ≠ 0 ∧ t.stepAt + b * 400000 < s.now then
    if t.step = 10 then (s.setSes c fun t => { t with reason := 6 }).goStep c 13
    else if t.step = 12 ∧ s.fb (MTX_COIL_CMD_cmd (96 + 2 * c)) ∧ !s.fb (CONN_STATUS_zero c) then s.setSes c fun t => { t with reason := 5 }
    else if 11 ≤ t.step then (s.setSes c fun t => { t with reason := 5 }).goStep c (t.step + 1)
    else s.endSession c 5
  else if 3 ≤ t.step ∧ t.step ≤ 8 ∧ t.lastAt + 24000000000 < s.now then s.endSession c 3
  else s

/-- TX_EVENT Updated (R264) of a transaction whose Started was sent: 60 s, SampledDataTxUpdatedInterval's default, after the last event, or an
offer that differs from the one at it by more than 10 %. -/
def State.txUpdate (s : State) (c : Nat) : State :=
  let t := s.ses c
  let a := s.f (SESS_OFFER_i_offer c)
  if 9 ≤ t.step ∧ t.step ≤ 12 ∧ !t.ended ∧ (s.tx c).isOpen ∧
      (t.sentAt + 24000000000 ≤ s.now ∨ t.sentOffer < 10 * (a - t.sentOffer + (t.sentOffer - a))) then s.sendTxEvent c 2 true
  else s

/-- T1's table for connector c. -/
def State.sessionFrame (s : State) (c : Nat) : State :=
  let s := s.setSes c fun t => { t with held := match t.held with | some (k, e) => if e ≤ s.now then none else some (k, e) | none => none }
  let s := ((s.lineReact c).isoRead c).isoReact c
  let t := s.ses c
  let sc := connScope c
  if t.step = 0 then
    let bad := s.tripped sc
    if s.admits ∧ s.fb (SESS_CTRL_en c) ∧ t.operative ∧ !bad ∧ s.prxIs c = 1 ∧ (s.cplIs c = 1 ∨ s.cplIs c = 2) then s.beginSession c
    else s.setF (SESS_STATUS_state c) (if bad then 14 else if t.operative ∧ s.fb (SESS_CTRL_en c) then 0 else 13)
  else if 1 ≤ t.step ∧ t.step ≤ 10 ∧ s.tripped sc then s.sessRamp c 5
  else ((s.bounds c).stepForward c).txUpdate c

/-- T0 sends its events in order (R265): how many of the oldest the back office has answered since is free. -/
def State.deliverEvents (s : State) : State :=
  if s.ocpp.events.isEmpty then s
  else
    let (n, s) := s.fresh
    { s with ocpp := { s.ocpp with events := s.ocpp.events.drop (n % (s.ocpp.events.length + 1)) } }

/-- T1's session table. -/
def State.sessionsFrame (s : State) : State := s.each (List.range 8) State.sessionFrame

end Sys2Proof.Machine
end

