-- ==== Sys2Proof/Machine/Cooling.lean ====
section
/-!
DEFINITION. Cable and connector cooling: the converters of the cooling inputs, T5's thermal frame with its sensor checks, the cable and
contact models, levels, throttle and latch, forecast and boost, the coolant loops, the records (R270 to R292). T5 computes in 2^-32 K;
the last place of every rounded value is open.
-/
namespace Sys2Proof.Machine

def State.setCool (s : State) (f : CoolInt → CoolInt) : State := { s with cool := f s.cool }
def State.sens (s : State) (t : Nat) : Sens := SMap.get Sens.reset s.cool.sens t
def State.setSens (s : State) (t : Nat) (f : Sens → Sens) : State := s.setCool fun a => { a with sens := SMap.set Sens.reset a.sens t (f (s.sens t)) }
def State.zone (s : State) (c : Nat) : Zone := SMap.get Zone.reset s.cool.zones c
def State.setZone (s : State) (c : Nat) (f : Zone → Zone) : State := s.setCool fun a => { a with zones := SMap.set Zone.reset a.zones c (f (s.zone c)) }
def State.loop (s : State) (k : Nat) : Loop := SMap.get Loop.reset s.cool.loops k
def State.setLoop (s : State) (k : Nat) (f : Loop → Loop) : State := s.setCool fun a => { a with loops := SMap.set Loop.reset a.loops k (f (s.loop k)) }

/-- n K, and n eighths of a K, in 2^-32 K. -/
def kelvin (n : Int) : Int := n * 2 ^ 32
def eighths (n : Int) : Int := n * 2 ^ 29

/-! ## Converters (R271) -/

/-- A temperature input converts; an input that is off does not. -/
def State.tsConvert (s : State) (t : Nat) (r : TsReading) : State :=
  if s.f (COOL_TS_kind t) = 0 then s
  else
    let s := s.addWrap (COOL_TS_seq t) 1
    match r with
    | .value v =>
      let s := s.setAll [(COOL_TS_value t, v.toNat), (COOL_TS_open t, 0), (COOL_TS_short t, 0)]
      s.setSens t fun x =>
        let far := if v.toInt < -320 ∨ 1280 < v.toInt then x.far + 1 else 0
        { x with bad := 0, far := far, hit := if 3 ≤ far then 2 else x.hit }
    | _ =>
      let s := s.setAll [(COOL_TS_value t, 0x8000), (COOL_TS_open t, if r = .openCircuit then 1 else 0), (COOL_TS_short t, if r = .openCircuit then 0 else 1)]
      s.setSens t fun x => { x with bad := x.bad + 1, far := 0, hit := if 3 ≤ x.bad + 1 then 1 else x.hit }

def execTsConversion (t : Fin 64) (r : TsReading) (s : State) : Out := s.onClock fun s => (s.tsConvert t r)

/-- An analog input converts. -/
def State.aiConvert (s : State) (a v : Nat) : State :=
  let cur := s.fb (COOL_AI_mode a)
  s.setAll [(COOL_AI_value a, v), (COOL_AI_under a, if cur ∧ v < 7200 then 1 else 0), (COOL_AI_over a, if 42000 < v then 1 else 0)]

def execAiConversion (a : Fin 16) (v : BitVec 16) (s : State) : Out := s.onClock fun s => (s.aiConvert a v.toNat)

/-- A flow input reports its frequency, and its pulses are counted. -/
def execFqUpdate (q : Fin 8) (freq pulses : BitVec 16) (s : State) : Out :=
  s.onClock fun s => ((s.setF (COOL_FQ_freq q) freq.toNat).addWrap (COOL_FQ_count q) pulses.toNat)

/-! ## Cables (R278, R279) -/

/-- The parameters of a cable and of its contacts, in the units that Maquette names, with rating, boost maximum and conductor warning level. -/
structure Cable where
  res : Nat
  capA : Nat
  rthA : Nat
  capB : Nat
  rthB : Nat
  fNom : Nat
  resC : Nat
  rthC : Nat
  capC : Nat
  rating : Nat
  boost : Nat
  warn : Nat
deriving DecidableEq, Repr

def State.cableType (s : State) (c : Nat) : Nat := s.f (COOL_CT_CFG_type c)

def typeParams (t : Nat) : List Nat :=
  match t with
  | 1 => [1000, 1300, 20000, 2500, 12000, 8]
  | 2 => [600, 1900, 16000, 3200, 8000, 12]
  | 3 => [400, 2600, 12000, 4000, 6000, 16]
  | _ => [250, 3900, 7000, 5500, 4000, 24]

def State.cable (s : State) (c : Nat) : Cable :=
  let t := s.cableType c
  let p := SMap.get (typeParams t) s.maq.cables c
  let q := SMap.get [25, 600000, 120] s.maq.contacts c
  { res := p.getD 0 0, capA := p.getD 1 0, rthA := p.getD 2 0, capB := p.getD 3 0, rthB := p.getD 4 0, fNom := p.getD 5 0
    resC := q.getD 0 0, rthC := q.getD 1 0, capC := q.getD 2 0, rating := [0, 1000, 1500, 2000, 3000].getD t 0
    boost := [0, 1500, 2250, 3000, 3000].getD t 0, warn := if t = 4 then 85 else 80 }

/-- Thresholds of sensor j of a zone in degC: warning, throttle, shutdown. -/
def Cable.levels (x : Cable) (j : Nat) : Nat × Nat × Nat := if 4 ≤ j then (80, 90, 100) else (x.warn, x.warn + 5, x.warn + 10)

/-- |MEAS_I| in 2^-18 A. -/
def State.ampsRaw (s : State) (c : Nat) : Nat := (s.fi (CONN_MEAS_I_i c)).natAbs

/-! ## Sensors (R273 to R276) -/

/-- The reading of a temperature input, none while off, open or short. -/
def State.tsRaw (s : State) (t : Nat) : Option Int := if s.f (COOL_TS_value t) = 0x8000 then none else some (s.fi (COOL_TS_value t))

/-- The twin of conductor sensor j. -/
def twinOf (j : Nat) : Nat := if j % 2 = 0 then j + 1 else j - 1

/-- The twin condition of conductor sensor j of connector c in this frame. -/
def State.belowTwin (s : State) (c j : Nat) : Bool :=
  match s.tsRaw (6 * c + j), s.tsRaw (6 * c + twinOf j) with
  | some a, some b => !(s.sens (6 * c + twinOf j)).failed && decide (a + 120 < b) && decide ((s.cable c).rating * 2 ^ 18 ≤ 4 * s.ampsRaw c)
  | _, _ => false

/-- The check that a sensor fails in this frame, 0 none (R273). -/
def Sens.check (x : Sens) (raw : Option Int) : Nat :=
  if 3 ≤ x.bad ∨ x.hit = 1 then 1
  else if 3 ≤ x.far ∨ x.hit = 2 then 2
  else match raw, x.prev with
    | some a, some b => if 64 < (a - b).natAbs then 3 else if 100 ≤ x.low then 4 else 0
    | _, _ => if 100 ≤ x.low then 4 else 0

/-- The model node of sensor j of zone c (R275). -/
def State.nodeOf (s : State) (c j : Nat) : Int := if j < 4 then (s.zone c).ta else if j = 4 then (s.zone c).tcP else (s.zone c).tcN

/-- The last valid value of a sensor's kind in a zone: the highest (R276). -/
def State.kindHigh (s : State) (c j : Nat) : Option Int :=
  ((if j < 4 then [0, 1, 2, 3] else [4, 5]).filterMap fun i => if (s.sens (6 * c + i)).failed then none else s.tsRaw (6 * c + i)).foldl
    (fun b v => some (match b with | some w => max w v | none => v)) none

/-- Put the results of the checks of sensor t into its record: whether it fails now, whether it returns. -/
def State.senseFrame (s : State) (t : Nat) (low : Bool) (node : Int) : Nat × Bool × State :=
  let raw := s.tsRaw t
  let x := s.sens t
  let x := { x with low := if low then x.low + 1 else 0 }
  let k := x.check raw
  let y := { x with prev := raw, hit := 0 }
  if x.failed then
    let good := if k = 0 ∧ raw.isSome then x.good + 1 else 0
    if 600 ≤ good then (0, true, s.setSens t fun _ => { y with failed := false, good := 0, last := raw })
    else (0, false, s.setSens t fun _ => { y with good := good })
  else if k ≠ 0 then (k, false, s.setSens t fun _ => { y with failed := true, good := 0, base := node, rise := 0, at10 := eighths (x.last.getD 0) })
  else (0, false, s.setSens t fun _ => { y with last := if raw.isSome then raw else x.last })

/-- T5's record of a failure or return of sensor t, for a connector. -/
def State.senseEvents (s : State) (t c check : Nat) (back : Bool) : State :=
  let s := if check ≠ 0 then s.declareFault 5 1 0x0A3 (connScope c) 0 (t + 256 * check) else s
  if back then s.engineRecord 5 7 0x0A4 (connScope c) 0 t else s

/-- The connectors of loop k with a cable type. -/
def State.cooled (s : State) (k : Nat) : List Nat := [2 * k, 2 * k + 1].filter fun c => s.cableType c != 0

/-! ## Records (R287) -/

def coolSrc (c : Nat) : Nat := 0x1D000 + 16 * c

/-- Start the next NV operation of T5 where its channel is free. -/
def State.coolNvNext (s : State) : State :=
  match s.cool.jobs with
  | [] => s
  | (c, resolve) :: t =>
    if s.f (PWR_NVW_CTRL_status 5) = 1 then s
    else
      let z := s.zone c
      let body := (s.f (COOL_CT_STAT_latch c) + 2 * s.f (COOL_CT_STAT_cause c)) + z.budget / 4 * 2 ^ 32 + s.dtNs * 2 ^ 64
      let s := if resolve then s else s.wr (sramKey 5 (0x10000000 + coolSrc c)) 16 body
      let s := s.setAll [(PWR_NVW_SRC_src 5, coolSrc c), (PWR_NVW_DST_pair_ofs 5, 2 * c), (PWR_NVW_DST_tag 5, 0x0500 + c)]
      (s.setCool fun a => { a with jobs := t, run := some (c, resolve) }).writeNvwCtrl 5 (15 + (if resolve then 2 ^ 14 else 0) + 2 ^ 16)

/-- The record of connector c is to be written. -/
def State.coolSave (s : State) (c : Nat) : State :=
  (s.setZone c fun z => { z with saved := 0 }).setCool fun a => { a with jobs := a.jobs.filter (· != (c, false)) ++ [(c, false)] }

/-! ## The latch (R284, R285) -/

/-- Set the shutdown latch. -/
def State.setLatch (s : State) (c cause sensor : Nat) : State :=
  if s.fb (COOL_CT_STAT_latch c) then s
  else
    let s := s.setAll [(COOL_CT_STAT_latch c, 1), (COOL_CT_STAT_cause c, cause), (COOL_CT_LIMIT_sent c, 0), (COOL_CT_STAT_boost c, 0)]
    ((s.setZone c fun z => { z with calm := 0, dry := 0 }).declareFault 5 2 0x0A2 (connScope c) 0 (cause + 256 * sensor)).coolSave c

/-- The latch releases. -/
def State.latchRelease (s : State) (c : Nat) : State :=
  let cause := s.f (COOL_CT_STAT_cause c)
  let s := s.setAll [(COOL_CT_STAT_latch c, 0), (COOL_CT_STAT_cause c, 0)]
  ((s.clearFault 5 2 (connScope c)).engineRecord 5 7 0x0A8 (connScope c) 0 cause).coolSave c

/-- An NV operation of T5 has ended: a resolved record is taken (R287). -/
def State.coolNvEnd (s : State) : State :=
  match s.cool.run with
  | none => s
  | some (c, resolve) =>
    let s := s.setCool fun a => { a with run := none }
    let s := if resolve ∧ s.f (PWR_NVW_CTRL_status 5) = 2 then
        let v := s.rd (sramKey 5 (0x10000000 + coolSrc c)) 16
        let s := s.setZone c fun z => { z with budget := min (4 * s.f (COOL_CT_CFG_budget_max c)) (4 * (v / 2 ^ 32 % 2 ^ 32)) }
        if v % 2 = 1 ∧ !s.fb (COOL_CT_STAT_latch c) then s.setLatch c (v / 2 % 8) 0xFF else s
      else s
    s.coolNvNext

/-- PFW: T5 writes every zone's record once, as the writer grants it. -/
def State.coolPfw (s : State) : State :=
  (((List.range 8).filter fun c => s.cableType c != 0 && (s.zone c).asked).foldl State.coolSave s).coolNvNext

/-! ## The model (R277 to R279) -/

/-- The fifth root of n rounded down, below 2^(b+1). -/
def root5 (n : Nat) : Nat → Nat → Nat
  | 0, r => if (r + 1) ^ 5 ≤ n then r + 1 else r
  | b + 1, r => root5 n b (if (r + 2 ^ (b + 1)) ^ 5 ≤ n then r + 2 ^ (b + 1) else r)

/-- (f_nom / max(f, 0.05 f_nom))^0.8 in 2^-32, at a flow meter's frequency. -/
def State.flowPower (s : State) (c freq : Nat) : Nat × State :=
  let k := SMap.get 100 s.maq.kfac (c / 2)
  let x := s.cable c
  let (n, d) := if x.fNom * k ≤ 120 * freq then (x.fNom * k, 6 * freq) else (20, 1)
  let r := root5 (n ^ 4 * 2 ^ 160 / d ^ 4) 37 0
  let (v, s) := s.fresh
  (if r ^ 5 * d ^ 4 = n ^ 4 * 2 ^ 160 ∨ v % 2 = 0 then r else r + 1, s)

/-- The nodes of a cable. -/
structure Nodes where
  ta : Int
  tb : Int
  tcP : Int
  tcN : Int
deriving DecidableEq, Repr

/-- One contact over 1/hinv s at a current squared in 2^-36 A². -/
def State.contactStep (s : State) (x : Cable) (i2 : Nat) (ts : Int) (hinv : Nat) (tc : Int) : Int × State :=
  let (d, s) := s.roundOpen ((i2 * x.resC * x.rthC : Nat) - (tc - ts) * 16000000000000) (16000000 * x.rthC * x.capC * hinv)
  (tc + d, s)

/-- One step of 1/hinv s; z is the power of the flow. -/
def State.modelStep (s : State) (x : Cable) (i2 z : Nat) (ts : Int) (hinv : Nat) (n : Nodes) : Nodes × State :=
  let r : Int := 100000 * 2 ^ 32 + 393 * (n.ta - kelvin 20)
  let (da, s) := s.roundOpen ((i2 * x.res * x.rthA : Nat) * r - (n.ta - n.tb) * (1000000 * 2 ^ 36 * 100000000000)) (2 ^ 36 * 100000000000 * x.rthA * x.capA * hinv)
  let (db, s) := s.roundOpen ((n.ta - n.tb) * (1000000 * x.rthB * z : Nat) - (n.tb - ts) * (1000000 * 2 ^ 32 * x.rthA : Nat)) (x.rthA * x.rthB * z * x.capB * hinv)
  let (p, s) := s.contactStep x i2 ts hinv n.tcP
  let (m, s) := s.contactStep x i2 ts hinv n.tcN
  (⟨n.ta + da, n.tb + db, p, m⟩, s)

def State.modelRun (s : State) (x : Cable) (i2 z : Nat) (ts : Int) (hinv : Nat) : Nat → Nodes → Nodes × State
  | 0, n => (n, s)
  | k + 1, n =>
    let (n, s) := s.modelStep x i2 z ts hinv n
    s.modelRun x i2 z ts hinv k n

/-- The peaks of Ta and of the contacts over k steps of 1 s (R280). -/
def State.forecast (s : State) (x : Cable) (i2 z : Nat) (ts : Int) : Nat → Nodes → Int → Int → (Int × Int) × State
  | 0, _, pa, pc => ((pa, pc), s)
  | k + 1, n, pa, pc =>
    let (n, s) := s.modelStep x i2 z ts 1 n
    s.forecast x i2 z ts k n (max pa n.ta) (max pc (max n.tcP n.tcN))

/-- Whether both peaks stay below their levels at i times 10 A. -/
def State.holds (s : State) (x : Cable) (z : Nat) (ts : Int) (n : Nodes) (i : Nat) : Bool × State :=
  let ((pa, pc), s) := s.forecast x ((10 * i * 2 ^ 18) ^ 2) z ts 60 n n.ta (max n.tcP n.tcN)
  (decide (pa < kelvin x.warn) && decide (pc < kelvin 80), s)

/-- Bisection between a current that holds and one that does not. -/
def State.bisect (s : State) (x : Cable) (z : Nat) (ts : Int) (n : Nodes) : Nat → Nat → Nat → Nat × State
  | 0, lo, _ => (lo, s)
  | k + 1, lo, hi =>
    if hi ≤ lo + 1 then (lo, s)
    else
      let (b, s) := s.holds x z ts n ((lo + hi) / 2)
      if b then s.bisect x z ts n k ((lo + hi) / 2) hi else s.bisect x z ts n k lo ((lo + hi) / 2)

/-- The forecast limit, A. -/
def State.forecastLimit (s : State) (x : Cable) (z : Nat) (ts : Int) (n : Nodes) : Nat × State :=
  let (b, s) := s.holds x z ts n 0
  if !b then (0, s)
  else
    let (i, s) := s.bisect x z ts n 10 0 (x.boost / 10 + 1)
    (10 * i, s)

/-! ## A zone's frame (R275 to R286) -/

/-- The value of a loop's or dispenser's sensor, none while failed or without one. -/
def State.plainVal (s : State) (t : Nat) : Option Int := if (s.sens t).failed then none else (s.sens t).last.map eighths

/-- The supply temperature in use of loop k, and whether it is measured (R276). -/
def State.supplyT (s : State) (k : Nat) : Int × Bool :=
  match s.plainVal (48 + 2 * k), s.plainVal (49 + 2 * k) with
  | some v, _ => (v, true)
  | none, some v => (v, true)
  | none, none => (eighths s.maq.fanSet + kelvin 15, false)

/-- The value of sensor j of zone c in 2^-32 degC, measured or estimated. -/
def State.zoneVal (s : State) (c j : Nat) : Option Int :=
  let x := s.sens (6 * c + j)
  x.last.map fun v => if x.failed then eighths v + x.rise else eighths v

def maxOpt (l : List (Option Int)) : Option Int := l.foldl (fun b v => match b, v with | some x, some y => some (max x y) | none, y => y | x, none => x) none

def State.zoneFailed (s : State) (c : Nat) : List Nat := (List.range 6).filter fun j => (s.sens (6 * c + j)).failed

/-- Steps 2 and 3: the checks of zone c, and the estimates; which sensors fail in this frame. -/
def State.zoneChecks (s : State) (c : Nat) : List Nat × State :=
  (List.range 6).foldl (fun (a : List Nat × State) j =>
    let (new, s) := a
    let t := 6 * c + j
    let hadLast := (s.sens t).last.isSome
    let node := s.nodeOf c j
    let (k, back, s) := s.senseFrame t (decide (j < 4) && s.belowTwin c j) node
    let s := s.senseEvents t c k back
    let s := s.setF (COOL_CT_STAT_failed c) (bits ((List.range 6).map fun i => (s.sens (6 * c + i)).failed))
    let s := if k ≠ 0 ∧ !hadLast then
        match s.kindHigh c j with
        | some v => s.setSens t fun x => { x with last := some (v + 80), at10 := eighths (v + 80) }
        | none => s.setLatch c 4 0xFF
      else s
    let s := s.setSens t fun x => if x.failed then { x with rise := max x.rise (node - x.base) } else x
    (if k ≠ 0 then new ++ [j] else new, s)) ([], s)

/-- Step 4: the models advance by 0.1 s and are corrected. -/
def State.zoneModel (s : State) (c : Nat) : State :=
  match maxOpt ((List.range 4).map (s.zoneVal c)) with
  | none => s
  | some tm =>
    let (ts, _) := s.supplyT (c / 2)
    let x := s.cable c
    let s := if (s.zone c).begun then s
      else
        let (tb, s) := s.roundOpen (tm + ts) 2
        s.setZone c fun z => { z with begun := true, ta := tm, tb := tb, tcP := (s.zoneVal c 4).getD ts, tcN := (s.zoneVal c 5).getD ts }
    let freq := s.f (COOL_FQ_freq (c / 2))
    let low := if (s.zoneFailed c).isEmpty then none else some (min freq ((s.zone c).minFreq.getD freq))
    let s := s.setZone c fun z => { z with minFreq := low }
    let (z, s) := s.flowPower c (low.getD freq)
    let o := s.zone c
    let (n, s) := s.modelRun x (s.ampsRaw c ^ 2) z ts 100 10 ⟨o.ta, o.tb, o.tcP, o.tcN⟩
    let (g, s) := s.roundOpen (tm - n.ta) 20
    let contact := fun (s : State) (j : Nat) (v : Int) => if (s.sens (6 * c + j)).failed then v else (s.zoneVal c j).getD v
    let s := s.setZone c fun y => { y with ta := max (n.ta + g) tm, tb := n.tb, tcP := contact s 4 n.tcP, tcN := contact s 5 n.tcN }
    let (ra, s) := s.roundOpen (s.zone c).ta (2 ^ 29)
    let (rb, s) := s.roundOpen (s.zone c).tb (2 ^ 29)
    (s.setFi (COOL_CT_MODEL_ta c) ra).setFi (COOL_CT_MODEL_tb c) rb

/-- A level after a frame (R282): thresholds w, t, h. -/
def levelOf (old : Nat) (hot : Int) (l : Nat × Nat × Nat) : Nat :=
  let holds := fun (n thr : Nat) => decide (kelvin thr ≤ hot) || (decide (n ≤ old) && decide (kelvin thr - kelvin 3 < hot))
  if holds 3 l.2.2 then 3 else if holds 2 l.2.1 then 2 else if holds 1 l.1 then 1 else 0

/-- The sensor of a list that is hottest. -/
def State.hottest (s : State) (c : Nat) (l : List Nat) : Nat :=
  (l.foldl (fun (b : Nat × Option Int) j =>
    match s.zoneVal c j, b.2 with
    | some v, some w => if w < v then (j, some v) else b
    | some v, none => (j, some v)
    | none, _ => b) (0, none)).1

/-- Take the level of one kind of zone c: sensors l, register fields. -/
def State.takeLevel (s : State) (c : Nat) (l : List Nat) (lev temp : Fld) : State :=
  match maxOpt (l.map (s.zoneVal c)) with
  | none => s
  | some hot =>
    let (r, s) := s.roundOpen hot (2 ^ 29)
    let s := s.setFi temp r
    let old := s.f lev
    let new := levelOf old hot ((s.cable c).levels (l.getD 0 0))
    let s := s.setF lev new
    if old = 0 ∧ 0 < new then s.declareFault 5 0 0x0A0 (connScope c) 0 (6 * c + s.hottest c l) else s

/-- Whether every value of zone c lies below a threshold, less some kelvin. -/
def State.allBelow (s : State) (c : Nat) (pick : Nat × Nat × Nat → Nat) (less : Int) : Bool :=
  (List.range 6).all fun j => match s.zoneVal c j with
    | some v => decide (v < kelvin (pick ((s.cable c).levels j)) - kelvin less)
    | none => true

/-- The estimates of zone c at this throttle step. -/
def State.markTen (s : State) (c : Nat) : State :=
  s.each (List.range 6) fun s j => s.setSens (6 * c + j) fun x => { x with at10 := (s.zoneVal c j).getD 0 }

/-- The throttle step every 10 s (R283). -/
def State.throttleStep (s : State) (c : Nat) : State :=
  let thr := s.f (COOL_CT_LIMIT_thr c)
  let rating := (s.cable c).rating
  let hot := (List.range 6).any fun j => match s.zoneVal c j with
    | some v => decide (kelvin ((s.cable c).levels j).2.1 ≤ v) && (!(s.sens (6 * c + j)).failed || decide ((s.sens (6 * c + j)).at10 < v))
    | none => false
  let new := if hot then thr * 95 / 1000 * 10
    else if !(s.zoneFailed c).isEmpty then thr
    else if s.allBelow c (·.2.1) 3 then min rating (thr + rating / 20)
    else thr
  (s.setF (COOL_CT_LIMIT_thr c) new).markTen c

/-- Throttle (R283): entry, steps, end. -/
def State.throttle (s : State) (c : Nat) : State :=
  let rating := (s.cable c).rating
  let s :=
    if !s.fb (COOL_CT_STAT_throttle c) then
      if 2 ≤ s.f (COOL_CT_STAT_ct_level c) ∨ 2 ≤ s.f (COOL_CT_STAT_cd_level c) then
        let thr := min rating (9 * s.ampsRaw c / (100 * 2 ^ 18) * 10)
        let s := s.setAll [(COOL_CT_STAT_throttle c, 1), (COOL_CT_LIMIT_thr c, thr)]
        ((s.setZone c fun z => { z with thrAge := 0 }).markTen c).declareFault 5 1 0x0A1 (connScope c) 0 thr
      else s
    else
      let age := (s.zone c).thrAge + 1
      let s := s.setZone c fun z => { z with thrAge := age }
      if age % 100 = 0 then s.throttleStep c else s
  if s.fb (COOL_CT_STAT_throttle c) ∧ rating ≤ s.f (COOL_CT_LIMIT_thr c) ∧ s.allBelow c (·.2.1) 3 then
    s.setAll [(COOL_CT_STAT_throttle c, 0), (COOL_CT_LIMIT_thr c, 0xFFFF)]
  else s

/-- Frames with every sensor of zone c below warning, and with the leak reading below its limit, up to 10 min. -/
def State.settleRun (s : State) (c : Nat) : State :=
  let steady := (List.range 6).all (fun j => (s.zoneVal c j).isSome) && s.allBelow c (·.1) 0
  let dry := decide (s.f (COOL_AI_value (4 + c / 2)) < s.maq.leakMax)
  s.setZone c fun z => { z with calm := if steady then min (z.calm + 1) 6000 else 0, dry := if dry then min (z.dry + 1) 6000 else 0 }

/-- The latch releases where R285 lets it. -/
def State.tryRelease (s : State) (c : Nat) : State :=
  let z := s.zone c
  if s.fb (COOL_CT_STAT_latch c) && s.prxIs c == 0 && (s.zoneFailed c).isEmpty && z.calm == 6000 && (s.f (COOL_CT_STAT_cause c) != 3 || z.dry == 6000) then s.latchRelease c
  else s

/-- Step 5: levels, shutdown, throttle, release. -/
def State.zoneLevels (s : State) (c : Nat) (new : List Nat) : State :=
  let s := s.takeLevel c [4, 5] (COOL_CT_STAT_ct_level c) (COOL_CT_TEMP_hot_ct c)
  let s := s.takeLevel c [0, 1, 2, 3] (COOL_CT_STAT_cd_level c) (COOL_CT_TEMP_hot_cd c)
  let ovr := (List.range 6).find? fun j => match s.zoneVal c j with
    | some v => decide (kelvin ((s.cable c).levels j).2.2 ≤ v)
    | none => false
  let s := match ovr with
    | some j => s.setLatch c 1 (6 * c + j)
    | none => s
  let s := if s.fb (COOL_CT_STAT_throttle c) ∧ !new.isEmpty ∧ 2 ≤ (s.zoneFailed c).length then s.setLatch c 2 (6 * c + new.getLastD 0) else s
  let s := s.throttle c
  (s.settleRun c).tryRelease c

/-- Step 6: forecast, boost and the limit sent (R280, R281). -/
def State.zoneForecast (s : State) (c : Nat) : State :=
  let o := s.zone c
  if !o.begun then s
  else
    let x := s.cable c
    let (ts, measured) := s.supplyT (c / 2)
    let n : Nodes := ⟨o.ta, o.tb, o.tcP, o.tcN⟩
    let (z, s) := s.flowPower c (o.minFreq.getD (s.f (COOL_FQ_freq (c / 2))))
    let ((pa, _), s) := s.forecast x (s.ampsRaw c ^ 2) z ts 60 n n.ta n.tcP
    let (limit, s) := s.forecastLimit x z ts n
    let (rp, s) := s.roundOpen pa (2 ^ 29)
    let s := (s.setFi (COOL_CT_FCST_t_peak c) rp).setF (COOL_CT_FCST_i_fcst c) limit
    let budgetOk := if s.fb (COOL_CT_STAT_boost c) then decide (0 < o.budget) else decide (2400 ≤ o.budget)
    let allowed := s.fb (COOL_CT_CFG_boost_en c) && budgetOk && (s.zoneFailed c).isEmpty && s.f (COOL_CT_STAT_ct_level c) == 0 &&
      s.f (COOL_CT_STAT_cd_level c) == 0 && !s.fb (COOL_LOOP_STAT_flow_low (c / 2)) && measured
    let base := if allowed then limit else min limit x.rating
    let sent := if s.fb (COOL_CT_STAT_latch c) then 0 else min base (if s.fb (COOL_CT_STAT_throttle c) then s.f (COOL_CT_LIMIT_thr c) else base)
    let boost := decide (x.rating < sent)
    let budget := if boost then o.budget - 4 else min (4 * s.f (COOL_CT_CFG_budget_max c)) (o.budget + 1)
    let s := s.setZone c fun y => { y with budget := budget }
    s.setAll [(COOL_CT_LIMIT_sent c, sent), (COOL_CT_STAT_boost c, if boost then 1 else 0), (COOL_CT_STAT_budget c, budget / 4)]

/-- Steps 2 to 6 of connector c. -/
def State.zoneFrame (s : State) (c : Nat) : State :=
  if s.cableType c = 0 then s
  else
    let s := if (s.zone c).asked then s
      else (s.setZone c fun z => { z with asked := true }).setCool fun a => { a with jobs := a.jobs ++ [(c, true)] }
    let (new, s) := s.zoneChecks c
    (((s.zoneModel c).zoneLevels c new).zoneForecast c)

/-! ## Coolant loops (R276, R288 to R291) -/

/-- ln(n / d) in 2^-32, n and d positive, from 40 binary digits of the logarithm. -/
def logBits : Nat → Nat → Nat → Nat
  | 0, _, acc => acc
  | k + 1, m, acc =>
    let q := m * m / 2 ^ 64
    if 2 ^ 65 ≤ q then logBits k (q / 2) (2 * acc + 1) else logBits k q (2 * acc)

def lnRatio (n d : Nat) : Int :=
  let e : Int := (Nat.log2 n : Int) - Nat.log2 d
  let e := if n * 2 ^ (Nat.log2 d) < d * 2 ^ (Nat.log2 n) then e - 1 else e
  let m := if 0 ≤ e then n * 2 ^ 64 / (d * 2 ^ e.toNat) else n * 2 ^ 64 * 2 ^ (-e).toNat / d
  (e * 2 ^ 40 + (logBits 40 m 0 : Nat)) * 12786308645202655660 / 2 ^ 72

/-- The dew point of a connector at an ambient temperature in 0.125 degC and a humidity input in 0.5 uA (R289): the last place is open; at
a humidity of 0 or less the logarithm has no value, and the result is free. -/
def State.dewPoint (s : State) (t8 : Int) (v : Nat) : Int × State :=
  let (u, s) := s.fresh
  if v ≤ 8000 then ((u : Int), s)
  else
    let g := lnRatio (v - 8000) 32000 + 1762 * t8 * 2 ^ 32 / (194496 + 100 * t8)
    (24312 * g * 2 ^ 32 / (1762 * 2 ^ 32 - 100 * g) + (u % 2 : Nat), s)

/-- The checks of a sensor outside the zones; its failure concerns the connectors of a list. -/
def State.otherSensor (s : State) (t : Nat) (cs : List Nat) : State :=
  let (k, back, s) := s.senseFrame t false 0
  s.each cs fun s c => s.senseEvents t c k back

/-- The dew point of connector c where both its inputs are valid. -/
def State.connDew (s : State) (c : Nat) : Option Int × State :=
  match (if (s.sens (56 + c)).failed then none else (s.sens (56 + c)).last), s.fb (COOL_AI_under (8 + c)) || s.fb (COOL_AI_over (8 + c)) with
  | some t, false =>
    let (d, s) := s.dewPoint t (s.f (COOL_AI_value (8 + c)))
    (some d, s)
  | _, _ => (none, s)

/-- Step 2 of loop k: its sensors and inputs. -/
def State.loopInputs (s : State) (k : Nat) : State :=
  let cs := s.cooled k
  if cs.isEmpty then s
  else
    let s := ((s.otherSensor (48 + 2 * k) cs).otherSensor (49 + 2 * k) cs).each cs fun s c => s.otherSensor (56 + c) [c]
    let (a, s) := if cs.contains (2 * k) then s.connDew (2 * k) else (none, s)
    let (b, s) := if cs.contains (2 * k + 1) then s.connDew (2 * k + 1) else (none, s)
    let s := s.setLoop k fun x => { x with dewA := a, dewB := b }
    let (ts, s) := s.roundOpen (s.supplyT k).1 (2 ^ 29)
    let s := s.setFi (COOL_LOOP_TEMP_ts k) ts
    match maxOpt [a, b] with
    | some d =>
      let (r, s) := s.roundOpen d (2 ^ 29)
      let s := s.setFi (COOL_LOOP_TEMP_dew k) r
      let risk := decide ((s.supplyT k).1 < d + kelvin 3)
      let s := if risk && !s.fb (COOL_LOOP_STAT_dew_risk k) then s.engineRecord 5 7 0x0A7 siteScope 0 k else s
      s.setB (COOL_LOOP_STAT_dew_risk k) risk
    | none => s

/-- flow_min of loop k in 0.1 L/min: by default 20 % of the larger f_nom. -/
def State.flowMin (s : State) (k : Nat) : Nat :=
  SMap.get ((s.cooled k).foldl (fun a c => max a (2 * (s.cable c).fNom)) 0) s.maq.flowMin k

/-- R290: flow, pressure and leak of loop k. -/
def State.loopJudge (s : State) (k : Nat) : State :=
  let cs := s.cooled k
  let kf := SMap.get 100 s.maq.kfac k
  let freq := s.f (COOL_FQ_freq k)
  let (flow, s) := s.roundOpen ((60 * freq : Nat) : Int) kf
  let s := s.setF (COOL_LOOP_STAT_flow k) (min 65535 flow.toNat)
  let low := decide (60 * freq < s.flowMin k * kf)
  let x := s.loop k
  let lowRun := if low && s.fb (COOL_LOOP_CTRL_pump k) then x.lowRun + 1 else 0
  let okRun := if low then 0 else x.okRun + 1
  let s := s.setLoop k fun x => { x with lowRun := min lowRun 50, okRun := min okRun 600 }
  let s := if 50 ≤ lowRun ∧ !s.fb (COOL_LOOP_STAT_flow_low k) then
      (s.setF (COOL_LOOP_STAT_flow_low k) 1).each cs fun s c => s.declareFault 5 1 0x0A5 (connScope c) 0 flow.toNat
    else if 600 ≤ okRun then s.setF (COOL_LOOP_STAT_flow_low k) 0 else s
  let p : Int := (s.f (COOL_AI_value k) : Int) - 8000
  let (pr, s) := s.roundOpen p 320
  let s := s.setF (COOL_LOOP_STAT_press k) (clampI 0 255 pr).toNat
  let pRun := if p < 32 * (s.maq.pLow : Int) then x.pRun + 1 else 0
  let s := s.setLoop k fun x => { x with pRun := min pRun 50 }
  let s := if 50 ≤ pRun ∧ !s.fb (COOL_LOOP_STAT_press_low k) then
      let (kpa, s) := s.roundOpen p 32
      (s.setF (COOL_LOOP_STAT_press_low k) 1).each cs fun s c => s.declareFault 5 0 0x0A6 (connScope c) 0 (clampI 0 65535 kpa).toNat
    else if pRun = 0 then s.setF (COOL_LOOP_STAT_press_low k) 0 else s
  let wet := decide (s.maq.leakMax < s.f (COOL_AI_value (4 + k)))
  let leakRun := if wet then x.leakRun + 1 else 0
  let s := s.setLoop k fun x => { x with leakRun := min leakRun 10 }
  if 10 ≤ leakRun ∧ !s.fb (COOL_LOOP_STAT_leak k) then
    ((s.setF (COOL_LOOP_STAT_leak k) 1).setLoop k fun x => { x with leakAt := some s.now }).each cs fun s c => s.setLatch c 3 0xFF
  else if s.fb (COOL_LOOP_STAT_leak k) ∧ !wet ∧ cs.all (fun c => s.f (COOL_CT_STAT_cause c) != 3) then
    (s.setF (COOL_LOOP_STAT_leak k) 0).setLoop k fun x => { x with leakAt := none, stopped := false }
  else s

/-- T5 writes the command of a load-switch channel where it changes and the channels are T5's. -/
def State.coolSwitch (s : State) (n : Nat) (on : Bool) : State :=
  if s.fb LSW_HOLD_STAT_hold ∨ s.fb (LSW_CTRL_cmd n) = on then s
  else s.lsWrite 5 (LSW_CTRL n) (boolNat on) fun s => s.writeLsCtrl n (boolNat on)

/-- A session is open on connector c: SESS state 1 to 12. -/
def State.sessOpen (s : State) (c : Nat) : Bool := decide (1 ≤ s.f (SESS_STATUS_state c)) && decide (s.f (SESS_STATUS_state c) ≤ 12)

/-- Whether node A of connector c exceeds the supply by more than n K. -/
def State.warmer (s : State) (c : Nat) (ts : Int) (n : Int) : Bool := (s.zone c).begun && decide (ts + kelvin n < (s.zone c).ta)

/-- The heater of connector c: its dew point d, as commanded. -/
def heaterOn (ts : Int) (d : Option Int) (was : Bool) : Bool :=
  match d with
  | none => true
  | some d => decide (ts < d + kelvin 3) || (was && decide (ts < d + kelvin 5))

/-- What the loop's outputs are to be (R288, R290). -/
def State.loopCommand (s : State) (k : Nat) : State :=
  let (a, b) := (2 * k, 2 * k + 1)
  let cs := s.cooled k
  let (ts, _) := s.supplyT k
  let x := s.loop k
  let s := match x.leakAt with
    | some t => if [a, b].all (fun c => s.fb (CONN_STATUS_zero c)) ∨ t + 2000000000 ≤ s.now then s.setLoop k fun x => { x with stopped := true } else s
    | none => s
  let stopped := (s.loop k).stopped
  let want := [a, b].any fun c => s.sessOpen c || s.warmer c ts 5
  let runOn := if want then 6000 else x.runOn - 1
  let s := s.setLoop k fun x => { x with runOn := runOn }
  let pump := (want || decide (0 < runOn)) && !stopped
  let dew := maxOpt [x.dewA, x.dewB]
  let fan := !stopped && (decide (eighths s.maq.fanSet + kelvin 2 ≤ ts) ||
    (s.fb (COOL_LOOP_CTRL_fan k) && !decide (ts ≤ eighths s.maq.fanSet - kelvin 2) && !(match dew with | some d => decide (ts < d + kelvin 3) | none => false)))
  let hot := cs.foldl (fun (m : Int) c => if (s.zone c).begun then max m ((s.zone c).ta - kelvin (s.cable c).warn) else m) (-kelvin 20)
  let part := clampI 0 (kelvin 15) (hot + kelvin 20)
  let (sp, s) := s.roundOpen (70 * part) (15 * 2 ^ 32)
  let s := s.setAll [(COOL_LOOP_CTRL_pump k, boolNat pump), (COOL_LOOP_CTRL_valve_a k, boolNat (pump && (s.sessOpen a || s.warmer a ts 2))),
    (COOL_LOOP_CTRL_valve_b k, boolNat (pump && (s.sessOpen b || s.warmer b ts 2))), (COOL_LOOP_CTRL_fan k, boolNat fan),
    (COOL_LOOP_CTRL_heat_a k, boolNat (cs.contains a && heaterOn ts x.dewA (s.fb (COOL_LOOP_CTRL_heat_a k)))),
    (COOL_LOOP_CTRL_heat_b k, boolNat (cs.contains b && heaterOn ts x.dewB (s.fb (COOL_LOOP_CTRL_heat_b k)))),
    (COOL_LOOP_CTRL_speed k, if pump then 30 + sp.toNat else 0), (COOL_LOOP_CTRL_runon k, (runOn + 9) / 10)]
  let (ao, s) := s.roundOpen (28000 * part) (15 * 2 ^ 32)
  let byLs := s.fb (COOL_LOOP_CFG_pump_ls k)
  let s := if byLs then s.coolSwitch (s.f (COOL_LOOP_CFG_ls_pump k)) pump else s.gapWrite 5 (COOL_AO k) (if pump then 12000 + ao.toNat else 0) fun s => s.setF (COOL_AO_set k) (if pump then 12000 + ao.toNat else 0)
  let s := s.coolSwitch (s.f (COOL_LOOP_CFG_ls_fan k)) fan
  let s := s.coolSwitch (s.f (COOL_LOOP_CFG_ls_valve_a k)) (s.fb (COOL_LOOP_CTRL_valve_a k))
  let s := s.coolSwitch (s.f (COOL_LOOP_CFG_ls_valve_b k)) (s.fb (COOL_LOOP_CTRL_valve_b k))
  let s := s.coolSwitch (s.f (COOL_LOOP_CFG_ls_heat_a k)) (s.fb (COOL_LOOP_CTRL_heat_a k))
  s.coolSwitch (s.f (COOL_LOOP_CFG_ls_heat_b k)) (s.fb (COOL_LOOP_CTRL_heat_b k))

/-- T5's first commands are the load switches' adopted ones (R151, R291). -/
def State.loopAdopt (s : State) (k : Nat) : State :=
  let cmd := fun (x : Fld) => s.f (LSW_CTRL_cmd (s.f x))
  let pump := if s.fb (COOL_LOOP_CFG_pump_ls k) then cmd (COOL_LOOP_CFG_ls_pump k) else 0
  let s := s.setAll [(COOL_LOOP_CTRL_pump k, pump), (COOL_LOOP_CTRL_valve_a k, cmd (COOL_LOOP_CFG_ls_valve_a k)), (COOL_LOOP_CTRL_valve_b k, cmd (COOL_LOOP_CFG_ls_valve_b k)),
    (COOL_LOOP_CTRL_fan k, cmd (COOL_LOOP_CFG_ls_fan k)), (COOL_LOOP_CTRL_heat_a k, cmd (COOL_LOOP_CFG_ls_heat_a k)), (COOL_LOOP_CTRL_heat_b k, cmd (COOL_LOOP_CFG_ls_heat_b k))]
  s.setLoop k fun x => { x with runOn := if pump = 1 then 6000 else 0 }

/-- Step 7 of loop k; at PFW its outputs hold (R120, R291). -/
def State.loopFrame (s : State) (k : Nat) : State :=
  if (s.cooled k).isEmpty then s
  else if s.fb PWR_STATUS_pfw then s.loopJudge k
  else (s.loopJudge k).loopCommand k

/-! ## The frame (R272) -/

/-- A request of T5. -/
def coolReq (opcode id : Nat) (sc : Scope) (payload : Nat) : Req :=
  { origId := 6, opcode := BitVec.ofNat 16 opcode, reqId := BitVec.ofNat 32 id, scope := sc, periodKind := 0, periodSeq := 0, indirect := false
    replyWanted := true, payloadLen := 16, payload := BitVec.ofNat 128 payload }

/-- Step 8: the HEADROOM of connector c, and the record every 60 s. -/
def State.zoneSend (s : State) (c : Nat) : State :=
  if s.cableType c = 0 then s
  else
    let r := coolReq 0x0103 s.cool.req (connScope c) (s.f (COOL_CT_LIMIT_sent c) * 2 ^ 18 + (s.cable c).rating * 2 ^ 18 * 2 ^ 32)
    let s := (s.setCool fun a => { a with req := (a.req + 1) % 2 ^ 32 }).serve (.engine 5) allocQ r fun s => s.headroomReq r
    let s := s.setZone c fun z => { z with saved := z.saved + 1 }
    if 600 ≤ (s.zone c).saved then s.coolSave c else s

/-- T5's cable thermal frame. -/
def State.coolingFrame (s : State) : State :=
  let (_, s) := s.rinse 3 0
  let s := if s.cool.adopted ∨ s.fb LSW_HOLD_STAT_hold then s
    else (s.each ((List.range 4).filter fun k => !(s.cooled k).isEmpty) State.loopAdopt).setCool fun a => { a with adopted := true }
  let s := s.each (List.range 4) State.loopInputs
  let s := s.each (List.range 8) State.zoneFrame
  let s := s.each (List.range 4) State.loopFrame
  ((s.each (List.range 8) State.zoneSend).each (List.range 32) State.lsSpent).coolNvNext

end Sys2Proof.Machine
end

