-- ==== Sys2Proof/Machine/Buffer.lean ====
section
/-!
DEFINITION. The shore buffer battery: T6's counting, learning, authentication and switching of the strings, the reports to T0, the records
(R236 to R249), and T7's authentication service (R246, R247).
-/
namespace Sys2Proof.Machine

def State.setBuf (s : State) (f : BufInt → BufInt) : State := { s with buf := f s.buf }
def State.str (s : State) (n : Nat) : Str := SMap.get Str.reset s.buf.strs n
def State.setStr (s : State) (n : Nat) (f : Str → Str) : State := s.setBuf fun b => { b with strs := SMap.set Str.reset b.strs n (f (s.str n)) }
def State.bport (s : State) (p : Nat) : BufPort := SMap.get BufPort.reset s.buf.ports p
def State.setBport (s : State) (p : Nat) (f : BufPort → BufPort) : State := s.setBuf fun b => { b with ports := SMap.set BufPort.reset b.ports p (f (s.bport p)) }
def State.strCfg (s : State) (n : Nat) : StrCfg := SMap.get StrCfg.reset s.maq.strs n

/-- One mAh in the unit of the counts. -/
def mAh : Nat := 7200000000
def State.strCap (s : State) (n : Nat) : Nat := s.f (BUF_STR_CAP_cap n)
/-- The strings of port p that the maquette has. -/
def State.stringsOf (s : State) (p : Nat) : List Nat := ((List.range 4).map (4 * p + ·)).filter fun n => (s.strCfg n).cRated != 0
/-- String n is connected: its interposing relay is closed. -/
def State.strConn (s : State) (n : Nat) : Bool :=
  let r := SMap.get 255 s.maq.stringRelay n
  decide (r < 32) && s.fb (LSW_STATUS_out r)

/-- What T6 reads from a string's BMS (R236): whether the qualities are good, current in mA (positive into the string), voltage in mV, lowest and highest
cell voltage in uV, mean temperature in 1/1000 degC, discharge and charge current limits in mA. -/
structure BmsSample where
  good : Bool
  mA : Int
  mV : Nat
  cellLo : Int
  cellHi : Int
  temp : Int
  disMax : Nat
  chgMax : Nat

/-- The sample of string n in the point table; the maquette scales the points to the units named (log 233). -/
def State.bms (s : State) (n : Nat) : BmsSample :=
  let p := (s.strCfg n).pts
  ⟨[p.cur, p.volt, p.lo, p.hi, p.temp, p.dis, p.chg].all s.ptGood, s.ptInt p.cur, (s.ptInt p.volt).toNat, s.ptInt p.lo, s.ptInt p.hi, s.ptInt p.temp,
    (s.ptInt p.dis).toNat, (s.ptInt p.chg).toNat⟩

/-! ## T7's authentication of strings (R246, R247) -/

def authQ : QId := .queue 7 1

/-- A request of T6 for a string of its port. -/
def authScope (r : Req) : Bool := r.origId == 7 && r.scope.kind == 4 && r.scope.inst.toNat == r.payload.toNat % 256 / 4

/-- T7's step for AUTH_NONCE: half 0 draws, half 1 reads the other half. -/
def State.authNonce (s : State) (r : Req) : State :=
  let n := r.payload.toNat % 256
  if !authScope r ∨ 16 ≤ n then s.rejectFree authQ r
  else
    let (v, s) := s.fresh
    if r.payload.toNat / 256 % 2 = 0 then
      { s with sec := { s.sec with strNonce := SMap.set none s.sec.strNonce n (some (v % 2 ^ 128)) } }.done authQ r (v % 2 ^ 64)
    else s.done authQ r ((SMap.get none s.sec.strNonce n).getD (v % 2 ^ 128) / 2 ^ 64)

def execAuthNonce (sd : Sender) (r : Req) (s : State) : Out := .next (s.serve sd authQ r fun s => s.authNonce r)

/-- 16 bytes as T6 reads a serial. -/
def serialNat (l : List Byte) : Nat := leNat l

/-- The verdict on a string's certificate and answer: 0 pass, or the detail. -/
def State.authVerdict (s : State) (n : Nat) (cert ans : List Byte) : Nat :=
  match SMap.get none s.sec.strNonce n with
  | none => 4
  | some nonce =>
    let root := SMap.get [] s.maq.rootKeys (fieldAt cert 0x50 1)
    let serial := cert.take 16
    if 4 ≤ fieldAt cert 0x50 1 ∨ root.isEmpty ∨ !signed root (cert.take 0x60) (cert.drop 0x60) then 1
    else if (s.str n).serial ≠ some (serialNat serial) then 2
    else if !signed ((cert.drop 16).take 64) (bytesOf 0x424E5645 4 ++ bytesOf nonce 16 ++ serial) ans then 3
    else 0

/-- T7's step for AUTH_VERIFY: string, certificate, answer. -/
def State.authVerify (s : State) (r : Req) : State :=
  let b := s.dmaRdBytes r.indAddr 225
  let n := fieldAt b 0 1
  if !r.indirect ∨ r.indLen ≠ 225 ∨ r.origId ≠ 7 ∨ r.scope ≠ portScope (n / 4) ∨ 16 ≤ n then s.rejectFree authQ r
  else
    let k := s.authVerdict n ((b.drop 1).take 160) (b.drop 161)
    { s with sec := { s.sec with strNonce := SMap.set none s.sec.strNonce n none } }.complete authQ r 1 k (if k = 0 then 1 else 0)

def execAuthVerify (sd : Sender) (r : Req) (s : State) : Out := .next (s.serve sd authQ r fun s => s.authVerify r)

/-! ## Records (R243, R244) -/

def bufSrc (n : Nat) : Nat := 0x1D000 + 64 * n

/-- C / C_rated in 0.01 %. -/
def State.soh (s : State) (n : Nat) : Nat × State :=
  let (v, s) := s.roundOpen ((10000 * s.strCap n : Nat) : Int) (s.strCfg n).cRated
  (min 65535 v.toNat, s)

/-- The record of string n. -/
def State.bufRecord (s : State) (n : Nat) : List Byte × State :=
  let x := s.str n
  let (soh, s) := s.soh n
  let (q, s) := s.roundOpen x.q mAh
  (bytesOf (s.strCap n) 4 ++ bytesOf soh 2 ++ bytesOf (s.f (BUF_STR_STAT_suspect n) + 2 * s.f (BUF_STR_STAT_learned n)) 2 ++ bytesOf x.count 4 ++
    bytesOf (ofSigned 32 q) 4 ++ bytesOf x.dtLearn 8 ++ bytesOf s.dtNs 8 ++ bytesOf (x.serial.getD 0) 16, s)

/-- Start the next NV operation of T6 where its channel is free. -/
def State.bufNvNext (s : State) : State :=
  match s.buf.jobs with
  | [] => s
  | (n, resolve) :: t =>
    if s.f (PWR_NVW_CTRL_status 6) = 1 then s
    else
      let s := if resolve then s
        else
          let (b, s) := s.bufRecord n
          s.wrBytes (sramKey 6 (0x10000000 + bufSrc n)) b
      let s := s.setAll [(PWR_NVW_SRC_src 6, bufSrc n), (PWR_NVW_DST_pair_ofs 6, 0x2C + 4 * n), (PWR_NVW_DST_tag 6, 0x0100 + n)]
      (s.setBuf fun b => { b with jobs := t, run := some (n, resolve) }).writeNvwCtrl 6 (47 + (if resolve then 2 ^ 14 else 0) + 2 ^ 16)

def State.bufSave (s : State) (n : Nat) : State :=
  (s.setStr n fun x => { x with savedAt := s.now }).setBuf fun b => { b with jobs := b.jobs.filter (· != (n, false)) ++ [(n, false)] }

/-- An NV operation of T6 has ended. -/
def State.bufNvEnd (s : State) : State :=
  match s.buf.run with
  | none => s
  | some (n, resolve) =>
    let s := s.setBuf fun b => { b with run := none }
    let s := if resolve then
        let b := if s.f (PWR_NVW_CTRL_status 6) = 2 then s.rdBytes (sramKey 6 (0x10000000 + bufSrc n)) 48 else []
        s.setStr n fun x => { x with resolved := true, record := b }
      else s
    s.bufNvNext

/-- PFW: every string's record once, as the writer grants it. -/
def State.bufPfw (s : State) : State := (((List.range 16).filter fun n => (s.str n).loaded).foldl State.bufSave s).bufNvNext

/-- A string is loaded from its record, once that is resolved and its serial known (R244). -/
def State.strLoad (s : State) (n : Nat) : State :=
  let x := s.str n
  if x.loaded ∨ !x.resolved ∨ x.serial.isNone then s
  else
    let b := x.record
    let same := decide (b.length = 48) && fieldAt b 0x20 16 == x.serial.getD 0
    let age : Int := (s.dtNs : Int) - fieldAt b 0x18 8
    let recent := same && decide (0 ≤ age) && decide (age ≤ 3600000000000)
    let cap := if same then fieldAt b 0 4 else (s.strCfg n).cRated
    let s := s.setAll [(BUF_STR_CAP_cap n, cap), (BUF_STR_STAT_suspect n, if same then fieldAt b 6 2 % 2 else 0),
      (BUF_STR_STAT_learned n, if same then fieldAt b 6 2 / 2 % 2 else 0), (BUF_STR_STAT_learn_count n, if same then fieldAt b 8 4 else 0),
      (BUF_STR_STAT_uncertain n, if recent then 0 else 1)]
    s.setStr n fun x => { x with
      loaded := true, count := if same then fieldAt b 8 4 else 0, dtLearn := if same then fieldAt b 0x10 8 else 0, savedAt := s.now
      q := if recent then toSigned 32 (fieldAt b 0xC 4) * (mAh : Nat) else (cap * (mAh / 2) : Nat) }

/-! ## Learning (R242) -/

def strPort (n : Nat) : Scope := portScope (n / 4)

/-- A learning cycle is abandoned with a cause. -/
def State.learnAbort (s : State) (n cause : Nat) : State :=
  if s.fb (BUF_STR_STAT_learning n) then (s.setF (BUF_STR_STAT_learning n) 0).engineRecord 6 7 0x043 (strPort n) 0 (n + 256 * cause) else s

/-- suspect takes a value; a change is recorded. -/
def State.setSuspect (s : State) (n : Nat) (b : Bool) : State :=
  if s.fb (BUF_STR_STAT_suspect n) = b then s
  else
    let s := (s.setB (BUF_STR_STAT_suspect n) b).bufSave n
    if b then s.declareFault 6 0 0x041 (strPort n) 0 n else s

/-- The end of a learning cycle at the declaration of empty. -/
def State.learnEnd (s : State) (n : Nat) : State :=
  let x := s.str n
  let new : Int := (x.qOut : Int) - x.qIn
  let rated : Int := (s.strCfg n).cRated * mAh
  let s := s.setF (BUF_STR_STAT_learning n) 0
  if 60 * rated ≤ 100 * new ∧ 100 * new ≤ 105 * rated then
    let (c, s) := s.roundOpen new mAh
    let (ah, s) := s.roundOpen new (1000 * mAh)
    let s := s.setAll [(BUF_STR_CAP_cap n, c.toNat), (BUF_STR_STAT_learned n, 1), (BUF_STR_STAT_learn_count n, x.count + 1)]
    let s := s.setStr n fun y => { y with count := (y.count + 1) % 2 ^ 32, dtLearn := s.dtNs }
    ((s.setSuspect n false).engineRecord 6 7 0x042 (strPort n) 0 (n + 256 * ah.toNat)).bufSave n
  else s.setSuspect n true

/-! ## Counting (R237 to R239) -/

/-- Empty is declared. -/
def State.declareEmpty (s : State) (n : Nat) : State :=
  let x := s.str n
  let ovr := decide (x.q * 100 > (s.strCap n * mAh : Nat))
  let s := if s.fb (BUF_STR_STAT_learning n) then s.learnEnd n else if ovr then s.setSuspect n true else s
  let s := s.setStr n fun y => { y with q := 0, inSince := 0 }
  s.setAll [(BUF_STR_STAT_empty n, 1), (BUF_STR_STAT_uncertain n, 0)]

/-- Full is declared; a learning cycle starts within 10 to 35 degC. -/
def State.declareFull (s : State) (n : Nat) : State :=
  let s := s.setStr n fun y => { y with q := (s.strCap n * mAh : Nat), outSince := 0 }
  let s := s.setAll [(BUF_STR_STAT_full n, 1), (BUF_STR_STAT_uncertain n, 0)]
  let t := (s.str n).temp
  if 10000 ≤ t ∧ t ≤ 35000 then
    (s.setF (BUF_STR_STAT_learning n) 1).setStr n fun y => { y with qIn := 0, qOut := 0, learnAt := s.now, checkAt := s.now }
  else s

/-- r in 10^-6 uOhm at the string's temperature (R238). -/
def StrCfg.ohms (c : StrCfg) (mC : Int) : Int := c.rRef * max 500000 (1000000 + c.kR * (25000 - mC))

/-- Since when a condition holds. -/
def sinceWhen (now : Nat) (b : Bool) (was : Option Nat) : Option Nat := if b then some (was.getD now) else none
def heldFor (now ticks : Nat) (x : Option Nat) : Bool := match x with
  | some t => decide (t + ticks ≤ now)
  | none => false

/-- The charge counted at a sample: q, the learning sums and what clears the flags. -/
def State.countCharge (s : State) (n : Nat) (raw : Int) : State :=
  let c := s.strCfg n
  -- raw in mA ms: half the sum of two samples times h, doubled
  let dq : Int := if 0 < raw then raw * c.eta else raw * 1000
  let learn := s.fb (BUF_STR_STAT_learning n)
  let up := if 0 < dq then dq.toNat else 0
  let down := if dq < 0 then (-dq).toNat else 0
  let s := s.setStr n fun x => { x with
    q := x.q + dq, raw := x.raw + raw * 1000, qIn := if learn then x.qIn + up else x.qIn, qOut := if learn then x.qOut + down else x.qOut
    inSince := x.inSince + up, outSince := x.outSince + down }
  let part := s.strCap n * mAh
  let s := if s.fb (BUF_STR_STAT_empty n) ∧ part ≤ 200 * (s.str n).inSince then s.setF (BUF_STR_STAT_empty n) 0 else s
  if s.fb (BUF_STR_STAT_full n) ∧ part ≤ 200 * (s.str n).outSince then s.setF (BUF_STR_STAT_full n) 0 else s

/-- The load-compensated voltages, and the declarations they bring. -/
def State.judgeVolts (s : State) (n : Nat) (x : BmsSample) (i : Int) : State :=
  let c := s.strCfg n
  -- 10^-9 uV of volts: mA times 10^-6 uOhm is 10^-9 uV
  let drop := i * c.ohms x.temp
  let lo := x.cellLo * 1000000000 - drop
  let hi := x.cellHi * 1000000000 - drop
  let e := decide (lo ≤ c.vEmpty * 1000000000)
  let f := decide (c.vFull * 1000000000 ≤ hi) && decide (0 ≤ i) && decide (50 * i ≤ (s.strCap n : Int))
  let s := s.setStr n fun y => { y with emptyFrom := sinceWhen s.now e y.emptyFrom, fullFrom := sinceWhen s.now f y.fullFrom }
  let s := if heldFor s.now 800000000 (s.str n).emptyFrom ∧ !s.fb (BUF_STR_STAT_empty n) then s.declareEmpty n else s
  if heldFor s.now 24000000000 (s.str n).fullFrom ∧ !s.fb (BUF_STR_STAT_full n) then s.declareFull n else s

/-- The reported state of charge and health, and the flags that follow (R239). -/
def State.strReport (s : State) (n : Nat) : State :=
  let q := (s.str n).q
  let part : Int := (s.strCap n * mAh : Nat)
  let empty := s.fb (BUF_STR_STAT_empty n)
  let full := s.fb (BUF_STR_STAT_full n)
  let floor := !empty && !full && decide (100 * q ≤ part)
  let ceiling := !empty && !full && !floor && decide (99 * part ≤ 100 * q)
  let (soc, s) := s.roundOpen (10000 * q) (s.strCap n * mAh)
  let (soh, s) := s.soh n
  let (qr, s) := s.roundOpen q mAh
  let s := s.setAll [(BUF_STR_SOC_soc n, if empty then 0 else if full then 10000 else if floor then 100 else if ceiling then 9900 else (clampI 0 10000 soc).toNat),
    (BUF_STR_SOC_soh n, soh), (BUF_STR_STAT_floor n, boolNat floor), (BUF_STR_STAT_ceiling n, boolNat ceiling)]
  s.setFi (BUF_STR_QREM_q n) qr

/-- A string's count stops: no good sample for more than 1 s (R237). -/
def State.strStale (s : State) (n : Nat) : State :=
  if s.fb (BUF_STR_STAT_stale n) then s
  else ((s.setF (BUF_STR_STAT_stale n) 1).learnAbort n 1).setStr n fun x => { x with last := none, h := 0, emptyFrom := none, fullFrom := none }

/-- A sample of string n (R237, R238): its current, the last good one where the quality is not good. -/
def State.strSample (s : State) (n : Nat) (x : BmsSample) : State :=
  let y := s.str n
  if !x.good ∧ y.goodAt + 400000000 < s.now then s.strStale n
  else if !x.good ∧ y.last.isNone then s
  else
    let i := if x.good then x.mA else y.last.getD 0
    let s := if x.good then
        (s.setF (BUF_STR_STAT_stale n) 0).setStr n fun y => { y with goodAt := s.now, volts := x.mV, temp := x.temp, disMax := x.disMax, chgMax := x.chgMax }
      else s
    let s := match y.last with
      | some j => s.countCharge n ((i + j) * y.h)
      | none => s
    let fast := decide ((s.strCfg n).iRate ≤ 200 * i.natAbs)
    let s := (s.setB (BUF_STR_STAT_fast n) fast).setStr n fun y => { y with last := some i, lastAt := s.now, h := if fast then 1 else 100 }
    let s := if s.fb (BUF_STR_STAT_learning n) ∧ s.strCap n * mAh < 200 * (s.str n).qIn then s.learnAbort n 3 else s
    (s.judgeVolts n x i).strReport n

/-- The other ends of a learning cycle: contactor, temperature at a 1 s check, 48 h. -/
def State.learnChecks (s : State) (n : Nat) : State :=
  if !s.fb (BUF_STR_STAT_learning n) then s
  else
    let x := s.str n
    if !s.strConn n then s.learnAbort n 1
    else if x.learnAt + 69120000000000 ≤ s.now then s.learnAbort n 4
    else if x.checkAt + 400000000 ≤ s.now then
      let s := s.setStr n fun y => { y with checkAt := s.now }
      if x.temp < 10000 ∨ 35000 < x.temp then s.learnAbort n 2 else s
    else s

/-! ## Authentication (R245 to R249) -/

/-- Authentication of string n is wanted now. -/
def State.authBegin (s : State) (n : Nat) : State :=
  (s.setAll [(BUF_STR_STAT_auth n, 1), (BUF_STR_STAT_auth_fails n, 0)]).setStr n fun x => { x with authStep := 1, authAt := s.now }

/-- BMS data of string n: a string change where its serial is new, or the data return after more than 10 s (R245). -/
def State.strSeen (s : State) (n : Nat) (serial : Nat) : State :=
  let x := s.str n
  let changed := x.serial ≠ some serial ∨ x.seenAt + 4000000000 < s.now
  let s := s.setStr n fun y => { y with serial := some serial, seenAt := s.now }
  if changed then (s.learnAbort n 5).authBegin n else s

/-- A request of T6. -/
def bufReq (opcode id : Nat) (sc : Scope) (indirect : Bool) (payload : Nat) : Req :=
  { origId := 7, opcode := BitVec.ofNat 16 opcode, reqId := BitVec.ofNat 32 id, scope := sc, periodKind := 0, periodSeq := 0, indirect := indirect
    replyWanted := true, payloadLen := 16, payload := BitVec.ofNat 128 payload }

/-- T6 sends a request, and `deliver` is what its receiver makes of it. -/
def State.bufSend (s : State) (opcode : Nat) (sc : Scope) (indirect : Bool) (payload : Nat) (deliver : Req → State → State) : State :=
  deliver (bufReq opcode s.buf.req sc indirect payload) (s.setBuf fun b => { b with req := (b.req + 1) % 2 ^ 32 })

/-- An attempt has failed: 10 s, or after the third the string is refused. -/
def State.authFail (s : State) (n : Nat) : State :=
  let k := s.f (BUF_STR_STAT_auth_fails n) + 1
  let s := s.setF (BUF_STR_STAT_auth_fails n) k
  if 3 ≤ k then
    ((s.setF (BUF_STR_STAT_auth n) 3).setStr n fun x => { x with authStep := 0 }).declareFault 6 1 0x040 (strPort n) 0 n
  else s.setStr n fun x => { x with authStep := 1, authAt := s.now + 4000000000 }

/-- The answer of string n is verified by T7. -/
def State.authCheck (s : State) (n : Nat) (answer : List Byte) : State :=
  let s := s.wrBytes s.maq.authBuf (BitVec.ofNat 8 n :: answer)
  let id := BitVec.ofNat 32 s.buf.req
  let s := s.bufSend 0x0782 (strPort n) true (s.maq.authBuf + 225 * 2 ^ 64) fun r s => s.serve (.engine 6) authQ r fun s => s.authVerify r
  let e := (((s.queue authQ).lints.find? (·.orig == 7)).map (·.entries)).getD []
  match e.find? (·.reqId == id) with
  | some x =>
    if x.status = 1 ∧ x.value = 1 then
      (s.setAll [(BUF_STR_STAT_auth n, 2), (BUF_STR_STAT_auth_fails n, 0)]).setStr n fun y => { y with authStep := 0, okAt := s.now }
    else s.authFail n
  | none => s.authFail n

/-- The nonce that T7 has drawn for string n goes into the challenge point (R246): into its block, and by a POINT_WRITE of T6. -/
def State.sendChallenge (s : State) (n : Nat) : State :=
  let p := (s.strCfg n).pts
  let s := s.wrBytes (poolAddr p.slot) (bytesOf ((SMap.get none s.sec.strNonce n).getD 0) 16)
  s.bufSend 0x0601 (s.ptScope p.chal) false (p.chal + 2 ^ 64 * (p.slot + 15 * 2 ^ 16)) fun r s =>
    s.serve (.engine 6) (.queue 6 1) r fun s => s.pointWrite (.queue 6 1) r

/-- The certificate and the answer to the challenge, once both points show them; empty before. -/
def State.authAnswer (s : State) (n : Nat) : List Byte :=
  let p := (s.strCfg n).pts
  if s.ptGood p.cert && s.ptGood p.resp && decide ((s.str n).authDt < s.ptTime p.resp) then (s.ptBytes p.cert).take 160 ++ (s.ptBytes p.resp).take 64 else []

/-- T6's authentication of string n goes on. -/
def State.authStep (s : State) (n : Nat) : State :=
  let answer := s.authAnswer n
  let x := s.str n
  if s.tripped (strPort n) then (if x.authStep = 2 then s.setStr n fun y => { y with authStep := 1 } else s)
  else if x.authStep = 1 ∧ x.authAt ≤ s.now then
    let s := s.bufSend 0x0781 (strPort n) false n fun r s => s.serve (.engine 6) authQ r fun s => s.authNonce r
    let s := s.bufSend 0x0781 (strPort n) false (n + 256) fun r s => s.serve (.engine 6) authQ r fun s => s.authNonce r
    (s.setStr n fun y => { y with authStep := 2, authAt := s.now, authDt := s.ptNow }).sendChallenge n
  else if x.authStep = 2 then
    if answer.length = 224 then s.authCheck n answer else if x.authAt + 800000000 < s.now then s.authFail n else s
  else if x.authStep = 0 ∧ s.f (BUF_STR_STAT_auth n) = 2 ∧ x.okAt + 34560000000000 ≤ s.now then s.setStr n fun y => { y with authStep := 1, authAt := s.now }
  else s

/-! ## A string's frame -/

/-- T6 reads and judges string n. -/
def State.strFrame (s : State) (n : Nat) : State :=
  let s := if (s.str n).asked then s
    else (s.setStr n fun x => { x with asked := true }).setBuf fun b => { b with jobs := b.jobs ++ [(n, true)] }
  let d := s.bms n
  let p := (s.strCfg n).pts
  let s := if d.good && s.ptGood p.serial then (s.strSeen n (serialNat ((s.ptBytes p.serial).take 16))).strLoad n else s
  if !(s.str n).loaded then s
  else
    let s : State := if (s.str n).lastAt + 400000 * (s.str n).h ≤ s.now then s.strSample n d else s
    let s := (s.learnChecks n).authStep n
    if (s.str n).savedAt + 240000000000 ≤ s.now then s.bufSave n else s

/-! ## A port's frame (R240, R241, R248) -/

/-- A string that bars its port's availability by being stale or not authenticated. -/
def State.strBars (s : State) (n : Nat) : Bool := s.fb (BUF_STR_STAT_stale n) || s.f (BUF_STR_STAT_auth n) != 2

/-- A request BUFFER_AVAIL for port p. -/
def State.sendAvail (s : State) (p dis chg : Nat) : State :=
  let v := (s.fi (BUF_PORT_V_v p) / 1000).toNat % 2 ^ 16
  let s := s.setAll [(BUF_PORT_AVAIL_dis p, dis), (BUF_PORT_AVAIL_chg p, chg)]
  let s := s.setBport p fun x => { x with sentAt := some s.now }
  s.bufSend 0x0104 (portScope p) false (dis + 2 ^ 16 * chg + 2 ^ 32 * v) fun r s => s.serve (.engine 6) allocQ r fun s => s.bufferAvail r

/-- The power of a sum of limits at the port voltage, kW rounded down. -/
def State.portPower (s : State) (p mA : Nat) : Nat := min 65535 ((s.fi (BUF_PORT_V_v p)).toNat * mA / 1000000000)

/-- Availability (R240): every 1 s, and at once when a bar comes up or a connected string changes. -/
def State.portAvailFrame (s : State) (p : Nat) : State :=
  let on := (s.stringsOf p).filter s.strConn
  let bar := on.any s.strBars
  let noDis := bar || on.any fun n => s.fb (BUF_STR_STAT_empty n)
  let noChg := bar || on.any fun n => s.fb (BUF_STR_STAT_full n)
  let conn := bits ((List.range 4).map fun j => on.contains (4 * p + j))
  let x := s.bport p
  let due := match x.sentAt with
    | some t => decide (t + 400000000 ≤ s.now)
    | none => true
  let s := s.setBport p fun x => { x with noDis := noDis, noChg := noChg, conn := conn }
  if due || (noDis && !x.noDis) || (noChg && !x.noChg) || conn != x.conn then
    let dis := if noDis || x.switching then 0 else s.portPower p (on.foldl (fun a n => a + (s.str n).disMax) 0)
    let chg := if noChg || x.switching then 0 else s.portPower p (on.foldl (fun a n => a + (s.str n).chgMax) 0)
    s.sendAvail p dis chg
  else s

/-- The comparison of the counts every 10 s (R241). -/
def State.compareCounts (s : State) (p : Nat) : State :=
  let x := s.bport p
  if s.now < x.winAt + 4000000000 then s
  else
    let diff := fun (a b : Nat) => toSigned 32 (a + 2 ^ 32 - b)
    let port : Int := (diff (s.f (BUF_PORT_QIN_q p)) x.qin - diff (s.f (BUF_PORT_QOUT_q p)) x.qout) * (mAh : Nat)
    let sum := ((s.stringsOf p).filter s.strConn).foldl (fun a n => a + (s.str n).raw) 0
    let bad := decide (50 * (port - sum).natAbs > max port.natAbs sum.natAbs + 50 * 500 * mAh)
    let (ah, s) := s.roundOpen ((port - sum).natAbs : Int) (1000 * mAh)
    let s := s.setB (BUF_PORT_FLAGS_count_mismatch p) bad
    let s := if bad then s.declareFault 6 0 0x044 (portScope p) 0 (ah.toNat % 2 ^ 32) else s
    let s := s.each (s.stringsOf p) fun s n => s.setStr n fun x => { x with raw := 0 }
    s.setBport p fun x => { x with winAt := s.now, qin := s.f (BUF_PORT_QIN_q p), qout := s.f (BUF_PORT_QOUT_q p) }

/-- A string that T6 wants opened, and one that it may close (R248). -/
def State.strOpens (s : State) (n : Nat) : Bool := s.strConn n && (s.f (BUF_STR_STAT_auth n) == 3 || s.fb (BUF_STR_STAT_stale n))
def State.strCloses (s : State) (n : Nat) : Bool :=
  let v := s.fi (BUF_PORT_V_v (n / 4))
  !s.strConn n && (s.str n).loaded && s.f (BUF_STR_STAT_auth n) == 2 && !s.fb (BUF_STR_STAT_stale n) && decide (100 * (((s.str n).volts : Int) - v).natAbs ≤ v.natAbs)

/-- STRING_SW to T5. -/
def State.sendSwitch (s : State) (n : Nat) (close : Bool) : State :=
  s.bufSend 0x0581 (strPort n) false (n + if close then 256 else 0) fun r s => s.serve (.engine 6) (.queue 5 1) r fun s => s.stringSw r

/-- Strings are switched at zero port current, after a BUFFER_AVAIL of zeros. -/
def State.switchStrings (s : State) (p : Nat) : State :=
  let l := s.stringsOf p
  let opens := l.filter s.strOpens
  let closes := l.filter s.strCloses
  let limit := l.foldl (fun a n => a + (s.strCfg n).iRate) 0
  let zeroNow := decide ((s.fi (BUF_PORT_I_i p)).natAbs * 200 * 1000 ≤ limit * 2 ^ 18)
  let s := s.setBport p fun x => { x with zeroFrom := sinceWhen s.now zeroNow x.zeroFrom }
  if (opens.isEmpty ∧ closes.isEmpty) ∨ s.tripped (portScope p) then s.setBport p fun x => { x with switching := false }
  else if !(s.bport p).switching then (s.setBport p fun x => { x with switching := true, zeroFrom := none }).sendAvail p 0 0
  else if heldFor s.now 40000000 (s.bport p).zeroFrom then
    match opens, closes with
    | n :: _, _ => s.sendSwitch n false
    | [], n :: _ => s.sendSwitch n true
    | [], [] => s
  else s

/-- PORT_FLAGS. -/
def State.portFlags (s : State) (p : Nat) : State :=
  let b := fun (g : Nat → Bool) => bits ((List.range 4).map fun j => g (4 * p + j))
  s.setAll [(BUF_PORT_FLAGS_connected p, b fun n => (s.strCfg n).cRated != 0 && s.strConn n), (BUF_PORT_FLAGS_auth p, b fun n => s.f (BUF_STR_STAT_auth n) == 2),
    (BUF_PORT_FLAGS_empty p, b fun n => s.fb (BUF_STR_STAT_empty n)), (BUF_PORT_FLAGS_full p, b fun n => s.fb (BUF_STR_STAT_full n)),
    (BUF_PORT_FLAGS_learning p, b fun n => s.fb (BUF_STR_STAT_learning n))]

/-- Port p. -/
def State.portFrame (s : State) (p : Nat) : State :=
  if (s.stringsOf p).isEmpty then s else (((s.switchStrings p).portAvailFrame p).compareCounts p).portFlags p

/-- T6's buffer frame. -/
def State.bufferFrame (s : State) : State :=
  let s := s.each ((List.range 16).filter fun n => (s.strCfg n).cRated != 0) State.strFrame
  (s.each (List.range 4) State.portFrame).bufNvNext

/-! ## The ends of T5's and T6's NV operations (R126) -/

/-- The NV writer's completion, and what T5 and T6 do about the NV_DONE of their channels. -/
def State.nvEnded (s : State) (n : Nat) (resolve : Bool) : State :=
  let s := s.nvDone n resolve
  if n = 5 then s.coolNvEnd else if n = 6 then s.bufNvEnd else s

def execNvWriteDone (n : Fin 8) (s : State) : Out := s.onClock fun s => (s.nvEnded n false)
def execNvResolveDone (n : Fin 8) (s : State) : Out := s.onClock fun s => (s.nvEnded n true)

end Sys2Proof.Machine
end

