-- ==== Sys2Proof/Machine/Security.lean ====
section
/-!
DEFINITION. T7's service steps: sessions, authorisation, lifecycle transitions, images, debug levels (R404 to R422, R432), the freeze
(R423 to R427), and the event archive (R431).
-/
namespace Sys2Proof.Machine

/-! ## Events and details (R418, R432) -/

def State.secEvent (s : State) (cls num detail : Nat) : State := s.engineRecord 7 cls num deviceScope 0 detail

/-- A request above the permission: DEBUG_REFUSED with the level asked and the detail. -/
def State.debugRefused (s : State) (level detail : Nat) : State := s.secEvent 0 0x0E4 (level % 4 + detail * 256)

/-- REJECTED where the spec does not say with which of the details 0x40 to 0x4B (log 6). -/
def State.svcRejectOpen (s : State) (q : QId) (r : Req) : State := s.fresh.2.reject q r (0x40 + s.fresh.1 % 12)

/-! ## The session (R416, R417) -/

/-- Whether a boot failure leaves an opcode to the Warden ROM (R149): after code 3 image loads and the session that names their sender; after code 4
also what the unsealing path takes (R411, R413). -/
def State.failOpcode (s : State) (o : BitVec 16) : Bool :=
  let f := if s.mode.booted then 0 else s.f SEC_BOOT_STAT_fail
  if f = 3 then [0x0701, 0x0702, 0x0708, 0x0709].contains o.toNat
  else if f = 4 then [0x0701, 0x0702, 0x0703, 0x0704, 0x0708, 0x0709, 0x070A].contains o.toNat
  else true

/-- T7 runs and is not halted, nor stands in a boot failure that is final (R149): it serves its queues. -/
def State.t7Serves (s : State) : Bool :=
  s.fb (ENG_CTRL_run 7) && !s.fb (ENG_STATUS_halted 7) && (s.mode.booted || !([1, 2, 5].contains (s.f SEC_BOOT_STAT_fail)))

/-- The orig_id that the port adapter writes. -/
def State.portOrig (s : State) (r : Req) : Req :=
  { r with origId := BitVec.ofNat 16 (if r.opcode = 0x0701 then 0xF0FF else 0xF000 + s.f SEC_SVC_STAT_session) }

/-- The nonce is gone: every CHAL word is zero. -/
def State.dropNonce (s : State) : State := (s.setAll ((List.range 8).map fun j => (SEC_CHAL_nonce j, 0))).setSec fun x => { x with nonceAt := none }

/-- The session ends, with its authorised level, its granted level and its nonce; what SVC_STAT.session shows then is not stated. -/
def State.endSvc (s : State) : State :=
  if s.fb SEC_SVC_STAT_open then
    let (v, s) := (s.secEvent 7 0x0E0 (0xF000 + s.f SEC_SVC_STAT_session)).fresh
    (s.setAll [(SEC_SVC_STAT_open, 0), (SEC_SVC_STAT_authorised, 0), (SEC_DBG_STAT_granted, 0), (SEC_SVC_STAT_session, v)]).dropNonce
  else s

/-- T7 leaves SERVICE (R142, R146). -/
def State.leaveService (s : State) : State :=
  if s.devMode = modeService then s.syncCauses.writeMode (if s.syncCauses.anyCause then modeHold else modeIdle) else s

/-- The end of a session other than by its expiry ends SERVICE too (R142, R433). -/
def State.closeSession (s : State) : State :=
  let s := s.endSvc
  if s.t7Serves then s.leaveService else s

/-- Requests that the Warden ROM accepts in BLANK; DEBUG_LEVEL is judged by R420. -/
def blankOpcode (o : BitVec 16) : Bool := [0x0701, 0x0702, 0x0705, 0x070B, 0x070C].contains o.toNat

/-- A service request at Q3 and T7's step for it: the adapter has written orig_id; scope is the device. Nothing comes in while the clocks of the
fabric stand. -/
def State.svcServe (s : State) (sd : Sender) (q : QId) (r : Req) (f : State → QId → Req → State) : State :=
  if !s.clocked then s
  else
    let r := if sd = .service then s.portOrig r else r
    let s := if sd = .service then s.setSec fun x => { x with lastReq := s.now } else s
    if s.t7Serves then
      s.serve sd q r fun s =>
        if r.scope ≠ deviceScope then s.svcRejectOpen q r
        else if s.lifecycle = blank && !blankOpcode r.opcode then s.reject q r 0x44
        else if !s.failOpcode r.opcode then s.reject q r 0x44
        else f s q r
    else s.commit sd q r

/-- SVC_OPEN. -/
def State.svcOpen (s : State) (q : QId) (r : Req) : State :=
  if s.fb SEC_SVC_STAT_open then s.reject q r 0x44
  else
    let n := s.sec.sessions % 255
    let s := (s.setAll [(SEC_SVC_STAT_open, 1), (SEC_SVC_STAT_session, n), (SEC_SVC_STAT_authorised, 0)]).setSec fun x => { x with sessions := x.sessions + 1, lastReq := s.now }
    (s.secEvent 7 0x0E0 (0xF000 + n + 0x10000)).done q r (0xF000 + n)

/-- SVC_CLOSE. -/
def State.svcClose (s : State) (q : QId) (r : Req) : State := (s.done q r 0).closeSession

/-- A nonce is held and not 60 s old. -/
def State.nonceHeld (s : State) : Bool :=
  match s.sec.nonceAt with
  | some t => decide (s.now < t + 24000000000)
  | none => false

/-- A fresh nonce of 32 bytes. -/
def State.drawNonce (s : State) : State :=
  let (v, s) := s.fresh
  (s.setAll ((List.range 8).map fun j => (SEC_CHAL_nonce j, v / 2 ^ (32 * j)))).setSec fun x => { x with nonceAt := some s.now }

/-- CHALLENGE. -/
def State.challenge (s : State) (q : QId) (r : Req) : State :=
  if !s.fb SEC_SVC_STAT_open then s.reject q r 0x43
  else
    let k := r.payload.toNat % 4
    let s := if r.payload.toNat / 4 % 2 = 1 then s.drawNonce else s
    s.done q r (s.f (SEC_CHAL_nonce (2 * k)) + s.f (SEC_CHAL_nonce (2 * k + 1)) * 2 ^ 32)

/-! ## AUTHORISE (R408, R409) -/

/-- The indirect payload of a service request: its address is an offset of the staging buffer. -/
def State.staged (s : State) (r : Req) : List Byte := s.rdBytes (stagingKey r.indAddr) r.indLen

/-- Whether an indirect payload of n bytes lies in the staging buffer. -/
def inStaging (r : Req) (n : Nat) : Bool := r.indirect && r.indLen == n && decide (r.indAddr + n ≤ 4096)

/-- The message M for op and arg. -/
def State.authMessage (s : State) (op arg : Nat) : List Byte :=
  bytesOf 0x414E5645 4 ++ bytesOf op 1 ++ bytesOf arg 1 ++ bytesOf (0xF000 + s.f SEC_SVC_STAT_session) 2 ++
    ((List.range 8).flatMap fun j => bytesOf (s.f (SEC_CHAL_nonce j)) 4) ++
    ((List.range 8).flatMap fun j => bytesOf (s.f (SEC_KEY_HASH_hash 6 j)) 4) ++
    bytesOf (s.f SEC_EPOCH_epoch) 2 ++ bytesOf s.lifecycle 1 ++ bytesOf 0 1

/-- The operations that M can carry. -/
def authArg (op arg : Nat) : Bool := (op == 1 && decide (1 ≤ arg ∧ arg ≤ 3)) || (op == 5 && decide (arg ≤ 3)) || (decide (2 ≤ op ∧ op ≤ 4) && arg == 0)

/-- Whether the 132 bytes authorise: the key hashes to the fuse value of the op's key, and the signature verifies over M. -/
def State.authOk (s : State) (b : List Byte) : Bool :=
  let op := fieldAt b 0 1
  let key := (b.drop 4).take 64
  let slot := if op = 2 ∨ op = 3 then 1 else 0
  authArg op (fieldAt b 1 1) && (SMap.get [] s.vault.hashes slot == sha256 key) && signed key (s.authMessage op (fieldAt b 1 1)) (b.drop 68)

/-- A failed AUTHORISE counts; the third in a row starts the lockout of 600 s. -/
def State.authFailed (s : State) (q : QId) (r : Req) (op detail : Nat) : State :=
  let s := (s.addSat SEC_AUTH_STAT_fails 1).secEvent 0 0x0E2 (op + detail * 256)
  let s := if 3 ≤ s.f SEC_AUTH_STAT_fails then (s.sysEvent SEC_AUTH_STAT_lockout).setVault fun v => { v with lockTill := s.now + 240000000000 } else s
  s.reject q r detail

/-- The start of the running main image in the NOR (R148 step 6). -/
def State.runningImage (s : State) : Nat := if s.fb SEC_BOOT_STAT_image then norB else norA

/-- The conditions of R411 for ops 2 to 5; none where they hold, else the detail. -/
def State.transitionRefusal (s : State) (op arg : Nat) : Option Nat :=
  let lc := s.lifecycle
  let service := s.devMode == modeService
  let ok := match op with
    | 2 => lc == provisioned && service
    | 3 => lc == sealedState && (service || (s.devMode == modeBoot && s.f SEC_BOOT_STAT_fail == 4))
    | 4 => (lc == provisioned || lc == sealedState) && service
    | _ => (lc == provisioned || lc == sealedState) && service && s.rd (s.runningImage + 0x880) 4 != arg
  if !ok || !s.fb PWR_STATUS_hold_ready || s.fb PWR_STATUS_pfw || s.pwr.cause != 0 || s.sec.prog.isSome || s.sec.waiting.isSome then some 0x44
  else if (op = 2 ∧ 64 ≤ s.vault.seals) ∨ (op = 3 ∧ 63 ≤ s.vault.unseals) then some 0x49
  else none

/-- T7's final FLUSH (R352, R411). -/
def State.sendFinalFlush (s : State) : State :=
  let r : Req := ⟨8, 0x0409, BitVec.ofNat 32 s.sec.req, deviceScope, 0, 0, false, true, 1, 1⟩
  (s.setSec fun x => { x with req := (x.req + 1) % 2 ^ 32 }).t4Serve (.engine 7) r [8] 7 fun s => s.flushReq r

/-- A transition authorised: it waits for the final flush, or in a boot that failed with code 4 is programmed at once. -/
def State.beginTransition (s : State) (q : QId) (r : Req) (op arg : Nat) : State :=
  let s := (s.defer q r).setSec fun x => { x with waiting := some (r, op) }
  if s.devMode = modeBoot then s.lcGo op arg
  else (s.setSec fun x => { x with flushAt := some s.now }).sendFinalFlush

/-- A passed AUTHORISE. -/
def State.authPassed (s : State) (q : QId) (r : Req) (op arg : Nat) : State :=
  let s := ((s.setF SEC_AUTH_STAT_fails 0).secEvent 7 0x0E1 (op + arg * 256)).sysEvent SEC_AUTH_STAT_latch
  let s := s.setSec fun x => { x with latch := some (op, arg, s.now) }
  if op = 1 then (s.setF SEC_SVC_STAT_authorised arg).done q r arg
  else
    match s.transitionRefusal op arg with
    | some d => s.reject q r d
    | none => s.beginTransition q r op arg

/-- AUTHORISE. -/
def State.authorise (s : State) (q : QId) (r : Req) : State :=
  if s.fb SEC_AUTH_STAT_lockout then s.reject q r 0x46
  else if !s.fb SEC_SVC_STAT_open then s.reject q r 0x43
  else
    let b := s.staged r
    let op := fieldAt b 0 1
    if !inStaging r 132 then s.dropNonce.svcRejectOpen q r
    else if !s.nonceHeld then s.dropNonce.authFailed q r op 0x48
    else if s.authOk b then s.dropNonce.authPassed q r op (fieldAt b 1 1)
    else s.dropNonce.authFailed q r op 0x47

/-! ## Debug level, SERVICE (R417, R420, R421) -/

/-- A write of DBG_CTRL.grant: above the maximum stored as it; the level granted is the smallest of the three (R421). -/
def State.dbgGrant (s : State) (level : Nat) : State :=
  let g := min level (debugMax s.devMode)
  s.setAll [(SEC_DBG_CTRL_grant, g), (SEC_DBG_STAT_granted, if s.lifecycle = blank then g else min g (s.f SEC_SVC_STAT_authorised))]

def State.dbgRevoke (s : State) : State := s.setF SEC_DBG_STAT_granted 0

/-- DEBUG_LEVEL. -/
def State.debugLevelReq (s : State) (q : QId) (r : Req) : State :=
  let l := r.payload.toNat % 4
  if debugMax s.devMode < l then (s.debugRefused l 0x40).reject q r 0x40
  else if s.lifecycle = blank then s.reject q r 0x44
  else if s.f SEC_SVC_STAT_authorised = 0 ∨ !s.fb SEC_SVC_STAT_open then s.reject q r 0x43
  else if s.f SEC_SVC_STAT_authorised < l then (s.debugRefused l 0x41).reject q r 0x41
  else ((s.dbgGrant l).secEvent 7 0x0E3 l).done q r l

/-- SERVICE_MODE: entry from IDLE with no charging session open and no phase unit enabled (R142); leaving with the request done at the
mode write. -/
def State.serviceMode (s : State) (q : QId) (r : Req) : State :=
  if s.f SEC_SVC_STAT_authorised = 0 ∨ !s.fb SEC_SVC_STAT_open then s.reject q r 0x43
  else if s.fb PWR_STATUS_pfw ∨ s.pwr.cause ≠ 0 then s.reject q r 0x44
  else if r.payload.toNat % 2 = 1 then
    if s.devMode ≠ modeIdle ∨ s.syncCauses.anyCause ∨ s.phuAny ∨ (List.range 8).any (fun c => (s.ses c).step != 0) then s.reject q r 0x44
    else (s.writeMode modeService).done q r 0
  else if s.devMode ≠ modeService then s.reject q r 0x44
  else (s.done q r 0).leaveService

/-! ## Images (R413) -/

/-- IMAGE_WRITE and its like are permitted in SERVICE at D1, and in a boot that failed with code 3 or 4; none, or the detail. -/
def State.imageRefusal (s : State) : Option Nat :=
  if s.fb PWR_STATUS_pfw ∨ s.pwr.cause ≠ 0 then some 0x44
  else if s.devMode = modeBoot ∧ (s.f SEC_BOOT_STAT_fail = 3 ∨ s.f SEC_BOOT_STAT_fail = 4) then none
  else if s.devMode ≠ modeService then some 0x44
  else if s.f SEC_DBG_STAT_granted = 0 then some 0x43
  else none

/-- Staged bytes go to the NOR at base, which has room bytes. -/
def State.norWrite (s : State) (q : QId) (r : Req) (base room : Nat) : State :=
  let p := r.payload.toNat
  let n := 16 * (p / 2 ^ 40 % 256 + 1)
  let ofs := p % 2 ^ 32
  let st := p / 2 ^ 48 % 2 ^ 16
  if room < ofs + n ∨ 4096 < st + n then s.svcRejectOpen q r
  else (s.wrBytes (base + ofs) (s.rdBytes (stagingKey st) n)).done q r 0

/-- IMAGE_WRITE. -/
def State.imageWrite (s : State) (q : QId) (r : Req) : State :=
  match s.imageRefusal with
  | some d => s.reject q r d
  | none =>
    let k := r.payload.toNat / 2 ^ 32 % 2
    (s.setVault fun v => { v with ran := SMap.set 0 v.ran k 0 }).norWrite q r (if k = 1 then norB else norA) 0x1800000

/-- IMAGE_COMMIT. -/
def State.imageCommit (s : State) (q : QId) (r : Req) : State :=
  match s.imageRefusal with
  | some d => s.reject q r d
  | none =>
    let b := r.payload.toNat % 2 == 1
    let (ok, s) := s.verifyImage (if b then norB else norA) 1
    if ok then (s.setVault fun v => { v with preferB := b }).done q r 0 else s.reject q r 0x4A

/-- PLINTH_WRITE, and its commit. -/
def State.plinthWrite (s : State) (q : QId) (r : Req) : State :=
  if s.lifecycle ≠ provisioned then s.reject q r 0x44
  else
    match s.imageRefusal with
    | some d => s.reject q r d
    | none =>
      if r.payload.toNat % 2 ^ 32 = 0xFFFFFFFF then
        let (ok, s) := s.verifyImage norPlinth 2
        if ok then s.done q r 0 else s.reject q r 0x4A
      else s.norWrite q r norPlinth 0x1000000

/-! ## PROVISION, SEC_READ, KEY_READ -/

/-- PROVISION: in BLANK, waiting at step 6, with hold_ready and without PFW (R410, R411). -/
def State.provision (s : State) (q : QId) (r : Req) : State :=
  if s.lifecycle ≠ blank ∨ s.f SEC_BOOT_STAT_stage ≠ 6 ∨ !s.fb PWR_STATUS_hold_ready ∨ s.fb PWR_STATUS_pfw ∨ s.pwr.cause ≠ 0 ∨ s.sec.prog.isSome then s.reject q r 0x44
  else if !inStaging r 192 then s.svcRejectOpen q r
  else ((s.defer q r).setSec fun x => { x with hashes := s.staged r, waiting := some (r, 1) }).lcGo 1 0

/-- SEC offsets that SEC_READ returns. -/
def secReadable (o : Nat) : Bool :=
  [0x004, 0x008, 0x014, 0x01C, 0x020, 0x024].contains o || (decide (0x080 ≤ o ∧ o < 0x180) && o % 4 == 0)

/-- SEC_READ. -/
def State.secRead (s : State) (q : QId) (r : Req) : State :=
  let o := r.payload.toNat % 4096
  if secReadable o then s.done q r (s.regValue rowsSEC (SEC_MODE + o)) else s.svcRejectOpen q r

/-- Public key k: the meter key of the epoch in slot 7, else what the device data hold; free where only its hash is known. -/
def State.publicKey (s : State) (k : Nat) : List Byte × State :=
  if k = 7 then (SMap.get [] s.vault.meterKeys (s.f SEC_EPOCH_epoch), s)
  else if s.vault.hasKey k = 0 then ([], s)
  else
    let key := SMap.get [] s.maq.pubKeys k
    if key.isEmpty then (bytesOf s.fresh.1 64, s.fresh.2) else (key, s)

/-- KEY_READ; on Q1 from T0 only. -/
def State.keyRead (s : State) (q : QId) (r : Req) : State :=
  if q = .queue 7 1 ∧ r.origId ≠ 1 then s.reject q r 0x44
  else
    let p := r.payload.toNat
    let (key, s) := s.publicKey (p % 8)
    if key.isEmpty then s.reject q r 0x4B else s.done q r (leNat ((key.drop (8 * (p / 8 % 8))).take 8))

/-! ## Freeze (R423 to R427) -/

/-- The conditions of R423. -/
def State.mayFreeze (s : State) : Bool :=
  s.devMode == modeService && s.f SEC_DBG_STAT_granted == 3 && !s.fb PWR_STATUS_pfw && s.pwr.cause == 0 && s.sec.prog.isNone && s.f SEC_FREEZE_STAT_state == 0

/-- Steps 1 and 2 of the freeze entry, and what step 3 asks of T4. -/
def State.freezeGo (s : State) : State :=
  if s.mayFreeze then
    let s := (s.setEvent SEC_FREEZE_STAT_state 7 siteScope [0, 1, 2, 3, 4, 5, 6, 7]).addSat SEC_FREEZE_STAT_freezes 1
    let s := s.setSec fun x => { x with goAt := s.now, step4At := none }
    (((s.parkAll 6).releaseCoils).lsHold).askFlush ⟨3, false⟩
  else s

/-- FREEZE. -/
def State.freezeReq (s : State) (q : QId) (r : Req) : State :=
  if s.mayFreeze then ((s.defer q r).setSec fun x => { x with freezeReq := some r }).freezeGo else s.reject q r 0x44

/-- The waiting FREEZE completes with pause_ok. -/
def State.endFreezeReq (s : State) (ok : Bool) : State :=
  match s.sec.freezeReq with
  | none => s
  | some r =>
    (s.setSec fun x => { x with freezeReq := none }).finishServing svcQ (fun y => y.origId == r.origId && y.reqId == r.reqId) 1 0 (if ok then 1 else 0)

/-- Step 4: the event, LPDDR4X asleep, DT captured, the request done, every core halted. -/
def State.freezeStep4 (s : State) (ok : Bool) : State :=
  let s := (s.secEvent 7 0x0E6 (if ok then 1 else 0)).setAll [(SEC_FREEZE_DT_LO_dt, s.dtNs), (SEC_FREEZE_DT_HI_dt, s.dtNs / 2 ^ 32)]
  let s := ((s.setPwr fun p => { p with dramAsleep := true }).endFreezeReq ok).setSec fun x => { x with step4At := some s.now }
  s.each (List.range 8) fun s e => s.setF (ENG_STATUS_halted e) 1

/-- Step 3 is awaited. -/
def State.freezeEntering (s : State) : Bool := s.f SEC_FREEZE_STAT_state == 1 && s.sec.step4At.isNone

/-- T4's write of pause_ok: its bit posts, and reads zero. -/
def State.pauseOk (s : State) : State := if s.freezeEntering then ((s.sysEvent SEC_FREEZE_STAT_pause_ok).setF SEC_FREEZE_STAT_pause_ok 0).freezeStep4 true else s

def execFreezeGo (w : Fin 8) (s : State) : Out := .next (s.guarded w 7 SEC_FREEZE_CTRL s.freezeGo)

/-- PAUSE_OK: T4's write; T7 writes the register too, and its bit there is ignored (R438). -/
def execPauseOk (w : Fin 8) (s : State) : Out := .next (if w = 4 then s.pauseOk else if w = 7 then s else s.accessRecord 7 w SEC_FREEZE_STAT)

def execPauseTimeout (s : State) : Out :=
  .next (if s.freezeEntering && decide (s.sec.goAt + 2000000 ≤ s.now) then (s.sysEvent SEC_FREEZE_STAT_pause_missing).freezeStep4 false else s)

/-- Step 5: on a common edge of the derived clocks, every 200 ns from the epoch, 200 ns or more after step 4, every divider stops, so no record of the new state is written. -/
def execFreezeDividersStop (s : State) : Out :=
  .next (match s.sec.step4At with
    | some t => if s.f SEC_FREEZE_STAT_state = 1 ∧ t + 80 ≤ s.now ∧ (s.now - s.epoch) % 80 = 0 then s.setF SEC_FREEZE_STAT_state 2 else s
    | none => s)

/-- FREEZE_LIMIT: limit minutes from the go. -/
def execFreezeLimit (s : State) : Out :=
  .next (if s.f SEC_FREEZE_STAT_state ≠ 0 ∧ s.sec.goAt + 24000000000 * s.f SEC_FREEZE_CTRL_limit ≤ s.now then s.warmReset 5 else s)

/-- THAW. -/
def execThaw (s : State) : Out := .next (if s.f SEC_FREEZE_STAT_state ≠ 0 then s.warmReset 5 else s)

/-! ## Rows of the service requests -/

def execSvcOpen (sd : Sender) (r : Req) (s : State) : Out := .next (s.svcServe sd svcQ r State.svcOpen)
def execSvcClose (sd : Sender) (r : Req) (s : State) : Out := .next (s.svcServe sd svcQ r State.svcClose)
def execChallenge (sd : Sender) (r : Req) (s : State) : Out := .next (s.svcServe sd svcQ r State.challenge)
def execAuthorise (sd : Sender) (r : Req) (s : State) : Out := .next (s.svcServe sd svcQ r State.authorise)
def execDebugLevel (sd : Sender) (r : Req) (s : State) : Out := .next (s.svcServe sd svcQ r State.debugLevelReq)
def execServiceMode (sd : Sender) (r : Req) (s : State) : Out := .next (s.svcServe sd svcQ r State.serviceMode)
def execFreeze (sd : Sender) (r : Req) (s : State) : Out := .next (s.svcServe sd svcQ r State.freezeReq)
def execImageWrite (sd : Sender) (r : Req) (s : State) : Out := .next (s.svcServe sd svcQ r State.imageWrite)
def execImageCommit (sd : Sender) (r : Req) (s : State) : Out := .next (s.svcServe sd svcQ r State.imageCommit)
def execPlinthWrite (sd : Sender) (r : Req) (s : State) : Out := .next (s.svcServe sd svcQ r State.plinthWrite)
def execProvision (sd : Sender) (r : Req) (s : State) : Out := .next (s.svcServe sd svcQ r State.provision)
def execSecRead (sd : Sender) (r : Req) (s : State) : Out := .next (s.svcServe sd svcQ r State.secRead)

/-- The queue of a KEY_READ: the port's, or Q1 from an engine. -/
def keyQ : Sender → QId
  | .engine _ => .queue 7 1
  | _ => svcQ

def execKeyRead (sd : Sender) (r : Req) (s : State) : Out := .next (s.svcServe sd (keyQ sd) r State.keyRead)

/-- The step of T7 for the service opcode of a request record; an unknown opcode is REJECTED. -/
def State.svcStep (s : State) (q : QId) (r : Req) : State :=
  match r.opcode.toNat with
  | 0x0701 => s.svcOpen q r
  | 0x0702 => s.svcClose q r
  | 0x0703 => s.challenge q r
  | 0x0704 => s.authorise q r
  | 0x0705 => s.debugLevelReq q r
  | 0x0706 => s.serviceMode q r
  | 0x0707 => s.freezeReq q r
  | 0x0708 => s.imageWrite q r
  | 0x0709 => s.imageCommit q r
  | 0x070A => s.plinthWrite q r
  | 0x070B => s.provision q r
  | 0x070C => s.secRead q r
  | 0x070D => s.keyRead q r
  | _ => s.svcRejectOpen q r

/-! ## Register writes and timeouts (R408 to R416, R421) -/

def execFuseProgram (w : Fin 8) (prog : BitVec 3) (key : BitVec 2) (s : State) : Out := .next (s.guarded w 7 SEC_LC_CTRL (s.lcGo prog.toNat key.toNat))

/-- FUSE_PROGRAM_DONE: the fuses are blown; the event shows what they read as; the request of the transition completes before the reset. -/
def State.fuseDone (s : State) : State :=
  match s.sec.prog with
  | none => s
  | some (op, key) =>
    let s := ((s.blow op key).setF SEC_LC_CTRL_status 2).setSec fun x => { x with prog := none, resetDue := true }
    (s.secEvent 7 0x0E5 (s.vault.lifecycle + s.vault.epoch * 65536)).endWaiting 1 0 0

def execFuseProgramDone (s : State) : Out := .next s.fuseDone

/-- ROLLBACK.raise_main: the main counter rises to the running image's value, at most 255. -/
def State.raiseMain (s : State) : State :=
  let v := min 255 (s.rd (s.runningImage + 0x10) 4)
  if s.vault.mainCount < v then
    let s := (s.setVault fun x => { x with mainCount := v }).setF SEC_ROLLBACK_main v
    s.secEvent 7 0x0E8 (v + s.f SEC_ROLLBACK_plinth * 256)
  else s

def execRollbackRaise (w : Fin 8) (s : State) : Out := .next (s.guarded w 7 SEC_ROLLBACK s.raiseMain)
def execDbgGrant (w : Fin 8) (level : BitVec 2) (s : State) : Out := .next (s.guarded w 7 SEC_DBG_CTRL (s.dbgGrant level.toNat))
def execDbgRevoke (w : Fin 8) (s : State) : Out := .next (s.guarded w 7 SEC_DBG_CTRL s.dbgRevoke)

def execNonceExpiry (s : State) : Out :=
  .next (match s.sec.nonceAt with
    | some t => if t + 24000000000 ≤ s.now then s.dropNonce else s
    | none => s)

/-- AUTH_LATCH_EXPIRY: a transition that has not been programmed by then is REJECTED. -/
def execAuthLatchExpiry (s : State) : Out :=
  .next (match s.sec.latch with
    | some (_, _, t) =>
      if t + 4000000 ≤ s.now then
        let s := (s.setF SEC_AUTH_STAT_latch 0).setSec fun x => { x with latch := none }
        if s.sec.prog.isSome then s else s.endWaiting 2 0x45 0
      else s
    | none => s)

def execLockoutEnd (s : State) : Out :=
  .next (if s.fb SEC_AUTH_STAT_lockout && decide (s.vault.lockTill ≤ s.now) then (s.setF SEC_AUTH_STAT_lockout 0).setVault fun v => { v with lockTill := 0 } else s)

/-- The expiry of a session: the mode stays (R433). -/
def execSessionIdleTimeout (s : State) : Out :=
  .next (if s.fb SEC_SVC_STAT_open && decide (s.sec.lastReq + 240000000000 ≤ s.now) then s.endSvc else s)

def execTrst (s : State) : Out := .next s.closeSession

/-! ## The event archive (R431) -/

def State.setArch (s : State) (f : ArchInt → ArchInt) : State := s.setSec fun x => { x with arch := f x.arch }

/-- The bytes of an archive block with the crc field at a value; the room behind the last record is not stated (log 6). -/
def archBytes (crc bseq base : Nat) (recs : List (Nat × Nat)) (rest : Nat) : List Byte :=
  bytesOf 0x454E5645 4 ++ bytesOf crc 4 ++ bytesOf bseq 8 ++ bytesOf base 8 ++ bytesOf recs.length 2 ++ bytesOf 0 38 ++
    recs.flatMap (fun r => bytesOf r.1 8 ++ bytesOf r.2 8) ++ bytesOf rest (16 * (252 - recs.length))

/-- Where BT1 is free, T7 writes the oldest sealed block through it to the next block of the ring. -/
def State.archSend (s : State) : State :=
  match s.sec.arch.sealed with
  | [] => s
  | (recs, bseq, base) :: _ =>
    if s.sec.arch.busy ∨ s.f (NET_BT_STATUS_state 1) = 1 then s
    else
      let (v, s) := s.fresh
      let crc := crc32 (archBytes 0 bseq base recs v)
      let s := s.wrBytes s.maq.archBuf (archBytes crc bseq base recs v)
      let s := s.setAll [(NET_BT_LBA_lba 1, 8 * s.f SEC_ARCH_STAT_next), (NET_BT_DRAM_LO_addr 1, s.maq.archBuf), (NET_BT_DRAM_HI_addr 1, s.maq.archBuf / 2 ^ 32),
        (NET_BT_CTRL_dir 1, 1), (NET_BT_CTRL_count_m1 1, 7)]
      (s.btGo 1).setArch fun a => { a with busy := true }

def State.archLag (s : State) : State := s.setF SEC_ARCH_STAT_lag (min 255 s.sec.arch.sealed.length)

/-- Seal the open block. -/
def State.archSeal (s : State) : State :=
  match s.sec.arch.openAt with
  | none => s
  | some base =>
    ((s.setArch fun a => { a with sealed := a.sealed ++ [(a.recs, a.bseq, base)], recs := [], openAt := none, bseq := a.bseq + 1 }).archLag).archSend

/-- An event after which the block is sealed at once: TAMPER, AUTH_FAIL, LIFECYCLE or FREEZE of T7. -/
def sealsAtOnce (word : Nat) : Bool := word / 2 ^ 57 % 8 == 7 && [0x0E7, 0x0E2, 0x0E5, 0x0E6].contains (word / 2 ^ 48 % 512)

/-- The next entry of T7's ring goes into the open block. -/
def State.archOne (s : State) : State :=
  let a := 0x1001E000 + 16 * s.sec.arch.ring
  let w := s.rd (sramKey 7 a) 8
  let arg := if w / 2 ^ 63 = 1 then s.rd (sramKey 7 (a + 8)) 8 else 0
  let s := s.setArch fun x => { x with ring := (x.ring + 1) % 256, recs := x.recs ++ [(w, arg)], openAt := some (x.openAt.getD s.dtNs), openedAt := if x.openAt.isNone then s.now else x.openedAt }
  if 252 ≤ s.sec.arch.recs.length ∨ sealsAtOnce w then s.archSeal else s

/-- A block open for 10 s is sealed. -/
def State.archAge (s : State) : State :=
  if s.sec.arch.openAt.isSome ∧ s.sec.arch.openedAt + 4000000000 ≤ s.now then s.archSeal else s

/-- T7 writes the real-time clock from DT after each step, and every 10 min (R378). -/
def State.rtcFrame (s : State) : State :=
  if s.net.rtcDue ∨ s.net.rtcAt + 240000000000 ≤ s.now then
    ({ s with net := { s.net with rtcDue := false, rtcAt := s.now } }.writeRtcSub (s.dtNs % 1000000000 * 32768 / 1000000000)).writeRtcSec (s.dtNs / 1000000000)
  else s

/-- T7's archive frame: the real-time clock, then what its ring holds since the last time. -/
def State.archiveFrame (s : State) : State :=
  let s := s.rtcFrame
  if s.fb SEC_ARCH_CTRL_en then
    let n := (s.f (ENG_QUEUE_STAT_event_idx 7) + 256 - s.sec.arch.ring) % 256
    ((s.each (List.range n) fun s _ => s.archOne).archAge).archSend
  else s

def execArchSealNow (w : Fin 8) (s : State) : Out := .next (s.guarded w 7 SEC_ARCH_CTRL s.archSeal)

/-- BT_DONE of BT1: a block has reached the archive window; the next sealed one follows. -/
def State.archDone (s : State) (good : Bool) : State :=
  if s.sec.arch.busy then
    let s := s.setArch fun a => { a with busy := false, sealed := if good then a.sealed.drop 1 else a.sealed }
    let next := s.f SEC_ARCH_STAT_next + 1
    let s := if !good then s
      else if s.f (NET_BT_WIN_SIZE_blocks 1) / 8 ≤ next then s.setAll [(SEC_ARCH_STAT_next, 0), (SEC_ARCH_STAT_wrapped, 1)]
      else s.setF SEC_ARCH_STAT_next next
    s.archLag.archSend
  else s

/-- PFW: the open block is abandoned. -/
def State.archPfw (s : State) : State := s.setArch fun a => { a with recs := [], openAt := none, busy := false }

def execBtDone (b : Fin 2) (good : Bool) (retries : Nat) (s : State) : Out :=
  s.onClock fun s => (if s.f (NET_BT_STATUS_state b) = 1 then
      let s := s.btDone b good retries
      if b.val = 0 then s.histDone good else s.archDone good
    else s)

end Sys2Proof.Machine
end

