-- ==== Sys2Proof/Machine/RegWrite.lean ====
section
/-!
DEFINITION. Writing a register: who may (R17, R437, R438), what a field's type makes of it (R9), and the registers with behaviour of their own.
Also the halt of an engine (R89, R419 to R422).
-/
namespace Sys2Proof.Machine

/-! ## Halting an engine (R419 to R422) -/

/-- What forbids a halt or step of engine e: none, or the detail. -/
def State.haltRefusal (s : State) (e : Nat) : Option Nat :=
  if s.debugLevel < 2 then some 0x41 else if e = 4 ∧ s.lifecycle = sealedState then some 0x42 else none

/-- A halt or a step in SERVICE is recorded: leaving SERVICE is then a reset (R422). -/
def State.haltedInService (s : State) : State :=
  if s.devMode = modeService then { s.setF SEC_DBG_STAT_halted_since 1 with mode := { s.mode with svcHalt := true } } else s

/-- Engine e halts. -/
def State.haltEngine (s : State) (e : Nat) : State := (s.setF (ENG_STATUS_halted e) 1).haltedInService

/-- A write of ENG[e].CTRL.halt_req. A double trap is left by a restart only. -/
def State.haltReq (s : State) (e : Nat) (v : Bool) : State :=
  match s.haltRefusal e with
  | some d => s.debugRefused 2 d
  | none =>
    let s := s.setB (ENG_CTRL_halt_req e) v
    if v then (if s.fb (ENG_CTRL_run e) then s.haltEngine e else s)
    else if s.debugHalted e then (s.setF (ENG_STATUS_halted e) 0).settle e else s

def execHaltReq (e : Fin 8) (v : Bool) (s : State) : Out := .next (s.haltReq e v)

/-- BRK (R89). -/
def State.brk (s : State) (e : Nat) : State :=
  if (s.haltRefusal e).isSome then s.trapFree e 0x01
  else
    let n := s.eng e
    let s := (s.setAll [(ENG_TRAP_CAUSE_cause e, 0x08), (ENG_TRAP_CAUSE_ctx e, n.ctx)]).addSat (ENG_TRAP_CAUSE_count e) 1
    (s.setF (ENG_TRAP_PC_pc e) n.pc.toNat).haltEngine e

def execBrk (e : Fin 8) (s : State) : Out := s.instr e (s.brk e)

/-! ## Rights (R437, R438) -/

/-- The engine in charge of a register whose writers are wr, for instance i. -/
def State.inCharge (s : State) (wr : Wr) (i : Nat) : Nat :=
  match wr with
  | .nobody | .t7 | .engCtrl | .engSlot | .freeze => 7
  | .t0 => 0
  | .t1 => 1
  | .t4 | .t4Locked => 4
  | .t5 => 5
  | .t6 => 6
  | .nvw => nvEng i
  | .lane => laneEng i
  | .phu => phuEng i
  | .lead => s.connEng i
  | .coil => s.coilEng i
  | .portLead => s.portEng i
  | .lsw => s.lswEng
  | .eth => ethEng i
  | .dt => s.dtEng
  | .bt => btEng i

/-- Whether engine w may write any field of such a register. -/
def State.mayWrite (s : State) (wr : Wr) (i w : Nat) : Bool :=
  match wr with
  | .nobody => false
  | .engCtrl | .engSlot => w == 7 || w == i
  | .freeze => w == 7 || w == 4
  | .portLead => s.leadOf (8 + i) != 0 && w == s.portEng i
  | wr => w == s.inCharge wr i

/-! ## What a write does to fields (R9) -/

/-- One field: RW takes its bits, W1C is cleared where a 1 is written to any of its bits, RO and WO store nothing. -/
def State.putFld (s : State) (v : Nat) (x : Acc × Keep × Fld) : State :=
  let b := v / 2 ^ x.2.2.lo % 2 ^ x.2.2.w
  match x.1 with
  | .rw => s.setF x.2.2 b
  | .w1c => if b = 0 then s else s.setF x.2.2 0
  | .ro | .wo => s

/-- Every field of a register. -/
def State.putFields (s : State) (l : List (Acc × Keep × Fld)) (v : Nat) : State := l.foldl (fun s x => s.putFld v x) s

/-- Bit k of a value. -/
def bitOf (v k : Nat) : Bool := v / 2 ^ k % 2 == 1

/-! ## Registers with behaviour of their own -/

/-- ENG[e].CTRL by engine e: kick and q_en. -/
def State.writeEngOwn (s : State) (e : Fin 8) (v : Nat) : State :=
  let s := ([0, 1, 2, 3] : List (Fin 4)).foldl (fun (s : State) (q : Fin 4) => if bitOf v (16 + q.val) then s.enableQueue e q else s.disableQueue e q) s
  s.each (List.range 8) fun s k => if bitOf v (8 + k) then s.kick e k else s

/-- ENG[e].CTRL by T7. -/
def State.writeEngCtrl (s : State) (e : Fin 8) (v : Nat) : State :=
  let s := s.writeEngOwn e v
  let s := if bitOf v 0 == s.fb (ENG_CTRL_run e) then s else s.runWrite e (bitOf v 0)
  let s := if bitOf v 2 == s.fb (ENG_CTRL_halt_req e) then s else s.haltReq e (bitOf v 2)
  let s := if bitOf v 3 then s.setEng e { s.eng e with stepDue := true } else s
  if bitOf v 1 then s.engineRestart e else s

/-- QUEUE_STAT: a cleared overflow bit starts its count anew (R58). -/
def State.writeQueueStat (s : State) (e v : Nat) : State :=
  let s := if bitOf v 16 then (s.setF (ENG_QUEUE_STAT_result_ovf e) 0).setEng e { s.eng e with resultWrites := 0 } else s
  if bitOf v 17 then (s.setF (ENG_QUEUE_STAT_event_ovf e) 0).setEng e { s.eng e with eventWrites := 0 } else s

/-- The ENG block. -/
def State.putEng (s : State) (w a v : Nat) (l : List (Acc × Keep × Fld)) : State :=
  let e : Fin 8 := Fin.ofNat 8 (a % 0x10000 / 0x80)
  let o := a % 0x80
  if o = 0 then (if w = 7 then s.writeEngCtrl e v else s.writeEngOwn e v)
  else if o = 0x18 then s.writeQueueStat e v
  else if 0x40 ≤ o ∧ o < 0x60 then s.writeSlotCfg e ((o - 0x40) / 4) v
  else if 0x60 ≤ o then s.writeSlotPeriod e ((o - 0x60) / 4) v
  else s.putFields l v

/-- The CLK block. -/
def State.putClk (s : State) (a v : Nat) (l : List (Acc × Keep × Fld)) : State :=
  if a = CLK_CTRL then s.writeClkCtrl v
  else if a = CLK_SLEW_CFG then s.writeSlew v
  else if a = CLK_PPS_CFG then s.writePpsCfg v
  else if CLK_CKO_CFG 0 ≤ a ∧ a < CLK_CKO_CFG 8 then s.writeCkoCfg ((a - CLK_CKO_CFG 0) / 4) v
  else if CLK_CKO_DIV 0 ≤ a ∧ a < CLK_CKO_DIV 8 then s.writeCkoDiv ((a - CLK_CKO_DIV 0) / 4) v
  else s.putFields l v

/-- The standby-feed test that a written selftest_now starts; the current and the resistance that it measures are free (log 6). -/
def State.feedTestOpen (s : State) : State :=
  let (rev, s) := s.fresh
  let (path, s) := s.fresh
  s.feedTest rev path false

/-- The PWR block. -/
def State.putPwr (s : State) (a v : Nat) (l : List (Acc × Keep × Fld)) : State :=
  if a = PWR_CTRL then (if bitOf v 3 then (s.putFields l v).feedTestOpen else s.putFields l v)
  else if a = PWR_FEED_CFG then (s.putFields l v).setF PWR_FEED_CFG_r_path_max (max 10 (min 100 (v % 256)))
  else if a = PWR_RTC_SUB then s.writeRtcSub v
  else if a = PWR_RTC_SEC then s.writeRtcSec v
  else if a = PWR_HK_CFG then s.writeHkCfg v
  else if PWR_NVW_SRC 0 ≤ a ∧ a < PWR_NVW_SRC 8 then s.putFields l (v / 8 * 8)
  else if PWR_NVW_CTRL 0 ≤ a ∧ a < PWR_NVW_CTRL 8 then s.writeNvwCtrl ((a - PWR_NVW_CTRL 0) / 4) v
  else s.putFields l v

/-- The SEC block. -/
def State.putSec (s : State) (w a v : Nat) (l : List (Acc × Keep × Fld)) : State :=
  if a = SEC_MODE then s.writeMode v
  else if a = SEC_ESTOP then (if bitOf v 4 then (s.putFields l v).rearm else s.putFields l v)
  else if a = SEC_RESET_CTRL then (if bitOf v 0 then s.warmReset 3 else s)
  else if a = SEC_LC_CTRL then (if bitOf v 5 then s.lcGo (v % 8) (v / 8 % 4) else s.putFields l v)
  else if a = SEC_ROLLBACK then (if bitOf v 16 then s.raiseMain else s)
  else if a = SEC_DBG_CTRL then (if bitOf v 2 then (s.dbgGrant (v % 4)).dbgRevoke else s.dbgGrant (v % 4))
  else if a = SEC_FREEZE_CTRL then
    let s := s.setF SEC_FREEZE_CTRL_limit (max 1 (v / 256 % 256))
    if bitOf v 0 then s.freezeGo else s
  else if a = SEC_FREEZE_STAT then (if w = 4 then (if bitOf v 2 then s.pauseOk else s) else s.putFields l v)
  else if a = SEC_ARCH_CTRL then (if bitOf v 1 then (s.putFields l v).archSeal else s.putFields l v)
  else s.putFields l v

/-- The PHU block. -/
def State.putPhu (s : State) (a v : Nat) (l : List (Acc × Keep × Fld)) : State :=
  let n := a % 0x10000 / 0x40
  if a = PHU_CTRL n then s.writePhuCtrl n v
  else if a = PHU_IREF n then s.writeIref n v
  else if a = PHU_TON_BASE n then s.writeTonBase n v
  else if a = PHU_RIPPLE n then s.writeRipple n v
  else if a = PHU_PLEAT n then s.writePleat n v
  else if a = PHU_SHARE n then s.writeShare n v
  else s.putFields l v

/-- The LANE block. -/
def State.putLane (s : State) (a v : Nat) (l : List (Acc × Keep × Fld)) : State :=
  let n := a % 0x10000 / 0x40
  if a = LANE_CTRL n then s.writeLaneCtrl n v else if a = LANE_TRAIN n then s.writeLaneTrain n v else s.putFields l v

/-- The CONN block. -/
def State.putConn (s : State) (a v : Nat) (l : List (Acc × Keep × Fld)) : State :=
  let c := a % 0x10000 / 0x100
  match a % 0x100 with
  | 0x00 => s.writeConnCtrl c v
  | 0x0C => s.writeVset c v
  | 0x10 => s.writeVslew c v
  | 0x14 => s.writeIset c v
  | 0x18 => s.writeIslew c v
  | 0x24 => s.writeIlim c v
  | 0x28 => s.writeIlimRev c v
  | 0x50 => s.writeImd c v
  | _ => s.putFields l v

/-- The MTX block: a coil keeps its output over the switch-over gap. -/
def State.putMtx (s : State) (w a v : Nat) (l : List (Acc × Keep × Fld)) : State :=
  if a < MTX_COIL_STAT 0 then s.gapWrite w a v (fun s => s.writeCoil ((a - MTX_COIL_CMD 0) / 4) v)
  else if MTX_PORT_LIM 0 ≤ a ∧ a < MTX_PORT_ENF 0 then s.writePortLim ((a - MTX_PORT_LIM 0) / 4) v
  else s.putFields l v

/-- The BUF, SESS and COOL blocks. -/
def State.putBuf (s : State) (a v : Nat) (l : List (Acc × Keep × Fld)) : State :=
  let p := a % 0x10000 / 0x20
  if p < 4 ∧ a = BUF_PORT_CTRL p then s.writePortCtrl p v else s.putFields l v
def State.putSess (s : State) (a v : Nat) (l : List (Acc × Keep × Fld)) : State :=
  let c := a % 0x10000 / 0x40
  if a = SESS_CTRL c then s.writeSessCtrl c v
  else if a = SESS_LOCK_CFG c then (s.putFields l v).setF (SESS_LOCK_CFG_pulse c) (max 1 (v / 2 ^ 18 % 256))
  else s.putFields l v
def State.putCool (s : State) (a v : Nat) (l : List (Acc × Keep × Fld)) : State :=
  if (List.range 8).any (fun j => a == COOL_AO j) then s.gapWrite 5 a v fun s => s.putFields l (min 40000 (v % 65536) + v / 65536 * 65536)
  else if (List.range 8).any (fun c => a == COOL_CT_CFG c) then s.putFields l (if 5 ≤ v % 8 then v - v % 8 else v)
  else s.putFields l v

/-- The LSW block: hold mode closes CTRL, CFG, GROUP_CFG and SENSE_SEL; a channel keeps its output over the switch-over gap. -/
def State.putLsw (s : State) (w a v : Nat) (l : List (Acc × Keep × Fld)) : State :=
  let held := s.fb LSW_HOLD_STAT_hold
  let o := a % 0x10000
  if a = LSW_HOLD_STAT then (if bitOf v 1 then (s.putFields l v).lsAdopt else s.putFields l v)
  else if o < 0x400 then
    (match o % 0x20 with
     | 0x00 => if held then s else s.gapWrite w a v fun s => s.writeLsCtrl (o / 0x20) v
     | 0x04 => if held then s else s.putFields l v
     | _ => s.putFields l v)
  else if o < 0x410 ∨ a = LSW_SENSE_SEL then (if held then s else s.putFields l v)
  else s.putFields l v

/-- The MET block. -/
def State.putMet (s : State) (wr : Wr) (a v : Nat) (l : List (Acc × Keep × Fld)) : State :=
  if a = MET_CTRL then s.writeMetCtrl v
  else if a = MET_SEG_DATA then s.segWrite v
  else if MET_MEN 0 ≤ a ∧ a < MET_MEN 8 then s.writeMen ((a - MET_MEN 0) / 4) v
  else if MET_MCK_CFG 0 ≤ a ∧ a < MET_MCK_CFG 6 then
    s.lockedWrite ((s.putFields l v).setF (MET_MCK_CFG_cap_dly ((a - MET_MCK_CFG 0) / 4)) (min 19 (v / 4 % 32)))
  else if MET_EL_SEG 0 ≤ a ∧ a < MET_EL_SEG 22 then s.lockedWrite ((s.putFields l v).setF (MET_EL_SEG_points ((a - MET_EL_SEG 0) / 4)) (min 8 (v % 16)))
  else if wr = .t4Locked then s.lockedWrite (s.putFields l v)
  else s.putFields l v

/-- The ring whose index register lies at an address of NET or PLC. -/
def ringAt (a : Nat) : Option (RingUnit × Bool) :=
  let l : List RingUnit := ([0, 1, 2, 3, 4, 5] : List (Fin 6)).map RingUnit.eth ++ ([0, 1, 2, 3] : List (Fin 4)).map RingUnit.uart ++ [.plc]
  (l.flatMap fun u => [(u, false), (u, true)]).find? fun x => ringIdx x.2 x.1 == a

/-- The NET block. -/
def State.putNet (s : State) (a v : Nat) (l : List (Acc × Keep × Fld)) : State :=
  match ringAt a with
  | some (u, tx) => s.writeRingIdx u tx v
  | none =>
    match (List.range 6).find? fun n => a == NET_ETH_CTRL n with
    | some n => s.writeEthCtrl n v
    | none =>
      match (List.range 4).find? fun u => a == NET_U_CTRL u with
      | some u => s.writeUartCtrl u v
      | none =>
        if a = NET_PTP_RATE 0 then s.writePhcRate 0 v
        else if a = NET_PTP_RATE 1 then s.writePhcRate 1 v
        else if a = NET_PTP_STEP 0 1 then s.writePhcStep 0 v
        else if a = NET_PTP_STEP 1 1 then s.writePhcStep 1 v
        else if a = NET_DT_STEP 1 then s.writeDtStep v
        else if a = NET_DT_SLEW then s.writeDtSlew v
        else if a = NET_BT_CTRL 0 then s.writeBtCtrl 0 v
        else if a = NET_BT_CTRL 1 then s.writeBtCtrl 1 v
        else s.putFields l v

/-- The CAN block: timing and bases keep their values while en is 1. -/
def State.putCan (s : State) (a v : Nat) (l : List (Acc × Keep × Fld)) : State :=
  let n := a % 0x10000 / 0x60
  if a = CAN_CTRL n then s.writeCanCtrl n v false
  else if a = CAN_TX_IDX n then s.canCommit n (v % 64)
  else if a = CAN_RX_BASE_LO n ∨ a = CAN_TX_BASE_LO n then (if s.fb (CAN_CTRL_en n) then s else s.putFields l (v / 4096 * 4096))
  else if a = CAN_NBT n ∨ a = CAN_DBT n ∨ a = CAN_TDC n ∨ a = CAN_RX_BASE_HI n ∨ a = CAN_TX_BASE_HI n then (if s.fb (CAN_CTRL_en n) then s else s.putFields l v)
  else s.putFields l v

/-- The bits of TONE_MASK[j] that name groups up to 354. -/
def toneBits (j v : Nat) : Nat := if j < 11 then v else if j = 11 then v % 8 else 0

/-- The PLC block. -/
def State.putPlc (s : State) (a v : Nat) (l : List (Acc × Keep × Fld)) : State :=
  match ringAt a with
  | some (u, tx) => s.writeRingIdx u tx v
  | none =>
    if a = PLC_CTRL then s.writePlcCtrl v
    else if a = PLC_CFG then s.writePlcCfg v
    else if a = PLC_TMAP_LO then s.putFields l (v / 64 * 64)
    else if PLC_TONE_MASK 0 ≤ a ∧ a < PLC_TONE_MASK 16 then s.putFields l (toneBits ((a - PLC_TONE_MASK 0) / 4) v)
    else s.putFields l v

/-- The write of v by engine w to the register at a, whose fields are l and whose writers are wr. -/
def State.putReg (s : State) (w a v : Nat) (wr : Wr) (l : List (Acc × Keep × Fld)) : State :=
  match a / 0x10000 with
  | 0x4000 => s.putEng w a v l
  | 0x4001 => s.putClk a v l
  | 0x4002 => s.putPwr a v l
  | 0x4003 => s.putSec w a v l
  | 0x4010 => s.putLane a v l
  | 0x4020 => s.putPhu a v l
  | 0x4030 => s.putConn a v l
  | 0x4031 => s.putMtx w a v l
  | 0x4032 => s.putBuf a v l
  | 0x4040 => s.putSess a v l
  | 0x4041 => s.putCool a v l
  | 0x4042 => s.putLsw w a v l
  | 0x4050 => s.putMet wr a v l
  | 0x4060 => s.putNet a v l
  | 0x4061 => s.putCan a v l
  | 0x4062 => s.putPlc a v l
  | _ => s.putFields l v

/-! ## A write -/

/-- What an engine's write to an address of the register space meets: no window; an unassigned or reserved register, which ignores it; a
register of which it is not in charge; a register it writes. -/
inductive RegRight where
  | outside | ignored
  | refused (charge : Nat)
  | granted (wr : Wr) (fields : List (Acc × Keep × Fld))

/-- A register without a field that any engine writes: a write by anyone other than the engine in charge of its block is refused all
the same; the rest ignore it (R9, R437). -/
def blockWriter (a : Nat) : Wr :=
  match a / 0x10000 with
  | 0x4010 => .lane
  | 0x4020 => .phu
  | 0x4030 => .lead
  | 0x4031 => if a < MTX_PORT_LIM 0 then .coil else .portLead
  | 0x4032 | 0x4061 | 0x4062 => .t6
  | 0x4040 => .t1
  | 0x4041 => .t5
  | 0x4042 => .lsw
  | 0x4050 | 0x4051 => .t4
  | 0x4060 =>
    let o := a % 0x10000
    if o < 0x180 then .eth else if o < 0x200 then .t6 else if o < 0x240 then .t0 else if o < 0x260 then .dt else if o < 0x2A0 then .bt else .t6
  | _ => .t7

/-- The right of engine w at address a. -/
def State.regRight (s : State) (w a : Nat) : RegRight :=
  match blockRows a with
  | none => .outside
  | some rows =>
    match findRow rows a with
    | none => .ignored
    | some (wr, i, _, l) =>
      let wr' := if wr = .nobody then blockWriter a else wr
      if s.mayWrite wr' i w then (if wr = .nobody then .ignored else .granted wr l) else .refused (s.inCharge wr' i)

/-- A write of v by engine w to the register at a word address, without the trap of the instruction that makes it: refused, it posts the
access record (R17). -/
def State.regWrite (s : State) (w a v : Nat) : State :=
  match s.regRight w a with
  | .outside | .ignored => s
  | .refused c => s.accessRecord c w a
  | .granted wr l => s.putReg w a v wr l

def execRegisterWrite (e : Fin 8) (addr : Nat) (v : BitVec 32) (s : State) : Out := .next (s.regWrite e (addr / 4 * 4) v.toNat)

end Sys2Proof.Machine
end

