-- ==== Sys2Proof/Machine/Memory.lean ====
section
/-!
DEFINITION. Loads and stores of the engines over the regions of their map, the send windows, and the cache instructions
(R56 to R60, R72, R74, R83, R87, R88).
-/
namespace Sys2Proof.Machine

/-! ## Registers as memory -/

/-- Engine e reads the register at a word address, with what such a read does: none where R436 and R437 give a trap. -/
def State.csrLoad (s : State) (e a : Nat) : Option (Nat × State) :=
  if a = MET_SEG_DATA then some s.segRead
  else
    (s.regRead e a).map fun (v, s) =>
      (v, if e = 7 ∧ PWR_TAMPER_LOG 0 ≤ a ∧ a < PWR_TAMPER_LOG 8 then s.tamperSeen ((a - PWR_TAMPER_LOG 0) / 4) else s)

/-! ## Loads -/

/-- What a load meets. -/
inductive Loaded where
  | trap (code : Nat)
  | value (v : Nat) (s : State)

/-- A load of a line from LPDDR4X meets an uncorrectable ECC error: the line is not in the cache, and one of its bytes was hit (R60, R70). -/
def State.lineLost (s : State) (e line : Nat) : Bool := (takeLine line (s.eng e).cache).isNone && s.eccHit (64 * line) 64

/-- A load of n bytes by engine e at an aligned address. LPDDR4X asleep is an access fault (R120); what the take window and the inbound mailbox
show is not stated: free (log 6). A byte that an uncorrectable ECC error has hit is trap 0x04 (R70). -/
def State.loadAt (s : State) (e a n : Nat) : Loaded :=
  let r := regionOf a
  if !mayLoad e r then .trap 0x03
  else
    match r with
    | .csr =>
      if n ≠ 4 then .trap 0x03
      else
        (match s.csrLoad e a with
         | some (v, s) => .value v s
         | none => .trap 0x03)
    | .dram =>
      if s.pwr.dramAsleep then .trap 0x03
      else if s.lineLost e (a / 64) then .trap 0x04
      else
        let (v, s) := s.cacheLoad e a n
        .value v s
    | .take | .inbox =>
      let (v, s) := s.fresh
      .value (v % 2 ^ (8 * n)) s
    | _ => if s.eccHit (memKey e a) n then .trap 0x04 else .value (s.rd (memKey e a) n) s

/-- A load instruction: rt takes the n bytes at base + off, extended to 64 bits. -/
def State.load (s : State) (e : Nat) (rt base : Fin 32) (off : BitVec 16) (n : Nat) (signed : Bool) : State :=
  let a := (s.eng e).ea base off
  if a.toNat % n ≠ 0 then s.trap e 0x02 a
  else
    match s.loadAt e a.toNat n with
    | .trap c => s.trap e c a
    | .value v s => s.setRd e rt (if signed then BitVec.ofInt 64 (toSigned (8 * n) v) else BitVec.ofNat 64 v)

def execLb (e : Fin 8) (rt base : Fin 32) (off : BitVec 16) (s : State) : Out := s.instr e (s.load e rt base off 1 true)
def execLbu (e : Fin 8) (rt base : Fin 32) (off : BitVec 16) (s : State) : Out := s.instr e (s.load e rt base off 1 false)
def execLh (e : Fin 8) (rt base : Fin 32) (off : BitVec 16) (s : State) : Out := s.instr e (s.load e rt base off 2 true)
def execLhu (e : Fin 8) (rt base : Fin 32) (off : BitVec 16) (s : State) : Out := s.instr e (s.load e rt base off 2 false)
def execLw (e : Fin 8) (rt base : Fin 32) (off : BitVec 16) (s : State) : Out := s.instr e (s.load e rt base off 4 true)
def execLwu (e : Fin 8) (rt base : Fin 32) (off : BitVec 16) (s : State) : Out := s.instr e (s.load e rt base off 4 false)
def execLd (e : Fin 8) (rt base : Fin 32) (off : BitVec 16) (s : State) : Out := s.instr e (s.load e rt base off 8 false)

/-! ## The send windows (R72, R74) -/

/-- The queue whose record window an address of the send windows or the inbound mailbox belongs to, and the window's base; none outside
the records. -/
def windowOf (a : Nat) : Option (QId × Nat) :=
  if 0x21000000 ≤ a then (if a < 0x21000020 then some (.mailbox, 0x21000000) else none)
  else
    let o := a - 0x20001000
    if 0x800 ≤ o ∨ 0x20 ≤ o % 0x40 then none
    else some (.queue (Fin.ofNat 8 (o / 0x100)) (Fin.ofNat 4 (o % 0x100 / 0x40)), a - o % 0x40)

/-- Word k of the window at base b as its stores left it; a word not stored since the last commit is free (log 6). -/
def State.sendWord (s : State) (e b k : Nat) : Nat × State :=
  match SMap.get none (s.eng e).send (b / 4 + k) with
  | some w => (w.toNat, s)
  | none => (s.fresh.1 % 2 ^ 32, s.fresh.2)

/-- The record that the eight words of a window spell; the window is empty after the commit. -/
def State.takeRecord (s : State) (e b : Nat) : Nat × State :=
  let (v, s) := (List.range 8).foldl (fun (x : Nat × State) k => let (w, s) := x.2.sendWord e b k; (x.1 + w * 2 ^ (32 * k), s)) (0, s)
  let n := s.eng e
  (v, s.setEng e { n with send := n.send.filter fun p => p.1 < b / 4 || b / 4 + 8 ≤ p.1 })

/-- Put n bytes of v at address a of the window words; the other bytes of a word not stored yet are free (log 6). -/
def State.sendBytes (s : State) (e a n v : Nat) : State :=
  let put := fun (s : State) (k w : Nat) => s.setEng e { s.eng e with send := SMap.set none (s.eng e).send k (some (BitVec.ofNat 32 w)) }
  if n = 8 then put (put s (a / 4) v) (a / 4 + 1) (v / 2 ^ 32)
  else if n = 4 then put s (a / 4) v
  else
    let (old, s) := s.sendWord e (a / 4 * 4) 0
    let lo := 2 ^ (8 * (a % 4))
    let w := 2 ^ (8 * n)
    put s (a / 4) (old - old / lo % w * lo + v % w * lo)

/-- A store of n bytes into a record window: the word at offset 0x1C commits the record; a queue the engine may not use is trap 0x06. -/
def State.sendStore (s : State) (e : Fin 8) (a : DWord) (n v : Nat) : State :=
  match windowOf a.toNat with
  | none => s.trap e 0x03 a
  | some (q, b) =>
    let o := a.toNat - b
    if 4 ≤ n ∧ 0x1C < o + n then
      if !maySend (.engine e) q then s.trapFree e 0x06
      else
        let (r, s) := ((s.advance e).sendBytes e a.toNat n v).takeRecord e b
        s.commit (.engine e) q (reqOfNat r)
    else (s.advance e).sendBytes e a.toNat n v

/-! ## Stores -/

/-- A store of a word by engine e to the register at a (R88, R436, R437): it advances before the write, which may reset the device. -/
def State.csrStore (s : State) (e : Nat) (a : DWord) (v : Nat) : State :=
  match s.regRight e a.toNat with
  | .outside => s.trap e 0x03 a
  | .ignored => s.advance e
  | .refused c => (s.accessRecord c e a.toNat).trap e 0x07 a
  | .granted wr l => (s.advance e).putReg e a.toNat v wr l

/-- A store of n bytes of v at an aligned address. A write into the outbound mailbox by another engine than T4 also posts the access
record (R74). -/
def State.storeAt (s : State) (e : Fin 8) (a : DWord) (n v : Nat) : State :=
  let r := regionOf a.toNat
  if !mayStore e r then (if r = .outbox then (s.accessRecord 4 e a.toNat).trap e 0x03 a else s.trap e 0x03 a)
  else
    match r with
    | .csr => if n ≠ 4 then s.trap e 0x03 a else s.csrStore e a v
    | .send | .inbox => s.sendStore e a n v
    | .dram => if s.pwr.dramAsleep then s.trap e 0x03 a else (s.cacheStore e a.toNat n v).advance e
    | _ => (s.wr (memKey e a.toNat) n v).advance e

/-- A store instruction: the low n bytes of rt go to base + off. -/
def State.store (s : State) (e : Fin 8) (rt base : Fin 32) (off : BitVec 16) (n : Nat) : State :=
  let a := (s.eng e).ea base off
  if a.toNat % n ≠ 0 then s.trap e 0x02 a else s.storeAt e a n (((s.eng e).g rt).toNat % 2 ^ (8 * n))

def execSb (e : Fin 8) (rt base : Fin 32) (off : BitVec 16) (s : State) : Out := s.instr e (s.store e rt base off 1)
def execSh (e : Fin 8) (rt base : Fin 32) (off : BitVec 16) (s : State) : Out := s.instr e (s.store e rt base off 2)
def execSw (e : Fin 8) (rt base : Fin 32) (off : BitVec 16) (s : State) : Out := s.instr e (s.store e rt base off 4)
def execSd (e : Fin 8) (rt base : Fin 32) (off : BitVec 16) (s : State) : Out := s.instr e (s.store e rt base off 8)

/-! ## Cache instructions (R60, R88) -/

/-- Whether an address is cached by engine e. -/
def cached (e a : Nat) : Bool := e != 4 && regionOf a == .dram

/-- Whether engine e's cache holds a line dirty. -/
def State.dirtyLine (s : State) (e line : Nat) : Bool := match takeLine line (s.eng e).cache with
  | some (c, _) => c.dirty
  | none => false

/-- CCLEAN; with LPDDR4X asleep the write-back of a dirty line is an access to it (R120). -/
def execCclean (e : Fin 8) (base : Fin 32) (off : BitVec 16) (s : State) : Out :=
  let a := (s.eng e).ea base off
  s.instr e (if !cached e a.toNat then s.advance e
    else if s.pwr.dramAsleep && s.dirtyLine e (a.toNat / 64) then s.trap e 0x03 a
    else (s.cacheClean e (a.toNat / 64)).advance e)

def execCinv (e : Fin 8) (base : Fin 32) (off : BitVec 16) (s : State) : Out :=
  let a := (s.eng e).ea base off
  s.instr e (if cached e a.toNat then (s.cacheInv e (a.toNat / 64)).advance e else s.advance e)

end Sys2Proof.Machine
end

