-- ==== Sys2Proof/Machine/Control.lean ====
section
/-!
DEFINITION. Unit commands as they take effect (R90, R116), and the control frames of T2 and T3: the loops of the connectors and ports that each of them
leads, the follower's reference and angles, the phase units of their groups, the pleat table (R16, R144, R185, R186, R194, R206, R207, R232, R234).
The spec gives the current loop by its worked example (04_tocon_instruction_set.md); what it leaves to the image is in log 234.
-/
namespace Sys2Proof.Machine

/-! ## Unit commands that take effect -/

/-- A unit command that was judged when it was issued takes effect. -/
def State.applyWrite (s : State) (w a v : Nat) : State :=
  match blockRows a with
  | none => s
  | some rows =>
    match findRow rows a with
    | none => s
    | some (wr, _, _, l) => if wr = .nobody then s else s.putReg w a v wr l

/-- A unit command over the switch-over gap is held; else it takes effect. -/
def State.commandUnit (s : State) (w a v : Nat) : State := if s.gap then s.hold w a v else s.applyWrite w a v

/-! ## What a power engine sees -/

def State.setCtl (s : State) (f : CtlInt → CtlInt) : State := { s with ctl := f s.ctl }

/-- The number of the control frame that begins at the present edge (R182). -/
def State.ctlFrame (s : State) : Nat := (s.now - s.epoch) / 4000

/-- The target group mask of destination d in the grant table (R232). -/
def State.targetMask (s : State) (d : Nat) : Nat := s.rd (s.maq.grantTable + 0x2C + 32 * d) 1

/-- The groups that the grant and the matrix give destination d. -/
def State.ctlGroups (s : State) (d : Nat) : List Nat := (s.groupsOf d).filter fun g => s.targetMask d / 2 ^ g % 2 == 1

/-- The phases of those groups that can carry current: lane ACTIVE, no latch set. -/
def State.ctlPhases (s : State) (d : Nat) : List Nat :=
  ((s.ctlGroups d).flatMap groupPhases).filter fun n => s.unlatched n && s.f (LANE_STATUS_state (n / 8)) == 2

/-- The power engine that leads destination d. -/
def State.leads (s : State) (e d : Nat) : Bool := s.leadOf d != 0 && s.leadOf d + 1 == e

/-- What the loop of destination d does: 0 nothing; 1 it regulates the bus voltage of a connector before DC+ closes (R206 step 3); 2 current. -/
def State.ctlStage (s : State) (d : Nat) : Nat :=
  if d < 8 then
    if s.fbClosed (96 + 2 * d) then 2
    else if s.f (SESS_STATUS_state d) = 6 ∧ s.fb (MTX_COIL_CMD_cmd (97 + 2 * d)) ∧ s.fbClosed (97 + 2 * d) then 1
    else 0
  else if s.fb (BUF_PORT_CTRL_en (d - 8)) ∧ ((s.dest d).fwd ≠ 0 ∨ (s.dest d).rev ≠ 0 ∨ SMap.get 0 s.ctl.port d ≠ 0) then 2
  else 0

/-- Unit n carries no current: its reference is 0, and its destination's current or its own measured one is below 1 A. -/
def State.atRest (s : State) (n : Nat) : Bool :=
  s.fi (PHU_IREF_iref n) == 0 && (s.destZero (s.f (PHU_CTRL_dest n)) || decide ((s.iFiltered n).natAbs < 2 ^ 19))

/-! ## Phase units of a destination -/

/-- PHU[n].CTRL with en and dest as given, the other settings as they stand. -/
def State.ctrlWord (s : State) (n d : Nat) (en : Bool) : Nat :=
  boolNat en + 8 * s.f (PHU_CTRL_burst n) + 16 * d + 256 * s.f (PHU_CTRL_fhold_en n) + 512 * s.f (PHU_CTRL_i_len n) + 2048 * s.f (PHU_CTRL_v_len n) +
    8192 * s.f (PHU_CTRL_fhold_shift n) + 65536 * s.f (PHU_CTRL_fhold_lim n) + 16777216 * s.f (PHU_CTRL_toff_min n)

/-- The reference of unit n, Q1.30, where it changes. -/
def State.setRef (s : State) (e n : Nat) (v : Int) : State :=
  if s.fi (PHU_IREF_iref n) = v then s else s.commandUnit e (PHU_IREF n) (ofSigned 32 v)

/-- Angle and period of unit n, where they change (R185). -/
def State.setAngle (s : State) (e n angle period : Nat) : State :=
  let now := (s.phu n).shadow.getD (s.f (PHU_PLEAT_angle n), s.f (PHU_PLEAT_period n))
  if now = (angle, period) then s else s.commandUnit e (PHU_PLEAT n) (angle + 65536 * period)

/-- The most by which a leaving group's reference falls in a frame: 0.25 A, so that 250 A end within 10 ms (R234 step 3). -/
def leaveStep : Nat := 2 ^ 16

/-- Unit n of engine e, which is enabled for destination d: outside d's groups its reference ramps to zero and it is disabled (R234 step 3); it is disabled with
its output open (R207 step 3), and in every mode but RUN once it carries nothing (R144). -/
def State.ctlOff (s : State) (e d n : Nat) : State :=
  if !(s.ctlGroups d).contains (n / 32) then
    if s.atRest n then s.commandUnit e (PHU_CTRL n) (s.ctrlWord n d false)
    else s.setRef e n (slewTo (s.fi (PHU_IREF_iref n)) 0 leaveStep)
  else if s.ctlStage d = 0 ∨ (s.devMode ≠ modeRun ∧ s.atRest n) then s.commandUnit e (PHU_CTRL n) (s.ctrlWord n d false)
  else s

/-- Engine e disables and enables its units of destination d; none is enabled in another mode than RUN (R145). -/
def State.ctlUnits (s : State) (e d : Nat) : State :=
  let own := (List.range 256).filter fun n => phuEng n == e && s.f (PHU_CTRL_dest n) == d && s.fb (PHU_CTRL_en n)
  let s := s.each own fun s n => s.ctlOff e d n
  if s.ctlStage d = 0 ∨ s.devMode ≠ modeRun then s
  else s.each ((s.ctlPhases d).filter fun n => phuEng n == e && !s.fb (PHU_CTRL_en n)) fun s n => (s.setRef e n 0).commandUnit e (PHU_CTRL n) (s.ctrlWord n d true)

/-! ## The loop (R16) -/

/-- The phases among which destination d's current is divided: enabled, by phase number within the cell and then by cell (R185). -/
def State.ctlShare (s : State) (d : Nat) : List Nat :=
  let l := (s.ctlPhases d).filter fun n => s.active n d
  (List.range 8).flatMap fun p => l.filter fun n => n % 8 == p

/-- The current wanted of destination d: a connector's IREF; of a port its limit, which is reached by 1 A a frame (R203, R224). -/
def State.ctlTarget (s : State) (d : Nat) : Int × State :=
  if d < 8 then (s.fi (CONN_IREF_iref d), s)
  else
    let x := s.dest d
    let want : Int := if s.devMode ≠ modeRun then 0 else if x.fwd ≠ 0 then (x.fwd * 16384 : Nat) else -((x.rev * 16384 : Nat) : Int)
    let v := slewTo (SMap.get 0 s.ctl.port d) want (2 ^ 18)
    (v, s.setCtl fun c => { c with port := SMap.set 0 c.port d v })

/-- The output current that engine e's loop asks for, of destination d: the proportional and integral step of the worked example, between the limits. -/
def State.ctlLoop (s : State) (e d : Nat) : Int × State :=
  let (t, s) := s.ctlTarget d
  let hi : Int := s.enfFwd d
  let lo : Int := -((s.enfRev d : Nat) : Int)
  let meas := if d < 8 then s.fi (CONN_MEAS_I_i d) else s.fi (BUF_PORT_I_i (d - 8))
  let err := (sat32 (clampI lo hi t - meas)).1
  let integ := (sat32 (SMap.get 0 s.ctl.integ (12 * e + d) + qrnd (err * s.maq.ctlKi) 30)).1
  let out := (sat32 ((sat32 (qrnd (err * s.maq.ctlKp) 30)).1 + integ)).1
  (clampI lo hi out, s.setCtl fun c => { c with integ := SMap.set 0 c.integ (12 * e + d) integ })

/-- The reference of each of N phases: of the current loop its part by 1/N; while the bus voltage is regulated the law is not stated: a free value within
the limit. -/
def State.ctlRef (s : State) (e d N : Nat) : Int × State :=
  if s.ctlStage d = 1 then
    let (v, s) := s.fresh
    ((v % (s.enfFwd d / N + 1) : Nat), s.setCtl fun c => { c with integ := SMap.set 0 c.integ (12 * e + d) 0 })
  else
    let (out, s) := s.ctlLoop e d
    ((sat32 (qrnd (out * ((2 ^ 31 + N) / (2 * N) : Nat)) 30)).1, s)

/-! ## The lead-to-follower area (R16, R186) -/

/-- The half of the area for the posts of frame k: 8 bytes for each destination, frame number and reference; from 0x100 on 4 bytes for each phase, angle
and period. -/
def leadBuf (k : Nat) : Nat := 0x28000000 + 0x800 * (k % 2)

/-- The lead posts the reference of frame k and the angles. -/
def State.leadPost (s : State) (d : Nat) (ref : Int) (l : List (Nat × Nat × Nat)) : State :=
  let b := leadBuf s.ctlFrame
  let s := (s.wr (b + 8 * d) 4 s.ctlFrame).wr (b + 8 * d + 4) 4 (ofSigned 32 ref)
  l.foldl (fun s x => s.wr (b + 0x100 + 4 * x.1) 4 (x.2.1 + 65536 * x.2.2)) s

/-- The reference that was posted for destination d in the frame before. -/
def State.posted (s : State) (d : Nat) : Option Int :=
  let b := leadBuf (s.ctlFrame + 1)
  if s.ctlFrame ≠ 0 ∧ s.rd (b + 8 * d) 4 = (s.ctlFrame - 1) % 2 ^ 32 then some (toSigned 32 (s.rd (b + 8 * d + 4) 4)) else none

/-- Engine e gives its units among l the angles posted in the frame before. -/
def State.takeAngles (s : State) (e d : Nat) (l : List Nat) : State :=
  if (s.posted d).isNone then s
  else
    (l.filter fun n => phuEng n == e).foldl (fun s n =>
      let v := s.rd (leadBuf (s.ctlFrame + 1) + 0x100 + 4 * n) 4
      if v / 65536 = 0 then s else s.setAngle e n (v % 65536) (v / 65536)) s

/-- Angles re-spaced over the phases l, of one period: round(j x 65,536 / N) (R185). -/
def State.angles (s : State) (l : List Nat) : List (Nat × Nat × Nat) :=
  let N := l.length
  let period := s.f (PHU_PLEAT_period (l.headD 0))
  l.zipIdx.map fun x => (x.1, (2 * x.2 * 65536 + N) / (2 * N) % 65536, period)

/-- The lead's frame for destination d. Its own units take the reference at once; with groups of both halves the angles go through the area and both
engines write them a frame later (R186). -/
def State.ctlLead (s : State) (e d : Nat) : State :=
  let stage := s.ctlStage d
  let begin_ := d < 8 ∧ stage = 1 ∧ SMap.get 0 s.ctl.stage (12 * e + d) ≠ 1
  let s := s.setCtl fun c => { c with stage := SMap.set 0 c.stage (12 * e + d) stage }
  let s := if begin_ then
      (s.commandUnit e (CONN_VSET d) (s.fi (CONN_MEAS_V_v d)).toNat).commandUnit e (CONN_CTRL d) (1 + 256 * (4 * (s.groupsOf d).headD 0))
    else s
  let l := s.ctlShare d
  if stage = 0 ∨ l.isEmpty then s
  else
    let (ref, s) := s.ctlRef e d l.length
    let s := (l.filter fun n => phuEng n == e).foldl (fun s n => s.setRef e n ref) s
    let a := s.angles l
    if l.all fun n => phuEng n == e then a.foldl (fun s x => s.setAngle e x.1 x.2.1 x.2.2) s
    else (s.takeAngles e d l).leadPost d ref a

/-- The follower's frame for destination d: what the lead has posted in the frame before. -/
def State.ctlFollow (s : State) (e d : Nat) : State :=
  match s.posted d with
  | none => s
  | some ref =>
    let l := (s.ctlShare d).filter fun n => phuEng n == e
    (l.foldl (fun s n => s.setRef e n ref) s).takeAngles e d l

/-! ## Phase faults (R194) -/

/-- The engine in charge declares the F1 of each phase whose phase fault is new. -/
def State.phaseFaults (s : State) (e : Nat) : State :=
  s.each ((List.range 256).filter fun n => phuEng n == e) fun s n =>
    let bad := s.fb (PHU_STATUS_latch_open n) || s.fb (PHU_STATUS_latch_sense n)
    if bad == s.ctl.told.contains n then s
    else if bad then
      let (num, s) := s.freeNum
      let (d, s) := s.fresh
      (s.setCtl fun c => { c with told := n :: c.told }).declareFault e 1 num (phaseScope n) 0 (d % 2 ^ 32)
    else s.setCtl fun c => { c with told := c.told.filter (· != n) }

/-- A control frame of power engine e. -/
def State.controlJob (s : State) (e : Nat) : State :=
  let s := ((s.rinse 1 0).2).phaseFaults e
  s.each (List.range 12) fun s d =>
    let s := s.ctlUnits e d
    if s.leads e d then s.ctlLead e d else s.ctlFollow e d

end Sys2Proof.Machine
end

