-- ==== Sys2Proof/Machine/Units.lean ====
section
/-!
DEFINITION. Unit commands, UWAIT, EVPOST (R90 to R95), slot ticks with the image's jobs, the release after a restart (R77), and the two supply
events that touch every unit: the end of a switch-over and the power-fail warning (R116, R119, R120, R136).
-/
namespace Sys2Proof.Machine

/-! ## UCMD (R90 to R92) -/

/-- The address of a UCMD: rs1 + imm11[8:0] times 4. -/
def Engine.ucmdAddr (n : Engine) (rs1 : Fin 32) (imm : BitVec 9) : DWord := n.g rs1 + BitVec.ofNat 64 (4 * imm.toNat)

/-- The judgement of a UCMD at issue: alignment, the register space, the engine in charge; then `go`. -/
def State.ucmdJudge (s : State) (e : Nat) (a : DWord) (go : State → State) : State :=
  if a.toNat % 4 ≠ 0 then s.trap e 0x02 a
  else
    match s.regRight e a.toNat with
    | .outside => s.trap e 0x03 a
    | .refused c => (s.accessRecord c e a.toNat).trap e 0x07 a
    | .ignored | .granted _ _ => go s

/-- An immediate UCMD: rd is 0, and the value takes effect. -/
def State.ucmd (s : State) (e : Nat) (rd rs1 rs2 : Fin 32) (imm : BitVec 9) : State :=
  let n := s.eng e
  let a := n.ucmdAddr rs1 imm
  s.ucmdJudge e a fun s => (s.setRd e rd 0).commandUnit e a.toNat ((n.g rs2).toNat % 2 ^ 32)

def execUcmd (e : Fin 8) (rd rs1 rs2 : Fin 32) (imm : BitVec 9) (s : State) : Out := s.instr e (s.ucmd e rd rs1 rs2 imm)

/-- A staged UCMD: in background, or with the buffer full, commands that wait for their release among its 512, it is not staged and rd is 1. -/
def State.ucmdStaged (s : State) (e : Nat) (rd rs1 rs2 : Fin 32) (imm : BitVec 9) : State :=
  let n := s.eng e
  let a := n.ucmdAddr rs1 imm
  s.ucmdJudge e a fun s =>
    if n.ctx = 8 ∨ 512 ≤ n.staging.length + n.releasing.length then s.setRd e rd 1
    else (s.setEng e { n with staging := n.staging ++ [⟨n.ctx, a.toNat, (n.g rs2).extractLsb' 0 32⟩] }).setRd e rd 0

def execUcmdStaged (e : Fin 8) (rd rs1 rs2 : Fin 32) (imm : BitVec 9) (s : State) : Out := s.instr e (s.ucmdStaged e rd rs1 rs2 imm)

/-- A scrub: rs1, rs2 and imm must be zero; rd is the count dropped. -/
def State.ucmdScrub (s : State) (e : Nat) (rd rs1 rs2 : Fin 32) (imm : BitVec 10) : State :=
  if rs1 ≠ 0 ∨ rs2 ≠ 0 ∨ imm ≠ 0 then s.trapFree e 0x01
  else
    let (mine, s) := s.takeStaged e (s.eng e).ctx
    s.setRd e rd (BitVec.ofNat 64 mine.length)

def execUcmdScrub (e : Fin 8) (rd rs1 rs2 : Fin 32) (imm : BitVec 10) (s : State) : Out := s.instr e (s.ucmdScrub e rd rs1 rs2 imm)

/-- STAGED_RELEASE: the commands of completed frames take effect in the order staged. -/
def State.stagedRelease (s : State) (e : Nat) : State :=
  let l := (s.eng e).releasing
  l.foldl (fun s c => s.commandUnit e c.addr c.value.toNat) (s.setEng e { s.eng e with releasing := [] })

def execStagedRelease (e : Fin 8) (s : State) : Out := s.onClock fun s => (s.stagedRelease e)

/-! ## UWAIT (R93) -/

/-- UWAIT: the register is read at issue. -/
def State.uwait (s : State) (e : Nat) (rd rs1 rs2 : Fin 32) (imm : BitVec 11) : State :=
  let n := s.eng e
  let a := n.g rs1
  let want := imm.getLsbD 5
  let bit := imm.toNat % 32
  let timeout := (n.g rs2).toNat % 2 ^ 32
  if imm.toNat / 64 ≠ 0 then s.trapFree e 0x01
  else if a.toNat % 4 ≠ 0 then s.trap e 0x02 a
  else
    match s.csrLoad e a.toNat with
    | none => s.trap e 0x03 a
    | some (v, s) =>
      if bitOf v bit == want then s.setRd e rd 1
      else if timeout = 0 then s.setRd e rd 0
      else s.setEng e { s.eng e with wait := some ⟨a.toNat, bit, want, timeout, rd, n.cycles⟩ }

def execUwait (e : Fin 8) (rd rs1 rs2 : Fin 32) (imm : BitVec 11) (s : State) : Out := s.instr e (s.uwait e rd rs1 rs2 imm)

/-- The wait of engine e ends with v in its rd. -/
def State.endWait (s : State) (e : Nat) (w : Wait) (v : DWord) : State := ((s.setEng e { s.eng e with wait := none }).setRd e w.rd v).settle e

/-- Whether engine e runs with a UWAIT in progress. -/
def State.waiting (s : State) (e : Nat) : Option Wait := if s.fb (ENG_CTRL_run e) && !s.fb (ENG_STATUS_halted e) then (s.eng e).wait else none

/-- UWAIT_MET: the read finds the bit at the wanted value. -/
def execUwaitMet (e : Fin 8) (s : State) : Out :=
  s.onClock fun s => (match s.waiting e with
    | none => s
    | some w =>
      match s.csrLoad e w.addr with
      | none => s
      | some (v, t) => if bitOf v w.bit == w.want then t.endWait e w 1 else s)

/-- UWAIT_TIMEOUT: the timeout's cycles of the core have gone by. -/
def execUwaitTimeout (e : Fin 8) (s : State) : Out :=
  s.onClock fun s => (match s.waiting e with
    | none => s
    | some w => if w.since + 8 * w.timeout ≤ (s.eng e).cycles then s.endWait e w 0 else s)

/-! ## EVPOST (R94, R95) -/

/-- The traps of EVPOST; none where it is accepted. Where both codes apply, 0x01 comes first (log 215). -/
def evpostTrap (e : Nat) (cls : Nat) (arg clear : Bool) : Option Nat :=
  if 8 ≤ cls ∨ cls = 5 ∨ cls = 6 ∨ (cls ≤ 4 ∧ !arg) ∨ (clear ∧ (cls = 0 ∨ cls = 1 ∨ cls = 7)) then some 0x01
  else if (cls = 3 ∨ cls = 4) ∧ e ≠ 7 then some 0x03
  else none

/-- The scope that an argument word names. -/
def argScope (a : DWord) : Scope := ⟨a.extractLsb' 60 4, a.extractLsb' 48 12⟩

/-- The engine that an argument word's orig_id names; T4 has no record of it. -/
def argTo (a : DWord) : List Nat := let o := a.toNat / 2 ^ 32 % 65536; if 1 ≤ o ∧ o ≤ 8 ∧ o ≠ 5 then [o - 1] else []

/-- T7's power-fail record: what its data SRAM holds at NVW_SRC[4] goes through channel 4 into area 4 (R120 step 5; log 224). -/
def State.powerRecord (s : State) : State :=
  if s.fb (ENG_CTRL_run 7) && s.f (PWR_NVW_CTRL_status 4) != 1 then (s.setF (PWR_NVW_CTRL_op 4) 0).nvGo 4 else s

/-- Where a shutdown sequence has begun since the state `was`, T7 sends FLUSH to T4 and writes its record (R120, R135, R147). -/
def State.shutdownWork (s was : State) : State := if was.pwr.cause = 0 ∧ s.pwr.cause ≠ 0 then (s.askFlush ⟨2, false⟩).powerRecord else s

/-- EVPOST in both forms: the record, and what it declares or clears. Whether the engine is one that R42 names for the scope is not checked, nor that
the scope is one of R41: the spec states no refusal (log 212). -/
def State.evpost (s : State) (e : Nat) (cls : BitVec 5) (rs1 rs2 : Fin 32) (num : BitVec 9) (clear : Bool) : State :=
  let n := s.eng e
  let c := cls.toNat
  match evpostTrap e c (rs2.val ≠ 0) clear with
  | some code => s.trapFree e code
  | none =>
    let arg := n.g rs2
    let time := if rs1.val = 0 then s.dtNs else (n.g rs1).toNat
    let dst := if 2 ≤ c ∧ c ≤ 4 ∧ !clear then [0, 1, 2, 3, 5, 6, 7] else 7 :: argTo arg
    let s := (s.advance e).postList (eventWord (rs2.val ≠ 0) c e num.toNat time) (if rs2.val = 0 then 0 else arg.toNat) (dedup dst)
    if clear then s.clearFault e c (argScope arg) else (s.declared e c (argScope arg)).shutdownWork s

def execEvpost (e : Fin 8) (cls : BitVec 5) (rs1 rs2 : Fin 32) (num : BitVec 9) (s : State) : Out := s.instr e (s.evpost e cls rs1 rs2 num false)
def execEvpostClear (e : Fin 8) (cls : BitVec 5) (rs1 rs2 : Fin 32) (num : BitVec 9) (s : State) : Out := s.instr e (s.evpost e cls rs1 rs2 num true)

/-! ## ECC errors (R19) -/

/-- T7's answer to an error report: a notice for a corrected byte; else the byte is lost, an F4 for the SRAM of T4 and T7, an F3 of the site for any
other. -/
def State.eccReport (s : State) (sram : Option (Fin 8)) (a : Nat) (corrected : Bool) : State :=
  if corrected then s.wardenFault 0 siteScope
  else
    let k := match sram with
      | some e => sramKey e a
      | none => a
    let s := { s with ecc := k :: s.ecc.filter (· != k) }
    if sram = some 4 ∨ sram = some 7 then s.wardenFault 4 deviceScope else s.siteFault f3Ecc

/-! ## Slot ticks -/

/-- What the image's engine e does in a frame of slot k with a job of the spec's; none where the job is not this engine's. -/
def State.jobFrame (s : State) (e k : Nat) (job : Job) : Option State :=
  let s := (s.unitTodo e).heartbeat e
  let s := if e = 6 then s.histAge else s
  match job, e with
  | .scan load, 6 => some (s.scanStep k load)
  | .alloc, 0 => if k = 0 then some s.allocFrame.deliverEvents else none
  | .sessions, 1 => some s.sessionsFrame
  | .control, 2 => some (s.controlJob 2)
  | .control, 3 => some (s.controlJob 3)
  | .meter, 4 => some s.meterFrame
  | .cooling, 5 => some s.coolingFrame
  | .buffer, 6 => some s.bufferFrame
  | .archive, 7 => some s.archiveFrame
  | .ecc sram a ok, 7 => some ((s.eccReport sram a ok).shutdownWork s)
  | _, _ => none

/-- The frame of slot k that the engine has just entered: its row pointer stands at the base and no row is stepped. -/
def State.freshFrame (s : State) (e k : Nat) : Bool :=
  let x := s.slot e k
  s.fb (ENG_CTRL_run e) && !s.fb (ENG_STATUS_halted e) && (s.eng e).ctx == k && x.st == .active && x.left == x.cur.rows && x.stepRd.isNone && !x.ovr

/-- The frame that has just been entered goes through its job: the row pointer passes every row, and the frame ends (R55, R64, R90). -/
def State.runJob (s : State) (e k : Nat) (job : Job) : State :=
  match s.jobFrame e k job with
  | none => s
  | some t =>
    if t.freshFrame e k then
      let c := (t.slot e k).cur
      ((t.setEng e ((t.eng e).setTp k (BitVec.ofNat 64 (c.base + c.rows * c.rowSize)))).endFrame e k).switch e 16
    else t

/-- SLOT_TICK: the timer of slot k ticks where its instant has come (R61). A frame that the engine has then just entered, at this tick, at a kick
or after a frame of higher priority, goes through the given job of the image; an image's own table waits for its rows (log 38). -/
def State.tickJob (s : State) (e k : Nat) (job : Job) : State :=
  let s := s.timerTick e k
  match job with
  | .scanEnd => if e = 6 ∧ 6 ≤ k ∧ k < 8 ∧ s.fb (ENG_CTRL_run 6) then s.scanEnd k else s
  | _ => if s.freshFrame e k then s.runJob e k job else s

def execSlotTick (e k : Fin 8) (job : Job) (s : State) : Out := .next (s.tickJob e k job)

/-! ## Load and release (R59, R77, R148) -/

/-- T7 loads the engine's sections from the verified image in memory and releases the core: after a restart, or at boot step 10 in its turn. T6 then
holds every value uncertain, and has no request in a CAN queue (R364). -/
def State.restartRelease (s : State) (e : Fin 8) : State :=
  if (s.eng e).restarting || (!s.mode.booted && s.mayRelease e && !s.fb (ENG_CTRL_run e)) then
    let s := (s.loadImage e (!(s.eng e).restarting)).releaseCore e
    (if e.val = 6 then s.markUncertain else s).bootReleased
  else s

def execEngineRestartRelease (e : Fin 8) (_image : NoOperand) (s : State) : Out := .next (s.restartRelease e)

/-! ## The supply events of the whole device -/

/-- The switch-over hold ends: every coil takes the drive that is wanted by now, and held writes are applied in order. -/
def State.endGap (s : State) : State :=
  let l := s.held
  let s := ({ s with gap := false, held := [] }.setF PWR_STATUS_switching 0).each (List.range 128) State.coilSync
  l.foldl (fun s h => s.applyWrite h.writer h.addr h.value) s

/-- SWITCHOVER_END: also after PFW has ended the hold, within 20 us of the gap's start (R136). -/
def execSwitchoverEnd (s : State) : Out :=
  .next (if s.gap then s.endGap.feedSwap.gapHealth
    else if s.pwr.gapPfw ∧ s.now ≤ s.pwr.gapAt + 8000 then (s.setPwr fun p => { p with gapPfw := false }).feedSwap
    else s)

/-- PFW: posted to every engine; a switch-over hold ends; the clamp, unless a shutdown sequence has brought the timeline past it; T5, T6 and T7
save or abandon what R292, R243 and R431 say; T4 flushes (R325). -/
def State.powerFail (s : State) : State :=
  let s := (s.setEvent PWR_EVENTS_pfw 7 siteScope [0, 1, 2, 3, 4, 5, 6, 7]).setF PWR_STATUS_pfw 1
  let s := s.setPwr fun p => { p with pfwAt := some s.now }
  let s := if s.gap then s.endGap.gapHealth.setPwr fun p => { p with gapPfw := true } else s
  let s := if s.pwr.cause = 0 then s.powerClamp.clampRecord 7 9 siteScope else s
  let s := ((s.coolPfw).bufPfw).archPfw
  if s.pwr.cause = 0 then (s.askFlush ⟨2, false⟩).powerRecord else s

def execPfw (s : State) : Out := .next (if s.fb PWR_STATUS_pfw || s.mode.keep then s else s.powerFail)

/-- HK_CONVERSION; it may bring the die's shutdown, and end the round of boot step 7. -/
def execHkConversion (v : Int) (s : State) : Out :=
  s.onClock fun s => ((s.hkConvert v).shutdownWork s).bootAdvance

end Sys2Proof.Machine
end

