-- ==== Sys2Proof/Machine/Tocon.lean ====
section
/-!
DEFINITION. The Tocon encodings (R80, R87): the command that an instruction word of engine e is, and the run of a decoded instruction. A single
step fetches through them.
-/
namespace Sys2Proof.Machine

/-! ## Fields -/

def opOf (w : Word) : Nat := (w.extractLsb' 26 6).toNat
/-- [25:21]: rd, rt, or rs1 of format B. -/
def fA (w : Word) : Fin 32 := (w.extractLsb' 21 5).toFin
/-- [20:16]: rs1, base, or rs2 of format B. -/
def fB (w : Word) : Fin 32 := (w.extractLsb' 16 5).toFin
/-- [15:11]: rs2. -/
def fC (w : Word) : Fin 32 := (w.extractLsb' 11 5).toFin
def fN (w : Word) : BitVec 5 := w.extractLsb' 6 5
def fFunc (w : Word) : Nat := (w.extractLsb' 0 6).toNat
def fImm (w : Word) : BitVec 16 := w.extractLsb' 0 16
def fImm11 (w : Word) : BitVec 11 := w.extractLsb' 0 11

/-- An instruction whose "zero" fields are zero; none otherwise. -/
def whenZero (b : Bool) (i : Instr) : Option Instr := if b then some i else none

/-! ## Groups -/

/-- Integer group, opcode 0x00, n zero. -/
def decodeInt (e : Fin 8) (w : Word) : Option Instr :=
  let d := fA w
  let a := fB w
  let b := fC w
  if fN w ≠ 0 then none
  else
    match fFunc w with
    | 0x01 => some (.add e d a b)
    | 0x02 => some (.sub e d a b)
    | 0x03 => some (.and e d a b)
    | 0x04 => some (.or e d a b)
    | 0x05 => some (.xor e d a b)
    | 0x06 => some (.sll e d a b)
    | 0x07 => some (.srl e d a b)
    | 0x08 => some (.sra e d a b)
    | 0x09 => some (.slt e d a b)
    | 0x0A => some (.sltu e d a b)
    | 0x0B => some (.min e d a b)
    | 0x0C => some (.max e d a b)
    | 0x0D => some (.minu e d a b)
    | 0x0E => some (.maxu e d a b)
    | 0x0F => whenZero (b == 0) (.sextw e d a)
    | 0x10 => some (.mul e d a b)
    | 0x11 => some (.mulh e d a b)
    | 0x12 => some (.mulhu e d a b)
    | 0x14 => some (.div e d a b)
    | 0x15 => some (.divu e d a b)
    | 0x16 => some (.rem e d a b)
    | 0x17 => some (.remu e d a b)
    | _ => none

/-- Q-format group, opcode 0x01. -/
def decodeQ (e : Fin 8) (w : Word) : Option Instr :=
  let d := fA w
  let a := fB w
  let b := fC w
  let n := fN w
  match fFunc w with
  | 0x01 => whenZero (n == 0) (.qadd e d a b)
  | 0x02 => whenZero (n == 0) (.qsub e d a b)
  | 0x03 => whenZero (n == 0 && b == 0) (.qneg e d a)
  | 0x04 => whenZero (n == 0 && b == 0) (.qabs e d a)
  | 0x05 => some (.qmul e d a b n)
  | 0x06 => some (.qmac e d a b n)
  | 0x07 => some (.qmsu e d a b n)
  | 0x08 => whenZero (n == 0) (.macw e d a b)
  | 0x09 => whenZero (b == 0) (.qrnd e d a n)
  | 0x0A => whenZero (b == 0) (.qsat e d a n)
  | 0x0B => whenZero (b == 0) (.qshl e d a n)
  | 0x0C => some (.qdiv e d a b n)
  | _ => none

/-- System group, opcode 0x02: fields that an instruction does not use are zero. -/
def decodeSys (e : Fin 8) (w : Word) : Option Instr :=
  let d := fA w
  let a := fB w
  if fN w ≠ 0 ∨ fC w ≠ 0 then none
  else
    match fFunc w with
    | 0x01 => some (.mfs e d (w.extractLsb' 16 5))
    | 0x02 => some (.mts e d a)
    | 0x03 => whenZero (d == 0 && a == 0) (.fence e)
    | 0x04 => whenZero (d == 0) (.tret e a)
    | 0x05 => whenZero (d == 0 && a == 0) (.brk e)
    | 0x06 => whenZero (d == 0 && a == 0) (.heartbeat e)
    | 0x07 => whenZero (a == 0) (.rddt e d)
    | _ => none

/-- Shifts by an immediate, opcode 0x0E: imm16[15:8] zero. -/
def decodeShift (e : Fin 8) (w : Word) : Option Instr :=
  let sh := w.extractLsb' 0 6
  if w.extractLsb' 8 8 ≠ 0 then none
  else
    match (w.extractLsb' 6 2).toNat with
    | 0 => some (.slli e (fA w) (fB w) sh)
    | 1 => some (.srli e (fA w) (fB w) sh)
    | 2 => some (.srai e (fA w) (fB w) sh)
    | _ => none

/-- UCMD: imm11[10] scrub, imm11[9] staged. -/
def decodeUcmd (e : Fin 8) (w : Word) : Instr :=
  if w.getLsbD 10 then .ucmdScrub e (fA w) (fB w) (fC w) (w.extractLsb' 0 10)
  else if w.getLsbD 9 then .ucmdStaged e (fA w) (fB w) (fC w) (w.extractLsb' 0 9)
  else .ucmd e (fA w) (fB w) (fC w) (w.extractLsb' 0 9)

/-- EVPOST: the class lies in the rd field, imm11[9] clears; imm11[10] belongs to no field. -/
def decodeEvpost (e : Fin 8) (w : Word) : Option Instr :=
  if w.getLsbD 10 then none
  else if w.getLsbD 9 then some (.evpostClear e (w.extractLsb' 21 5) (fB w) (fC w) (w.extractLsb' 0 9))
  else some (.evpost e (w.extractLsb' 21 5) (fB w) (fC w) (w.extractLsb' 0 9))

/-- The instruction that a word is to engine e; none for a reserved encoding. -/
def decodeTocon (e : Fin 8) (w : Word) : Option Instr :=
  let d := fA w
  let a := fB w
  match opOf w with
  | 0x00 => decodeInt e w
  | 0x01 => decodeQ e w
  | 0x02 => decodeSys e w
  | 0x04 => some (.addi e d a (fImm w))
  | 0x05 => some (.andi e d a (fImm w))
  | 0x06 => some (.ori e d a (fImm w))
  | 0x07 => some (.xori e d a (fImm w))
  | 0x08 => some (.slti e d a (fImm w))
  | 0x09 => some (.sltiu e d a (fImm w))
  | 0x0A => whenZero (a == 0) (.lui e d (fImm w))
  | 0x0B => some (.shori e d a (fImm w))
  | 0x0C => whenZero (a == 0) (.jal e d (fImm w))
  | 0x0D => some (.jalr e d a (fImm w))
  | 0x0E => decodeShift e w
  | 0x10 => some (.lb e d a (fImm w))
  | 0x11 => some (.lbu e d a (fImm w))
  | 0x12 => some (.lh e d a (fImm w))
  | 0x13 => some (.lhu e d a (fImm w))
  | 0x14 => some (.lw e d a (fImm w))
  | 0x15 => some (.lwu e d a (fImm w))
  | 0x16 => some (.ld e d a (fImm w))
  | 0x18 => some (.sb e d a (fImm w))
  | 0x19 => some (.sh e d a (fImm w))
  | 0x1A => some (.sw e d a (fImm w))
  | 0x1B => some (.sd e d a (fImm w))
  | 0x1C => whenZero (d == 0) (.cclean e a (fImm w))
  | 0x1D => whenZero (d == 0) (.cinv e a (fImm w))
  | 0x20 => some (.beq e d a (fImm w))
  | 0x21 => some (.bne e d a (fImm w))
  | 0x22 => some (.blt e d a (fImm w))
  | 0x23 => some (.bge e d a (fImm w))
  | 0x24 => some (.bltu e d a (fImm w))
  | 0x25 => some (.bgeu e d a (fImm w))
  | 0x28 => some (decodeUcmd e w)
  | 0x29 => some (.uwait e d a (fC w) (fImm11 w))
  | 0x2A => decodeEvpost e w
  | 0x2B => whenZero (fC w == 0) (.rqtake e d a (fImm11 w))
  | 0x2C => whenZero (d == 0) (.rqdone e a (fC w) (fImm11 w))
  | 0x2D => whenZero (a == 0 && fC w == 0 && fImm11 w == 0) (.rqdepth e d)
  | 0x2E => whenZero (fC w == 0) (.rinse e d a (fImm11 w))
  | 0x30 => whenZero (w.extractLsb' 0 18 == 0) (.step e d (w.extractLsb' 18 3).toFin)
  | _ => none

/-! ## Encoding -/

def regBits (r : Fin 32) : BitVec 5 := BitVec.ofFin r

/-- Format R: opcode, rd, rs1, rs2, n, func. -/
def wordR (op : Nat) (d a b : Fin 32) (n : BitVec 5) (func : Nat) : Word :=
  BitVec.ofNat 6 op ++ regBits d ++ regBits a ++ regBits b ++ n ++ BitVec.ofNat 6 func

/-- Formats I, M and B: opcode, two register fields, imm16. -/
def wordI (op : Nat) (d a : Fin 32) (imm : BitVec 16) : Word := BitVec.ofNat 6 op ++ regBits d ++ regBits a ++ imm

/-- Format U: opcode, three register fields, imm11. -/
def wordU (op : Nat) (d a b : Fin 32) (imm : BitVec 11) : Word := BitVec.ofNat 6 op ++ regBits d ++ regBits a ++ regBits b ++ imm

/-- The word of an instruction; none for a command that is no instruction. -/
def encodeTocon : Instr → Option Word
  | .add _ d a b => some (wordR 0x00 d a b 0 0x01)
  | .sub _ d a b => some (wordR 0x00 d a b 0 0x02)
  | .and _ d a b => some (wordR 0x00 d a b 0 0x03)
  | .or _ d a b => some (wordR 0x00 d a b 0 0x04)
  | .xor _ d a b => some (wordR 0x00 d a b 0 0x05)
  | .sll _ d a b => some (wordR 0x00 d a b 0 0x06)
  | .srl _ d a b => some (wordR 0x00 d a b 0 0x07)
  | .sra _ d a b => some (wordR 0x00 d a b 0 0x08)
  | .slt _ d a b => some (wordR 0x00 d a b 0 0x09)
  | .sltu _ d a b => some (wordR 0x00 d a b 0 0x0A)
  | .min _ d a b => some (wordR 0x00 d a b 0 0x0B)
  | .max _ d a b => some (wordR 0x00 d a b 0 0x0C)
  | .minu _ d a b => some (wordR 0x00 d a b 0 0x0D)
  | .maxu _ d a b => some (wordR 0x00 d a b 0 0x0E)
  | .mul _ d a b => some (wordR 0x00 d a b 0 0x10)
  | .mulh _ d a b => some (wordR 0x00 d a b 0 0x11)
  | .mulhu _ d a b => some (wordR 0x00 d a b 0 0x12)
  | .div _ d a b => some (wordR 0x00 d a b 0 0x14)
  | .divu _ d a b => some (wordR 0x00 d a b 0 0x15)
  | .rem _ d a b => some (wordR 0x00 d a b 0 0x16)
  | .remu _ d a b => some (wordR 0x00 d a b 0 0x17)
  | .sextw _ d a => some (wordR 0x00 d a 0 0 0x0F)
  | .qadd _ d a b => some (wordR 0x01 d a b 0 0x01)
  | .qsub _ d a b => some (wordR 0x01 d a b 0 0x02)
  | .macw _ d a b => some (wordR 0x01 d a b 0 0x08)
  | .qneg _ d a => some (wordR 0x01 d a 0 0 0x03)
  | .qabs _ d a => some (wordR 0x01 d a 0 0 0x04)
  | .qmul _ d a b n => some (wordR 0x01 d a b n 0x05)
  | .qmac _ d a b n => some (wordR 0x01 d a b n 0x06)
  | .qmsu _ d a b n => some (wordR 0x01 d a b n 0x07)
  | .qdiv _ d a b n => some (wordR 0x01 d a b n 0x0C)
  | .qrnd _ d a n => some (wordR 0x01 d a 0 n 0x09)
  | .qsat _ d a n => some (wordR 0x01 d a 0 n 0x0A)
  | .qshl _ d a n => some (wordR 0x01 d a 0 n 0x0B)
  | .mfs _ d n => some (wordR 0x02 d n.toFin 0 0 0x01)
  | .mts _ d a => some (wordR 0x02 d a 0 0 0x02)
  | .fence _ => some (wordR 0x02 0 0 0 0 0x03)
  | .tret _ a => some (wordR 0x02 0 a 0 0 0x04)
  | .brk _ => some (wordR 0x02 0 0 0 0 0x05)
  | .heartbeat _ => some (wordR 0x02 0 0 0 0 0x06)
  | .rddt _ d => some (wordR 0x02 d 0 0 0 0x07)
  | .addi _ d a k => some (wordI 0x04 d a k)
  | .andi _ d a k => some (wordI 0x05 d a k)
  | .ori _ d a k => some (wordI 0x06 d a k)
  | .xori _ d a k => some (wordI 0x07 d a k)
  | .slti _ d a k => some (wordI 0x08 d a k)
  | .sltiu _ d a k => some (wordI 0x09 d a k)
  | .shori _ d a k => some (wordI 0x0B d a k)
  | .jalr _ d a k => some (wordI 0x0D d a k)
  | .lb _ d a k => some (wordI 0x10 d a k)
  | .lbu _ d a k => some (wordI 0x11 d a k)
  | .lh _ d a k => some (wordI 0x12 d a k)
  | .lhu _ d a k => some (wordI 0x13 d a k)
  | .lw _ d a k => some (wordI 0x14 d a k)
  | .lwu _ d a k => some (wordI 0x15 d a k)
  | .ld _ d a k => some (wordI 0x16 d a k)
  | .sb _ d a k => some (wordI 0x18 d a k)
  | .sh _ d a k => some (wordI 0x19 d a k)
  | .sw _ d a k => some (wordI 0x1A d a k)
  | .sd _ d a k => some (wordI 0x1B d a k)
  | .beq _ d a k => some (wordI 0x20 d a k)
  | .bne _ d a k => some (wordI 0x21 d a k)
  | .blt _ d a k => some (wordI 0x22 d a k)
  | .bge _ d a k => some (wordI 0x23 d a k)
  | .bltu _ d a k => some (wordI 0x24 d a k)
  | .bgeu _ d a k => some (wordI 0x25 d a k)
  | .lui _ d k => some (wordI 0x0A d 0 k)
  | .jal _ d k => some (wordI 0x0C d 0 k)
  | .cclean _ a k => some (wordI 0x1C 0 a k)
  | .cinv _ a k => some (wordI 0x1D 0 a k)
  | .slli _ d a k => some (wordI 0x0E d a ((0 : BitVec 8) ++ BitVec.ofNat 2 0 ++ k))
  | .srli _ d a k => some (wordI 0x0E d a ((0 : BitVec 8) ++ BitVec.ofNat 2 1 ++ k))
  | .srai _ d a k => some (wordI 0x0E d a ((0 : BitVec 8) ++ BitVec.ofNat 2 2 ++ k))
  | .ucmd _ d a b k => some (wordU 0x28 d a b ((0 : BitVec 2) ++ k))
  | .ucmdStaged _ d a b k => some (wordU 0x28 d a b ((1 : BitVec 2) ++ k))
  | .ucmdScrub _ d a b k => some (wordU 0x28 d a b ((1 : BitVec 1) ++ k))
  | .uwait _ d a b k => some (wordU 0x29 d a b k)
  | .evpost _ c a b k => some (wordU 0x2A c.toFin a b ((0 : BitVec 2) ++ k))
  | .evpostClear _ c a b k => some (wordU 0x2A c.toFin a b ((1 : BitVec 2) ++ k))
  | .rqtake _ d a k => some (wordU 0x2B d a 0 k)
  | .rqdone _ a b k => some (wordU 0x2C 0 a b k)
  | .rqdepth _ d => some (wordU 0x2D d 0 0 0)
  | .rinse _ d a k => some (wordU 0x2E d a 0 k)
  | .step _ d k => some (BitVec.ofNat 6 0x30 ++ regBits d ++ (BitVec.ofFin k : BitVec 3) ++ (0 : BitVec 18))
  | _ => none


/-- Run a decoded instruction: the meaning of its row; no other command is an instruction. -/
def runTocon (i : Instr) (s : State) : Out :=
  match i with
  | .add e rd rs1 rs2 => execAdd e rd rs1 rs2 s
  | .sub e rd rs1 rs2 => execSub e rd rs1 rs2 s
  | .and e rd rs1 rs2 => execAnd e rd rs1 rs2 s
  | .or e rd rs1 rs2 => execOr e rd rs1 rs2 s
  | .xor e rd rs1 rs2 => execXor e rd rs1 rs2 s
  | .sll e rd rs1 rs2 => execSll e rd rs1 rs2 s
  | .srl e rd rs1 rs2 => execSrl e rd rs1 rs2 s
  | .sra e rd rs1 rs2 => execSra e rd rs1 rs2 s
  | .slt e rd rs1 rs2 => execSlt e rd rs1 rs2 s
  | .sltu e rd rs1 rs2 => execSltu e rd rs1 rs2 s
  | .min e rd rs1 rs2 => execMin e rd rs1 rs2 s
  | .max e rd rs1 rs2 => execMax e rd rs1 rs2 s
  | .minu e rd rs1 rs2 => execMinu e rd rs1 rs2 s
  | .maxu e rd rs1 rs2 => execMaxu e rd rs1 rs2 s
  | .sextw e rd rs1 => execSextw e rd rs1 s
  | .mul e rd rs1 rs2 => execMul e rd rs1 rs2 s
  | .mulh e rd rs1 rs2 => execMulh e rd rs1 rs2 s
  | .mulhu e rd rs1 rs2 => execMulhu e rd rs1 rs2 s
  | .div e rd rs1 rs2 => execDiv e rd rs1 rs2 s
  | .divu e rd rs1 rs2 => execDivu e rd rs1 rs2 s
  | .rem e rd rs1 rs2 => execRem e rd rs1 rs2 s
  | .remu e rd rs1 rs2 => execRemu e rd rs1 rs2 s
  | .qadd e rd rs1 rs2 => execQadd e rd rs1 rs2 s
  | .qsub e rd rs1 rs2 => execQsub e rd rs1 rs2 s
  | .qneg e rd rs1 => execQneg e rd rs1 s
  | .qabs e rd rs1 => execQabs e rd rs1 s
  | .qmul e rd rs1 rs2 n => execQmul e rd rs1 rs2 n s
  | .qmac e rd rs1 rs2 n => execQmac e rd rs1 rs2 n s
  | .qmsu e rd rs1 rs2 n => execQmsu e rd rs1 rs2 n s
  | .macw e rd rs1 rs2 => execMacw e rd rs1 rs2 s
  | .qrnd e rd rs1 n => execQrnd e rd rs1 n s
  | .qsat e rd rs1 n => execQsat e rd rs1 n s
  | .qshl e rd rs1 n => execQshl e rd rs1 n s
  | .qdiv e rd rs1 rs2 n => execQdiv e rd rs1 rs2 n s
  | .mfs e rd n => execMfs e rd n s
  | .mts e rd rs1 => execMts e rd rs1 s
  | .fence e => execFence e s
  | .tret e rs1 => execTret e rs1 s
  | .brk e => execBrk e s
  | .heartbeat e => execHeartbeat e s
  | .rddt e rd => execRddt e rd s
  | .slli e rd rs1 sh => execSlli e rd rs1 sh s
  | .srli e rd rs1 sh => execSrli e rd rs1 sh s
  | .srai e rd rs1 sh => execSrai e rd rs1 sh s
  | .ucmdScrub e rd rs1 rs2 imm => execUcmdScrub e rd rs1 rs2 imm s
  | .ucmdStaged e rd rs1 rs2 imm => execUcmdStaged e rd rs1 rs2 imm s
  | .ucmd e rd rs1 rs2 imm => execUcmd e rd rs1 rs2 imm s
  | .evpostClear e cls rs1 rs2 num => execEvpostClear e cls rs1 rs2 num s
  | .evpost e cls rs1 rs2 num => execEvpost e cls rs1 rs2 num s
  | .addi e rd rs1 imm => execAddi e rd rs1 imm s
  | .andi e rd rs1 imm => execAndi e rd rs1 imm s
  | .ori e rd rs1 imm => execOri e rd rs1 imm s
  | .xori e rd rs1 imm => execXori e rd rs1 imm s
  | .slti e rd rs1 imm => execSlti e rd rs1 imm s
  | .sltiu e rd rs1 imm => execSltiu e rd rs1 imm s
  | .lui e rd imm => execLui e rd imm s
  | .shori e rd rs1 imm => execShori e rd rs1 imm s
  | .jal e rd imm => execJal e rd imm s
  | .jalr e rd rs1 imm => execJalr e rd rs1 imm s
  | .lb e rt base off => execLb e rt base off s
  | .lbu e rt base off => execLbu e rt base off s
  | .lh e rt base off => execLh e rt base off s
  | .lhu e rt base off => execLhu e rt base off s
  | .lw e rt base off => execLw e rt base off s
  | .lwu e rt base off => execLwu e rt base off s
  | .ld e rt base off => execLd e rt base off s
  | .sb e rt base off => execSb e rt base off s
  | .sh e rt base off => execSh e rt base off s
  | .sw e rt base off => execSw e rt base off s
  | .sd e rt base off => execSd e rt base off s
  | .cclean e base off => execCclean e base off s
  | .cinv e base off => execCinv e base off s
  | .beq e rs1 rs2 off => execBeq e rs1 rs2 off s
  | .bne e rs1 rs2 off => execBne e rs1 rs2 off s
  | .blt e rs1 rs2 off => execBlt e rs1 rs2 off s
  | .bge e rs1 rs2 off => execBge e rs1 rs2 off s
  | .bltu e rs1 rs2 off => execBltu e rs1 rs2 off s
  | .bgeu e rs1 rs2 off => execBgeu e rs1 rs2 off s
  | .uwait e rd rs1 rs2 imm => execUwait e rd rs1 rs2 imm s
  | .rqtake e rd rs1 imm => execRqtake e rd rs1 imm s
  | .rqdone e rs1 rs2 imm => execRqdone e rs1 rs2 imm s
  | .rqdepth e rd => execRqdepth e rd s
  | .rinse e rd rs1 imm => execRinse e rd rs1 imm s
  | .step e rd k => execStep e rd k s
  | _ => .next s

end Sys2Proof.Machine
end

