-- ==== Sys2Proof/Machine/Debug.lean ====
section
/-!
DEFINITION. Single steps (R419), the service port's instructions (R415, R416), debug accesses (R419 to R421, R436) and the cast (R426).
What a data register scan shifts out is SecInt.tdo.
-/
namespace Sys2Proof.Machine

/-! ## Single step -/

/-- The instruction at the pc of engine e executes: a pc outside the instruction SRAM is an access outside the map, a reserved encoding a trap
with code 0x01, a word that an uncorrectable ECC error has hit one with 0x04 (R70, R80, R81). -/
def State.fetchRun (s : State) (e : Fin 8) : State :=
  let a := (s.eng e).pc
  if 0x20000 ≤ a.toNat then s.trap e 0x03 a
  else if a.toNat % 4 ≠ 0 then s.trap e 0x02 a
  else if s.eccHit (sramKey e a.toNat) 4 then s.trap e 0x04 a
  else
    match decodeTocon e (BitVec.ofNat 32 (s.rd (sramKey e a.toNat) 4)) with
    | none => s.trapFree e 0x01
    | some i =>
      match runTocon i s with
      | .next t => t
      | _ => s

/-- One instruction of an engine that a debugger has halted, and it halts again; a frame that waits is entered first (R63). -/
def State.stepEngine (s : State) (e : Fin 8) : State :=
  if s.fb (ENG_CTRL_run e) && s.debugHalted e && !s.frozen then
    let s := ((s.setF (ENG_STATUS_halted e) 0).settle e)
    (if s.ready e then s.fetchRun e else s).haltEngine e
  else s

/-- The write of single_step. -/
def State.singleStep (s : State) (e : Fin 8) : State :=
  match s.haltRefusal e with
  | some d => s.debugRefused 2 d
  | none => s.stepEngine e

def execSingleStep (e : Fin 8) (s : State) : Out := .next (s.singleStep e)

/-- The step that an earlier write of single_step has asked for. -/
def State.stepIfDue (s : State) (e : Fin 8) : State :=
  if (s.eng e).stepDue then (s.setEng e { s.eng e with stepDue := false }).singleStep e else s

/-! ## The port -/

/-- A scan of the service port: TCK runs, and a value is shifted out. In KEEP the port is not powered and nothing answers (R420). -/
def State.scan (s : State) (g : State → Nat × State) : State :=
  if s.mode.keep then s
  else
    let (v, s) := g (s.setSec fun x => { x with tckAt := some s.now })
    s.setSec fun x => { x with tdo := v }

/-- A register of one bit. -/
def bypassOut (tdi : Nat) : Nat := tdi * 2

def execBypass (tdi : Nat) (s : State) : Out := .next (s.scan fun s => (bypassOut tdi, s))

/-- IDCODE: [31:28] revision, [27:12] 0x9600, [11:1] maker, [0] 1. -/
def idcode : Nat := Config.idRevision % 16 * 2 ^ 28 + 0x9600 * 2 ^ 12 + Config.idMaker % 2048 * 2 + 1

def execIdcode (s : State) : Out := .next (s.scan fun s => (idcode, s))

/-- SAMPLE/PRELOAD: the balls are captured, and the boundary register takes what is shifted in. -/
def execSamplePreload (balls v : Nat) (s : State) : Out := .next (s.scan fun s => (balls, s.setSec fun x => { x with bsr := v }))

/-- EXTEST: in BLANK the boundary register, which drives the balls; what it captures is not stated. Else BYPASS. -/
def execExtest (v : Nat) (s : State) : Out :=
  .next (s.scan fun s => if s.lifecycle = blank then (s.fresh.1, s.fresh.2.setSec fun x => { x with bsr := v }) else (bypassOut v, s))

/-- The result records of service sessions not yet shifted out. -/
def State.svcUnread (s : State) : List Result := (s.outbox.filter fun r => 0xF000 ≤ r.orig.toNat && r.orig.toNat ≤ 0xF0FF).drop s.sec.svcRead

/-- What a scan of SVC captures: the oldest unread result and how many wait; with none waiting its bits are not stated, nor the count beyond
255 (log 6). -/
def State.svcCapture (s : State) : Nat × State :=
  let l := s.svcUnread
  match l with
  | [] => (s.fresh.1 % 2 ^ 128, s.fresh.2)
  | r :: _ =>
    let s := s.setSec fun x => { x with svcRead := x.svcRead + 1 }
    let (n, s) : Nat × State := if l.length < 256 then (l.length, s) else (s.fresh.1 % 256, s.fresh.2)
    (resultNat r + n * 2 ^ 128, s)

/-- SVC: a record, or zeros that only poll. -/
def execSvc (r : Option Req) (s : State) : Out :=
  .next (s.scan fun s =>
    let (v, s) := s.svcCapture
    match r with
    | none => (v, s)
    | some r => (v, s.svcServe .service svcQ r State.svcStep))

/-- SVC_BUF: a word of the staging buffer. -/
def execSvcBuf (idx : BitVec 10) (write : Bool) (data : BitVec 32) (s : State) : Out :=
  .next (s.scan fun s =>
    let k := stagingKey (4 * idx.toNat)
    let s := if write then s.wr k 4 data.toNat else s
    (idx.toNat + boolNat write * 2 ^ 10 + s.rd k 4 * 2 ^ 16, s.setSec fun x => { x with bufIdx := (idx.toNat + 1) % 1024 }))

/-! ## DBG_ACCESS -/

/-- The value of the register at a to a reader with engine e's latches, with no effect on the device but the free values it takes. -/
def State.peekReg (s : State) (e a : Nat) : Nat × State :=
  if a = MET_SEG_DATA then (s.segRead.1, s)
  else
    match blockRows a with
    | none => (0, s)
    | some rows =>
      let (v, t) := s.readPair e a (s.regValue rows a)
      (v, { s with free := t.free })

/-- A read that D1 permits: none, or its value. SRAM of T4 and the meter partition read zero while SEALED. -/
def State.dbgRead (s : State) (e a : Nat) : Option (Nat × State) :=
  let sealedT4 := e = 4 ∧ s.lifecycle = sealedState
  if a % 4 ≠ 0 then none
  else
    match regionOf a with
    | .csr => some (s.peekReg e a)
    | .isram | .dsram => some (if sealedT4 then (0, s) else (s.rd (sramKey e a) 4, s))
    | .meter => if e = 4 then some (if sealedT4 then (0, s) else (s.rd a 4, s)) else none
    | _ => none

/-- A write of CTRL: halt_req, single_step and run. -/
def State.dbgCtrl (s : State) (e : Fin 8) (v : Nat) : State :=
  if s.frozen then s
  else
    let s := if bitOf v 0 == s.fb (ENG_CTRL_run e) then s else s.writeRun e (bitOf v 0)
    let s := if bitOf v 2 == s.fb (ENG_CTRL_halt_req e) then s else s.haltReq e (bitOf v 2)
    if bitOf v 3 then s.singleStep e else s

/-- A write that D2 permits: none, or the state. -/
def State.dbgWrite (s : State) (e : Fin 8) (a v : Nat) : Option State :=
  if a % 4 ≠ 0 then none
  else if 0x40000000 ≤ a ∧ a < 0x40000400 ∧ a % 0x80 = 0 then some (s.dbgCtrl (Fin.ofNat 8 (a % 0x10000 / 0x80)) v)
  else if regionOf a = .dsram ∧ s.fb (ENG_STATUS_halted e) then some (s.wr (sramKey e a) 4 v)
  else none

/-- The engine that a write concerns: the one whose CTRL it is, else the one whose map applies. -/
def dbgTarget (e : Fin 8) (a : Nat) : Nat := if 0x40000000 ≤ a ∧ a < 0x40000400 then a % 0x10000 / 0x80 else e

/-- An access that fails the check with the detail that the spec does not state (log 6). -/
def State.refuseOpen (s : State) (level : Nat) : State := s.fresh.2.debugRefused level (0x40 + s.fresh.1 % 12)

/-- A debug access: the data it returns, and the state. An address of no block window does nothing and reads zero (R436). -/
def State.dbgAccess (s : State) (e : Fin 8) (a : Nat) (write : Bool) (v : Nat) : Nat × State :=
  if s.debugLevel < (if write then 2 else 1) then (0, s.debugRefused (if write then 2 else 1) 0x41)
  else if regionOf a = .csr ∧ (blockRows a).isNone then (0, s)
  else if write then
    (if dbgTarget e a = 4 ∧ s.lifecycle = sealedState then (0, s.debugRefused 2 0x42)
     else
      match s.dbgWrite e a v with
      | some t => (v, t)
      | none => (0, s.refuseOpen 2))
  else
    match s.dbgRead e a with
    | some x => x
    | none => (0, s.refuseOpen 1)

def execDbgAccess (addr : BitVec 32) (e : Fin 8) (write : Bool) (data : BitVec 32) (s : State) : Out :=
  .next (s.scan fun s =>
    let (v, s) := s.dbgAccess e addr.toNat write data.toNat
    (addr.toNat + e.val * 2 ^ 32 + boolNat write * 2 ^ 35 + v * 2 ^ 64, s))

/-! ## The cast -/

/-- The length of a chain in 32-bit words; 0 for a code of no chain. -/
def castLen (c : Nat) : Nat :=
  if c < 0x08 then 128 else if c < 0x10 then 65536
  else ([4096, 1024, 2048, 6160, 8192, 16384, 256, 4096] : List Nat).getD (c - 0x10) 0

/-- Whether a chain lies in Sireb. -/
def castSireb (c : Nat) : Bool := c == 0x04 || c == 0x0C || c == 0x14

/-- The register space in address order: base, registers of an instance, instances, stride (R434). -/
def castBlocks : List (Nat × Nat × Nat × Nat) :=
  [(0x40000000, 32, 8, 0x80), (0x40010000, 8, 1, 0), (0x40010040, 64, 1, 0), (0x40020000, 80, 1, 0), (0x40030000, 96, 1, 0), (0x40100000, 16, 32, 0x40),
    (0x40200000, 12, 256, 0x40), (0x40300000, 40, 8, 0x100), (0x40310000, 264, 1, 0), (0x40320000, 8, 4, 0x20), (0x40320080, 4, 16, 0x10),
    (0x40400000, 12, 8, 0x40), (0x40410000, 160, 1, 0)] ++
  [(0x40420000, 6, 32, 0x20), (0x40420400, 64, 1, 0), (0x40500000, 24, 1, 0), (0x40500100, 328, 1, 0), (0x40510000, 96, 1, 0), (0x40600000, 176, 1, 0),
    (0x40610000, 24, 8, 0x60), (0x40620000, 64, 1, 0)]

/-- The address of register k of the cast's register chain. -/
def castReg : List (Nat × Nat × Nat × Nat) → Nat → Nat
  | [], _ => 0
  | (base, n, m, stride) :: t, k => if k < n * m then base + k / n * stride + 4 * (k % n) else castReg t (k - n * m)

/-- Word k of a chain, frozen. Where the spec does not lay a chain out its words are free (log 6). -/
def State.castContent (s : State) (c k : Nat) : Nat × State :=
  if castLen c ≤ k ∨ (castSireb c ∧ s.lifecycle = sealedState) then (0, s)
  else if 0x08 ≤ c ∧ c < 0x10 then
    (s.rd (sramKey (c - 8) (if k < 32768 then 4 * k else 0x10000000 + 4 * (k - 32768))) 4, s)
  else if c = 0x13 then s.peekReg 7 (castReg castBlocks k)
  else (s.fresh.1 % 2 ^ 32, s.fresh.2)

/-- Word k of a chain: below D3 nothing is read; outside the frozen state what a chain shows is not stated (log 6). -/
def State.castRead (s : State) (c k : Nat) : Nat × State :=
  if s.debugLevel < 3 then (0, s)
  else if s.frozen then s.castContent c k
  else if castLen c ≤ k ∨ (castSireb c ∧ s.lifecycle = sealedState) then (0, s)
  else (s.fresh.1 % 2 ^ 32, s.fresh.2)

def execCastSel (chain : BitVec 8) (s : State) : Out :=
  .next (s.scan fun s =>
    let (w, s) := s.castRead chain.toNat 0
    (chain.toNat + w * 2 ^ 8, s.setSec fun x => { x with castChain := chain.toNat, castWord := 1 }))

def execCastData (s : State) : Out :=
  .next (s.scan fun s =>
    let (w, s) := s.castRead s.sec.castChain s.sec.castWord
    (w, s.setSec fun x => { x with castWord := x.castWord + 1 }))

end Sys2Proof.Machine
end

