-- ==== Sys2Proof/Machine/Tick.lean ====
section
/-!
DEFINITION. One tick of CK_PHU, 2.5 ns, in which no command comes: what the clocks drive and T7 does by themselves (R54, R70, R138, R142, R149, R376, R377, R411, R414, R419). Every
other timed effect is a command of its own.
-/
namespace Sys2Proof.Machine

/-- CK_ENG cycles of engine e in a tick, in eighths: 2.5, halved by the die throttle clamp (R134), a quarter while holding up (R120). -/
def State.engEighths (s : State) (e : Nat) : Nat :=
  if s.pwr.div4 && [0, 1, 5, 6].contains e then 5 else if s.fb (ENG_STATUS_throttled e) then 10 else 20

/-- Engine e: its cycle register counts while its core is released, and a written single step is done. -/
def State.tickEngine (s : State) (e : Fin 8) : State :=
  let s := if s.fb (ENG_CTRL_run e) then s.setEng e { s.eng e with cycles := (s.eng e).cycles + s.engEighths e } else s
  s.stepIfDue e

/-- Boot step 8 has waited 10 s for hold_ready: failure code 6; the wait goes on (R149). -/
def State.tickBoot (s : State) : State :=
  if s.f SEC_BOOT_STAT_stage = 8 ∧ s.mode.stepAt + 4000000000 ≤ s.now ∧ s.f SEC_BOOT_STAT_fail ≠ 6 then s.bootFail 6 else s

/-- T7 runs and is not halted. -/
def State.t7Runs (s : State) : Bool := s.fb (ENG_CTRL_run 7) && !s.fb (ENG_STATUS_halted 7)

/-- The running image's time in IDLE, RUN or HOLD; after 24 h T7 writes ROLLBACK.raise_main (R414). -/
def State.imageAge (s : State) : State :=
  if s.devMode = modeIdle ∨ s.devMode = modeRun ∨ s.devMode = modeHold then
    let k := s.f SEC_BOOT_STAT_image
    let n := SMap.get 0 s.vault.ran k + 1
    let s := s.setVault fun v => { v with ran := SMap.set 0 v.ran k n }
    if 34560000000000 ≤ n ∧ s.t7Runs then s.raiseMain else s
  else s

/-- T7's software reset after a lifecycle fuse has been blown (R411). -/
def State.lifecycleReset (s : State) : State := if s.sec.resetDue ∧ s.t7Runs then s.warmReset 3 else s

/-- What the derived clocks drive. -/
def State.tickClocks (s : State) : State := engines.foldl (fun (s : State) (e : Fin 8) => s.tickEngine e) (((s.tickDt.tickPhc 0).tickPhc 1).tickBoot)

/-- The tick: time goes on; the real-time clock always runs; T7 treats a double trap at once (R70), does what it does about the mode (R142), and resets after a
lifecycle transition (R411). -/
def State.tick (s : State) : State :=
  let s := { s with now := s.now + 1 }.tickRtc
  if s.clocked then s.tickClocks.imageAge.doubleTraps.modeStep.lifecycleReset else s

end Sys2Proof.Machine
end

