-- ==== Sys2Proof/Machine/Dispatch.lean ====
section
/-!
DEFINITION. The dispatch of a command to its meaning: one arm per row of the operation table.
-/
namespace Sys2Proof.Machine

def exec (i : Instr) (s : State) : Host.Outcome State Fault Refusal :=
  match i with
  | .requestArrival sender q r => Sys2Proof.Machine.execRequestArrival sender q r s
  | .registerWrite e addr v => Sys2Proof.Machine.execRegisterWrite e addr v s
  | .queueDisable w e q => Sys2Proof.Machine.execQueueDisable w e q s
  | .queueEnable w e q => Sys2Proof.Machine.execQueueEnable w e q s
  | .slotTick e k job => Sys2Proof.Machine.execSlotTick e k job s
  | .kick w e k => Sys2Proof.Machine.execKick w e k s
  | .slotEnable w e k rowSizeM1 rowCountM1 offset => Sys2Proof.Machine.execSlotEnable w e k rowSizeM1 rowCountM1 offset s
  | .slotDisable w e k => Sys2Proof.Machine.execSlotDisable w e k s
  | .stagedRelease e => Sys2Proof.Machine.execStagedRelease e s
  | .engineRun e run => Sys2Proof.Machine.execEngineRun e run s
  | .engineRestart e => Sys2Proof.Machine.execEngineRestart e s
  | .engineRestartRelease e image => Sys2Proof.Machine.execEngineRestartRelease e image s
  | .haltReq e v => Sys2Proof.Machine.execHaltReq e v s
  | .singleStep e => Sys2Proof.Machine.execSingleStep e s
  | .powerEngineWatchdog upper => Sys2Proof.Machine.execPowerEngineWatchdog upper s
  | .heartbeatMissed e => Sys2Proof.Machine.execHeartbeatMissed e s
  | .wardenWatchdog => Sys2Proof.Machine.execWardenWatchdog s
  | .wardenReset => Sys2Proof.Machine.execWardenReset s
  | .add e rd rs1 rs2 => Sys2Proof.Machine.execAdd e rd rs1 rs2 s
  | .sub e rd rs1 rs2 => Sys2Proof.Machine.execSub e rd rs1 rs2 s
  | .and e rd rs1 rs2 => Sys2Proof.Machine.execAnd e rd rs1 rs2 s
  | .or e rd rs1 rs2 => Sys2Proof.Machine.execOr e rd rs1 rs2 s
  | .xor e rd rs1 rs2 => Sys2Proof.Machine.execXor e rd rs1 rs2 s
  | .sll e rd rs1 rs2 => Sys2Proof.Machine.execSll e rd rs1 rs2 s
  | .srl e rd rs1 rs2 => Sys2Proof.Machine.execSrl e rd rs1 rs2 s
  | .sra e rd rs1 rs2 => Sys2Proof.Machine.execSra e rd rs1 rs2 s
  | .slt e rd rs1 rs2 => Sys2Proof.Machine.execSlt e rd rs1 rs2 s
  | .sltu e rd rs1 rs2 => Sys2Proof.Machine.execSltu e rd rs1 rs2 s
  | .min e rd rs1 rs2 => Sys2Proof.Machine.execMin e rd rs1 rs2 s
  | .max e rd rs1 rs2 => Sys2Proof.Machine.execMax e rd rs1 rs2 s
  | .minu e rd rs1 rs2 => Sys2Proof.Machine.execMinu e rd rs1 rs2 s
  | .maxu e rd rs1 rs2 => Sys2Proof.Machine.execMaxu e rd rs1 rs2 s
  | .sextw e rd rs1 => Sys2Proof.Machine.execSextw e rd rs1 s
  | .mul e rd rs1 rs2 => Sys2Proof.Machine.execMul e rd rs1 rs2 s
  | .mulh e rd rs1 rs2 => Sys2Proof.Machine.execMulh e rd rs1 rs2 s
  | .mulhu e rd rs1 rs2 => Sys2Proof.Machine.execMulhu e rd rs1 rs2 s
  | .div e rd rs1 rs2 => Sys2Proof.Machine.execDiv e rd rs1 rs2 s
  | .divu e rd rs1 rs2 => Sys2Proof.Machine.execDivu e rd rs1 rs2 s
  | .rem e rd rs1 rs2 => Sys2Proof.Machine.execRem e rd rs1 rs2 s
  | .remu e rd rs1 rs2 => Sys2Proof.Machine.execRemu e rd rs1 rs2 s
  | .addi e rd rs1 imm => Sys2Proof.Machine.execAddi e rd rs1 imm s
  | .andi e rd rs1 imm => Sys2Proof.Machine.execAndi e rd rs1 imm s
  | .ori e rd rs1 imm => Sys2Proof.Machine.execOri e rd rs1 imm s
  | .xori e rd rs1 imm => Sys2Proof.Machine.execXori e rd rs1 imm s
  | .slti e rd rs1 imm => Sys2Proof.Machine.execSlti e rd rs1 imm s
  | .sltiu e rd rs1 imm => Sys2Proof.Machine.execSltiu e rd rs1 imm s
  | .lui e rd imm => Sys2Proof.Machine.execLui e rd imm s
  | .shori e rd rs1 imm => Sys2Proof.Machine.execShori e rd rs1 imm s
  | .jal e rd imm => Sys2Proof.Machine.execJal e rd imm s
  | .jalr e rd rs1 imm => Sys2Proof.Machine.execJalr e rd rs1 imm s
  | .slli e rd rs1 sh => Sys2Proof.Machine.execSlli e rd rs1 sh s
  | .srli e rd rs1 sh => Sys2Proof.Machine.execSrli e rd rs1 sh s
  | .srai e rd rs1 sh => Sys2Proof.Machine.execSrai e rd rs1 sh s
  | .lb e rt base off => Sys2Proof.Machine.execLb e rt base off s
  | .lbu e rt base off => Sys2Proof.Machine.execLbu e rt base off s
  | .lh e rt base off => Sys2Proof.Machine.execLh e rt base off s
  | .lhu e rt base off => Sys2Proof.Machine.execLhu e rt base off s
  | .lw e rt base off => Sys2Proof.Machine.execLw e rt base off s
  | .lwu e rt base off => Sys2Proof.Machine.execLwu e rt base off s
  | .ld e rt base off => Sys2Proof.Machine.execLd e rt base off s
  | .sb e rt base off => Sys2Proof.Machine.execSb e rt base off s
  | .sh e rt base off => Sys2Proof.Machine.execSh e rt base off s
  | .sw e rt base off => Sys2Proof.Machine.execSw e rt base off s
  | .sd e rt base off => Sys2Proof.Machine.execSd e rt base off s
  | .cclean e base off => Sys2Proof.Machine.execCclean e base off s
  | .cinv e base off => Sys2Proof.Machine.execCinv e base off s
  | .beq e rs1 rs2 off => Sys2Proof.Machine.execBeq e rs1 rs2 off s
  | .bne e rs1 rs2 off => Sys2Proof.Machine.execBne e rs1 rs2 off s
  | .blt e rs1 rs2 off => Sys2Proof.Machine.execBlt e rs1 rs2 off s
  | .bge e rs1 rs2 off => Sys2Proof.Machine.execBge e rs1 rs2 off s
  | .bltu e rs1 rs2 off => Sys2Proof.Machine.execBltu e rs1 rs2 off s
  | .bgeu e rs1 rs2 off => Sys2Proof.Machine.execBgeu e rs1 rs2 off s
  | .qadd e rd rs1 rs2 => Sys2Proof.Machine.execQadd e rd rs1 rs2 s
  | .qsub e rd rs1 rs2 => Sys2Proof.Machine.execQsub e rd rs1 rs2 s
  | .qneg e rd rs1 => Sys2Proof.Machine.execQneg e rd rs1 s
  | .qabs e rd rs1 => Sys2Proof.Machine.execQabs e rd rs1 s
  | .qmul e rd rs1 rs2 n => Sys2Proof.Machine.execQmul e rd rs1 rs2 n s
  | .qmac e rd rs1 rs2 n => Sys2Proof.Machine.execQmac e rd rs1 rs2 n s
  | .qmsu e rd rs1 rs2 n => Sys2Proof.Machine.execQmsu e rd rs1 rs2 n s
  | .macw e rd rs1 rs2 => Sys2Proof.Machine.execMacw e rd rs1 rs2 s
  | .qrnd e rd rs1 n => Sys2Proof.Machine.execQrnd e rd rs1 n s
  | .qsat e rd rs1 n => Sys2Proof.Machine.execQsat e rd rs1 n s
  | .qshl e rd rs1 n => Sys2Proof.Machine.execQshl e rd rs1 n s
  | .qdiv e rd rs1 rs2 n => Sys2Proof.Machine.execQdiv e rd rs1 rs2 n s
  | .mfs e rd n => Sys2Proof.Machine.execMfs e rd n s
  | .mts e rd rs1 => Sys2Proof.Machine.execMts e rd rs1 s
  | .fence e => Sys2Proof.Machine.execFence e s
  | .fenceComplete e => Sys2Proof.Machine.execFenceComplete e s
  | .tret e rs1 => Sys2Proof.Machine.execTret e rs1 s
  | .brk e => Sys2Proof.Machine.execBrk e s
  | .heartbeat e => Sys2Proof.Machine.execHeartbeat e s
  | .rddt e rd => Sys2Proof.Machine.execRddt e rd s
  | .ucmd e rd rs1 rs2 imm => Sys2Proof.Machine.execUcmd e rd rs1 rs2 imm s
  | .ucmdStaged e rd rs1 rs2 imm => Sys2Proof.Machine.execUcmdStaged e rd rs1 rs2 imm s
  | .ucmdScrub e rd rs1 rs2 imm => Sys2Proof.Machine.execUcmdScrub e rd rs1 rs2 imm s
  | .uwait e rd rs1 rs2 imm => Sys2Proof.Machine.execUwait e rd rs1 rs2 imm s
  | .uwaitMet e => Sys2Proof.Machine.execUwaitMet e s
  | .uwaitTimeout e => Sys2Proof.Machine.execUwaitTimeout e s
  | .evpost e cls rs1 rs2 num => Sys2Proof.Machine.execEvpost e cls rs1 rs2 num s
  | .evpostClear e cls rs1 rs2 num => Sys2Proof.Machine.execEvpostClear e cls rs1 rs2 num s
  | .rqtake e rd rs1 imm => Sys2Proof.Machine.execRqtake e rd rs1 imm s
  | .rqdone e rs1 rs2 imm => Sys2Proof.Machine.execRqdone e rs1 rs2 imm s
  | .rqdepth e rd => Sys2Proof.Machine.execRqdepth e rd s
  | .rinse e rd rs1 imm => Sys2Proof.Machine.execRinse e rd rs1 imm s
  | .step e rd k => Sys2Proof.Machine.execStep e rd k s
  | .lockWindowEnd diff tune err grid => Sys2Proof.Machine.execLockWindowEnd diff tune err grid s
  | .referenceAbsence => Sys2Proof.Machine.execReferenceAbsence s
  | .acqFail => Sys2Proof.Machine.execAcqFail s
  | .release tests => Sys2Proof.Machine.execRelease tests s
  | .realign w => Sys2Proof.Machine.execRealign w s
  | .relock w => Sys2Proof.Machine.execRelock w s
  | .coastForce w => Sys2Proof.Machine.execCoastForce w s
  | .pllEnWrite w en => Sys2Proof.Machine.execPllEnWrite w en s
  | .ppsEdge count tests => Sys2Proof.Machine.execPpsEdge count tests s
  | .ppsMissing => Sys2Proof.Machine.execPpsMissing s
  | .feedSwitchover => Sys2Proof.Machine.execFeedSwitchover s
  | .switchoverEnd => Sys2Proof.Machine.execSwitchoverEnd s
  | .standbyFeedTest mV revUA mOhm cut => Sys2Proof.Machine.execStandbyFeedTest mV revUA mOhm cut s
  | .selftestNow w mV revUA mOhm cut => Sys2Proof.Machine.execSelftestNow w mV revUA mOhm cut s
  | .feedOutOfRange f => Sys2Proof.Machine.execFeedOutOfRange f s
  | .feedCollapse f => Sys2Proof.Machine.execFeedCollapse f s
  | .pfw => Sys2Proof.Machine.execPfw s
  | .holdupEnd higher => Sys2Proof.Machine.execHoldupEnd higher s
  | .vholdFloor => Sys2Proof.Machine.execVholdFloor s
  | .capMeasured cap => Sys2Proof.Machine.execCapMeasured cap s
  | .holdLost => Sys2Proof.Machine.execHoldLost s
  | .holdupBudgetUpdate v => Sys2Proof.Machine.execHoldupBudgetUpdate v s
  | .nvWrite w n lenM1 => Sys2Proof.Machine.execNvWrite w n lenM1 s
  | .nvResolve w n lenM1 => Sys2Proof.Machine.execNvResolve w n lenM1 s
  | .nvPayloadCopied n => Sys2Proof.Machine.execNvPayloadCopied n s
  | .nvWriteDone n => Sys2Proof.Machine.execNvWriteDone n s
  | .nvResolveDone n => Sys2Proof.Machine.execNvResolveDone n s
  | .hkConversion v => Sys2Proof.Machine.execHkConversion v s
  | .dieThrottleClamp => Sys2Proof.Machine.execDieThrottleClamp s
  | .shutdownPowerOff => Sys2Proof.Machine.execShutdownPowerOff s
  | .shutdownLatchRelease => Sys2Proof.Machine.execShutdownLatchRelease s
  | .keepaliveChangeover onVbak => Sys2Proof.Machine.execKeepaliveChangeover onVbak s
  | .keepaliveLost => Sys2Proof.Machine.execKeepaliveLost s
  | .rtcSecWrite w v => Sys2Proof.Machine.execRtcSecWrite w v s
  | .rtcCommit => Sys2Proof.Machine.execRtcCommit s
  | .tamperPulse j now => Sys2Proof.Machine.execTamperPulse j now s
  | .modeWrite w v => Sys2Proof.Machine.execModeWrite w v s
  | .powerOnReset va vb => Sys2Proof.Machine.execPowerOnReset va vb s
  | .bootAcqRetry xin refinKHz => Sys2Proof.Machine.execBootAcqRetry xin refinKHz s
  | .softwareReset w => Sys2Proof.Machine.execSoftwareReset w s
  | .externalReset => Sys2Proof.Machine.execExternalReset s
  | .estopChannelLow b => Sys2Proof.Machine.execEstopChannelLow b s
  | .estopChannelHigh b => Sys2Proof.Machine.execEstopChannelHigh b s
  | .estopDiscrepancy => Sys2Proof.Machine.execEstopDiscrepancy s
  | .estopRearm w => Sys2Proof.Machine.execEstopRearm w s
  | .upstreamFrame n f => Sys2Proof.Machine.execUpstreamFrame n f s
  | .telemetryLost n k => Sys2Proof.Machine.execTelemetryLost n k s
  | .downstreamFrame n => Sys2Proof.Machine.execDownstreamFrame n s
  | .auxDecimate n y0 y1 => Sys2Proof.Machine.execAuxDecimate n y0 y1 s
  | .laneLoss n => Sys2Proof.Machine.execLaneLoss n s
  | .laneTrain w n => Sys2Proof.Machine.execLaneTrain w n s
  | .trainingFail n code => Sys2Proof.Machine.execTrainingFail n code s
  | .lanePark w n => Sys2Proof.Machine.execLanePark w n s
  | .laneDisable w n => Sys2Proof.Machine.execLaneDisable w n s
  | .laneEnable w n => Sys2Proof.Machine.execLaneEnable w n s
  | .laneOff n => Sys2Proof.Machine.execLaneOff n s
  | .vendItemRead e n => Sys2Proof.Machine.execVendItemRead e n s
  | .phaseRise n yi yo yd iAvg => Sys2Proof.Machine.execPhaseRise n yi yo yd iAvg s
  | .phaseFall n => Sys2Proof.Machine.execPhaseFall n s
  | .phaseSample n afterFall y flagged => Sys2Proof.Machine.execPhaseSample n afterFall y flagged s
  | .senseFailure n src run ones => Sys2Proof.Machine.execSenseFailure n src run ones s
  | .phuEnable w n => Sys2Proof.Machine.execPhuEnable w n s
  | .phuDisable w n => Sys2Proof.Machine.execPhuDisable w n s
  | .phuRetry w n => Sys2Proof.Machine.execPhuRetry w n s
  | .phuClear w n => Sys2Proof.Machine.execPhuClear w n s
  | .pleatWrite w n v => Sys2Proof.Machine.execPleatWrite w n v s
  | .controlFrameBoundary => Sys2Proof.Machine.execControlFrameBoundary s
  | .ilimWrite w c v => Sys2Proof.Machine.execIlimWrite w c v s
  | .graceExpire c => Sys2Proof.Machine.execGraceExpire c s
  | .portLimWrite w p v => Sys2Proof.Machine.execPortLimWrite w p v s
  | .tapUpdate d yv yi yb => Sys2Proof.Machine.execTapUpdate d yv yi yb s
  | .matchHeld c => Sys2Proof.Machine.execMatchHeld c s
  | .zero c => Sys2Proof.Machine.execZero c s
  | .connectorRinse w c => Sys2Proof.Machine.execConnectorRinse w c s
  | .connDisable w c => Sys2Proof.Machine.execConnDisable w c s
  | .imdAge c => Sys2Proof.Machine.execImdAge c s
  | .coilCommand w k v => Sys2Proof.Machine.execCoilCommand w k v s
  | .coilPullEnd k => Sys2Proof.Machine.execCoilPullEnd k s
  | .feedbackChange k closed => Sys2Proof.Machine.execFeedbackChange k closed s
  | .coilFeedbackTimeout k => Sys2Proof.Machine.execCoilFeedbackTimeout k s
  | .coilMismatch k => Sys2Proof.Machine.execCoilMismatch k s
  | .coilOpen k => Sys2Proof.Machine.execCoilOpen k s
  | .menWrite w c en => Sys2Proof.Machine.execMenWrite w c en s
  | .setV sd e r => Sys2Proof.Machine.execSetV sd e r s
  | .setI sd e r => Sys2Proof.Machine.execSetI sd e r s
  | .setLimit sd e r => Sys2Proof.Machine.execSetLimit sd e r s
  | .powerReq sd r => Sys2Proof.Machine.execPowerReq sd r s
  | .powerRelease sd r => Sys2Proof.Machine.execPowerRelease sd r s
  | .headroom sd r => Sys2Proof.Machine.execHeadroom sd r s
  | .bufferAvail sd r => Sys2Proof.Machine.execBufferAvail sd r s
  | .siteLimit sd r => Sys2Proof.Machine.execSiteLimit sd r s
  | .authorize sd r a => Sys2Proof.Machine.execAuthorize sd r a s
  | .txEvent sd r => Sys2Proof.Machine.execTxEvent sd r s
  | .timeSet sd r => Sys2Proof.Machine.execTimeSet sd r s
  | .authNonce sd r => Sys2Proof.Machine.execAuthNonce sd r s
  | .authVerify sd r => Sys2Proof.Machine.execAuthVerify sd r s
  | .stringSw sd r => Sys2Proof.Machine.execStringSw sd r s
  | .remoteStart sd r => Sys2Proof.Machine.execRemoteStart sd r s
  | .remoteStop sd r => Sys2Proof.Machine.execRemoteStop sd r s
  | .setAvailable sd r => Sys2Proof.Machine.execSetAvailable sd r s
  | .unlock sd r => Sys2Proof.Machine.execUnlock sd r s
  | .setCeiling sd r => Sys2Proof.Machine.execSetCeiling sd r s
  | .vesselRequest c msg => Sys2Proof.Machine.execVesselRequest c msg s
  | .ocppCall k msg r tls => Sys2Proof.Machine.execOcppCall k msg r tls s
  | .lineSample c cpl prx => Sys2Proof.Machine.execLineSample c cpl prx s
  | .lockPulse w c => Sys2Proof.Machine.execLockPulse w c s
  | .unlockPulse w c => Sys2Proof.Machine.execUnlockPulse w c s
  | .lockPulseEnd c => Sys2Proof.Machine.execLockPulseEnd c s
  | .lockFeedbackChange c high => Sys2Proof.Machine.execLockFeedbackChange c high s
  | .lockTimeout c => Sys2Proof.Machine.execLockTimeout c s
  | .t1sLinkChange c up => Sys2Proof.Machine.execT1sLinkChange c up s
  | .sessionDisable w c => Sys2Proof.Machine.execSessionDisable w c s
  | .tsConversion t r => Sys2Proof.Machine.execTsConversion t r s
  | .aiConversion a v => Sys2Proof.Machine.execAiConversion a v s
  | .fqUpdate q freq pulses => Sys2Proof.Machine.execFqUpdate q freq pulses s
  | .lsCommand w n on => Sys2Proof.Machine.execLsCommand w n on s
  | .lsRetry w n => Sys2Proof.Machine.execLsRetry w n s
  | .lsClear w n => Sys2Proof.Machine.execLsClear w n s
  | .lsLatch w n => Sys2Proof.Machine.execLsLatch w n s
  | .lsTrip n mA => Sys2Proof.Machine.execLsTrip n mA s
  | .lsInrushEnd n => Sys2Proof.Machine.execLsInrushEnd n s
  | .lsOverload n => Sys2Proof.Machine.execLsOverload n s
  | .lsOpenLoad n => Sys2Proof.Machine.execLsOpenLoad n s
  | .lsSenseConversion n code => Sys2Proof.Machine.execLsSenseConversion n code s
  | .lsUndervoltage r => Sys2Proof.Machine.execLsUndervoltage r s
  | .lsUvRecover r => Sys2Proof.Machine.execLsUvRecover r s
  | .lsUvRestart r => Sys2Proof.Machine.execLsUvRestart r s
  | .groupTempMeasure g t => Sys2Proof.Machine.execGroupTempMeasure g t s
  | .shedStep g => Sys2Proof.Machine.execShedStep g s
  | .lsAdopt w => Sys2Proof.Machine.execLsAdopt w s
  | .vswLost => Sys2Proof.Machine.execVswLost s
  | .meterRun w => Sys2Proof.Machine.execMeterRun w s
  | .meterCut w => Sys2Proof.Machine.execMeterCut w s
  | .cutBoundary => Sys2Proof.Machine.execCutBoundary s
  | .blockEnd => Sys2Proof.Machine.execBlockEnd s
  | .blockDelivery => Sys2Proof.Machine.execBlockDelivery s
  | .meterAck w => Sys2Proof.Machine.execMeterAck w s
  | .calLock w => Sys2Proof.Machine.execCalLock w s
  | .metInputFail m stuck densOut => Sys2Proof.Machine.execMetInputFail m stuck densOut s
  | .chBack m => Sys2Proof.Machine.execChBack m s
  | .metBootInputTest failed => Sys2Proof.Machine.execMetBootInputTest failed s
  | .halfCycleEnd e => Sys2Proof.Machine.execHalfCycleEnd e s
  | .harmonicWindow intake freq lag npe zs harm => Sys2Proof.Machine.execHarmonicWindow intake freq lag npe zs harm s
  | .segDataAccess e write => Sys2Proof.Machine.execSegDataAccess e write s
  | .blockReadLatch e => Sys2Proof.Machine.execBlockReadLatch e s
  | .txOpen sd r => Sys2Proof.Machine.execTxOpen sd r s
  | .txClose sd r => Sys2Proof.Machine.execTxClose sd r s
  | .txConfirm sd r => Sys2Proof.Machine.execTxConfirm sd r s
  | .tariffLoad sd r => Sys2Proof.Machine.execTariffLoad sd r s
  | .utcOffset sd r => Sys2Proof.Machine.execUtcOffset sd r s
  | .creditSet sd r => Sys2Proof.Machine.execCreditSet sd r s
  | .recordRead sd r => Sys2Proof.Machine.execRecordRead sd r s
  | .txUnconfirmed sd r => Sys2Proof.Machine.execTxUnconfirmed sd r s
  | .flush sd r => Sys2Proof.Machine.execFlush sd r s
  | .relayClear sd r => Sys2Proof.Machine.execRelayClear sd r s
  | .recordSigned => Sys2Proof.Machine.execRecordSigned s
  | .dspStepPress c => Sys2Proof.Machine.execDspStepPress c s
  | .pointWrite sd r => Sys2Proof.Machine.execPointWrite sd r s
  | .scanNow sd r => Sys2Proof.Machine.execScanNow sd r s
  | .override sd r => Sys2Proof.Machine.execOverride sd r s
  | .histRead sd r => Sys2Proof.Machine.execHistRead sd r s
  | .modbusWrite src addr v => Sys2Proof.Machine.execModbusWrite src addr v s
  | .modbusRead src addr => Sys2Proof.Machine.execModbusRead src addr s
  | .dtStep w v => Sys2Proof.Machine.execDtStep w v s
  | .dtSlew w v => Sys2Proof.Machine.execDtSlew w v s
  | .dtReadLatch e => Sys2Proof.Machine.execDtReadLatch e s
  | .phcStep w p v => Sys2Proof.Machine.execPhcStep w p v s
  | .phcSecond p => Sys2Proof.Machine.execPhcSecond p s
  | .phcReadLatch e p => Sys2Proof.Machine.execPhcReadLatch e p s
  | .ringIndexWrite w u tx v => Sys2Proof.Machine.execRingIndexWrite w u tx v s
  | .ethFrameReceived n frame bad ptpEvent ans => Sys2Proof.Machine.execEthFrameReceived n frame bad ptpEvent ans s
  | .ethFrameSent n ptpEvent => Sys2Proof.Machine.execEthFrameSent n ptpEvent s
  | .ethLinkChange n link speed => Sys2Proof.Machine.execEthLinkChange n link speed s
  | .ethDisable w n begun => Sys2Proof.Machine.execEthDisable w n begun s
  | .uartFrameEnd u frame bad ans => Sys2Proof.Machine.execUartFrameEnd u frame bad ans s
  | .uartDisable w u begun => Sys2Proof.Machine.execUartDisable w u begun s
  | .btGo w b v => Sys2Proof.Machine.execBtGo w b v s
  | .btAbort w b => Sys2Proof.Machine.execBtAbort w b s
  | .btDone b good retries => Sys2Proof.Machine.execBtDone b good retries s
  | .canEnable w n v => Sys2Proof.Machine.execCanEnable w n v s
  | .canDisable w n => Sys2Proof.Machine.execCanDisable w n s
  | .canFrameReceived n f => Sys2Proof.Machine.execCanFrameReceived n f s
  | .canTxCommit w n sw => Sys2Proof.Machine.execCanTxCommit w n sw s
  | .canTxDone n => Sys2Proof.Machine.execCanTxDone n s
  | .canAttemptFail n err raise => Sys2Proof.Machine.execCanAttemptFail n err raise s
  | .canDiscard w n begun => Sys2Proof.Machine.execCanDiscard w n begun s
  | .canRecover w n => Sys2Proof.Machine.execCanRecover w n s
  | .canRecoveryComplete n => Sys2Proof.Machine.execCanRecoveryComplete n s
  | .plcCycleStart plan noise => Sys2Proof.Machine.execPlcCycleStart plan noise s
  | .plcBurstReceived buf fixed impulses => Sys2Proof.Machine.execPlcBurstReceived buf fixed impulses s
  | .plcBurstSent sent => Sys2Proof.Machine.execPlcBurstSent sent s
  | .plcDisable w => Sys2Proof.Machine.execPlcDisable w s
  | .fuseProgram w prog key => Sys2Proof.Machine.execFuseProgram w prog key s
  | .fuseProgramDone => Sys2Proof.Machine.execFuseProgramDone s
  | .rollbackRaise w => Sys2Proof.Machine.execRollbackRaise w s
  | .dbgGrant w level => Sys2Proof.Machine.execDbgGrant w level s
  | .dbgRevoke w => Sys2Proof.Machine.execDbgRevoke w s
  | .freezeGo w => Sys2Proof.Machine.execFreezeGo w s
  | .pauseOk w => Sys2Proof.Machine.execPauseOk w s
  | .pauseTimeout => Sys2Proof.Machine.execPauseTimeout s
  | .freezeDividersStop => Sys2Proof.Machine.execFreezeDividersStop s
  | .freezeLimit => Sys2Proof.Machine.execFreezeLimit s
  | .archSealNow w => Sys2Proof.Machine.execArchSealNow w s
  | .nonceExpiry => Sys2Proof.Machine.execNonceExpiry s
  | .authLatchExpiry => Sys2Proof.Machine.execAuthLatchExpiry s
  | .lockoutEnd => Sys2Proof.Machine.execLockoutEnd s
  | .sessionIdleTimeout => Sys2Proof.Machine.execSessionIdleTimeout s
  | .trst => Sys2Proof.Machine.execTrst s
  | .bypass tdi => Sys2Proof.Machine.execBypass tdi s
  | .idcode => Sys2Proof.Machine.execIdcode s
  | .samplePreload balls v => Sys2Proof.Machine.execSamplePreload balls v s
  | .extest v => Sys2Proof.Machine.execExtest v s
  | .svc r => Sys2Proof.Machine.execSvc r s
  | .svcBuf idx write data => Sys2Proof.Machine.execSvcBuf idx write data s
  | .dbgAccess addr e write data => Sys2Proof.Machine.execDbgAccess addr e write data s
  | .castSel chain => Sys2Proof.Machine.execCastSel chain s
  | .castData => Sys2Proof.Machine.execCastData s
  | .thaw => Sys2Proof.Machine.execThaw s
  | .svcOpen sd r => Sys2Proof.Machine.execSvcOpen sd r s
  | .svcClose sd r => Sys2Proof.Machine.execSvcClose sd r s
  | .challenge sd r => Sys2Proof.Machine.execChallenge sd r s
  | .authorise sd r => Sys2Proof.Machine.execAuthorise sd r s
  | .debugLevel sd r => Sys2Proof.Machine.execDebugLevel sd r s
  | .serviceMode sd r => Sys2Proof.Machine.execServiceMode sd r s
  | .freeze sd r => Sys2Proof.Machine.execFreeze sd r s
  | .imageWrite sd r => Sys2Proof.Machine.execImageWrite sd r s
  | .imageCommit sd r => Sys2Proof.Machine.execImageCommit sd r s
  | .plinthWrite sd r => Sys2Proof.Machine.execPlinthWrite sd r s
  | .provision sd r => Sys2Proof.Machine.execProvision sd r s
  | .secRead sd r => Sys2Proof.Machine.execSecRead sd r s
  | .keyRead sd r => Sys2Proof.Machine.execKeyRead sd r s
  | .holdReady => Sys2Proof.Machine.execHoldReady s
  | .vswRestored => Sys2Proof.Machine.execVswRestored s
  | .metrologySample dens shifted delayed => Sys2Proof.Machine.execMetrologySample dens shifted delayed s
  | .canRxError n code dataPhase raise => Sys2Proof.Machine.execCanRxError n code dataPhase raise s
  | .uartFrameSent u => Sys2Proof.Machine.execUartFrameSent u s
  | .crystalCheck oscillates refinKHz => Sys2Proof.Machine.execCrystalCheck oscillates refinKHz s

end Sys2Proof.Machine
end

