-- ==== Sys2Proof/Safety.lean ====
section
/-!
DEFINITION. What the statements call a sound state and a safe run.
-/
namespace Sys2Proof.Machine

/-- The memory in its canonical form. -/
abbrev Memory.wf (m : List Host.Cell) : Prop := SMap.wf unwritten m = true

/-- The outcome is a next state. -/
def Completes (o : Host.Outcome State Fault Refusal) : Prop := ∃ t, o = .next t

/-- Every command that waits, and every later one, finds a meaning: no step of a run of k steps faults or refuses. -/
def Runs (s : State) : Nat → Prop
  | 0 => True
  | k + 1 => ∃ t, step s = .next t ∧ Runs t k

end Sys2Proof.Machine
end

