-- ==== Sys2Proof/WellFormed.lean ====
section
/-!
DEFINITION. Well-formed commands: the operands fit the row.
-/
namespace Sys2Proof

/-- The request of a request row with the opcode that its chapter gives the row; none for every other row. -/
def Instr.request : Instr → Option (Nat × Req)
  | .powerReq _ r => some (0x0101, r)
  | .powerRelease _ r => some (0x0102, r)
  | .headroom _ r => some (0x0103, r)
  | .bufferAvail _ r => some (0x0104, r)
  | .siteLimit _ r => some (0x0105, r)
  | .authorize _ r _ => some (0x0110, r)
  | .txEvent _ r => some (0x0111, r)
  | .timeSet _ r => some (0x0112, r)
  | .setV _ _ r => some (0x0201, r)
  | .setI _ _ r => some (0x0202, r)
  | .setLimit _ _ r => some (0x0203, r)
  | .remoteStart _ r => some (0x0301, r)
  | .remoteStop _ r => some (0x0302, r)
  | .setAvailable _ r => some (0x0303, r)
  | .unlock _ r => some (0x0304, r)
  | .setCeiling _ r => some (0x0305, r)
  | .txOpen _ r => some (0x0401, r)
  | .txClose _ r => some (0x0402, r)
  | .txConfirm _ r => some (0x0403, r)
  | .tariffLoad _ r => some (0x0404, r)
  | .utcOffset _ r => some (0x0405, r)
  | .creditSet _ r => some (0x0406, r)
  | .recordRead _ r => some (0x0407, r)
  | .txUnconfirmed _ r => some (0x0408, r)
  | .flush _ r => some (0x0409, r)
  | .relayClear _ r => some (0x040A, r)
  | .stringSw _ r => some (0x0581, r)
  | .pointWrite _ r => some (0x0601, r)
  | .scanNow _ r => some (0x0602, r)
  | .override _ r => some (0x0603, r)
  | .histRead _ r => some (0x0604, r)
  | .svcOpen _ r => some (0x0701, r)
  | .svcClose _ r => some (0x0702, r)
  | .challenge _ r => some (0x0703, r)
  | .authorise _ r => some (0x0704, r)
  | .debugLevel _ r => some (0x0705, r)
  | .serviceMode _ r => some (0x0706, r)
  | .freeze _ r => some (0x0707, r)
  | .imageWrite _ r => some (0x0708, r)
  | .imageCommit _ r => some (0x0709, r)
  | .plinthWrite _ r => some (0x070A, r)
  | .provision _ r => some (0x070B, r)
  | .secRead _ r => some (0x070C, r)
  | .keyRead _ r => some (0x070D, r)
  | .authNonce _ r => some (0x0781, r)
  | .authVerify _ r => some (0x0782, r)
  | _ => none

/-- Whether the image of engine e has a job. -/
def Job.runsOn (j : Job) (e : Nat) : Bool :=
  match j with
  | .plain => true
  | .alloc => e == 0
  | .sessions => e == 1
  | .control => e == 2 || e == 3
  | .meter => e == 4
  | .cooling => e == 5
  | .scan _ | .scanEnd | .buffer => e == 6
  | .archive | .ecc _ _ _ => e == 7

/-- The bytes of a CAN frame by its length code (R383). -/
def CanFrame.fits (f : CanFrame) : Bool :=
  f.data.length == if f.dlc.val ≤ 8 then f.dlc.val else if f.flags.getLsbD 0 then [12, 16, 20, 24, 32, 48, 64].getD (f.dlc.val - 9) 64 else 8

/-- The operands fit the row: a request row carries its own opcode; a job is that of the engine whose slot ticks; a register address is a word
address of the register space (R56); a CAN frame has the bytes of its length code; a power-line buffer holds its 16-byte
descriptor (R398). -/
def Instr.wf (i : Instr) : Bool :=
  (match i.request with
   | some (op, r) => r.opcode.toNat == op
   | none => true) &&
  match i with
  | .slotTick e _ job => job.runsOn e.val
  | .registerWrite _ addr _ => decide (0x40000000 ≤ addr ∧ addr < 0x40700000) && addr % 4 == 0
  | .canFrameReceived _ f => f.fits
  | .plcBurstReceived buf _ _ => decide (16 ≤ buf.length)
  | _ => true

end Sys2Proof
end

