-- ==== Sys2Proof/Certificates/Slice0/Obligations.lean ====
section
/-!
DEFINITION. The statements for the provers, with the words they are written in.
-/
namespace Sys2Proof.Claims
open Sys2Proof.Machine

/-! ## Words of the statements -/

/-- The command answers a next state, and that state is as P says. -/
def Next (i : Instr) (s : State) (P : State → Prop) : Prop := ∃ t, exec i s = .next t ∧ P t

/-- Nothing but the engines' own state has changed: no register of the register space, no memory, no queue outside the engines. -/
def OnlyEngines (s t : State) : Prop := { t with engs := s.engs } = s

/-- Of an engine nothing has changed but general registers, flags and program counter of its running context. -/
def OnlyContext (a b : Engine) : Prop :=
  { b with bank := a.bank, shared := a.shared, flags := a.flags, pcs := a.pcs } = a ∧
    (∀ k, k / 16 ≠ a.ctx → SMap.get 0 b.bank k = SMap.get 0 a.bank k) ∧
    (∀ c, c ≠ a.ctx → SMap.get 0 b.flags c = SMap.get 0 a.flags c ∧ SMap.get 0 b.pcs c = SMap.get 0 a.pcs c)

/-- The flags: z, n, c, v, qs, ql, each either given or as before; the reserved bits as before (R85). -/
def FlagsTo (old new : DWord) (z n c v qs ql : Option Bool) : Prop :=
  new.getLsbD 0 = z.getD (old.getLsbD 0) ∧ new.getLsbD 1 = n.getD (old.getLsbD 1) ∧ new.getLsbD 2 = c.getD (old.getLsbD 2) ∧
    new.getLsbD 3 = v.getD (old.getLsbD 3) ∧ new.getLsbD 4 = qs.getD (old.getLsbD 4) ∧ new.getLsbD 5 = ql.getD (old.getLsbD 5) ∧
    ∀ i, 6 ≤ i → new.getLsbD i = old.getLsbD i

/-- Engine e has gone on to pc, and of its general registers only rd has changed: to v, or, where rd is g0, not at all. -/
def Wrote (s : State) (e : Fin 8) (rd : Fin 32) (v pc : DWord) (t : State) : Prop :=
  OnlyEngines s t ∧ (∀ j, j ≠ e.val → t.eng j = s.eng j) ∧ OnlyContext (s.eng e) (t.eng e) ∧ (t.eng e).pc = pc ∧
    ∀ r, (t.eng e).g r = if r = 0 then 0 else if r = rd then v else (s.eng e).g r

/-- rd takes v, the pc advances, and the flags are as given. -/
def Alu (i : Instr) (s : State) (e : Fin 8) (rd : Fin 32) (v : DWord) (c o qs ql : Option Bool) (n : Bool) : Prop :=
  Next i s fun t => Wrote s e rd v ((s.eng e).pc + 4) t ∧ FlagsTo (s.eng e).s0 (t.eng e).s0 (some (v == 0)) (some n) c o qs ql

/-- An integer instruction that writes z and n. -/
def AluZN (i : Instr) (s : State) (e : Fin 8) (rd : Fin 32) (v : DWord) : Prop := Alu i s e rd v none none none none v.msb

/-- A Q-format instruction: rd takes the exact value x limited to lo … hi; ql says whether it was limited, qs is sticky. -/
def AluQ (i : Instr) (s : State) (e : Fin 8) (rd : Fin 32) (lo hi x : Int) : Prop :=
  let sat := decide (x < lo ∨ hi < x)
  let r := max lo (min hi x)
  Alu i s e rd (BitVec.ofInt 64 r) none none (if sat then some true else none) (some sat) (decide (r < 0))

/-- 1 or 0. -/
def bit (p : Prop) [Decidable p] : DWord := if p then 1 else 0

/-- The low word as a signed number (R86). -/
def low (x : DWord) : Int := (BitVec.ofNat 32 x.toNat).toInt

/-- Rounding of R86: half toward plus infinity. -/
def rounded (p : Int) (n : Nat) : Int := if n = 0 then p else (p + 2 ^ (n - 1)).fdiv (2 ^ n)

/-- The engine has gone on to pc and nothing else has changed. -/
def Went (s : State) (e : Fin 8) (pc : DWord) (t : State) : Prop := Wrote s e 0 0 pc t ∧ (t.eng e).s0 = (s.eng e).s0

/-- Engine e has taken a trap (R55, R70): cause, context and count, the pc in TRAP_PC and s5, the operand in s6, and either trap state entered at
0x40, or, in trap state already, the engine halted. General registers, memory and the other engines as before. -/
def Trapped (s : State) (e : Fin 8) (code : Nat) (pc val : DWord) (t : State) : Prop :=
  let double := (s.eng e).ctx ∈ (s.eng e).inTrap
  t.f (ENG_TRAP_CAUSE_cause e) = code ∧ t.f (ENG_TRAP_PC_pc e) = pc.toNat % 2 ^ 17 ∧
    t.f (ENG_TRAP_CAUSE_count e) = min (s.f (ENG_TRAP_CAUSE_count e) + 1) (2 ^ (ENG_TRAP_CAUSE_count e).w - 1) ∧
    (t.eng e).trapPc = pc ∧ (t.eng e).trapVal = val ∧ t.mem = s.mem ∧ (∀ j, j ≠ e.val → t.eng j = s.eng j) ∧ (∀ r, (t.eng e).g r = (s.eng e).g r) ∧
    (if double then t.fb (ENG_STATUS_halted e) = true ∧ t.fb (ENG_STATUS_double_trap e) = true
     else (t.eng e).pc = 0x40 ∧ (s.eng e).ctx ∈ (t.eng e).inTrap ∧ t.fb (ENG_STATUS_halted e) = s.fb (ENG_STATUS_halted e))

/-- The regions that hold bytes and nothing else; LPDDR4X is reached through the cache. -/
def plain : Region → Bool
  | .isram | .dsram | .outbox | .leadArea | .nor | .meter | .recArea _ => true
  | _ => false

/-- The byte of LPDDR4X that engine e sees: its cache's where the cache holds the line. -/
def view (s : State) (e : Fin 8) (a : Nat) : Byte :=
  match takeLine (a / 64) (s.eng e).cache with
  | some (c, _) => c.bytes.getD (a % 64) 0
  | none => s.rdB a

/-- Every register field but the listed ones reads as before. -/
def Kept (s t : State) (l : List Fld) : Prop := ∀ x : Fld, (∀ y ∈ l, x.key ≠ y.key) → t.f x = s.f x

/-- The listed register fields take their values; every other field, memory and the engines stay. -/
def Regs (s t : State) (l : List (Fld × Nat)) : Prop := (∀ p ∈ l, t.f p.1 = p.2) ∧ Kept s t (l.map (·.1)) ∧ t.mem = s.mem ∧ t.engs = s.engs

/-- The general registers of engine e: rd has v, where rd is not g0, and the others are as before; the pc is pc. -/
def Rd (s t : State) (e : Fin 8) (rd : Fin 32) (v pc : DWord) : Prop :=
  (t.eng e).pc = pc ∧ ∀ r, (t.eng e).g r = if r = 0 then 0 else if r = rd then v else (s.eng e).g r

/-- A trap with a cause: TRAP_CAUSE and s5; what s6 holds is open. -/
def Cause (s : State) (e : Fin 8) (code : Nat) (t : State) : Prop :=
  t.f (ENG_TRAP_CAUSE_cause e) = code ∧ (t.eng e).trapPc = (s.eng e).pc ∧ (∀ r, (t.eng e).g r = (s.eng e).g r) ∧ t.mem = s.mem

/-- One record more stands in the event ring of each engine of the list: its index has advanced by one, modulo 256 (R58). -/
def Posted (s t : State) (dst : List Nat) : Prop := ∀ n ∈ dst, t.f (ENG_QUEUE_STAT_event_idx n) = (s.f (ENG_QUEUE_STAT_event_idx n) + 1) % 256

/-- While the clocks run, the request r is stored in queue q on its arrival from x, and u is the state in which the image's table step serves it. -/
def Served (s : State) (x : Sender) (q : QId) (r : Req) (u : State) : Prop := s.clocked = true ∧ ∃ w, s.commitB x q r = (true, w) ∧ u = w.unqueue q

/-- The n bytes from a lie in LPDDR4X. -/
def InDram (a n : Nat) : Prop := 0x100000000 ≤ a ∧ a + n ≤ 0x200000000

/-- The fields that posting a record changes. -/
def ringFields : List Fld := (List.range 8).flatMap fun n => [ENG_QUEUE_STAT_event_idx n, ENG_QUEUE_STAT_event_ovf n]

end Sys2Proof.Claims

open Sys2Proof Sys2Proof.Machine Sys2Proof.Claims

/-! ## The queue -/

/-- A step takes the command at the front of the queue and runs it with the queue's rest. -/
def Obligations.StepRunsFront : Prop :=
  ∀ (s : State) (c : Instr) (rest : List Instr), s.pending = c :: rest → step s = exec c { s with pending := rest }

/-! ## The Tocon instruction set -/

/-- R87, integer group: what each instruction writes, for every operand, g0 as destination among them. -/
def Sys2Proof.Claims.IntegerGroup : Prop :=
  ∀ (s : State) (e : Fin 8) (d a b : Fin 32), s.ready e = true →
    let x := (s.eng e).g a
    let y := (s.eng e).g b
    Alu (.add e d a b) s e d (x + y) (some (decide (2 ^ 64 ≤ x.toNat + y.toNat))) (some (decide ((x + y).toInt ≠ x.toInt + y.toInt))) none none (x + y).msb ∧
    Alu (.sub e d a b) s e d (x - y) (some (decide (x.toNat < y.toNat))) (some (decide ((x - y).toInt ≠ x.toInt - y.toInt))) none none (x - y).msb ∧
    AluZN (.and e d a b) s e d (x &&& y) ∧ AluZN (.or e d a b) s e d (x ||| y) ∧ AluZN (.xor e d a b) s e d (x ^^^ y) ∧
    AluZN (.sll e d a b) s e d (BitVec.ofNat 64 (x.toNat * 2 ^ (y.toNat % 64))) ∧
    AluZN (.srl e d a b) s e d (BitVec.ofNat 64 (x.toNat / 2 ^ (y.toNat % 64))) ∧
    AluZN (.sra e d a b) s e d (BitVec.ofInt 64 (x.toInt.fdiv (2 ^ (y.toNat % 64)))) ∧
    AluZN (.slt e d a b) s e d (bit (x.toInt < y.toInt)) ∧ AluZN (.sltu e d a b) s e d (bit (x.toNat < y.toNat)) ∧
    AluZN (.min e d a b) s e d (BitVec.ofInt 64 (min x.toInt y.toInt)) ∧ AluZN (.max e d a b) s e d (BitVec.ofInt 64 (max x.toInt y.toInt)) ∧
    AluZN (.minu e d a b) s e d (BitVec.ofNat 64 (min x.toNat y.toNat)) ∧ AluZN (.maxu e d a b) s e d (BitVec.ofNat 64 (max x.toNat y.toNat)) ∧
    AluZN (.sextw e d a) s e d (BitVec.ofInt 64 (low x)) ∧
    AluZN (.mul e d a b) s e d (BitVec.ofNat 64 (x.toNat * y.toNat)) ∧
    AluZN (.mulh e d a b) s e d (BitVec.ofInt 64 ((x.toInt * y.toInt).fdiv (2 ^ 64))) ∧
    AluZN (.mulhu e d a b) s e d (BitVec.ofNat 64 (x.toNat * y.toNat / 2 ^ 64))

/-- R87, divisions: quotient toward zero, remainder with the sign of the dividend; a divisor of zero traps with code 0x05. -/
def Sys2Proof.Claims.DivideGroup : Prop :=
  ∀ (s : State) (e : Fin 8) (d a b : Fin 32), s.ready e = true →
    let x := (s.eng e).g a
    let y := (s.eng e).g b
    (y ≠ 0 →
      Alu (.div e d a b) s e d (BitVec.ofInt 64 (x.toInt.tdiv y.toInt)) none (some (decide (x.toInt = -2 ^ 63 ∧ y.toInt = -1))) none none
        (BitVec.ofInt 64 (x.toInt.tdiv y.toInt)).msb ∧
      Alu (.divu e d a b) s e d (BitVec.ofNat 64 (x.toNat / y.toNat)) none (some false) none none (BitVec.ofNat 64 (x.toNat / y.toNat)).msb ∧
      AluZN (.rem e d a b) s e d (BitVec.ofInt 64 (x.toInt.tmod y.toInt)) ∧ AluZN (.remu e d a b) s e d (BitVec.ofNat 64 (x.toNat % y.toNat))) ∧
    (y = 0 → ∀ i ∈ [Instr.div e d a b, .divu e d a b, .rem e d a b, .remu e d a b], Next i s (Trapped s e 0x05 (s.eng e).pc 0))

/-- R87, immediate group. -/
def Sys2Proof.Claims.ImmediateGroup : Prop :=
  ∀ (s : State) (e : Fin 8) (d a : Fin 32) (imm : BitVec 16) (sh : BitVec 6), s.ready e = true →
    let x := (s.eng e).g a
    let k : DWord := BitVec.ofInt 64 imm.toInt
    let u : DWord := BitVec.ofNat 64 imm.toNat
    Alu (.addi e d a imm) s e d (x + k) (some (decide (2 ^ 64 ≤ x.toNat + k.toNat))) (some (decide ((x + k).toInt ≠ x.toInt + k.toInt))) none none
      (x + k).msb ∧
    AluZN (.andi e d a imm) s e d (x &&& u) ∧ AluZN (.ori e d a imm) s e d (x ||| u) ∧ AluZN (.xori e d a imm) s e d (x ^^^ u) ∧
    AluZN (.slti e d a imm) s e d (bit (x.toInt < imm.toInt)) ∧ AluZN (.sltiu e d a imm) s e d (bit (x.toNat < k.toNat)) ∧
    AluZN (.lui e d imm) s e d (BitVec.ofInt 64 (imm.toInt * 2 ^ 16)) ∧
    AluZN (.shori e d a imm) s e d (BitVec.ofNat 64 (x.toNat * 2 ^ 16 + imm.toNat)) ∧
    AluZN (.slli e d a sh) s e d (BitVec.ofNat 64 (x.toNat * 2 ^ sh.toNat)) ∧ AluZN (.srli e d a sh) s e d (BitVec.ofNat 64 (x.toNat / 2 ^ sh.toNat)) ∧
    AluZN (.srai e d a sh) s e d (BitVec.ofInt 64 (x.toInt.fdiv (2 ^ sh.toNat)))

/-- R87: the integer group with its divisions, and the immediate group: what each instruction writes, the flags it sets, and the trap of a divisor of zero. -/
def Obligations.IntegerAndImmediate : Prop := IntegerGroup ∧ DivideGroup ∧ ImmediateGroup

/-- R81, R87: jumps and branches, taken and not; a target outside the instruction SRAM is not executed and traps with code 0x03, s5 holding the
target; a JALR target that is not word-aligned traps with code 0x02. -/
def Obligations.JumpsAndBranches : Prop :=
  ∀ (s : State) (e : Fin 8) (d a b : Fin 32) (imm : BitVec 16), s.ready e = true →
    let x := (s.eng e).g a
    let y := (s.eng e).g b
    let pc := (s.eng e).pc
    let target := pc + BitVec.ofInt 64 (imm.toInt * 4)
    let t := x + BitVec.ofInt 64 imm.toInt
    (target.toNat < 0x20000 → Next (.jal e d imm) s fun q => Wrote s e d (pc + 4) target q ∧ (q.eng e).s0 = (s.eng e).s0) ∧
    (t.toNat % 4 = 0 → t.toNat < 0x20000 → Next (.jalr e d a imm) s fun q => Wrote s e d (pc + 4) t q ∧ (q.eng e).s0 = (s.eng e).s0) ∧
    (t.toNat % 4 ≠ 0 → Next (.jalr e d a imm) s (Trapped s e 0x02 pc t)) ∧
    (0x20000 ≤ target.toNat → Next (.jal e d imm) s fun q => q.f (ENG_TRAP_CAUSE_cause e) = 0x03 ∧ (q.eng e).trapPc = target ∧ (d ≠ 0 → (q.eng e).g d = pc + 4)) ∧
    (t.toNat % 4 = 0 → 0x20000 ≤ t.toNat →
      Next (.jalr e d a imm) s fun q => q.f (ENG_TRAP_CAUSE_cause e) = 0x03 ∧ (q.eng e).trapPc = t ∧ (d ≠ 0 → (q.eng e).g d = pc + 4)) ∧
    ∀ p ∈ [(Instr.beq e a b imm, decide (x = y)), (.bne e a b imm, decide (x ≠ y)), (.blt e a b imm, decide (x.toInt < y.toInt)),
        (.bge e a b imm, decide (y.toInt ≤ x.toInt)), (.bltu e a b imm, decide (x.toNat < y.toNat)), (.bgeu e a b imm, decide (y.toNat ≤ x.toNat))],
      (p.2 = false → Next p.1 s (Went s e (pc + 4))) ∧ (p.2 = true → target.toNat < 0x20000 → Next p.1 s (Went s e target)) ∧
      (p.2 = true → 0x20000 ≤ target.toNat → Next p.1 s (Trapped s e 0x03 target target))

/-- R86, R87: the Q-format group; QDIV with a zero low word as divisor traps with code 0x05. -/
def Obligations.QFormatGroup : Prop :=
  ∀ (s : State) (e : Fin 8) (d a b : Fin 32) (n : BitVec 5), s.ready e = true →
    let x := low ((s.eng e).g a)
    let y := low ((s.eng e).g b)
    let acc := (s.eng e).g d
    let lo : Int := -2 ^ 31
    let hi : Int := 2 ^ 31 - 1
    let k := n.toNat
    AluQ (.qadd e d a b) s e d lo hi (x + y) ∧ AluQ (.qsub e d a b) s e d lo hi (x - y) ∧ AluQ (.qneg e d a) s e d lo hi (-x) ∧
    AluQ (.qabs e d a) s e d lo hi (max x (-x)) ∧ AluQ (.qmul e d a b n) s e d lo hi (rounded (x * y) k) ∧
    AluQ (.qmac e d a b n) s e d lo hi (low acc + rounded (x * y) k) ∧ AluQ (.qmsu e d a b n) s e d lo hi (low acc - rounded (x * y) k) ∧
    AluQ (.macw e d a b) s e d (-2 ^ 63) (2 ^ 63 - 1) (acc.toInt + x * y) ∧
    AluQ (.qrnd e d a n) s e d lo hi (rounded ((s.eng e).g a).toInt k) ∧ AluQ (.qsat e d a n) s e d (-2 ^ k) (2 ^ k - 1) x ∧
    AluQ (.qshl e d a n) s e d lo hi (x * 2 ^ k) ∧ (y ≠ 0 → AluQ (.qdiv e d a b n) s e d lo hi ((x * 2 ^ k).tdiv y)) ∧
    (y = 0 → Next (.qdiv e d a b n) s (Trapped s e 0x05 (s.eng e).pc ((s.eng e).g b)))

/-- R55, R76, R83, R85, R87, R89: the system group. A special register above s7, MTS to another register than s0, TRET outside a trap handler and BRK without
permission trap with code 0x01. -/
def Sys2Proof.Claims.SystemGroup : Prop :=
  ∀ (s : State) (e : Fin 8) (d a : Fin 32) (n : BitVec 5), s.ready e = true →
    let g := s.eng e
    let pc := g.pc
    let special : DWord := match n.toNat with
      | 0 => g.s0
      | 1 => BitVec.ofNat 64 g.ctx
      | 2 => if g.ctx = 8 then 0 else BitVec.ofNat 64 (g.slot g.ctx).cur.count
      | 3 => if g.ctx = 8 then 0 else BitVec.ofNat 64 (g.slot g.ctx).cur.dt
      | 4 => BitVec.ofNat 64 (g.cycles / 8)
      | 5 => g.trapPc
      | 6 => g.trapVal
      | _ => BitVec.ofNat 64 e
    (n.toNat ≤ 7 → Next (.mfs e d n) s fun t => Wrote s e d special (pc + 4) t ∧ (t.eng e).s0 = g.s0) ∧
    (7 < n.toNat → Next (.mfs e d n) s fun t => t.f (ENG_TRAP_CAUSE_cause e) = 0x01 ∧ (t.eng e).trapPc = pc) ∧
    Next (.mts e 0 a) s (fun t => Wrote s e 0 0 (pc + 4) t ∧ (t.eng e).s0 = g.g a &&& 0x3F) ∧
    (d ≠ 0 → Next (.mts e d a) s fun t => t.f (ENG_TRAP_CAUSE_cause e) = 0x01 ∧ (t.eng e).trapPc = pc) ∧
    Next (.rddt e d) s (fun t => Wrote s e d (BitVec.ofNat 64 s.dtNs) (pc + 4) t ∧ (t.eng e).s0 = g.s0) ∧
    Next (.heartbeat e) s (fun t => t.f (ENG_HB_hb_count e) = (s.f (ENG_HB_hb_count e) + 1) % 2 ^ 32 ∧ (t.eng e).pc = pc + 4 ∧
      (∀ r, (t.eng e).g r = g.g r) ∧ (t.eng e).s0 = g.s0 ∧ t.mem = s.mem ∧ ∀ x : Fld, x.key ≠ (ENG_HB_hb_count e).key → t.f x = s.f x) ∧
    Next (.fence e) s (fun t => (t.eng e).fence = true ∧ (t.eng e).pc = pc ∧ t.mem = s.mem ∧ t.fields = s.fields) ∧
    (g.ctx ∈ g.inTrap → (g.g a).toNat < 0x20000 → Next (.tret e a) s fun t => (t.eng e).pc = g.g a ∧ g.ctx ∉ (t.eng e).inTrap ∧
      (∀ r, (t.eng e).g r = g.g r) ∧ (t.eng e).s0 = g.s0 ∧ t.mem = s.mem ∧ t.fields = s.fields) ∧
    (g.ctx ∉ g.inTrap → Next (.tret e a) s fun t => t.f (ENG_TRAP_CAUSE_cause e) = 0x01 ∧ (t.eng e).trapPc = pc) ∧
    (s.haltRefusal e = none → Next (.brk e) s fun t => t.f (ENG_TRAP_CAUSE_cause e) = 0x08 ∧ t.f (ENG_TRAP_PC_pc e) = pc.toNat % 2 ^ 17 ∧
      t.fb (ENG_STATUS_halted e) = true ∧ t.eng e = g ∧ t.mem = s.mem) ∧
    (s.haltRefusal e ≠ none → Next (.brk e) s fun t => t.f (ENG_TRAP_CAUSE_cause e) = 0x01 ∧ (t.eng e).trapPc = pc)

/-- R83: FENCE ends once every earlier store and immediate UCMD has been accepted, and the context goes on behind it. -/
def Sys2Proof.Claims.FenceCompletes : Prop :=
  ∀ (s : State) (e : Fin 8), (s.eng e).fence = true → (s.eng e).ctx ≠ 8 ∨ s.lowestSlot e = 8 →
    Next (.fenceComplete e) s fun t => (t.eng e).fence = false ∧ (t.eng e).pc = (s.eng e).pc + 4 ∧ (∀ r, (t.eng e).g r = (s.eng e).g r) ∧ t.mem = s.mem ∧
      t.fields = s.fields

/-- R55, R76, R83, R85, R87, R89: the system group, with the end of FENCE. -/
def Obligations.System : Prop := SystemGroup ∧ FenceCompletes

/-! ## Memory -/

/-- R56, R70, R87, R88: a load from memory gives the little-endian value at base + sext(off), extended; memory and flags stay. A byte that an uncorrectable ECC error has
hit is trap 0x04. -/
def Sys2Proof.Claims.Loads : Prop :=
  ∀ (s : State) (e : Fin 8) (d base : Fin 32) (off : BitVec 16), s.ready e = true →
    let a := (s.eng e).g base + BitVec.ofInt 64 off.toInt
    let r := regionOf a.toNat
    let v := fun n => s.rd (memKey e a.toNat) n
    let signed := fun n => BitVec.ofInt 64 (toSigned (8 * n) (v n))
    plain r = true → mayLoad e r = true →
      ∀ p ∈ [(Instr.lb e d base off, 1, signed 1), (.lbu e d base off, 1, BitVec.ofNat 64 (v 1)), (.lh e d base off, 2, signed 2),
          (.lhu e d base off, 2, BitVec.ofNat 64 (v 2)), (.lw e d base off, 4, signed 4), (.lwu e d base off, 4, BitVec.ofNat 64 (v 4)),
          (.ld e d base off, 8, BitVec.ofNat 64 (v 8))],
        a.toNat % p.2.1 = 0 →
          (s.eccHit (memKey e a.toNat) p.2.1 = false → Next p.1 s fun t => Wrote s e d p.2.2 ((s.eng e).pc + 4) t ∧ (t.eng e).s0 = (s.eng e).s0) ∧
          (s.eccHit (memKey e a.toNat) p.2.1 = true → Next p.1 s (Trapped s e 0x04 (s.eng e).pc a))

/-- R56, R87, R88: a store to memory writes the low bytes of rt at base + sext(off), little-endian, and no other byte; the data register and every
other stay, and the pc advances. -/
def Sys2Proof.Claims.Stores : Prop :=
  ∀ (s : State) (e : Fin 8) (d base : Fin 32) (off : BitVec 16), s.ready e = true →
    let a := (s.eng e).g base + BitVec.ofInt 64 off.toInt
    let r := regionOf a.toNat
    let k := memKey e a.toNat
    plain r = true → mayStore e r = true →
      ∀ p ∈ [(Instr.sb e d base off, 1), (.sh e d base off, 2), (.sw e d base off, 4), (.sd e d base off, 8)],
        a.toNat % p.2 = 0 → Next p.1 s fun t =>
          (∀ i < p.2, (t.rdB (k + i)).toNat = ((s.eng e).g d).toNat / 256 ^ i % 256) ∧
          (∀ x, x < k ∨ k + p.2 ≤ x → t.rdB x = s.rdB x) ∧ t.fields = s.fields ∧ t.eng e = (s.eng e).next ∧ (∀ j, j ≠ e.val → t.eng j = s.eng j)

/-- R56, R87, R88: loads from memory and stores to it. -/
def Obligations.LoadsAndStores : Prop := Loads ∧ Stores

/-- R70, R88: a misaligned access traps with code 0x02, an access to a region that the engine's map does not give it with code 0x03, and so does an
access of another width than 4 bytes to the register space; s6 is the address. -/
def Obligations.MemoryTraps : Prop :=
  ∀ (s : State) (e : Fin 8) (d base : Fin 32) (off : BitVec 16), s.ready e = true →
    let a := (s.eng e).g base + BitVec.ofInt 64 off.toInt
    let r := regionOf a.toNat
    let pc := (s.eng e).pc
    let loads := [(Instr.lb e d base off, 1), (.lbu e d base off, 1), (.lh e d base off, 2), (.lhu e d base off, 2), (.lw e d base off, 4),
      (.lwu e d base off, 4), (.ld e d base off, 8)]
    let stores := [(Instr.sb e d base off, 1), (.sh e d base off, 2), (.sw e d base off, 4), (.sd e d base off, 8)]
    (∀ p ∈ loads ++ stores, a.toNat % p.2 ≠ 0 → Next p.1 s (Trapped s e 0x02 pc a)) ∧
    (∀ p ∈ loads, a.toNat % p.2 = 0 → mayLoad e r = false ∨ (r = .csr ∧ p.2 ≠ 4) → Next p.1 s (Trapped s e 0x03 pc a)) ∧
    (∀ p ∈ stores, a.toNat % p.2 = 0 → (mayStore e r = false ∧ r ≠ .outbox) ∨ (r = .csr ∧ p.2 ≠ 4) → Next p.1 s (Trapped s e 0x03 pc a))

/-- R88, R436, R437: a word store to the register space by the engine in charge writes the register; an unassigned or reserved register ignores it; no
window traps with code 0x03; a register of which the engine is not in charge traps with code 0x07. A word load gives the register's value. -/
def Sys2Proof.Claims.RegisterAccess : Prop :=
  ∀ (s : State) (e : Fin 8) (d base : Fin 32) (off : BitVec 16), s.ready e = true →
    let a := (s.eng e).g base + BitVec.ofInt 64 off.toInt
    let v := ((s.eng e).g d).toNat % 2 ^ 32
    let pc := (s.eng e).pc
    regionOf a.toNat = .csr → a.toNat % 4 = 0 →
      (∀ wr l, s.regRight e a.toNat = .granted wr l → Next (.sw e d base off) s fun t => t = (s.advance e).putReg e a.toNat v wr l) ∧
      (s.regRight e a.toNat = .ignored → Next (.sw e d base off) s (Went s e (pc + 4))) ∧
      (s.regRight e a.toNat = .outside → Next (.sw e d base off) s (Trapped s e 0x03 pc a)) ∧
      (∀ c, s.regRight e a.toNat = .refused c → Next (.sw e d base off) s fun t =>
        t.f (ENG_TRAP_CAUSE_cause e) = 0x07 ∧ (t.eng e).trapPc = pc ∧ (t.eng e).trapVal = a ∧ ∀ r, (t.eng e).g r = (s.eng e).g r) ∧
      (∀ x u, s.csrLoad e a.toNat = some (x, u) →
        Next (.lwu e d base off) s (fun t => Wrote u e d (BitVec.ofNat 64 x) ((u.eng e).pc + 4) t) ∧
        Next (.lw e d base off) s (fun t => Wrote u e d (BitVec.ofInt 64 (toSigned 32 x)) ((u.eng e).pc + 4) t))

/-- R60, R70: a word loaded from LPDDR4X is what the engine's cache holds, and what memory holds where the cache does not; a line that an uncorrectable ECC error has hit there
is trap 0x04. -/
def Sys2Proof.Claims.CachedLoad : Prop :=
  ∀ (s : State) (e : Fin 8) (d base : Fin 32) (off : BitVec 16), s.ready e = true → e ≠ 4 → s.pwr.dramAsleep = false →
    let a := ((s.eng e).g base + BitVec.ofInt 64 off.toInt).toNat
    let line := takeLine (a / 64) (s.eng e).cache
    regionOf a = .dram → a % 8 = 0 →
      (line.isSome = true ∨ s.eccHit (64 * (a / 64)) 64 = false →
        Next (.ld e d base off) s fun t => (d ≠ 0 → ∀ i < 8, ((t.eng e).g d).toNat / 256 ^ i % 256 = (view s e (a + i)).toNat) ∧
          (t.eng e).pc = (s.eng e).pc + 4 ∧ (t.eng e).s0 = (s.eng e).s0 ∧ t.fields = s.fields) ∧
      (line = none → s.eccHit (64 * (a / 64)) 64 = true → Next (.ld e d base off) s (Trapped s e 0x04 (s.eng e).pc (BitVec.ofNat 64 a)))

/-- R60, R88: CCLEAN writes a dirty line back and keeps it clean; CINV discards it without write-back; both do nothing on an address outside LPDDR4X and
on T4. A write-back to LPDDR4X asleep traps with code 0x03 (R120). -/
def Sys2Proof.Claims.CacheInstructions : Prop :=
  ∀ (s : State) (e : Fin 8) (base : Fin 32) (off : BitVec 16), s.ready e = true →
    let a := ((s.eng e).g base + BitVec.ofInt 64 off.toInt).toNat
    let pc := (s.eng e).pc
    (regionOf a ≠ .dram ∨ e = 4 → Next (.cclean e base off) s (Went s e (pc + 4)) ∧ Next (.cinv e base off) s (Went s e (pc + 4))) ∧
    (regionOf a = .dram → e ≠ 4 →
      Next (.cinv e base off) s (fun t => takeLine (a / 64) (t.eng e).cache = none ∧ t.mem = s.mem ∧ (t.eng e).pc = pc + 4 ∧ t.fields = s.fields) ∧
      (s.pwr.dramAsleep = true → s.dirtyLine e (a / 64) = true → Next (.cclean e base off) s (Trapped s e 0x03 pc (BitVec.ofNat 64 a))) ∧
      (s.pwr.dramAsleep = false ∨ s.dirtyLine e (a / 64) = false → Next (.cclean e base off) s fun t => (t.eng e).pc = pc + 4 ∧ t.fields = s.fields ∧
        match takeLine (a / 64) (s.eng e).cache with
        | none => t.mem = s.mem
        | some (c, _) => t.mem = if c.dirty then (s.wrBytes (64 * (a / 64)) (c.bytes.take 64)).mem else s.mem))

/-- R60, R88: loads through the cache, and the two cache instructions. -/
def Obligations.Cache : Prop := CachedLoad ∧ CacheInstructions

/-- R17, R60, R88, R436 to R438: REGISTER_WRITE, CCLEAN and CINV complete. The write of a word address, whoever writes and whatever stands there, answers a next state: the
register written, nothing, or the access record. A cache instruction of a ready engine goes on, but for a write-back to LPDDR4X asleep. -/
def Obligations.WritesAndCacheComplete : Prop :=
  (∀ (s : State) (e : Fin 8) (a : Nat) (v : BitVec 32), a % 4 = 0 → ∃ t, exec (.registerWrite e a v) s = .next t ∧ t =
    match s.regRight e a with
    | .outside | .ignored => s
    | .refused c => s.accessRecord c e a
    | .granted wr l => s.putReg e a v.toNat wr l) ∧
  (∀ (s : State) (e : Fin 8) (base : Fin 32) (off : BitVec 16), s.ready e = true → s.pwr.dramAsleep = false → ∃ t, exec (.cclean e base off) s = .next t ∧
    (t.eng e).pc = (s.eng e).pc + 4 ∧ (∀ r, (t.eng e).g r = (s.eng e).g r) ∧ t.fields = s.fields ∧ ∀ j, j ≠ e.val → t.eng j = s.eng j) ∧
  ∀ (s : State) (e : Fin 8) (base : Fin 32) (off : BitVec 16), s.ready e = true → ∃ t, exec (.cinv e base off) s = .next t ∧
    (t.eng e).pc = (s.eng e).pc + 4 ∧ (∀ r, (t.eng e).g r = (s.eng e).g r) ∧ t.fields = s.fields ∧ t.mem = s.mem ∧ ∀ j, j ≠ e.val → t.eng j = s.eng j

/-! ## Unit commands, waits, events, requests and table steps of an engine -/

/-- R90, R92: an immediate UCMD of the engine in charge takes effect as a register write and rd is 0; over the switch-over gap it is held. A staged one goes
to the end of the staging buffer and rd is 0; in background, or with 512 staged, it is dropped and rd is 1. A refused, unmapped or misaligned address
traps, and nothing is commanded. -/
def Sys2Proof.Claims.UnitCommands : Prop :=
  ∀ (s : State) (e : Fin 8) (d a b : Fin 32) (imm : BitVec 9), s.ready e = true →
    let n := s.eng e
    let x := n.g a + BitVec.ofNat 64 (4 * imm.toNat)
    let v := (n.g b).toNat % 2 ^ 32
    let full := n.ctx = 8 ∨ 512 ≤ n.staging.length + n.releasing.length
    (x.toNat % 4 = 0 → ∀ wr l, s.regRight e x.toNat = .granted wr l →
      (s.gap = false → Next (.ucmd e d a b imm) s fun t => t = (s.setRd e d 0).putReg e x.toNat v wr l) ∧
      (s.gap = true → Next (.ucmd e d a b imm) s fun t => t.held = s.held ++ [⟨e, x.toNat, v⟩] ∧ Rd s t e d 0 (n.pc + 4) ∧ t.fields = s.fields ∧ t.mem = s.mem) ∧
      (¬full → Next (.ucmdStaged e d a b imm) s fun t => (t.eng e).staging = n.staging ++ [⟨n.ctx, x.toNat, BitVec.ofNat 32 v⟩] ∧ Rd s t e d 0 (n.pc + 4) ∧
        t.fields = s.fields ∧ t.mem = s.mem) ∧
      (full → Next (.ucmdStaged e d a b imm) s fun t => Wrote s e d 1 (n.pc + 4) t ∧ (t.eng e).s0 = n.s0)) ∧
    (x.toNat % 4 = 0 → s.regRight e x.toNat = .ignored → s.gap = false → Next (.ucmd e d a b imm) s fun t => Wrote s e d 0 (n.pc + 4) t) ∧
    (x.toNat % 4 = 0 → ∀ c, s.regRight e x.toNat = .refused c → ∀ i ∈ [Instr.ucmd e d a b imm, .ucmdStaged e d a b imm], Next i s fun t =>
      t.f (ENG_TRAP_CAUSE_cause e) = 0x07 ∧ (t.eng e).trapPc = n.pc ∧ (t.eng e).trapVal = x ∧ (t.eng e).staging = n.staging) ∧
    (x.toNat % 4 = 0 → s.regRight e x.toNat = .outside → ∀ i ∈ [Instr.ucmd e d a b imm, .ucmdStaged e d a b imm], Next i s (Trapped s e 0x03 n.pc x)) ∧
    (x.toNat % 4 ≠ 0 → ∀ i ∈ [Instr.ucmd e d a b imm, .ucmdStaged e d a b imm], Next i s (Trapped s e 0x02 n.pc x))

/-- R90: a scrub drops the commands that the running context has staged and gives their count in rd; with a field that is not zero it traps with code
0x01. STAGED_RELEASE lets the commands of completed frames take effect in the order staged: each as a register write, or held over the switch-over gap. -/
def Sys2Proof.Claims.ScrubAndRelease : Prop :=
  ∀ (s : State) (e : Fin 8),
    let n := s.eng e
    (s.ready e = true → ∀ d : Fin 32, Next (.ucmdScrub e d 0 0 0) s fun t =>
      (∀ x, x ∈ (t.eng e).staging ↔ x ∈ n.staging ∧ x.ctx ≠ n.ctx) ∧
      Rd s t e d (BitVec.ofNat 64 (n.staging.filter fun x => x.ctx == n.ctx).length) (n.pc + 4) ∧ t.fields = s.fields ∧ t.mem = s.mem) ∧
    (s.ready e = true → ∀ (d a b : Fin 32) (imm : BitVec 10), a ≠ 0 ∨ b ≠ 0 ∨ imm ≠ 0 → Next (.ucmdScrub e d a b imm) s (Cause s e 0x01)) ∧
    (s.clocked = true → s.gap = true → Next (.stagedRelease e) s fun t => t.held = s.held ++ n.releasing.map (fun c => ⟨e, c.addr, c.value.toNat⟩) ∧ (t.eng e).releasing = [] ∧
      t.fields = s.fields ∧ t.mem = s.mem ∧ (t.eng e).staging = n.staging) ∧
    (n.releasing = [] → Next (.stagedRelease e) s fun t => t.fields = s.fields ∧ t.mem = s.mem ∧ t.eng e = n) ∧
    (s.clocked = true → s.gap = false → ∀ c wr l, n.releasing = [c] → s.regRight e c.addr = .granted wr l →
      Next (.stagedRelease e) s fun t => t = (s.setEng e { n with releasing := [] }).putReg e c.addr c.value.toNat wr l)

/-- R90, R92: unit commands, immediate and staged, the scrub and the release of staged ones. -/
def Obligations.Commanding : Prop := UnitCommands ∧ ScrubAndRelease

/-- R93: UWAIT reads the register at issue: a bit at the wanted value gives rd 1 at once, a timeout of 0 gives 0, else the context waits; the wait ends with 1
where a later read finds the value, and with 0 once the cycles of its timeout have gone by. -/
def Obligations.UnitWaits : Prop :=
  (∀ (s : State) (e : Fin 8) (d a b : Fin 32) (imm : BitVec 11), s.ready e = true →
    let n := s.eng e
    let x := n.g a
    let k := imm.toNat % 32
    let want := imm.getLsbD 5
    let timeout := (n.g b).toNat % 2 ^ 32
    (64 ≤ imm.toNat → Next (.uwait e d a b imm) s (Cause s e 0x01)) ∧
    (imm.toNat < 64 → x.toNat % 4 ≠ 0 → Next (.uwait e d a b imm) s (Trapped s e 0x02 n.pc x)) ∧
    (imm.toNat < 64 → x.toNat % 4 = 0 → s.csrLoad e x.toNat = none → Next (.uwait e d a b imm) s (Trapped s e 0x03 n.pc x)) ∧
    (imm.toNat < 64 → x.toNat % 4 = 0 → ∀ v u, s.csrLoad e x.toNat = some (v, u) →
      (v.testBit k = want → Next (.uwait e d a b imm) s fun t => Wrote u e d 1 ((u.eng e).pc + 4) t) ∧
      (v.testBit k ≠ want → timeout = 0 → Next (.uwait e d a b imm) s fun t => Wrote u e d 0 ((u.eng e).pc + 4) t) ∧
      (v.testBit k ≠ want → timeout ≠ 0 → Next (.uwait e d a b imm) s fun t =>
        (t.eng e).wait = some ⟨x.toNat, k, want, timeout, d, n.cycles⟩ ∧ (t.eng e).pc = (u.eng e).pc ∧ t.fields = u.fields ∧ t.mem = u.mem))) ∧
  ∀ (s : State) (e : Fin 8) (w : Wait), s.clocked = true → s.waiting e = some w →
    ((s.eng e).cycles < w.since + 8 * w.timeout → Next (.uwaitTimeout e) s fun t => t = s) ∧
    (w.since + 8 * w.timeout ≤ (s.eng e).cycles → (s.eng e).ctx ≠ 8 ∨ s.lowestSlot e = 8 → Next (.uwaitTimeout e) s fun t =>
      (t.eng e).wait = none ∧ Rd s t e w.rd 0 ((s.eng e).pc + 4) ∧ t.fields = s.fields ∧ t.mem = s.mem) ∧
    ∀ v u, s.csrLoad e w.addr = some (v, u) → (u.eng e).ctx ≠ 8 ∨ u.lowestSlot e = 8 →
      (v.testBit w.bit = w.want → Next (.uwaitMet e) s fun t => (t.eng e).wait = none ∧ Rd u t e w.rd 1 ((u.eng e).pc + 4) ∧ t.fields = u.fields ∧ t.mem = u.mem) ∧
      (v.testBit w.bit ≠ w.want → Next (.uwaitMet e) s fun t => t = s)

/-- R39, R94, R95: EVPOST of class 0, 1 or 7 writes one entry, the event word and the argument word, into T7's ring and into that of the engine that the
argument names; the time is DT, or rs1. The register file stays. -/
def Sys2Proof.Claims.EventsPosted : Prop :=
  ∀ (s : State) (e : Fin 8) (cls : BitVec 5) (a b : Fin 32) (num : BitVec 9), s.ready e = true → cls.toNat ∈ [0, 1, 7] → (b ≠ 0 ∨ cls.toNat = 7) →
    (∀ n < 8, s.f (ENG_QUEUE_STAT_event_idx n) < 256) →
    let arg := if b = 0 then 0 else (s.eng e).g b
    let time := if a = 0 then s.dtNs else ((s.eng e).g a).toNat
    let word := (if b = 0 then 0 else 2 ^ 63) + cls.toNat * 2 ^ 60 + e.val * 2 ^ 57 + num.toNat * 2 ^ 48 + time / 256 % 2 ^ 48
    let named := arg.toNat / 2 ^ 32 % 2 ^ 16
    Next (.evpost e cls a b num) s fun t => Rd s t e 0 0 ((s.eng e).pc + 4) ∧ (t.eng e).s0 = (s.eng e).s0 ∧ t.trips = s.trips ∧
      (∀ n < 8, n = 7 ∨ (named = n + 1 ∧ n ≠ 4) →
        let k := sramKey n (0x1001E000 + 16 * s.f (ENG_QUEUE_STAT_event_idx n))
        t.rd k 8 = word ∧ t.rd (k + 8) 8 = arg.toNat ∧ t.f (ENG_QUEUE_STAT_event_idx n) = (s.f (ENG_QUEUE_STAT_event_idx n) + 1) % 256) ∧
      (∀ n < 7, named ≠ n + 1 ∨ n = 4 → t.f (ENG_QUEUE_STAT_event_idx n) = s.f (ENG_QUEUE_STAT_event_idx n)) ∧ Kept s t ringFields

/-- R42, R94, R95: EVPOST of class F2 declares a trip of the argument's scope, its clear form ends it; the classes 5, 6 and above 7, a fault without argument and
a clear of class 0, 1 or 7 trap with code 0x01, F3 and F4 of another engine than T7 with code 0x03. -/
def Sys2Proof.Claims.FaultsPosted : Prop :=
  ∀ (s : State) (e : Fin 8) (a b : Fin 32) (num : BitVec 9), s.ready e = true →
    let arg := (s.eng e).g b
    let sc : Scope := ⟨arg.extractLsb' 60 4, arg.extractLsb' 48 12⟩
    (b ≠ 0 → Next (.evpost e 2 a b num) s fun t => ∃ x ∈ t.trips, x.eng = e ∧ x.cls = 2 ∧ x.scope = sc) ∧
    (b ≠ 0 → ∀ c : BitVec 5, c = 2 ∨ (e = 7 ∧ (c = 3 ∨ c = 4)) → Next (.evpostClear e c a b num) s fun t => ∀ x ∈ t.trips, ¬(x.eng = e ∧ x.cls = c.toNat ∧ x.scope = sc)) ∧
    (∀ c : BitVec 5, 8 ≤ c.toNat ∨ c = 5 ∨ c = 6 ∨ (c.toNat ≤ 4 ∧ b = 0) → Next (.evpost e c a b num) s (Cause s e 0x01)) ∧
    (∀ c : BitVec 5, 8 ≤ c.toNat ∨ c.toNat ∈ [0, 1, 5, 6, 7] ∨ b = 0 → Next (.evpostClear e c a b num) s (Cause s e 0x01)) ∧
    (b ≠ 0 → e ≠ 7 → ∀ c : BitVec 5, c = 3 ∨ c = 4 → Next (.evpost e c a b num) s (Cause s e 0x03) ∧ Next (.evpostClear e c a b num) s (Cause s e 0x03))

/-- R39, R42, R94, R95: EVPOST. -/
def Obligations.Posting : Prop := EventsPosted ∧ FaultsPosted

/-- R73, R96: RQTAKE takes the oldest request of the first non-empty queue of its mask into the data SRAM and gives the queue's number; with all empty rd is all
ones. With a request taken already it traps with code 0x06. T4 finds in its data SRAM what the mailbox has copied of an indirect payload (R28; where is the model's choice,
log 19). RQDEPTH gives the depths. -/
def Sys2Proof.Claims.RequestsTaken : Prop :=
  ∀ (s : State) (e : Fin 8) (d a : Fin 32) (imm : BitVec 11), s.ready e = true →
    let n := s.eng e
    let x := n.g a
    let dst := x.toNat
    let items := fun q : Fin 4 => (s.queue (.queue e q)).items
    (32 ≤ imm.toNat → Next (.rqtake e d a imm) s (Cause s e 0x01)) ∧
    (imm.toNat < 32 → (n.takenIn n.ctx).isSome = true ∨ (16 ≤ imm.toNat ∧ e ≠ 4) → Next (.rqtake e d a imm) s (Cause s e 0x06)) ∧
    (imm.toNat < 16 → n.takenIn n.ctx = none →
      (dst < 0x10000000 ∨ 0x10020000 < dst + 32 → Next (.rqtake e d a imm) s (Trapped s e 0x03 n.pc x)) ∧
      (0x10000000 ≤ dst → dst + 32 ≤ 0x10020000 →
        (dst % 32 ≠ 0 → Next (.rqtake e d a imm) s (Trapped s e 0x02 n.pc x)) ∧
        (dst % 32 = 0 →
          ((∀ q : Fin 4, imm.getLsbD q = true → items q = []) → Next (.rqtake e d a imm) s fun t => Wrote s e d (BitVec.ofInt 64 (-1)) (n.pc + 4) t) ∧
          ∀ (q : Fin 4) (r : Queued) (rest : List Queued), imm.getLsbD q = true → items q = r :: rest →
            (∀ p : Fin 4, p < q → imm.getLsbD p = true → items p = []) → r.req.indirect = false → r.copied = [] → Next (.rqtake e d a imm) s fun t =>
              Rd s t e d (BitVec.ofNat 64 q) (n.pc + 4) ∧ (t.queue (.queue e q)).items = rest ∧ (t.eng e).takenIn n.ctx = some ⟨.queue e q, r, false⟩ ∧
                reqOfNat (t.rd (sramKey e dst) 32) = r.req ∧ t.fields = s.fields ∧ ∀ k, k < sramKey e dst ∨ sramKey e dst + 32 ≤ k → t.rdB k = s.rdB k))) ∧
    (e = 4 → imm = 16 → n.takenIn n.ctx = none → 0x10000000 ≤ dst → dst + 32 ≤ 0x10020000 → dst % 32 = 0 → ∀ r rest, s.mailbox.items = r :: rest →
      Next (.rqtake e d a imm) s fun t => Rd s t e d 4 (n.pc + 4) ∧ t.mailbox.items = rest ∧ t.rdBytes (sramKey 4 s.maq.mboxBuf) r.copied.length = r.copied ∧
        (r.copied = [] → reqOfNat (t.rd (sramKey e dst) 32) = r.req)) ∧
    Next (.rqdepth e d) s (fun t => Wrote s e d (BitVec.ofNat 64 ((items 0).length + 2 ^ 8 * (items 1).length + 2 ^ 16 * (items 2).length + 2 ^ 24 * (items 3).length +
      if e = 4 then 2 ^ 32 * s.mailbox.items.length else 0)) (n.pc + 4) t ∧ (t.eng e).s0 = n.s0)

/-- R31, R33, R96: RQDONE completes the request taken in the running context: the context holds none any more, and, where the originator is an engine, its result
record of status, detail and value stands next in that engine's result area. Without a request, or with a status other than 1, 2 and 3, it traps with code 0x06. -/
def Sys2Proof.Claims.RequestsDone : Prop :=
  ∀ (s : State) (e : Fin 8) (a b : Fin 32) (imm : BitVec 11), s.ready e = true →
    let n := s.eng e
    (8 ≤ imm.toNat → Next (.rqdone e a b imm) s (Cause s e 0x01)) ∧
    (imm.toNat < 8 → (n.takenIn n.ctx).isNone = true ∨ imm.toNat ∉ [1, 2, 3] → Next (.rqdone e a b imm) s (Cause s e 0x06)) ∧
    ∀ (x : Taken) (p q : Fin 8) (k : Fin 4), imm.toNat = 1 ∨ imm.toNat = 2 → n.takenIn n.ctx = some x → x.dead = false → x.q = .queue q k →
      x.item.req.periodKind = 0 → x.item.req.origId.toNat = p.val + 1 → x.item.req.replyWanted = false → (s.eng p).restarting = false →
      s.f (ENG_QUEUE_STAT_result_idx p) < 256 → Next (.rqdone e a b imm) s fun t =>
        (t.eng e).takenIn n.ctx = none ∧ Rd s t e 0 0 (n.pc + 4) ∧ (t.eng e).s0 = n.s0 ∧
        t.f (ENG_QUEUE_STAT_result_idx p) = (s.f (ENG_QUEUE_STAT_result_idx p) + 1) % 256 ∧
        t.rd (sramKey p (0x1001F000 + 16 * s.f (ENG_QUEUE_STAT_result_idx p))) 16 =
          (p.val + 1) + imm.toNat * 2 ^ 16 + (n.g b).toNat % 256 * 2 ^ 24 + x.item.req.reqId.toNat * 2 ^ 32 + (n.g a).toNat * 2 ^ 64

/-- R31, R33, R73, R96: RQTAKE, RQDEPTH and RQDONE. -/
def Obligations.RequestInstructions : Prop := RequestsTaken ∧ RequestsDone

/-- R51, R68, R97: RINSE of a kind that the engine owns advances that period's counter, modulo 2^32, and gives the new count; no request with an older tag of
the kind stays queued. Kind 1 only drains, and gives the present count.
Another engine's kind traps with code 0x06, no kind or a wrong instance with code 0x01. -/
def Obligations.PeriodRinse : Prop :=
  ∀ (s : State) (e : Fin 8) (d a : Fin 32) (kind : Fin 16), s.ready e = true →
    let n := s.eng e
    let inst := (n.g a).toNat
    let fits := if kind = 4 ∨ kind = 8 then inst ≤ 7 else inst = 0
    let now := (s.period kind inst + 1) % 2 ^ 32
    let i := Instr.rinse e d a (BitVec.ofNat 11 kind)
    (kind = 0 ∨ 9 < kind.val → Next i s (Cause s e 0x01)) ∧
    (1 ≤ kind.val → kind.val ≤ 9 → ownsPeriod e kind = false → Next i s (Cause s e 0x06)) ∧
    (ownsPeriod e kind = true → ¬fits → Next i s (Cause s e 0x01)) ∧
    (ownsPeriod e kind = true → fits → kind ≠ 1 → Next i s fun t => t.period kind inst = now ∧ Rd s t e d (BitVec.ofNat 64 now) (n.pc + 4) ∧
      ∀ q, ∀ r ∈ (t.queue q).items, r.req.periodKind.toNat = kind → tagInst r.req = inst → r.req.periodSeq.toNat = now % 4096) ∧
    (ownsPeriod e kind = true → fits → kind = 1 → Next i s fun t => t.period 1 0 = s.period 1 0 ∧ Rd s t e d (BitVec.ofNat 64 (s.period 1 0)) (n.pc + 4) ∧
      ∀ q, ∀ r ∈ (t.queue q).items, r.req.periodKind = 1 → r.req.periodSeq.toNat = s.period 1 0 % 4096) ∧
    (ownsPeriod e kind = true ↔ kind = 1 ∧ (e = 2 ∨ e = 3) ∨ kind = 2 ∧ e = 0 ∨ kind = 3 ∧ e = 5 ∨ (kind = 4 ∨ kind = 9) ∧ e = 6 ∨ (kind = 5 ∨ kind = 6 ∨ kind = 7) ∧ e = 4 ∨ kind = 8 ∧ e = 1)

/-- R63, R64, R65, R98: STEP in the frame of its slot gives the row address, and the table pointer moves on by the row size; where a lower-numbered slot has a frame
pending, that frame is entered first and the address is kept for the return. With no row left the frame ends, its staged commands go to release, and background code
goes on; an overrun ends it too, with the staged commands dropped, a record to T7 and the engine, and the pending frame entered. In another context STEP traps with code 0x01. -/
def Obligations.TableStep : Prop :=
  ∀ (s : State) (e k : Fin 8) (d : Fin 32), s.ready e = true →
    let n := s.eng e
    let x := n.slot k
    (n.ctx ≠ k → Next (.step e d k) s (Cause s e 0x01)) ∧
    (n.ctx = k → x.ovr = false → x.left ≠ 0 → (∀ j < k.val, (n.slot j).st = .idle) → Next (.step e d k) s fun t =>
      Rd s t e d (n.tpOf k) (n.pc + 4) ∧ (t.eng e).tpOf k = n.tpOf k + BitVec.ofNat 64 x.cur.rowSize ∧ ((t.eng e).slot k).left = x.left - 1 ∧
        (t.eng e).ctx = k ∧ t.fields = s.fields ∧ t.mem = s.mem) ∧
    (n.ctx = k → x.ovr = false → x.left = 0 → x.held = false → (∀ j < 8, j ≠ k.val → (n.slot j).st = .idle) → Next (.step e d k) s fun t =>
      (t.eng e).ctx = 8 ∧ ((t.eng e).slot k).st = .idle ∧ (t.eng e).releasing = n.releasing ++ n.staging.filter (fun c => c.ctx == k.val) ∧
        (∀ c ∈ (t.eng e).staging, c.ctx ≠ k) ∧ t.fields = s.fields ∧ t.mem = s.mem) ∧
    (n.ctx = k → x.ovr = false → x.left ≠ 0 → ∀ j < k.val, (∀ i < j, (n.slot i).st = .idle) → (n.slot j).st = .pending → Next (.step e d k) s fun t =>
      (t.eng e).ctx = j ∧ (t.eng e).pc = BitVec.ofNat 64 (0x80 + 0x40 * j) ∧ (t.eng e).tpOf j = BitVec.ofNat 64 (n.slot j).tick.base ∧
        ((t.eng e).slot j).st = .active ∧ ((t.eng e).slot j).left = (n.slot j).tick.rows ∧ ((t.eng e).slot k).stepRd = some (d, n.tpOf k) ∧
        (t.eng e).tpOf k = n.tpOf k + BitVec.ofNat 64 x.cur.rowSize ∧ t.fields = s.fields ∧ t.mem = s.mem) ∧
    (n.ctx = k → x.ovr = true → (∀ j < 8, j ≠ k.val → (n.slot j).st = .idle) → Next (.step e d k) s fun t =>
      (t.eng e).ctx = k ∧ (t.eng e).pc = BitVec.ofNat 64 (0x80 + 0x40 * k.val) ∧ ((t.eng e).slot k).left = x.tick.rows ∧ ((t.eng e).slot k).ovr = false ∧
        (∀ c ∈ (t.eng e).staging, c.ctx ≠ k) ∧ (t.eng e).releasing = n.releasing ∧ Posted s t [7, e])

/-! ## Slots, cores and queues -/

/-- R61, R62, R63, R65, R67: at an instant of its series a slot that is enabled, of a released core, ticks: its frame is pending, with the settings latched; a tick over a frame not
yet completed counts an overrun. At no other time, and while the clocks stand, does it tick. A kick of a slot with a period, or of one that is disabled, sets cfg_err; of a kick-only slot with a frame it is held. -/
def Sys2Proof.Claims.SlotTicks : Prop :=
  ∀ (s : State) (e k : Fin 8),
    let n := s.eng e
    let x := n.slot k
    let up := s.fb (ENG_SLOT_CFG_en e k) = true ∧ s.fb (ENG_CTRL_run e) = true
    let first := s.epoch + 40 * (x.ofs * x.per / 256)
    let series := x.per ≠ 0 ∧ first ≤ s.now ∧ (s.now - first) % (40 * x.per) = 0
    let new := match x.lastAt with
      | none => True
      | some t => if t < s.epoch then t + 40 * x.per ≤ s.now else t < s.now
    let on := up ∧ s.clocked = true ∧ series ∧ new
    let ovr := overrunFld e k
    (¬on → Next (.slotTick e k .plain) s fun t => t = s) ∧
    (on → x.st = .idle → n.ctx ≠ 8 ∨ n.fence = true → Next (.slotTick e k .plain) s fun t => ((t.eng e).slot k).st = .pending ∧ (t.eng e).ctx = n.ctx ∧
      ((t.eng e).slot k).tick = s.frameCfg e k ∧ t.fields = s.fields ∧ t.mem = s.mem) ∧
    (on → x.st = .idle → n.ctx = 8 → n.fence = false → s.fb (ENG_STATUS_halted e) = false → (∀ j < 8, (n.slot j).st = .idle) → Next (.slotTick e k .plain) s fun t =>
      (t.eng e).ctx = k ∧ (t.eng e).pc = BitVec.ofNat 64 (0x80 + 0x40 * k.val) ∧ (t.eng e).tpOf k = BitVec.ofNat 64 (16 * s.f (ENG_SLOT_BASE_base e k)) ∧
      ((t.eng e).slot k).left = s.f (ENG_SLOT_CFG_row_count_m1 e k) + 1 ∧ t.fields = s.fields ∧ t.mem = s.mem) ∧
    (on → x.st = .active → n.ctx ≠ 8 → Next (.slotTick e k .plain) s fun t => ((t.eng e).slot k).ovr = true ∧ t.f ovr = Nat.min 15 (s.f ovr + 1) ∧
      Kept s t [ovr] ∧ t.mem = s.mem) ∧
    (on → x.st = .pending → n.ctx ≠ 8 → Next (.slotTick e k .plain) s fun t => ((t.eng e).slot k).st = .pending ∧ t.f ovr = Nat.min 15 (s.f ovr + 1) ∧ Posted s t [7, e]) ∧
    ∀ w : Fin 8, w = 7 ∨ w = e →
      (s.f (ENG_SLOT_PERIOD_period e k) ≠ 0 ∨ s.fb (ENG_SLOT_CFG_en e k) = false → Next (.kick w e k) s fun t => Regs s t [(ENG_STATUS_cfg_err e, 1)]) ∧
      (s.f (ENG_SLOT_PERIOD_period e k) = 0 → up →
        (x.st ≠ .idle → Next (.kick w e k) s fun t => ((t.eng e).slot k).held = true ∧ ((t.eng e).slot k).st = x.st ∧ t.fields = s.fields ∧ t.mem = s.mem) ∧
        (x.st = .idle → n.ctx ≠ 8 → Next (.kick w e k) s fun t => ((t.eng e).slot k).st = .pending ∧ t.fields = s.fields ∧ t.mem = s.mem))

/-- R61, R62, R67: an accepted enable of a slot stores its settings, sets en, and gives its timer period and offset; a slot faster than 1 ms whose base is not in the data SRAM keeps en 0 and sets cfg_err. A disable
clears en, drops the slot's frame, its held kick and its staged commands, those of completed frames too, and T7 and the engine get the record of what was discarded. -/
def Sys2Proof.Claims.SlotEnables : Prop :=
  ∀ (s : State) (w e k : Fin 8) (m : BitVec 6) (r : BitVec 12) (o : BitVec 8), w = 7 ∨ w = e →
    let p := s.f (ENG_SLOT_PERIOD_period e k)
    let base := 16 * s.f (ENG_SLOT_BASE_base e k)
    let fast := 0 < p ∧ p < 10000 ∧ (base < 0x10000000 ∨ 0x10020000 ≤ base)
    let cfg := [(ENG_SLOT_CFG_row_size_m1 e k, m.toNat), (ENG_SLOT_CFG_row_count_m1 e k, r.toNat), (ENG_SLOT_CFG_offset e k, o.toNat)]
    (s.fb (ENG_SLOT_CFG_en e k) = false →
      (¬fast → Next (.slotEnable w e k m r o) s fun t => Regs s { t with engs := s.engs } (cfg ++ [(ENG_SLOT_CFG_en e k, 1)]) ∧
        t.eng e = (s.eng e).setSlot k { (s.eng e).slot k with per := p, ofs := o.toNat } ∧ ∀ j, j ≠ e.val → t.eng j = s.eng j) ∧
      (fast → Next (.slotEnable w e k m r o) s fun t => Regs s t (cfg ++ [(ENG_STATUS_cfg_err e, 1)])) ∧
      Next (.slotDisable w e k) s fun t => t = s) ∧
    (s.fb (ENG_SLOT_CFG_en e k) = true →
      (Next (.slotEnable w e k m r o) s fun t => Regs s t cfg) ∧
      ((s.eng e).takenIn k = none → Next (.slotDisable w e k) s fun t => t.fb (ENG_SLOT_CFG_en e k) = false ∧ ((t.eng e).slot k).st ≠ .active ∧ (t.eng e).ctx ≠ k ∧
        (∀ c ∈ (t.eng e).staging ++ (t.eng e).releasing, c.ctx ≠ k) ∧ ((∀ j < 8, ((s.eng e).slot j).ovr = false) → Posted s t [7, e])))

/-- R62, R63, R65, R67: ticks, kicks, enables and disables of slots. -/
def Obligations.Slots : Prop := SlotTicks ∧ SlotEnables

/-- R17, R437: a write of a register by an engine that is not in charge of it has no effect but the access record to T7: here the engine in charge of each register that a row of the table writes, and of
an engine's CTRL and slot registers T7 and that engine. -/
def Obligations.WritesRefused : Prop :=
  ∀ (s : State) (w e k : Fin 8) (q : Fin 4) (m : BitVec 6) (r : BitVec 12) (o : BitVec 8) (v : BitVec 32) (len : BitVec 14) (n : Fin 32) (u : Fin 256) (z : Fin 128) (en : Bool),
    let refused := fun t : State => Posted s t [7] ∧ Kept s t ringFields ∧ (∀ j, j ≠ 7 → t.eng j = s.eng j) ∧ t.mailbox = s.mailbox
    (w ≠ 7 → w ≠ e → ∀ i ∈ [Instr.kick w e k, .slotEnable w e k m r o, .slotDisable w e k, .queueDisable w e q, .queueEnable w e q], Next i s refused) ∧
    (w ≠ 7 → ∀ i ∈ [Instr.realign w, .relock w, .coastForce w, .pllEnWrite w en, .estopRearm w, .softwareReset w, .modeWrite w v, .freezeGo w, .fuseProgram w 1 0, .rollbackRaise w, .dbgGrant w 1,
      .dbgRevoke w, .archSealNow w, .rtcSecWrite w v, .selftestNow w () 0 0 false, .lsAdopt w], Next i s refused) ∧
    (w ≠ 4 → ∀ i ∈ [Instr.meterRun w, .meterCut w, .meterAck w, .calLock w, .menWrite w e en, .segDataAccess w (some v)], Next i s refused) ∧
    (w ≠ 6 → ∀ i ∈ [Instr.canEnable w e v, .canDisable w e, .canTxCommit w e m, .canDiscard w e en, .canRecover w e, .plcDisable w, .uartDisable w q en], Next i s refused) ∧
    (w ≠ 1 → ∀ i ∈ [Instr.lockPulse w e, .unlockPulse w e, .sessionDisable w e], Next i s refused) ∧
    (w ≠ 0 → ∀ p : Fin 2, ∀ i ∈ [Instr.dtSlew w v, .phcStep w p v], Next i s refused) ∧
    (w.val ≠ s.dtEng → Next (.dtStep w v) s refused) ∧ (w.val ≠ nvEng e → ∀ i ∈ [Instr.nvWrite w e len, .nvResolve w e len], Next i s refused) ∧
    (w.val ≠ laneEng n → ∀ i ∈ [Instr.laneTrain w n, .lanePark w n, .laneEnable w n, .laneDisable w n], Next i s refused) ∧
    (w.val ≠ phuEng u → ∀ i ∈ [Instr.phuEnable w u, .phuDisable w u, .phuRetry w u, .phuClear w u, .pleatWrite w u v], Next i s refused) ∧
    (w.val ≠ s.connEng e → ∀ i ∈ [Instr.ilimWrite w e v, .connectorRinse w e, .connDisable w e], Next i s refused) ∧ (w.val ≠ s.coilEng z → Next (.coilCommand w z v) s refused) ∧
    (w.val ≠ s.lswEng → ∀ i ∈ [Instr.lsCommand w n en, .lsRetry w n, .lsClear w n, .lsLatch w n], Next i s refused) ∧
    (∀ x : Fin 6, w.val ≠ ethEng x → Next (.ethDisable w x en) s refused) ∧ (∀ (x : RingUnit) (tx : Bool), w.val ≠ ringEng x → Next (.ringIndexWrite w x tx v) s refused) ∧
    (∀ x : Fin 2, w.val ≠ btEng x → ∀ i ∈ [Instr.btGo w x v, .btAbort w x], Next i s refused)

/-- R77, R443: a release enters background code at the reset entry with its counters cleared; a hold drops frames and staged commands. A restart holds the core, clears run and
empties its queues with their lint lists, its cache and its data SRAM; the release after it loads the engine's sections from the image that memory holds and runs the core. -/
def Sys2Proof.Claims.EngineCores : Prop :=
  ∀ (s : State) (e : Fin 8), s.mode.booted = true → s.f SEC_BOOT_STAT_stage ≠ 10 →
    let n := s.eng e
    (n.restarting = false → s.fb (ENG_CTRL_run e) = false → Next (.engineRun e true) s fun t => t.fb (ENG_CTRL_run e) = true ∧ t.f (ENG_HB_hb_count e) = 0 ∧
      t.f (ENG_TRAP_CAUSE_count e) = 0 ∧ (t.eng e).ctx = 8 ∧ (t.eng e).pc = 0 ∧ (t.eng e).cycles = 0 ∧ t.mem = s.mem) ∧
    (n.restarting = false → s.fb (ENG_CTRL_run e) = true → Next (.engineRun e false) s fun t => t.fb (ENG_CTRL_run e) = false ∧ (t.eng e).ctx = 8 ∧
      (∀ k, ((t.eng e).slot k).st = .idle) ∧ (t.eng e).staging = [] ∧ (t.eng e).inTrap = [] ∧ t.mem = s.mem) ∧
    (∀ r, n.restarting = true ∨ s.fb (ENG_CTRL_run e) = r → Next (.engineRun e r) s fun t => t = s) ∧
    (Next (.engineRestart e) s fun t => t.fb (ENG_CTRL_run e) = false ∧ t.eng e = { Engine.reset with restarting := true } ∧
      (∀ q : Fin 4, (t.queue (.queue e q)).items = [] ∧ (t.queue (.queue e q)).lints = []) ∧
      (∀ a, 0x10000000 ≤ a → a < 0x10020000 → t.rdB (sramKey e a) = 0)) ∧
    (n.restarting = true → e ≠ 6 → Next (.engineRestartRelease e ()) s fun t => t.fb (ENG_CTRL_run e) = true ∧ (t.eng e).restarting = false ∧
      (t.eng e).ctx = 8 ∧ (t.eng e).pc = 0 ∧ t.mem = (s.loadImage e false).mem) ∧
    (n.restarting = true → e ≠ 6 → let base := s.imageOf e; ∀ ofs len load, s.rd (base + 0x14) 2 = 1 → s.secEntry base 0 = (e.val, 1, ofs, len, load) → load + len ≤ 0x20000 →
      Memory.wf s.mem → base + ofs + len ≤ sramKey 0 0 →
      Next (.engineRestartRelease e ()) s fun t => ∀ i < len, t.rdB (sramKey e (load + i)) = s.rdB (base + ofs + i))

/-- R89, R419, R420: a halt request at the level it needs halts a running core, and its withdrawal lets a core halted so go on; a single step executes one instruction of a halted
core and the core is halted again; without the level nothing happens to the core. -/
def Sys2Proof.Claims.Halts : Prop :=
  ∀ (s : State) (e : Fin 8),
    (s.haltRefusal e = none →
      (s.fb (ENG_CTRL_run e) = true → Next (.haltReq e true) s fun t => t.fb (ENG_CTRL_halt_req e) = true ∧ t.fb (ENG_STATUS_halted e) = true ∧ t.eng e = s.eng e ∧ t.mem = s.mem) ∧
      (s.debugHalted e = true → (s.eng e).ctx ≠ 8 → Next (.haltReq e false) s fun t => t.fb (ENG_CTRL_halt_req e) = false ∧ t.fb (ENG_STATUS_halted e) = false ∧
        t.eng e = s.eng e ∧ t.mem = s.mem) ∧
      (s.fb (ENG_CTRL_run e) = true → s.debugHalted e = true → s.frozen = false → (s.eng e).ctx ≠ 8 → (s.eng e).wait = none → (s.eng e).fence = false →
        (s.eng e).pc.toNat < 0x20000 → (s.eng e).pc.toNat % 4 = 0 → s.eccHit (sramKey e (s.eng e).pc.toNat) 4 = false → s.rd (sramKey e (s.eng e).pc.toNat) 4 = 0x08000006 →
        Next (.singleStep e) s fun t => t.fb (ENG_STATUS_halted e) = true ∧ (t.eng e).pc = (s.eng e).pc + 4 ∧ t.f (ENG_HB_hb_count e) = (s.f (ENG_HB_hb_count e) + 1) % 2 ^ 32)) ∧
    (s.haltRefusal e ≠ none → ∀ i ∈ [Instr.haltReq e true, .haltReq e false, .singleStep e], Next i s fun t =>
      t.fb (ENG_STATUS_halted e) = s.fb (ENG_STATUS_halted e) ∧ t.fb (ENG_CTRL_halt_req e) = s.fb (ENG_CTRL_halt_req e) ∧ (t.eng e).pc = (s.eng e).pc)

/-- R77, R89, R419, R420, R443: running, restarting and halting the cores. -/
def Obligations.Cores : Prop := EngineCores ∧ Halts

/-- R47: a disable clears the queue's bit of q_en, discards what it holds; T7 and the engine get the record. An enable sets the bit and nothing else. -/
def Sys2Proof.Claims.QueueGates : Prop :=
  ∀ (s : State) (w e : Fin 8) (q : Fin 4), w = 7 ∨ w = e →
    let on := s.queueDisabled (.queue e q) = false
    (on → s.f (ENG_CTRL_q_en e) < 16 → Next (.queueDisable w e q) s fun t => t.queueDisabled (.queue e q) = true ∧ (t.queue (.queue e q)).items = [] ∧
      (∀ p : Fin 4, p ≠ q → t.queueDisabled (.queue e p) = s.queueDisabled (.queue e p)) ∧ Posted s t [7, e]) ∧
    (¬on → Next (.queueDisable w e q) s fun t => t = s) ∧ (on → Next (.queueEnable w e q) s fun t => t = s) ∧
    (¬on → s.f (ENG_CTRL_q_en e) < 16 → Next (.queueEnable w e q) s fun t => Regs s t [(ENG_CTRL_q_en e, s.f (ENG_CTRL_q_en e) + 2 ^ q.val)])

/-- R33, R37, R38, R47, R74: a request that its sender may use the queue for, that is no duplicate and meets no gate, is stored last in its queue with a PENDING entry first in its
originator's lint list, and nothing else happens, while the clocks run; a disabled queue, a tripped scope and a full queue each refuse it BUSY with detail 2, 1 and 0, and store nothing. -/
def Sys2Proof.Claims.RequestStored : Prop :=
  ∀ (s : State) (x : Sender) (e : Fin 8) (q : Fin 4) (r : Req) (l : LintOrig),
    let id := QId.queue e q
    let n := s.queue id
    let own := match x with
      | .engine p => r.origId.toNat = p.val + 1
      | _ => True
    s.clocked = true → maySend x id = true → own → origValid r.origId = true → n.lints.find? (·.orig == r.origId) = some l → (∀ y ∈ l.entries, y.reqId ≠ r.reqId) →
      (s.queueDisabled id = false → s.tripped r.scope = false → n.items.length ≠ 128 → l.entries.length < 64 → r.periodKind = 0 → superseding r.opcode = false →
        Next (.requestArrival x id r) s fun t => (t.queue id).items = n.items ++ [⟨r, []⟩] ∧
          (t.queue id).lints = ⟨l.orig, ⟨r.reqId, 0, 0, r.replyWanted, 0⟩ :: l.entries⟩ :: n.lints.filter (·.orig != r.origId) ∧
          t.fields = s.fields ∧ t.mem = s.mem ∧ t.outbox = s.outbox) ∧
      (origEngine r.origId = none → r.replyWanted = false → ∀ d, (s.queueDisabled id = true ∧ d = 2) ∨ (s.queueDisabled id = false ∧ s.tripped r.scope = true ∧ d = 1) ∨
          (s.queueDisabled id = false ∧ s.tripped r.scope = false ∧ n.items.length = 128 ∧ d = 0) →
        Next (.requestArrival x id r) s fun t => t.outbox = s.outbox ++ [⟨r.origId, 5, d, r.reqId, 0⟩] ∧ (t.queue id).items = n.items)

/-- R14, R25, R71: no engine sends to a queue of T4, which takes requests from its mailbox alone. A sender that may not use a queue reaches nothing: an engine traps with code 0x06, another sender's record is not stored. -/
def Sys2Proof.Claims.RequestUnentitled : Prop :=
  ∀ (s : State) (q : QId) (r : Req),
    (∀ e : Fin 8, s.clocked = true → maySend (.engine e) q = false → Next (.requestArrival (.engine e) q r) s (Cause s e 0x06)) ∧
    (∀ x ∈ [Sender.adapter, .service], maySend x q = false → Next (.requestArrival x q r) s fun t => t = s) ∧
    ∀ (e : Fin 8) (k : Fin 4), maySend (.engine e) (.queue 4 k) = false

/-- R33, R37, R38, R47, R71, R74: queues enabled and disabled, and requests that arrive at them. -/
def Obligations.Arrivals : Prop := QueueGates ∧ RequestStored ∧ RequestUnentitled

/-- R9, R17, R436 to R438: a write of a register by the engine in charge of it takes effect, of a W1C field as a clear; an address without a register, or a register without a field to write, ignores it; by another
engine it has no effect but the access record to T7. -/
def Sys2Proof.Claims.RegisterWrites : Prop :=
  ∀ (s : State) (e : Fin 8) (a : Nat) (v : BitVec 32), a % 4 = 0 →
    (∀ wr l, s.regRight e a = .granted wr l → Next (.registerWrite e a v) s fun t => t = s.putReg e a v.toNat wr l) ∧
    (s.regRight e a = .ignored ∨ s.regRight e a = .outside → Next (.registerWrite e a v) s fun t => t = s) ∧
    (∀ c, s.regRight e a = .refused c → Next (.registerWrite e a v) s fun t => Posted s t [7] ∧ Kept s t ringFields ∧ ∀ j, j ≠ 7 → t.eng j = s.eng j) ∧
    (∀ n ∈ [0, 127, 128, 255], e.val = phuEng n → v.toNat = 2 ^ ((PHU_EVENTS_sense_fail n).key % 32) → a = (PHU_EVENTS_sense_fail n).key / 32 →
      Next (.registerWrite e a v) s fun t => Regs s t [(PHU_EVENTS_sense_fail n, 0)])

/-- R9, R17, R88, R436 to R438: register reads and writes, by instruction and by command. -/
def Obligations.Registers : Prop := RegisterAccess ∧ RegisterWrites

/-! ## Clock -/

/-- R102, R106 to R108: a lock window, of which an acquisition has begun. A hard one locks at the fourth window in a row within 2, and a release becomes pending; the 64th without is a failure.
A soft one first waits for the phase, and stands still where the frequency does. LOCKED and RETURNING are lost, coasting, by a window beyond 8; COASTING returns by one within 8 while pll_en is 1.
A closed loop takes its word within slew_max while a phase unit is enabled. The window stands first in LOCK_HIST, the others behind it. -/
def Sys2Proof.Claims.LockWindows : Prop :=
  ∀ (s : State) (diff tune err : Int) (grid : Nat),
    let i := Instr.lockWindowEnd diff tune err grid
    let near := diff.natAbs ≤ 2
    let window : Nat := if s.f CLK_STATUS_src = 1 then 2621440 else 1048576
    let lim : Int := if s.phuAny then ((s.f CLK_SLEW_CFG_slew_max * 10 * window + 399999999) / 400000000 : Nat) else 2 ^ 24
    let word := s.fi CLK_TUNE_offset + clampI (-lim) lim (tune - s.fi CLK_TUNE_offset)
    let stands := s.phuAny = true ∧ s.f CLK_SLEW_CFG_slew_max = 0
    (s.clk.begun = false ∨ s.mode.keep = true → Next i s fun t => t = s) ∧
    (s.clk.begun = true → s.mode.keep = false →
      (s.pll = 0 → s.clk.hard = true →
        (near → s.clk.inLock = 3 → Next i s fun t => t.pll = 1 ∧ t.clk.relPending = true ∧ t.clk.relAt = s.now ∧ Posted s t [7]) ∧
        (¬(near ∧ s.clk.inLock = 3) → s.clk.acqWindows < 63 → Next i s fun t =>
          t.pll = 0 ∧ t.clk.acqWindows = s.clk.acqWindows + 1 ∧ t.clk.inLock = if near then s.clk.inLock + 1 else 0) ∧
        (¬(near ∧ s.clk.inLock = 3) → 63 ≤ s.clk.acqWindows → Next i s fun t => t.pll = 4 ∧ Posted s t [7])) ∧
      (s.pll = 0 ∨ (s.pll = 3 ∧ diff.natAbs ≤ 8) → s.clk.hard = false →
        (stands → Next i s fun t => t.pll = s.pll ∧ t.clk.acqWindows = s.clk.acqWindows ∧ t.clk.inLock = s.clk.inLock) ∧
        (¬stands → s.clk.pulled = true → near → s.clk.inLock = 3 → Next i s fun t =>
          t.pll = 1 ∧ t.clk.relPending = s.clk.relPending ∧ t.f CLK_PHASE_ERR_grid_ofs = grid % 2 ^ 10 ∧ Posted s t [7]) ∧
        (¬stands → ¬(s.clk.pulled = true ∧ near ∧ s.clk.inLock = 3) → s.pll = 3 ∨ s.clk.acqWindows < 63 → Next i s fun t =>
          t.pll = s.pll ∧ t.clk.pulled = (s.clk.pulled || decide (err.natAbs ≤ 8)) ∧ t.clk.inLock = if s.clk.pulled = true ∧ near then s.clk.inLock + 1 else 0)) ∧
      (s.pll = 1 ∨ s.pll = 3 → 8 < diff.natAbs → Next i s fun t =>
        t.pll = 2 ∧ t.fb CLK_STATUS_aligned = false ∧ t.clk.relPending = false ∧ t.clk.hard = false ∧ Posted s t [7]) ∧
      (s.pll = 1 → diff.natAbs ≤ 8 → Next i s fun t => t.pll = 1 ∧ t.clk.tunes = (word :: s.clk.tunes).take 4) ∧
      (s.pll = 2 → s.fb CLK_CTRL_pll_en = true → diff.natAbs ≤ 8 → Next i s fun t => t.pll = 3 ∧ t.clk.hard = (!s.phuAny) ∧ t.clk.inLock = 0 ∧ t.clk.acqWindows = 0 ∧ Posted s t [7]) ∧
      (s.pll = 2 → 8 < diff.natAbs ∨ s.fb CLK_CTRL_pll_en = false → Next i s fun t => t.pll = 2) ∧ (s.pll = 4 → Next i s fun t => t.pll = 4) ∧
      (s.pll ≤ 4 → Next i s fun t => t.f (CLK_LOCK_HIST_seq 0) = (s.clk.winNo + 1) % 2 ^ 16 ∧ t.clk.winNo = s.clk.winNo + 1 ∧
        (-2 ^ 15 ≤ diff → diff < 2 ^ 15 → t.fi (CLK_LOCK_HIST_diff 0) = diff) ∧ ∀ j < 7, t.f (CLK_LOCK_HIST_diff (j + 1)) = s.f (CLK_LOCK_HIST_diff j) % 2 ^ 16))

/-- R99 to R102, R107, R149: a reference that stays away lets the PLL coast; ACQ_FAIL, 64 windows' time after the start, ends an acquisition FAILED; the crystal check, within 5 ms of the reset's
release or at their end, and the retries of failure code 1, on XIN 1 s after it was last tried and on REFIN once XIN has failed, acquire on the source they name where a valid band entry contains the
target, and fail where none does. -/
def Sys2Proof.Claims.Acquisitions : Prop :=
  ∀ (s : State) (xin : Bool) (kHz : Nat),
    let src := if xin then 0 else if kHz < 17500 then 1 else 2
    let begun := fun t : State => t.f CLK_REF_CFG_src = src ∧ t.f CLK_STATUS_src = src ∧ t.fb CLK_STATUS_aligned = false ∧ t.clk.relPending = false ∧
      match s.bandFor (4000000 * 2 ^ 15) with
      | some k => t.pll = 0 ∧ t.f CLK_STATUS_band = s.f (CLK_BAND_HI_code k) % 2 ^ 6 ∧ t.clk.acqAt = s.now ∧ t.clk.acqWindows = 0
      | none => t.pll = 4
    let ends := s.clk.acqAt + 64 * (if s.f CLK_STATUS_src = 1 then 2621440 else 1048576)
    let stands := s.phuAny = true ∧ s.f CLK_SLEW_CFG_slew_max = 0
    let early := if xin then s.now ≤ s.mode.released + 2000000 else s.mode.released + 2000000 ≤ s.now
    let again := if xin then s.clk.xinAt + 400000000 ≤ s.now else s.f CLK_STATUS_src = 0
    (s.pll = 1 ∨ s.pll = 3 → Next .referenceAbsence s fun t => t.pll = 2 ∧ t.fb CLK_STATUS_aligned = false ∧ t.clk.relPending = false ∧ Posted s t [7]) ∧
    (s.pll ≠ 1 → s.pll ≠ 3 → Next .referenceAbsence s fun t => t = s) ∧
    (s.pll = 0 ∨ (s.pll = 3 ∧ s.clk.hard = true) → s.clk.begun = true → ¬stands → ends ≤ s.now → Next .acqFail s fun t => t.pll = 4 ∧ Posted s t [7] ∧
      (s.f SEC_BOOT_STAT_stage = 3 → s.mode.booted = false → t.f SEC_BOOT_STAT_fail = 1 ∧ t.pwr.record = 1)) ∧
    (s.pll = 1 ∨ s.pll = 2 ∨ s.pll = 4 ∨ s.clk.begun = false ∨ stands ∨ s.now < ends → Next .acqFail s fun t => t = s) ∧
    (xin = true ∨ kHz ≠ 17500 →
      (s.f SEC_BOOT_STAT_stage = 3 → s.clk.begun = false → early → Next (.crystalCheck xin kHz) s begun) ∧
      (s.f SEC_BOOT_STAT_stage = 3 → s.f SEC_BOOT_STAT_fail = 1 → s.pll = 4 → again → Next (.bootAcqRetry xin kHz) s begun)) ∧
    (s.f SEC_BOOT_STAT_stage ≠ 3 ∨ s.clk.begun = true ∨ ¬early → Next (.crystalCheck xin kHz) s fun t => t = s) ∧
    (s.f SEC_BOOT_STAT_stage ≠ 3 ∨ s.f SEC_BOOT_STAT_fail ≠ 1 ∨ s.pll ≠ 4 ∨ ¬again → Next (.bootAcqRetry xin kHz) s fun t => t = s)

/-- R99 to R102, R106 to R108, R149: lock windows and acquisitions. -/
def Obligations.Locking : Prop := LockWindows ∧ Acquisitions

/-- R106, R107, R109: T7's writes of CLK.CTRL. REALIGN makes a release pending only where the PLL is LOCKED and no phase unit enabled, and is refused otherwise; COAST_FORCE coasts; RELOCK acquires;
pll_en does the one or the other as it changes. -/
def Sys2Proof.Claims.ClockCommands : Prop :=
  ∀ s : State,
    let src := s.f CLK_REF_CFG_src % 2 ^ 3
    let acquiring := fun t : State => t.f CLK_STATUS_src = src ∧ t.fb CLK_STATUS_aligned = false ∧ t.clk.relPending = false ∧ t.clk.begun = true ∧
      if (s.bandFor (s.pllTarget src)).isSome then t.pll = 0 ∧ t.clk.hard = (!s.phuAny) else t.pll = 4
    let coasting := fun t : State => t.pll = 2 ∧ t.fb CLK_STATUS_aligned = false ∧ t.clk.relPending = false ∧ t.clk.hard = false ∧ t.mem = s.mem ∧ t.engs = s.engs
    (s.pll = 1 → s.phuAny = false → Next (.realign 7) s fun t => t.clk.relPending = true ∧ t.clk.relAt = s.now ∧ t.fields = s.fields ∧ t.mem = s.mem ∧ t.engs = s.engs) ∧
    (s.pll ≠ 1 ∨ s.phuAny = true → Next (.realign 7) s fun t => t.fb CLK_EVENTS_realign_refused = true ∧ t.clk = s.clk ∧ Posted s t [7] ∧
      Kept s t (CLK_EVENTS_realign_refused :: ringFields)) ∧
    Next (.coastForce 7) s coasting ∧ Next (.relock 7) s acquiring ∧
    (s.fb CLK_CTRL_pll_en = true → Next (.pllEnWrite 7 false) s (fun t => coasting t ∧ t.fb CLK_CTRL_pll_en = false) ∧
      Next (.pllEnWrite 7 true) s fun t => Regs s t [(CLK_CTRL_pll_en, 1)]) ∧
    (s.fb CLK_CTRL_pll_en = false → Next (.pllEnWrite 7 true) s (fun t => acquiring t ∧ t.fb CLK_CTRL_pll_en = true) ∧
      Next (.pllEnWrite 7 false) s fun t => Regs s t [(CLK_CTRL_pll_en, 0)])

/-- R103, R106, R112, R113, R148: a pending release with no phase unit enabled, 1 us after its trigger, parks every lane, sets the frame epoch and aligned, and at boot step 3 the boot timeline goes on; with one
enabled it is abandoned. With epoch_on_pps it waits for a 1PPS edge. An edge that has one before it moves the trim by the counted error, limited; 2 s without an edge are an event. -/
def Sys2Proof.Claims.Releases : Prop :=
  ∀ (s : State) (b : BootTests) (count : Nat),
    let released := fun t : State => t.epoch = s.now ∧ t.fb CLK_STATUS_aligned = true ∧ t.clk.relPending = false ∧
      (∀ n < 32, s.f (LANE_STATUS_state n) = 1 ∨ s.f (LANE_STATUS_state n) = 2 → t.f (LANE_STATUS_state n) = 3 ∧ t.f (LANE_STATUS_park_cause n) = 11) ∧
      (s.f SEC_BOOT_STAT_stage = 3 → t.fb (ENG_CTRL_run 7) = true ∧
        (b.dramFails = 2 → t.f SEC_BOOT_STAT_stage = 5 ∧ (s.mode.booted = false → t.f SEC_BOOT_STAT_fail = 2)) ∧
        (b.dramFails ≠ 2 → s.lifecycle = blank → t.f SEC_BOOT_STAT_stage = 6) ∧
        (b.dramFails ≠ 2 → s.lifecycle ≠ blank → t.f SEC_BOOT_STAT_stage = 6 ∨ t.f SEC_BOOT_STAT_stage = 7))
    let step := clampI (-(s.f CLK_SLEW_CFG_slew_max * 400 * 2 ^ 15 : Nat)) (s.f CLK_SLEW_CFG_slew_max * 400 * 2 ^ 15 : Nat)
      (((4000000000 : Int) - count) * 2 ^ (15 - s.f CLK_PPS_CFG_gain_shift))
    let disciplined := s.f CLK_STATUS_src = 3 ∧ s.fb CLK_PPS_CFG_en = true
    let open_ := s.clk.relPending = true ∧ s.frozen = false ∧ s.mode.keep = false
    (s.onPps = true ∨ s.now < s.clk.relAt + 400 ∨ ¬open_ → Next (.release b) s fun t => t = s) ∧
    (s.onPps = false → s.clk.relAt + 400 ≤ s.now → open_ → s.phuAny = false → Next (.release b) s released) ∧
    (s.onPps = false → s.clk.relAt + 400 ≤ s.now → open_ → s.phuAny = true → Next (.release b) s fun t =>
      t.clk.relPending = false ∧ t.epoch = s.epoch ∧ t.fb CLK_EVENTS_realign_refused = true ∧ Posted s t [7]) ∧
    (Next (.ppsEdge count b) s fun t => t.clk.trim = (if disciplined ∧ s.clk.ppsRun = true then s.clk.trim + step else s.clk.trim) ∧
      (disciplined → t.clk.ppsRun = true ∧ t.clk.ppsAt = s.now)) ∧
    (s.onPps = true → open_ → s.phuAny = false → Next (.ppsEdge count b) s released) ∧
    (disciplined → s.clk.ppsAt + 800000000 ≤ s.now → Next .ppsMissing s fun t => t.fb CLK_EVENTS_pps_missing = true ∧ t.clk.ppsRun = false ∧ t.clk.ppsAt = s.now ∧
      Posted s t [7] ∧ Kept s t (CLK_EVENTS_pps_missing :: ringFields)) ∧
    (¬disciplined ∨ s.now < s.clk.ppsAt + 800000000 → Next .ppsMissing s fun t => t = s)

/-- R103, R106, R107, R109, R112, R148: T7's clock commands, releases and 1PPS edges. -/
def Obligations.ClockReleases : Prop := ClockCommands ∧ Releases

/-! ## Supply -/

/-- R115 to R118, R136: a switch-over holds what is written and changes the active feed at its end; a test of the standby feed judges its housekeeping voltage, the reverse current and, with the feeds within
0.5 V and pulse_en, the path, and records them; a feed out of range or collapsed is unhealthy, in a gap at its end. -/
def Obligations.Feeds : Prop :=
  ∀ (s : State) (rev mOhm : Nat),
    let f := 1 - s.f PWR_STATUS_active_feed
    let mV := s.f (PWR_FEED_STAT_voltage f)
    let a := s.f (PWR_FEED_STAT_voltage 0)
    let b := s.f (PWR_FEED_STAT_voltage 1)
    let path := s.fb PWR_FEED_CFG_pulse_en && decide (a ≤ b + 500 ∧ b ≤ a + 500)
    let ok := decide (4500 ≤ mV ∧ mV ≤ 18000)
    let pass := ok && decide (rev < 1000) && (!path || decide (mOhm ≤ s.f PWR_FEED_CFG_r_path_max))
    let tested := fun t : State => t.fb (PWR_FEED_HEALTH_v_ok f) = ok ∧ t.fb (PWR_FEED_HEALTH_block_ok f) = decide (rev < 1000) ∧
      t.fb (PWR_FEED_HEALTH_path_skipped f) = !path ∧ t.f (PWR_FEED_HEALTH_tests f) = (s.f (PWR_FEED_HEALTH_tests f) + 1) % 2 ^ 8 ∧
      t.f (PWR_FEED_HEALTH_fails f) = (if pass then 0 else Nat.min 255 (s.f (PWR_FEED_HEALTH_fails f) + 1)) ∧
      (path = true → t.fb (PWR_FEED_HEALTH_path_ok f) = decide (mOhm ≤ s.f PWR_FEED_CFG_r_path_max) ∧ t.f (PWR_FEED_HEALTH_r_path f) = Nat.min 255 mOhm)
    let interrupted := fun t : State => t.fb (PWR_FEED_HEALTH_path_skipped f) = true ∧ t.f (PWR_FEED_HEALTH_tests f) = s.f (PWR_FEED_HEALTH_tests f)
    let due := s.fb PWR_CTRL_selftest_en = true ∧ s.pwr.testAt + 4000000000 ≤ s.now
    let swapped := fun t : State => t.f PWR_STATUS_active_feed = f ∧ t.fb PWR_EVENTS_switchover = true ∧ Posted s t [7]
    (s.gap = false → s.fb PWR_STATUS_pfw = false → s.mode.keep = false → Next .feedSwitchover s fun t => t.gap = true ∧ t.pwr.gapAt = s.now ∧ t.fb PWR_STATUS_switching = true ∧
      Posted s t [7] ∧ Kept s t (PWR_STATUS_switching :: ringFields)) ∧
    (s.gap = true ∨ s.fb PWR_STATUS_pfw = true ∨ s.mode.keep = true → Next .feedSwitchover s fun t => t = s) ∧
    (s.gap = true → Next .switchoverEnd s fun t => ∃ u : State, t = u.feedSwap.gapHealth ∧
      u = s.held.foldl (fun v h => v.applyWrite h.writer h.addr h.value)
        (({ s with gap := false, held := [] }.setF PWR_STATUS_switching 0).each (List.range 128) State.coilSync)) ∧
    (s.gap = true → s.held = [] → Next .switchoverEnd s fun t => t.f PWR_STATUS_active_feed = f ∧ t.fb PWR_EVENTS_switchover = true ∧ t.gap = false ∧
      t.fb PWR_STATUS_switching = false ∧ (s.pwr.badInGap = 0 → (∀ k < 128, s.fb (MTX_COIL_STAT_on k) = s.coilWanted k) → Posted s t [7])) ∧
    (s.gap = false → s.pwr.gapPfw = true → s.now ≤ s.pwr.gapAt + 8000 → Next .switchoverEnd s swapped) ∧
    (s.gap = false → s.pwr.gapPfw = false ∨ s.pwr.gapAt + 8000 < s.now → Next .switchoverEnd s fun t => t = s) ∧
    (s.mayTest = true → (due → Next (.standbyFeedTest () rev mOhm false) s tested ∧ Next (.standbyFeedTest () rev mOhm true) s interrupted) ∧
      Next (.selftestNow 7 () rev mOhm false) s tested ∧ Next (.selftestNow 7 () rev mOhm true) s interrupted) ∧
    (s.mayTest = false → ∀ cut, Next (.selftestNow 7 () rev mOhm cut) s (fun t => t.pwr = s.pwr ∧ Kept s t [SEC_BOOT_STAT_stage]) ∧
      Next (.standbyFeedTest () rev mOhm cut) s fun t => t.pwr = s.pwr ∧ Kept s t [SEC_BOOT_STAT_stage]) ∧
    (¬due → ∀ cut, Next (.standbyFeedTest () rev mOhm cut) s fun t => t = s) ∧
    ∀ g : Fin 2, ∀ i ∈ [Instr.feedOutOfRange g, .feedCollapse g], (s.mode.keep = true → Next i s fun t => t = s) ∧
      (s.mode.keep = false → s.gap = true → Next i s fun t => t.pwr.badInGap = s.pwr.badInGap ||| 2 ^ g.val ∧ t.fields = s.fields ∧ t.mem = s.mem ∧ t.engs = s.engs) ∧
      (s.gap = false → s.mode.keep = false → Next i s fun t => t.fb (PWR_FEED_HEALTH_healthy g) = false ∧ t.fb (if g = 0 then PWR_STATUS_feed_a_ok else PWR_STATUS_feed_b_ok) = false)

/-- R123, R124, R148: a capacitance measured, which takes the boost, is stored in 10 uF up to 255; hold_ready needs 470 uF at 26.0 V and lets boot step 8 end, and falls where the one or the other is no more; its
loss in RUN is an F3 of the site. The budget is 0.85 × ½ C (V² − 8²) / 9 W, here with no write granted. -/
def Sys2Proof.Claims.HoldUp : Prop :=
  ∀ s : State,
    let vhold := s.f PWR_HOLD_STAT_vhold
    let measured := s.fb PWR_CTRL_boost_en = true ∧ s.fb PWR_STATUS_pfw = false ∧ s.mode.keep = false
    (measured → ∀ cap, (208 ≤ vhold ∧ 47 ≤ cap) ∨ s.fb PWR_STATUS_hold_ready = false → Next (.capMeasured cap) s fun t => Regs s t [(PWR_HOLD_STAT_cap, Nat.min 255 cap)]) ∧
    (measured → ∀ cap, vhold < 208 ∨ cap < 47 → Next (.capMeasured cap) s fun t => t.f PWR_HOLD_STAT_cap = Nat.min 255 cap ∧ t.fb PWR_STATUS_hold_ready = false) ∧
    (¬measured → ∀ cap, Next (.capMeasured cap) s fun t => t = s) ∧
    (s.mode.keep = false → 47 ≤ s.f PWR_HOLD_STAT_cap → 208 ≤ vhold → Next .holdReady s fun t => t.fb PWR_STATUS_hold_ready = true ∧
      t.f SEC_BOOT_STAT_stage = (if s.f SEC_BOOT_STAT_stage = 8 then 9 else s.f SEC_BOOT_STAT_stage) ∧
      (s.mode.f3 = 0 → Kept s t [PWR_STATUS_hold_ready, SEC_BOOT_STAT_stage, SEC_BOOT_STAT_fail])) ∧
    (s.mode.keep = true ∨ s.f PWR_HOLD_STAT_cap < 47 ∨ vhold < 208 → Next .holdReady s fun t => t = s) ∧
    (s.fb PWR_STATUS_hold_ready = false → Next .holdLost s fun t => t = s) ∧
    (s.fb PWR_STATUS_hold_ready = true → s.devMode ≠ 3 → Next .holdLost s fun t => t.fb PWR_STATUS_hold_ready = false ∧ t.fb PWR_EVENTS_hold_lost = true ∧ Posted s t [7]) ∧
    (s.fb PWR_STATUS_hold_ready = true → s.devMode = 3 → Next .holdLost s fun t => t.fb PWR_STATUS_hold_ready = false ∧ ∃ x ∈ t.trips, x.eng = 7 ∧ x.cls = 3 ∧ x.scope = siteScope) ∧
    ∀ v : Nat, s.pwr.nv = [] → ∀ b : Nat, ((s.f PWR_HOLD_STAT_cap : Int) * 170 * ((v : Int) * v - 4096) = 23040 * b ∨ (v ≤ 64 ∧ b = 0)) →
      (s.fb PWR_STATUS_hold_ready = false ∨ (208 ≤ v ∧ 47 ≤ s.f PWR_HOLD_STAT_cap) → Next (.holdupBudgetUpdate v) s fun t =>
        t.f PWR_HOLD_STAT_vhold = Nat.min 255 v ∧ t.f PWR_HOLD_STAT_budget_us = Nat.min 65535 b ∧ t.mem = s.mem ∧ t.engs = s.engs ∧
          Kept s t [PWR_HOLD_STAT_vhold, PWR_HOLD_STAT_budget_us]) ∧
      (v < 208 → Next (.holdupBudgetUpdate v) s fun t => t.f PWR_HOLD_STAT_vhold = v ∧ t.fb PWR_STATUS_hold_ready = false)

/-- R116, R119, R120, R122, R135, R142, R147: PFW is latched and ends a switch-over hold, the clocks are divided and LPDDR4X sleeps. 12 ms later, with no started write left, the feeds' return is a power-fail
reset, else VHOLD goes on; VHOLD's floor ends the hold-up before that, and brings KEEP where no feed is back. A shutdown sequence ends after 12 ms in KEEP with the latch, which keeps a power-on reset away
until it is released. -/
def Sys2Proof.Claims.PowerFail : Prop :=
  ∀ s : State,
    let begun := fun (kind prev : Nat) (t : State) => t.f SEC_BOOT_STAT_stage = 3 ∧ t.f SEC_RESET_CAUSE_kind = kind ∧ t.f SEC_RESET_CAUSE_prev_mode = prev % 2 ^ 3 ∧ t.mode.keep = false
    let fed := fun (i : Nat) => s.f (PWR_FEED_STAT_voltage i)
    let ended := (∃ p, s.pwr.pfwAt = some p ∧ p + 4800000 ≤ s.now) ∧ (∀ o ∈ s.pwr.nv, o.resolve = true) ∧ s.pwr.holdEnded = false ∧ s.fb PWR_STATUS_pfw = true ∧ s.pwr.cause = 0
    (s.fb PWR_STATUS_pfw = true ∨ s.mode.keep = true → Next .pfw s fun t => t = s) ∧
    (s.fb PWR_STATUS_pfw = false → s.mode.keep = false → s.held = [] → Next .pfw s fun t => t.fb PWR_STATUS_pfw = true ∧ t.gap = false ∧
      t.pwr.pfwAt = some s.now ∧ (s.pwr.cause = 0 → t.pwr.div4 = true ∧ t.pwr.dramAsleep = true)) ∧
    (¬ended → ∀ v, Next (.holdupEnd v) s fun t => t = s) ∧
    (ended → ∀ v, (4500 ≤ v → Next (.holdupEnd v) s (begun 1 s.devMode)) ∧
      (v < 4500 → Next (.holdupEnd v) s fun t => t.pwr.holdEnded = true ∧ t.fields = s.fields ∧ t.mem = s.mem ∧ t.engs = s.engs)) ∧
    (s.fb PWR_STATUS_pfw = false → Next .vholdFloor s fun t => t = s) ∧
    (s.fb PWR_STATUS_pfw = true → s.pwr.cause = 0 → s.pwr.holdEnded = false → (4500 ≤ fed 0 ∨ 4500 ≤ fed 1) → Next .vholdFloor s fun t => begun 1 s.devMode t ∧ t.pwr.nv = []) ∧
    (s.fb PWR_STATUS_pfw = true → s.pwr.cause ≠ 0 ∨ s.pwr.holdEnded = true ∨ (fed 0 < 4500 ∧ fed 1 < 4500) → Next .vholdFloor s fun t =>
      t.mode.keep = true ∧ t.pwr.nv = [] ∧ t.pwr.latch = (s.pwr.latch || s.pwr.cause != 0)) ∧
    (s.pwr.cause = 0 ∨ s.mode.keep = true ∨ s.now < s.pwr.causeAt + 4800000 → Next .shutdownPowerOff s fun t => t = s) ∧
    (s.pwr.cause ≠ 0 → s.mode.keep = false → s.pwr.causeAt + 4800000 ≤ s.now → Next .shutdownPowerOff s fun t => t.mode.keep = true ∧ t.pwr.latch = true) ∧
    (Next .shutdownLatchRelease s fun t => t.pwr.latch = false ∧ t.pwr.latchSeen = (s.pwr.latchSeen || s.pwr.latch) ∧ t.fields = s.fields ∧ t.mem = s.mem ∧ t.engs = s.engs) ∧
    (∀ va vb, (s.mode.keep = true ∧ s.pwr.latch = false) ∨ (s.mode.keep = false ∧ s.f SEC_BOOT_STAT_stage = 1) → Next (.powerOnReset va vb) s (begun 0 0)) ∧
    (∀ va vb, (s.mode.keep = true ∧ s.pwr.latch = true) ∨ (s.mode.keep = false ∧ s.f SEC_BOOT_STAT_stage ≠ 1) → Next (.powerOnReset va vb) s fun t => t = s)

/-- R116, R119, R120, R122 to R124, R135, R142, R147, R148: hold-up, power fail and power-off. -/
def Obligations.Supplies : Prop := HoldUp ∧ PowerFail

/-- R125 to R129: a go of a channel by its engine is refused with the status of the first condition that holds, or granted, busy, with the payload as data SRAM holds it; a copied payload leaves the data SRAM
free; a finished write stands in its slot behind its magic, a finished resolve has copied the winner's payload, and both post to the engine and T7. -/
def Obligations.NonVolatile : Prop :=
  ∀ (s : State) (w n : Fin 8) (len : BitVec 14), w.val = nvEng n →
    let src := s.f (PWR_NVW_SRC_src n)
    let at_ := fun op : Nat => (s.setF (PWR_NVW_CTRL_len_m1 n) len.toNat).setF (PWR_NVW_CTRL_op n) op
    let granted := fun (resolve : Bool) (t : State) => t.f (PWR_NVW_CTRL_status n) = 1 ∧ ∃ o : NvOp, t.pwr.nv = s.pwr.nv ++ [o] ∧ o.ch = n.val ∧ o.resolve = resolve ∧ o.len = len.toNat + 1 ∧
      o.payload = (if resolve then [] else s.rdBytes (sramKey w (0x10000000 + src)) (len.toNat + 1))
    (s.f (PWR_NVW_CTRL_status n) ≠ 1 →
      (∀ x, (at_ 0).nvRefusal n false = some x → Next (.nvWrite w n len) s fun t => t.f (PWR_NVW_CTRL_status n) = x ∧ t.pwr = s.pwr) ∧
      ((at_ 0).nvRefusal n false = none → Next (.nvWrite w n len) s (granted false)) ∧
      (∀ x, (at_ 1).nvRefusal n true = some x → Next (.nvResolve w n len) s fun t => t.f (PWR_NVW_CTRL_status n) = x ∧ t.pwr = s.pwr) ∧
      ((at_ 1).nvRefusal n true = none → Next (.nvResolve w n len) s (granted true))) ∧
    (s.f (PWR_NVW_CTRL_status n) = 1 → Next (.nvWrite w n len) s (fun t => t.pwr = s.pwr ∧ t.f (PWR_NVW_CTRL_status n) = 1) ∧
      Next (.nvResolve w n len) s fun t => t.pwr = s.pwr ∧ t.f (PWR_NVW_CTRL_status n) = 1) ∧
    (s.clocked = false → ∀ i ∈ [Instr.nvPayloadCopied n, .nvWriteDone n, .nvResolveDone n], Next i s fun t => t = s) ∧
    (s.clocked = true → Next (.nvPayloadCopied n) s fun t => t.fields = s.fields ∧ t.mem = s.mem ∧ t.engs = s.engs ∧ t.pwr.nv.length = s.pwr.nv.length ∧
      ∀ o ∈ t.pwr.nv, o.ch = n.val → o.resolve = false → o.copied = true) ∧
    (s.clocked = true → ∀ (o : NvOp) (rest : List NvOp), s.pwr.nv = o :: rest → o.ch = n.val → n ≠ 5 → n ≠ 6 →
      let a := slotAddr o.ch o.pair o.len o.slot
      (o.resolve = false → o.payload.length = o.len → a + 64 * slotBlocks o.len ≤ 0x72000000 → Next (.nvWriteDone n) s fun t =>
        t.pwr.nv = rest ∧ t.f (PWR_NVW_CTRL_status n) = 2 ∧ t.rd a 4 = 0x4C53564E ∧ t.rdBytes (a + 32) o.len = o.payload) ∧
      (o.resolve = true → Next (.nvWriteDone n) s fun t => t = s) ∧ (o.resolve = false → Next (.nvResolveDone n) s fun t => t = s) ∧
      (o.resolve = true → s.nvWinner o.ch o.pair o.tag o.len = none → Next (.nvResolveDone n) s fun t => t.pwr.nv = rest ∧ t.f (PWR_NVW_CTRL_status n) = 6) ∧
      (o.resolve = true → ∀ x q, s.nvWinner o.ch o.pair o.tag o.len = some (x, q) → o.src + o.len ≤ 0x1E000 →
        (∀ j < 8, s.f (ENG_QUEUE_STAT_event_idx j) < 256) → Next (.nvResolveDone n) s fun t => t.pwr.nv = rest ∧ t.f (PWR_NVW_CTRL_status n) = 2 ∧
          t.f (PWR_NVW_SEQ_seq n) = q % 2 ^ 32 ∧ t.rdBytes (sramKey w (0x10000000 + o.src)) o.len = s.rdBytes (slotAddr o.ch o.pair o.len x + 32) o.len))

/-- R131 to R139: a housekeeping conversion stores its result and the round goes on; the throttle clamp, after 1 s, halves four engines' clocks; the keep-alive source, its loss, the real-time clock's write and commit, and the
tamper loops, of which a change makes a log entry. -/
def Obligations.Housekeeping : Prop :=
  ∀ s : State,
    let c := s.pwr.hkNext
    (∀ v, s.clocked = false → Next (.hkConversion v) s fun t => t = s) ∧
    (∀ v : Int, s.clocked = true → c < 24 → s.fb PWR_CTRL_hk_en = true ∨ c = 16 ∨ c = 17 → -2 ^ 15 ≤ v → v < 2 ^ 15 → Next (.hkConversion v) s fun t =>
      t.fi (PWR_HK_DATA_value c) = v ∧ t.fb (PWR_HK_DATA_valid c) = true ∧ t.f (PWR_HK_DATA_round c) = s.pwr.hkRound % 2 ^ 12) ∧
    (∀ v : Int, s.clocked = true → c < 24 → s.fb PWR_CTRL_hk_en = false → c ≠ 16 → c ≠ 17 → s.f SEC_BOOT_STAT_stage ≠ 7 → Next (.hkConversion v) s fun t => t.pwr.hkNext = (c + 1) % 24 ∧
      t.fields = s.fields ∧ t.mem = s.mem ∧ t.engs = s.engs) ∧
    (s.f PWR_STATUS_die_level = 2 → s.pwr.div4 = false → ∀ x, s.pwr.thrAt = some x → x + 400000000 ≤ s.now → Next .dieThrottleClamp s fun t => t.f PWR_STATUS_die_level = 3 ∧ t.fb PWR_EVENTS_die_halved = true ∧
      ∀ e < 8, t.fb (ENG_STATUS_throttled e) = (decide (e = 0 ∨ e = 1 ∨ e = 5 ∨ e = 6) || s.fb (ENG_STATUS_throttled e))) ∧
    (s.f PWR_STATUS_die_level ≠ 2 ∨ s.pwr.div4 = true ∨ s.pwr.thrAt = none ∨ (∃ x, s.pwr.thrAt = some x ∧ s.now < x + 400000000) → Next .dieThrottleClamp s fun t => t = s) ∧
    (∀ b, Next (.keepaliveChangeover b) s fun t => Regs s t [(PWR_KEEP_STAT_on_vbak, if b then 1 else 0)]) ∧
    (s.fb PWR_KEEP_STAT_on_vbak = false → Next .keepaliveLost s fun t => t = s) ∧
    (s.fb PWR_KEEP_STAT_on_vbak = true → Next .keepaliveLost s fun t => t.pwr.lostSeen = true ∧ t.pwr.latch = false ∧ t.pwr.record = 0 ∧ t.pwr.rtcNew = none ∧ t.f PWR_RTC_SEC_sec = 0 ∧ t.f PWR_RTC_SUB_sub = 0 ∧
      t.f PWR_HOLD_STAT_cap = 0 ∧ t.mem = s.mem ∧ t.engs = s.engs) ∧
    (∀ v : BitVec 32, Next (.rtcSecWrite 7 v) s fun t => t.pwr.rtcNew = some v.toNat ∧ t.fields = s.fields ∧ t.mem = s.mem ∧ t.engs = s.engs) ∧
    (s.pwr.rtcNew = none → Next .rtcCommit s fun t => t = s) ∧
    (∀ v, s.pwr.rtcNew = some v → Next .rtcCommit s fun t => t.pwr.rtcNew = none ∧ t.f PWR_RTC_SEC_sec = v % 2 ^ 32 ∧
      t.f PWR_RTC_SUB_sub = s.pwr.rtcSub.getD (s.f PWR_RTC_SUB_sub) % 2 ^ 15 ∧ Kept s t [PWR_RTC_SEC_sec, PWR_RTC_SUB_sub] ∧ t.mem = s.mem ∧ t.engs = s.engs) ∧
    ∀ (j : Fin 2) (now : Fin 3),
      let was := s.pwr.tamper / 4 ^ j.val % 4
      let k := s.f PWR_TAMPER_log_idx
      (s.fb (loopEn j) = false → Next (.tamperPulse j now) s fun t => t = s) ∧
      (s.fb (loopEn j) = true → was = now → Next (.tamperPulse j now) s fun t => Regs s t [(loopOk j, if now = 0 then 1 else 0)]) ∧
      (s.fb (loopEn j) = true → was ≠ now → k < 8 → Next (.tamperPulse j now) s fun t => t.fb (loopOk j) = decide (now = 0) ∧ t.f PWR_TAMPER_log_idx = (k + 1) % 8 ∧
        t.f (PWR_TAMPER_LOG_loop k) = j ∧ t.f (PWR_TAMPER_LOG_kind k) = (if now = 0 then 3 else now.val) ∧ t.f (PWR_TAMPER_LOG_sec k) = s.f PWR_RTC_SEC_sec % 2 ^ 28 ∧
        (s.pwr.tamperRead / 2 ^ k % 2 = 1 → t.fb PWR_TAMPER_log_ovf = true))

/-! ## Resets, watchdogs, modes, the emergency stop -/

/-- R142, R152, R153: a warm reset starts the boot timeline with its code in RESET_CAUSE, keeps the PLL and the durable memories and no other byte, and lets a release follow; not after PFW, in a shutdown sequence or
in KEEP. SOFTWARE_RESET has code 3, EXTERNAL_RESET 4 or, frozen, 5, the reset behind the Warden watchdog 2. -/
def Sys2Proof.Claims.WarmResets : Prop :=
  ∀ s : State,
    let blocked := s.fb PWR_STATUS_pfw = true ∨ s.pwr.cause ≠ 0 ∨ s.mode.keep = true
    let warm := fun (kind : Nat) (t : State) => t.f SEC_BOOT_STAT_stage = 3 ∧ t.fb SEC_BOOT_STAT_warm = true ∧ t.f SEC_RESET_CAUSE_kind = kind ∧
      t.f SEC_RESET_CAUSE_prev_mode = s.devMode % 2 ^ 3 ∧ t.f SEC_RESET_CAUSE_warm_count = Nat.min 65535 (s.f SEC_RESET_CAUSE_warm_count + 1) ∧ t.pll = s.pll % 2 ^ 3 ∧
      t.clk.relPending = true ∧ (s.pwr.nv = [] → s.mode.estA = false → s.mode.estB = false → (∀ k, t.rdB k = if durable k then s.rdB k else 0) ∧ ∀ e, t.eng e = Engine.reset)
    (blocked → Next (.softwareReset 7) s (fun t => t = s) ∧ Next .externalReset s (fun t => t = s) ∧ Next .wardenReset s fun t => t = s) ∧
    (¬blocked → Next (.softwareReset 7) s (warm 3) ∧ Next .externalReset s (warm (if s.fb SEC_FREEZE_STAT_state then 5 else 4)) ∧
      (s.mode.warden = true → Next .wardenReset s (warm 2))) ∧
    (s.mode.warden = false → Next .wardenReset s fun t => t = s)

/-- R21, R76, R77: with no HEARTBEAT for its interval, the Warden's watchdog parks every lane with cause 5 and releases every coil; T2's or T3's parks its sixteen lanes with cause 2; a missed heartbeat of another engine, or a
double trap, is an F3 of the site, and the engine is restarted. None of them acts on an engine that is not running, or halted. -/
def Sys2Proof.Claims.Watchdogs : Prop :=
  ∀ s : State,
    let live := fun e : Nat => s.fb (ENG_CTRL_run e) = true ∧ s.debugHalted e = false
    let silent := fun e : Nat => (s.eng e).hbAt + (if e = 2 ∨ e = 3 then 40000 else 40000000) ≤ s.now
    let parked := fun (t : State) (n cause : Nat) => s.f (LANE_STATUS_state n) = 1 ∨ s.f (LANE_STATUS_state n) = 2 →
      t.f (LANE_STATUS_state n) = 3 ∧ t.f (LANE_STATUS_park_cause n) = cause
    let warden := live 7 ∧ silent 7 ∧ s.mode.keep = false ∧ s.frozen = false
    (warden → Next .wardenWatchdog s fun t => t.mode.warden = true ∧ (∀ n < 32, parked t n 5) ∧ ∀ k < 128, t.fb (MTX_COIL_STAT_on k) = false) ∧
    (¬warden → Next .wardenWatchdog s fun t => t = s) ∧
    (∀ upper : Bool, let e := if upper then 3 else 2
      (live e → silent e → Next (.powerEngineWatchdog upper) s fun t => ∀ n < 32, if laneEng n = e then parked t n 2 else t.f (LANE_STATUS_state n) = s.f (LANE_STATUS_state n)) ∧
      (¬(live e ∧ silent e) → Next (.powerEngineWatchdog upper) s fun t => t = s)) ∧
    ∀ e : Fin 8, let due := s.clocked = true ∧ e ≠ 7 ∧ live e ∧ (silent e ∨ s.fb (ENG_STATUS_double_trap e) = true)
      (due → Next (.heartbeatMissed e) s fun t => t.eng e = { Engine.reset with restarting := true } ∧ t.fb (ENG_CTRL_run e) = false ∧
        ∃ x ∈ t.trips, x.eng = 7 ∧ x.cls = 3 ∧ x.scope = siteScope) ∧
      (¬due → Next (.heartbeatMissed e) s fun t => t = s)

/-- R142, R143, R152: T7's mode write moves the mode along a row of the table: from BOOT at the end of step 11 to IDLE or, a cause standing, HOLD; between IDLE, RUN, HOLD and SERVICE where the row's condition holds. Every other
write leaves the mode. SERVICE after a halt is left by a reset of code 6. -/
def Sys2Proof.Claims.ModeWrites : Prop :=
  ∀ (s : State) (v : BitVec 32),
    let m := v.toNat % 8
    let old := s.devMode
    let hold := s.syncCauses.anyCause
    let noSession := ∀ c < 8, (SMap.get SessInt.reset s.sess c).step = 0
    let row := (old = 1 ∧ s.bootOver = true ∧ (m = 2 ∧ hold = false ∨ m = 4 ∧ hold = true)) ∨ (old = 2 ∧ m = 3 ∧ hold = false) ∨
      (old = 3 ∧ m = 2 ∧ hold = false ∧ s.noGrant = true ∧ s.phuAny = false) ∨ ((old = 2 ∨ old = 3 ∨ old = 5) ∧ m = 4 ∧ hold = true) ∨
      (old = 4 ∧ m = 2 ∧ hold = false ∧ s.phuAny = false) ∨ (old = 2 ∧ m = 5 ∧ hold = false ∧ s.phuAny = false ∧ noSession) ∨ (old = 5 ∧ m = 2 ∧ hold = false)
    let afterHalt := old = 5 ∧ s.mode.svcHalt = true
    (row → ¬afterHalt → old ≠ 1 ∨ s.mode.sramBad = 0 → Next (.modeWrite 7 v) s fun t => t.devMode = m ∧ (old = 1 → t.mode.booted = true)) ∧
    (row → old = 1 → s.mode.sramBad ≠ 0 → Next (.modeWrite 7 v) s fun t => t.devMode = 4 ∧ t.mode.booted = true) ∧
    (¬row → Next (.modeWrite 7 v) s fun t => t.devMode = old) ∧
    (row → afterHalt → s.fb PWR_STATUS_pfw = false → s.pwr.cause = 0 → s.mode.keep = false → Next (.modeWrite 7 v) s fun t =>
      t.f SEC_BOOT_STAT_stage = 3 ∧ t.f SEC_RESET_CAUSE_kind = 6)

/-- R141 to R144, R152, R153: warm resets and mode writes. -/
def Obligations.ModesAndResets : Prop := WarmResets ∧ ModeWrites

/-- R154 to R157: a channel that becomes low trips the emergency stop, parks every lane with cause 3 and brings HOLD; with the dividers stopped only its level is recorded. One that becomes high clears its own bit and no trip; a
discrepancy, of 500 ms from the edge of one channel, is held; a rearm takes both channels high for 100 ms and no discrepancy, ends the trip and, no other cause standing, clears the F3. -/
def Sys2Proof.Claims.EmergencyStop : Prop :=
  ∀ s : State,
    let low := fun (u : State) (b : Bool) => if b then u.mode.estB else u.mode.estA
    let hold := fun t : State => s.devMode = 2 ∨ s.devMode = 3 → t.devMode = 4
    let settled := match s.mode.estHigh with
      | some x => x + 40000000 ≤ s.now
      | none => True
    let high := s.mode.estA = false ∧ s.mode.estB = false ∧ settled ∧ s.fb SEC_ESTOP_discrepancy = false
    let apart := (∃ b x, s.mode.estAt = some (b, x) ∧ x + 200000000 ≤ s.now) ∧ s.mode.keep = false ∧ s.frozen = false
    let others := fun k : Nat => k < 13 ∧ k ≠ 8 ∧ s.mode.f3 / 2 ^ k % 2 = 1 ∧ s.causeStands k = true
    (∀ b, low s b = true → Next (.estopChannelLow b) s fun t => t = s) ∧
    (∀ b, low s b = false → s.mode.keep = false → s.frozen = false → Next (.estopChannelLow b) s fun t => low t b = true ∧ t.fb (estopBit b) = true ∧ t.fb SEC_ESTOP_tripped = true ∧ hold t ∧
      (s.fb SEC_ESTOP_tripped = false → t.f SEC_ESTOP_trips = Nat.min (s.f SEC_ESTOP_trips + 1) 65535 ∧
        ∀ n < 32, s.f (LANE_STATUS_state n) = 1 ∨ s.f (LANE_STATUS_state n) = 2 → t.f (LANE_STATUS_state n) = 3 ∧ t.f (LANE_STATUS_park_cause n) = 3)) ∧
    (∀ b, low s b = false → s.mode.keep = false → s.frozen = true → Next (.estopChannelLow b) s fun t => low t b = true ∧ t.fb (estopBit b) = true ∧
      t.fb SEC_ESTOP_tripped = s.fb SEC_ESTOP_tripped ∧ t.trips = s.trips) ∧
    (∀ b, low s b = false → Next (.estopChannelHigh b) s fun t => t = s) ∧
    (∀ b, low s b = true → s.mode.keep = false → Next (.estopChannelHigh b) s fun t => low t b = false ∧ t.mode.estHigh = some s.now ∧ t.fb (estopBit b) = false ∧
      t.fb SEC_ESTOP_tripped = s.fb SEC_ESTOP_tripped) ∧
    (apart → Next .estopDiscrepancy s fun t => t.fb SEC_ESTOP_discrepancy = true ∧ t.mode.estAt = none ∧ hold t) ∧
    (¬apart → Next .estopDiscrepancy s fun t => t = s) ∧
    (high → s.fb SEC_ESTOP_tripped = true → Next (.estopRearm 7) s fun t => t.fb SEC_ESTOP_tripped = false ∧
      ((∃ k, others k) → t.trips = s.trips) ∧ (s.mode.f3 ≠ 0 → (∀ k, ¬others k) → ∀ x ∈ t.trips, ¬(x.eng = 7 ∧ x.cls = 3 ∧ x.scope = siteScope))) ∧
    (high → s.fb SEC_ESTOP_tripped = false → Next (.estopRearm 7) s fun t => t = s) ∧
    (¬high → Next (.estopRearm 7) s fun t => t.fb SEC_ESTOP_rearm_refused = true ∧ Posted s t [7] ∧ Kept s t (SEC_ESTOP_rearm_refused :: ringFields))

/-- R21, R76, R77, R154 to R157: watchdogs and the emergency stop. -/
def Obligations.Stops : Prop := Watchdogs ∧ EmergencyStop

/-- R19, R63, R64: T7's table step on an ECC error report, in a frame that it has just entered: an error that could not be corrected is an F4 of device scope in the SRAM of T4 or T7, with which the shutdown sequence runs, and an F3 of
site scope, a cause of HOLD, in LPDDR4X and every other SRAM; a corrected one declares nothing. Without such a frame nothing but the slot's tick happens. -/
def Obligations.EccErrors : Prop :=
  ∀ (s : State) (k : Fin 8) (sram : Option (Fin 8)) (a : Nat) (corrected : Bool),
    let u := s.timerTick 7 k
    let i := Instr.slotTick 7 k (.ecc sram a corrected)
    let declared := fun (cls : Nat) (sc : Scope) (t : State) => ∃ x ∈ t.trips, x.eng = 7 ∧ x.cls = cls ∧ x.scope = sc
    let own := sram = some 4 ∨ sram = some 7
    (u.freshFrame 7 k = false → Next i s fun t => t = u) ∧
    (u.freshFrame 7 k = true → corrected = false → own → Next i s fun t => declared 4 deviceScope t ∧ t.pwr.cause ≠ 0) ∧
    (u.freshFrame 7 k = true → corrected = false → ¬own → Next i s fun t => declared 3 siteScope t ∧ t.fb SEC_MODE_hc_f3 = true) ∧
    (u.freshFrame 7 k = true → corrected = true → Next i s fun t => ∀ x ∈ t.trips, ∃ y ∈ u.trips, y.eng = x.eng ∧ y.cls = x.cls ∧ y.scope = x.scope)

/-! ## Cell lanes -/

/-- R167 to R169, R171: the states of a lane. Training begins from PARKED, FAILED or OFF with the lane enabled, no unit of it enabled and no stop in force, and is refused otherwise; a step that misses its bound ends it FAILED with
the step's code; a park brings ACTIVE and TRAINING to PARKED with its cause, and so does, as lane loss, the hundredth frame time in a row without a valid frame; a disabled lane is OFF once its 64 PARK frames are sent. -/
def Sys2Proof.Claims.LaneStates : Prop :=
  ∀ (s : State) (w : Fin 8) (n : Fin 32), w.val = laneEng n →
    let st := s.f (LANE_STATUS_state n)
    let l := s.lane n
    let refused := st = 1 ∨ st = 2 ∨ (∃ k < 8, s.fb (PHU_CTRL_en (8 * n.val + k)) = true) ∨ s.fb SEC_ESTOP_tripped = true ∨ s.fb PWR_STATUS_pfw = true ∨
      s.fb SEC_FREEZE_STAT_state = true ∨ s.fb (LANE_CTRL_en n) = false
    let parked := fun (cause : Nat) (t : State) => t.f (LANE_STATUS_state n) = 3 ∧ t.f (LANE_STATUS_park_cause n) = cause ∧ (t.lane n).edges = [] ∧
      ∀ k < 8, t.fb (PHU_CTRL_en (8 * n.val + k)) = false
    let failed := fun (code : Nat) => Next (.trainingFail n ()) s fun t => t.f (LANE_STATUS_state n) = 4 ∧ t.f (LANE_STATUS_park_cause n) = 9 ∧ t.f (LANE_TRAIN_fail_code n) = code
    let echo := l.echoes / 2 ^ (319 - l.goN) % 2 = 1
    let quiet := (s.now - l.upAt) / 4
    (refused → Next (.laneTrain w n) s fun t => t.fb (LANE_EVENTS_train_refused n) = true ∧ Posted s t [laneEng n, 7] ∧ Kept s t (LANE_EVENTS_train_refused n :: ringFields)) ∧
    (¬refused → Next (.laneTrain w n) s fun t => t.f (LANE_STATUS_state n) = 1 ∧ t.f (LANE_ERRORS_bad_frames n) = 0 ∧ t.f (LANE_ERRORS_bad_words n) = 0 ∧
      (t.lane n).train = .align 0 ∧ (t.lane n).trainAt = s.now ∧ (∀ k < 8, t.stageT (8 * n.val + k) = 0x8000) ∧ t.mem = s.mem ∧ t.engs = s.engs) ∧
    (s.clocked = true →
      (st = 1 → ∀ c, l.train = .align c → (l.trainAt + 12000 < s.now → failed 1) ∧ (s.now ≤ l.trainAt + 12000 → Next (.trainingFail n ()) s fun t => t = s)) ∧
      (st = 1 → ∀ k lo hi, l.train = .ident k lo hi → (64 ≤ k → ¬(halfDone lo = true ∧ halfDone hi = true) → failed 2) ∧
        (k < 64 ∨ (halfDone lo = true ∧ halfDone hi = true) → Next (.trainingFail n ()) s fun t => t = s)) ∧
      ((st = 1 ∧ (l.train = .done ∨ ∃ c, l.train = .go c)) ∨ st = 2 → (l.goN = 191 → ¬echo → failed 5) ∧ (191 < l.goN → l.goN ≤ 319 → ¬echo → failed 6) ∧
        (l.goN < 191 ∨ 319 < l.goN ∨ echo → Next (.trainingFail n ()) s fun t => t = s)) ∧
      (st ≠ 1 → st ≠ 2 → Next (.trainingFail n ()) s fun t => t = s)) ∧
    (st = 1 ∨ st = 2 → Next (.lanePark w n) s (parked 7)) ∧ (st ≠ 1 → st ≠ 2 → Next (.lanePark w n) s fun t => t = s) ∧
    (s.clocked = true → st = 2 → 0 < quiet → 100 ≤ l.badRun + quiet → Next (.laneLoss n) s (parked 1)) ∧
    (s.clocked = true → st = 2 → l.badRun + quiet < 100 → Next (.laneLoss n) s fun t => t.f (LANE_STATUS_state n) = 2 ∧ (t.lane n).badRun = l.badRun + quiet ∧
      (t.lane n).upAt = l.upAt + 4 * quiet) ∧
    (st ≠ 2 → Next (.laneLoss n) s fun t => t = s) ∧
    (s.fb (LANE_CTRL_en n) = true → Next (.laneDisable w n) s (fun t => t.fb (LANE_CTRL_en n) = false ∧ (t.lane n).parksLeft = 64 ∧
        (st = 1 ∨ st = 2 → t.f (LANE_STATUS_state n) = 3 ∧ t.f (LANE_STATUS_park_cause n) = 8)) ∧
      Next (.laneEnable w n) s (fun t => t = s) ∧ Next (.laneOff n) s fun t => t = s) ∧
    (s.fb (LANE_CTRL_en n) = false → Next (.laneDisable w n) s (fun t => t = s) ∧
      Next (.laneEnable w n) s (fun t => Regs s t [(LANE_CTRL_en n, 1), (LANE_STATUS_state n, 3), (LANE_STATUS_park_cause n, 8)] ∧ (t.lane n).parksLeft = 0) ∧
      (s.clocked = true → l.parksLeft = 0 → 3 ≤ st → Next (.laneOff n) s fun t => Regs s t [(LANE_STATUS_state n, 0), (LANE_STATUS_park_cause n, 8)] ∧ (t.lane n).line = 0) ∧
      (l.parksLeft ≠ 0 ∨ st < 3 → Next (.laneOff n) s fun t => t = s)) ∧
    (s.clocked = false → ∀ i ∈ [Instr.trainingFail n (), .laneLoss n, .laneOff n], Next i s fun t => t = s)

/-- R158 to R163, R166 to R169, R171: an upstream frame of an ACTIVE lane that decodes to a data frame with a right CRC gives its stream bits; any other, and silence, is counted and flagged, and the hundredth in a row parks the
lane. What is sent downstream, at every fourth CK_PHU edge from the epoch, follows the lane's state, coded with the running disparity. A training lane that has aligned on 64 codes of version 1 goes on to the identity, else
fails with code 3, and with code 1 after 30 us. Every 256 bits the auxiliary channels are decimated. -/
def Sys2Proof.Claims.LaneFrames : Prop :=
  ∀ (s : State) (n : Fin 32) (b : BitVec 40) (rtt : BitVec 10), s.clocked = true →
    let st := s.f (LANE_STATUS_state n)
    let l := s.lane n
    let i := Instr.upstreamFrame n (.line b rtt)
    let got := rxFrame l.rxRd b.toNat
    let prompt := (s.now - l.upAt) / 4 ≤ 1
    let due := (s.now - s.epoch) % 4 = 0 ∧ l.sentAt ≠ some s.now
    let sent := fun (w : Nat) (t : State) => (t.lane n).sentKind = 1 ∧ (t.lane n).sent = w ∧ (t.lane n).line = (lineOf l.txRd false w).1 ∧ (t.lane n).txRd = (lineOf l.txRd false w).2
    (st = 2 → prompt → ∀ x, got = .data x → Next i s fun t => (t.lane n).badRun = 0 ∧ (t.lane n).flagged = false ∧ (t.lane n).bits = x % 4096 ∧ (t.lane n).rxRd = rdLine l.rxRd b.toNat) ∧
    (st = 2 → prompt → l.badRun + 1 < 100 → ∀ j ∈ [i, .upstreamFrame n .silent], j ≠ i ∨ got = .bad → Next j s fun t =>
      t.f (LANE_ERRORS_bad_frames n) = Nat.min (s.f (LANE_ERRORS_bad_frames n) + 1) (2 ^ 16 - 1) ∧
        (t.lane n).badRun = l.badRun + 1 ∧ (t.lane n).flagged = true ∧ (t.lane n).bits = l.bits ∧ t.f (LANE_STATUS_state n) = 2 ∧ t.mem = s.mem ∧ t.engs = s.engs) ∧
    (st = 2 → prompt → l.badRun + 1 = 100 → Next (.upstreamFrame n .silent) s fun t => t.f (LANE_STATUS_state n) = 3 ∧ t.f (LANE_STATUS_park_cause n) = 1) ∧
    (st = 1 → l.train = .align 63 → s.now ≤ l.trainAt + 12000 →
      (got = .train 0xB1 1 → Next i s fun t => (t.lane n).train = .ident 0 none none ∧ t.fields = s.fields) ∧
      ∀ v, v ≠ 1 → got = .train 0xB1 v → Next i s fun t => t.f (LANE_STATUS_state n) = 4 ∧ t.f (LANE_TRAIN_fail_code n) = 3) ∧
    (st = 1 → ∀ c, l.train = .align c → l.trainAt + 12000 < s.now → Next i s fun t => t.f (LANE_STATUS_state n) = 4 ∧ t.f (LANE_TRAIN_fail_code n) = 1) ∧
    (¬due → Next (.downstreamFrame n) s fun t => t = s) ∧
    (due → st = 0 → Next (.downstreamFrame n) s fun t => (t.lane n).sentKind = 0 ∧ (t.lane n).line = 0 ∧ t.fields = s.fields) ∧
    (due → st = 1 → (∀ c, l.train = .align c → s.now ≤ l.trainAt + 12000 → Next (.downstreamFrame n) s fun t => (t.lane n).sentKind = 2 ∧ (t.lane n).sent = trainFrame 0xA1 0) ∧
      ∀ k lo hi, l.train = .ident k lo hi → k < 64 → Next (.downstreamFrame n) s fun t =>
        (t.lane n).sentKind = 2 ∧ (t.lane n).sent = trainFrame 0xA2 n ∧ (t.lane n).line = (lineOf l.txRd true (trainFrame 0xA2 n)).1) ∧
    (due → st = 3 ∨ st = 4 → s.fb (LANE_CTRL_en n) = true ∨ l.parksLeft ≠ 0 → Next (.downstreamFrame n) s fun t => sent (downFrame 0 2) t ∧ t.fields = s.fields ∧
      (t.lane n).parksLeft = if s.fb (LANE_CTRL_en n) then l.parksLeft else l.parksLeft - 1) ∧
    (due → st = 3 ∨ st = 4 → s.fb (LANE_CTRL_en n) = false → l.parksLeft = 0 → Next (.downstreamFrame n) s fun t => t.f (LANE_STATUS_state n) = 0 ∧ (t.lane n).line = 0) ∧
    (due → st = 2 → l.goN < 191 ∨ 319 < l.goN → s.fb (LANE_CTRL_loopback n) = false → Next (.downstreamFrame n) s fun t => t.fields = s.fields ∧
      sent (if (laneUnits n).any fun u => s.fb (PHU_CTRL_en u) then downFrame (gateCodes l s.frameStart) 0 else downFrame 0 1) t) ∧
    (∀ k : Fin 8, let fresh := s.now < SMap.get 0 l.itemAt k + 2048
      (s.stageT (8 * n.val + k.val) = 0x8000 ∨ fresh → Next (.telemetryLost n k) s fun t => t = s) ∧
      (s.stageT (8 * n.val + k.val) ≠ 0x8000 → ¬fresh → Next (.telemetryLost n k) s fun t =>
        t.stageT (8 * n.val + k.val) = 0x8000 ∧ t.fb (LANE_EVENTS_telem_lost n) = true ∧ Posted s t [laneEng n, 7])) ∧
    (l.auxN < 256 → Next (.auxDecimate n () ()) s fun t => t = s) ∧
    (256 ≤ l.auxN → let y := fun j : Nat => sinc3 256 (SMap.get 0 l.hist j)
      ∀ v0 v1 : Int, (65534 * y 10 : Int) = 2 ^ 24 * (v0 + 32767) → (65534 * y 11 : Int) = 2 ^ 24 * (v1 + 32767) → y 10 ≤ 2 ^ 24 → y 11 ≤ 2 ^ 24 →
        Next (.auxDecimate n () ()) s fun t => t.fi (LANE_AUX_aux0 n) = v0 ∧ t.fi (LANE_AUX_aux1 n) = v1 ∧ Kept s t [LANE_AUX_aux0 n, LANE_AUX_aux1 n] ∧ t.mem = s.mem ∧ t.engs = s.engs) ∧
    ∀ e : Fin 8, Next (.vendItemRead e n) s fun t => Regs s t [(LANE_VEND_VALUE_value n, l.vendor % 2 ^ 32)]

/-- R160 to R163, R166 to R169, R171: a lane's states and frames. -/
def Obligations.Lanes : Prop := LaneStates ∧ LaneFrames

/-! ## Phase units -/

/-- R179 to R182: T2's and T3's commands to a phase unit. An enable needs its lane ACTIVE; a disable brings the gate low at once, with off_cause 1; a retry is blocked by a latch; a clear needs the stage cool, and a unit that was latched while enabled goes on as at an enable, where no sense failure stands; a pleat goes to
the shadow. -/
def Sys2Proof.Claims.PhaseCommands : Prop :=
  ∀ (s : State) (w : Fin 8) (n : Fin 256), w.val = phuEng n →
    let en := s.fb (PHU_CTRL_en n)
    let active := s.f (LANE_STATUS_state (n.val / 8)) = 2
    let latched := s.fb (PHU_STATUS_latch_open n) = true ∨ s.fb (PHU_STATUS_latch_sense n) = true ∨ s.fb (PHU_STATUS_latch_ot n) = true
    let hot := s.stageT n = 0x8000 ∨ (s.f (PHU_STAGE_shut n) : Int) - s.f (PHU_STAGE_hyst n) ≤ toSigned 16 (s.stageT n)
    let refused := fun (ev : Fld) (t : State) => t.fb ev = true ∧ Posted s t [phuEng n, 7] ∧ Kept s t (ev :: ringFields)
    (en = true → Next (.phuEnable w n) s fun t => t = s) ∧
    (en = false → active → Next (.phuEnable w n) s fun t => t.fb (PHU_CTRL_en n) = true ∧ t.f (PHU_MEAS_trim n) = 0 ∧ t.f (PHU_STATUS_open_run n) = 0 ∧ (t.phu n).waitSlot = true) ∧
    (en = false → ¬active → Next (.phuEnable w n) s (refused (PHU_EVENTS_en_refused n))) ∧
    (en = true → Next (.phuDisable w n) s fun t => t.fb (PHU_CTRL_en n) = false ∧ t.fb (PHU_STATUS_gate n) = false ∧ t.f (PHU_STATUS_off_cause n) = 1) ∧
    (en = false → Next (.phuDisable w n) s fun t => t = s) ∧
    (latched → Next (.phuRetry w n) s (refused (PHU_EVENTS_retry_blocked n))) ∧ (¬latched → en = true → Next (.phuRetry w n) s fun t => t = s) ∧
    (¬latched → en = false → active → Next (.phuRetry w n) s fun t => t.fb (PHU_CTRL_en n) = true ∧
      t.f (PHU_STATUS_retry_count n) = Nat.min (s.f (PHU_STATUS_retry_count n) + 1) (2 ^ (PHU_STATUS_retry_count n).w - 1)) ∧
    (hot → Next (.phuClear w n) s (refused (PHU_EVENTS_clear_refused n))) ∧
    (¬hot → en = false ∨ ¬latched ∨ s.senseSrc n = none → Next (.phuClear w n) s fun t => t.f (PHU_STATUS_retry_count n) = 0 ∧
      (en = true → latched → t.f (PHU_STATUS_open_run n) = 0 ∧ t.f (PHU_MEAS_trim n) = 0 ∧ (t.phu n).waitSlot = true) ∧
      ∀ x ∈ [PHU_STATUS_latch_open n, PHU_STATUS_latch_sense n, PHU_STATUS_latch_ot n], t.fb x = false) ∧
    ∀ v : BitVec 32, Next (.pleatWrite w n v) s fun t => (t.phu n).shadow = some (v.toNat % 2 ^ 16, Nat.max 2000 (Nat.min 40000 (v.toNat / 2 ^ 16))) ∧
      t.fields = s.fields ∧ t.mem = s.mem ∧ t.engs = s.engs

/-- R174 to R177, R179, R187, R189, R191 to R194: a unit that is disabled, latched or on does not rise; the first rise and those of burst wait for a slot instant; a rise comes at or below the reference with the minimum off-time past,
or is delayed by it; i_avg is the mean over the cycle just completed. A fall comes once t_on or the maximum on-time has passed, sets the ripple to its amplitude and its own time. Samples are due the measurement delay later; a rise
of the current below rise_min counts towards an open phase, which latches at the third in a row and turns the gate off; a sense failure, 64 bits without transition or a density outside its bounds, latches at once. -/
def Sys2Proof.Claims.PhaseCycle : Prop :=
  ∀ (s : State) (n : Fin 256), s.clocked = true →
    let x := s.phu n
    let l := s.lane (n.val / 8)
    let en := s.fb (PHU_CTRL_en n)
    let gate := s.fb (PHU_STATUS_gate n)
    let low := s.atReference n (s.iFiltered n) = true
    let off := ∀ a, x.fallAt = some a → a + s.f (PHU_CTRL_toff_min n) ≤ s.now
    let waits := x.waitSlot = true ∨ s.fb (PHU_CTRL_burst n) = true
    let rises := Next (.phaseRise n () () () ()) s fun t => t.fb (PHU_STATUS_gate n) = true ∧ (t.phu n).riseAt = s.now ∧ (t.phu n).delayed = false ∧ (t.phu n).waitSlot = false ∧
      t.fb (PHU_STATUS_clamp_toff n) = x.delayed ∧ t.fb (PHU_STATUS_clamp_ton n) = x.tonActed ∧ (t.phu n).due = x.due ++ [(s.now + s.measDelay n, false)] ∧
      (x.cyc = false ∨ x.iCnt = 0 → t.f (PHU_MEAS_i_avg n) = s.f (PHU_MEAS_i_avg n)) ∧
      ∀ m : Int, x.cyc = true → x.iCnt ≠ 0 → x.iSum = m * (x.iCnt * 32768 : Nat) → -2 ^ 15 ≤ m → m < 2 ^ 15 → t.fi (PHU_MEAS_i_avg n) = m
    let stays := Next (.phaseRise n () () () ()) s fun t => t.fb (PHU_STATUS_gate n) = false ∧ t.phu n = x
    let falls := x.riseAt + Nat.min x.tOn x.maxOn ≤ s.now
    (en = false ∨ s.unlatched n = false ∨ gate = true → Next (.phaseRise n () () () ()) s fun t => t = s) ∧
    (en = true → s.unlatched n = true → gate = false →
      (waits → (s.slotPhase n = 0 → low → off → rises) ∧ (¬(s.slotPhase n = 0 ∧ low ∧ off) → stays)) ∧
      (¬waits → (x.delayed = true ∨ low → off → rises) ∧ ((x.delayed = false ∧ ¬low) ∨ (x.delayed = true ∧ ¬off) → stays) ∧
        (x.delayed = false → low → ¬off → Next (.phaseRise n () () () ()) s fun t => t.fb (PHU_STATUS_gate n) = false ∧ (t.phu n).delayed = true))) ∧
    (gate = false ∨ ¬falls → Next (.phaseFall n) s fun t => t = s) ∧
    (gate = true → falls → Next (.phaseFall n) s fun t => t.fb (PHU_STATUS_gate n) = false ∧ (t.phu n).fallAt = some s.now ∧ (t.phu n).ripple = s.f (PHU_RIPPLE_amp n) * 256 ∧
      (t.phu n).due = x.due ++ [(s.now + s.measDelay n, true)] ∧ (t.phu n).tonActed = (x.tonActed || decide (x.maxOn < x.tOn))) ∧
    (x.due = [] → Next (.phaseSample n () () ()) s fun t => t = s) ∧
    (∀ a fell rest, x.due = (a, fell) :: rest →
      let v := s.iFiltered n
      (s.now < a → Next (.phaseSample n () () ()) s fun t => t = s) ∧
      (a ≤ s.now → fell = false → Next (.phaseSample n () () ()) s fun t => (t.phu n).due = rest ∧ (t.phu n).first = (if l.flagged then none else some v) ∧ t.fields = s.fields) ∧
      (a ≤ s.now → fell = true → x.first = none ∨ l.flagged = true → Next (.phaseSample n () () ()) s fun t => (t.phu n).due = rest ∧ (t.phu n).first = none ∧ t.fields = s.fields) ∧
      ∀ u, a ≤ s.now → fell = true → x.first = some u → l.flagged = false →
        (s.f (PHU_FAULT_rise_min n) * 32768 ≤ v - u → Next (.phaseSample n () () ()) s fun t => t.f (PHU_STATUS_open_run n) = 0 ∧ (t.phu n).first = none) ∧
        (v - u < s.f (PHU_FAULT_rise_min n) * 32768 →
          (s.f (PHU_STATUS_open_run n) < 2 → Next (.phaseSample n () () ()) s fun t => Regs s t [(PHU_STATUS_open_run n, s.f (PHU_STATUS_open_run n) + 1)]) ∧
          (s.f (PHU_STATUS_open_run n) = 2 → Next (.phaseSample n () () ()) s fun t => t.f (PHU_STATUS_open_run n) = 3 ∧ (en = true → t.fb (PHU_STATUS_latch_open n) = true ∧
            (s.fb (PHU_STATUS_latch_open n) = false → t.fb (PHU_STATUS_gate n) = false ∧ t.fb (PHU_EVENTS_open_phase n) = true))))) ∧
    (let bad := fun j : Nat => let w := SMap.get SenseWin.reset l.win (if j = 0 then n.val % 8 else 7 + j)
        64 ≤ w.run ∨ (w.held = 256 ∧ (w.count < s.f (PHU_FAULT_dens_lo n) ∨ s.f (PHU_FAULT_dens_hi n) < w.count))
      let judged := s.f (LANE_STATUS_state (n.val / 8)) = 2 ∧ en = true ∧ s.fb (PHU_STATUS_latch_sense n) = false
      (¬judged ∨ (∀ j < 3, ¬bad j) → Next (.senseFailure n () () ()) s fun t => t = s) ∧
      ∀ src < 3, judged → bad src → (∀ j < src, ¬bad j) → Next (.senseFailure n () () ()) s fun t => t.fb (PHU_STATUS_latch_sense n) = true ∧
        t.f (PHU_STATUS_sense_src n) = src ∧ t.fb (PHU_STATUS_gate n) = false ∧ t.fb (PHU_EVENTS_sense_fail n) = true)

/-- R174 to R177, R179 to R182, R191 to R194: commands to phase units, and their cycle. -/
def Obligations.Phases : Prop := PhaseCommands ∧ PhaseCycle

/-! ## Connectors, ports and coils -/

/-- R182, R196, R197: at a control-frame boundary, every 10 us from the epoch, the frame counter advances, waiting pleats are loaded, and the references of an enabled connector move toward their targets by at most their rates; those of a disabled one stay. -/
def Obligations.ControlFrame : Prop :=
  ∀ s : State,
    let at_ := s.clocked = true ∧ s.epoch ≤ s.now ∧ (s.now - s.epoch) % 4000 = 0 ∧ s.clk.frameAt ≠ some s.now
    (¬at_ → Next .controlFrameBoundary s fun t => t = s) ∧
    (at_ → Next .controlFrameBoundary s fun t => t.clk.frameAt = some s.now ∧ t.period 1 0 = (s.period 1 0 + 1) % 2 ^ 32 ∧
    (∀ n < 256, ∀ a p, (s.phu n).shadow = some (a, p) → t.f (PHU_PLEAT_angle n) = a % 2 ^ 16 ∧ t.f (PHU_PLEAT_period n) = p % 2 ^ 16) ∧
    ∀ c < 8,
      let v := (s.conn c).vref
      let i := (s.conn c).iref
      let vt : Int := s.f (CONN_VSET_target c) * 65536
      let it : Int := s.fi (CONN_ISET_target c) * 1024
      let dv : Int := s.f (CONN_VSLEW_rate c) * 65536 / 100
      let up : Int := s.f (CONN_ISLEW_up c) * 2 ^ 28 / 10000
      let down : Int := s.f (CONN_ISLEW_down c) * 2 ^ 28 / 10000
      (s.fb (CONN_CTRL_en c) = false → (t.conn c).vref = v ∧ (t.conn c).iref = i) ∧
      (s.fb (CONN_CTRL_en c) = true → (t.conn c).vref = (if v ≤ vt then min vt (v + dv) else max vt (v - dv)) ∧
        (0 < i → it ≤ 0 → (t.conn c).iref = max 0 (i - down)) ∧ (0 < i → 0 < it → it < i → (t.conn c).iref = max it (i - down)) ∧
        (0 ≤ i → i ≤ it → (t.conn c).iref = min it (i + up)) ∧ (i ≤ 0 → it ≤ i → (t.conn c).iref = max it (i - up)) ∧ (i < 0 → i < it → (t.conn c).iref = min (min 0 it) (i + down))))

/-- R199, R203 to R205, R208, R214, R215: writes of limits and what the taps, the timers and the lead engine make of a connector or port. -/
def Obligations.ConnectorOutputs : Prop :=
  ∀ (s : State) (w c : Fin 8),
    let x := s.conn c
    let u := s.f (CONN_ILIM_limit c)
    let volts := s.fi (CONN_MEAS_V_v c)
    let bus := s.fi (CONN_MEAS_VBUS_v c)
    let matched := 150000 ≤ volts ∧ ((bus - volts).natAbs : Int) * 1000 ≤ s.f (CONN_MATCH_CFG_tol c) * volts
    let still := (s.fi (CONN_MEAS_I_i c)).natAbs ≤ s.f (CONN_MATCH_CFG_i_zero c) * 16384
    let busy := ∃ n < 256, s.f (PHU_CTRL_dest n) = c ∧ s.fb (PHU_CTRL_en n) = true
    let live := ∀ y ∈ x.steps, s.now < y.2
    let passed := fun (from_ : Option Nat) (d : Nat) => ∃ a, from_ = some a ∧ a + d ≤ s.now
    let matchHeld := matched ∧ passed x.matchFrom (s.f (CONN_MATCH_CFG_hold c) * 400000) ∧ s.clocked = true
    let zeroHeld := still ∧ passed x.zeroFrom 400000 ∧ s.clocked = true
    let untapped := fun (d : Nat) => (s.dest d).tapAt = none ∨ passed (s.dest d).tapAt 1280
    let charge := SMap.get (0, 0) s.portCharge
    (w.val = s.connEng c →
      (∀ v : BitVec 32, live → v.toNat < 2 ^ 31 → u ≤ v.toNat → Next (.ilimWrite w c v) s fun t => t.f (CONN_ILIM_limit c) = v.toNat ∧ (t.conn c).steps = x.steps.filter fun y => u < y.1) ∧
      (∀ v : BitVec 32, live → v.toNat < u → v.toNat < 2 ^ 31 → (x.steps.filter fun y => u < y.1).length < 8 → Next (.ilimWrite w c v) s fun t =>
        t.f (CONN_ILIM_limit c) = v.toNat ∧ (t.conn c).steps = (x.steps.filter fun y => u < y.1) ++ [(u, s.now + 800000000)]) ∧
      (busy → Next (.connectorRinse w c) s fun t => t.fb (CONN_EVENTS_rinse_refused c) = true ∧ Kept s t (CONN_EVENTS_rinse_refused c :: ringFields) ∧ t.conns = s.conns) ∧
      (¬busy → Next (.connectorRinse w c) s fun t => (∀ y ∈ [CONN_VSET_target c, CONN_VREF_vref c, CONN_ISET_target c, CONN_IREF_iref c, CONN_ILIM_limit c, CONN_ILIM_REV_limit c,
        CONN_COUNTS_reductions c], t.f y = 0) ∧ (t.conn c).vref = 0 ∧ (t.conn c).iref = 0 ∧ (t.conn c).steps = [] ∧
        t.f (CONN_COUNTS_sessions c) = (s.f (CONN_COUNTS_sessions c) + 1) % 2 ^ (CONN_COUNTS_sessions c).w ∧ t.mem = s.mem ∧ t.engs = s.engs) ∧
      (s.fb (CONN_CTRL_en c) = true → Next (.connDisable w c) s fun t => t.fb (CONN_CTRL_en c) = false ∧ t.f (CONN_VSET_target c) = s.f (CONN_VREF_vref c) % 2 ^ (CONN_VSET_target c).w ∧
        (t.conn c).vref = x.vref ∧ (t.conn c).iref = x.iref) ∧
      (s.fb (CONN_CTRL_en c) = false → Next (.connDisable w c) s fun t => t = s)) ∧
    (s.clocked = true → (live → Next (.graceExpire c) s fun t => t = s) ∧ (¬live → Next (.graceExpire c) s fun t => (t.conn c).steps = x.steps.filter fun y => decide (s.now < y.2))) ∧
    (∀ (p : Fin 4) (v : BitVec 32), s.leadOf (8 + p.val) ≠ 0 → w.val = s.portEng p → Next (.portLimWrite w p v) s fun t => t.f (MTX_PORT_LIM_fwd p) = v.toNat % 2 ^ 16 ∧
      t.f (MTX_PORT_LIM_rev p) = v.toNat / 2 ^ 16) ∧
    (s.clocked = true → ∀ yv yi : Nat, (¬untapped c → Next (.tapUpdate ⟨c.val, by omega⟩ yv yi ()) s fun t => t = s) ∧
      (untapped c → Next (.tapUpdate ⟨c.val, by omega⟩ yv yi ()) s fun t =>
        t.f (CONN_MEAS_I_i c) = ofSigned (CONN_MEAS_I_i c).w (s.f (CONN_TAP_CFG_i_fs c) * (2 * (yi : Int) - 2 ^ 18)) ∧
        t.fb (CONN_STATUS_ov c) = decide ((s.f (CONN_OV_LEVEL_level c) : Int) < t.fi (CONN_MEAS_V_v c) ∨ (s.f (CONN_OV_LEVEL_level c) : Int) < t.fi (CONN_MEAS_VBUS_v c)) ∧
        t.fb (CONN_STATUS_rev_pol c) = decide (t.fi (CONN_MEAS_V_v c) < -10000) ∧ (t.dest c).tapAt = some s.now)) ∧
    (s.clocked = true → ∀ (p : Fin 4) (yv yi : Nat), untapped (8 + p.val) →
      let i : Int := s.f (BUF_PORT_TAP_CFG_i_fs p) * (2 * (yi : Int) - 2 ^ 18)
      (s.fb (BUF_PORT_CTRL_en p) = false → Next (.tapUpdate ⟨8 + p.val, by omega⟩ yv yi ()) s fun t => t.fields = s.fields ∧ t.mem = s.mem ∧ t.engs = s.engs) ∧
      (s.fb (BUF_PORT_CTRL_en p) = true → Next (.tapUpdate ⟨8 + p.val, by omega⟩ yv yi ()) s fun t =>
        t.f (BUF_PORT_I_i p) = ofSigned (BUF_PORT_I_i p).w i ∧ t.mem = s.mem ∧ t.engs = s.engs ∧
        (0 < i → t.f (BUF_PORT_QIN_q p) = (s.f (BUF_PORT_QIN_q p) + ((charge p).1 + i.toNat) / 294912000000) % 2 ^ 32) ∧
        (i < 0 → t.f (BUF_PORT_QOUT_q p) = (s.f (BUF_PORT_QOUT_q p) + ((charge p).2 + (-i).toNat) / 294912000000) % 2 ^ 32))) ∧
    (matchHeld → Next (.matchHeld c) s fun t => t.fb (CONN_STATUS_match c) = true) ∧ (¬matchHeld → Next (.matchHeld c) s fun t => t = s) ∧
    (zeroHeld → Next (.zero c) s fun t => t.fb (CONN_STATUS_zero c) = true) ∧ (¬zeroHeld → Next (.zero c) s fun t => t = s) ∧
    let old := s.clocked = true ∧ x.imdAt + 40000000 * (s.f (CONN_IMD_age c) + 1) ≤ s.now
    (old → Next (.imdAge c) s fun t => Regs s t [(CONN_IMD_age c, Nat.min (s.f (CONN_IMD_age c) + 1) (2 ^ (CONN_IMD_age c).w - 1))]) ∧ (¬old → Next (.imdAge c) s fun t => t = s)

/-- R18, R209 to R212, R330: a coil follows its command, and a meter contactor its command ANDed with MEN; a refused close changes no command; over the switch-over gap a command is held; feedback and its failures, after 100 ms of a change or 5 ms of a disagreement, are recorded once. -/
def Obligations.Coils : Prop :=
  ∀ (s : State) (k : Fin 128), s.coilEng k < 8 →
    let on := s.fb (MTX_COIL_STAT_on k)
    let x := SMap.get CoilInt.reset s.coils k
    let wrong := s.clocked = true ∧ s.disagrees k = true ∧ x.told = false
    let timeout := wrong ∧ x.agreed = false ∧ x.onAt + 40000000 ≤ s.now
    let mismatch := wrong ∧ x.agreed = true ∧ ∃ a, x.offFrom = some a ∧ a + 2000000 ≤ s.now
    let fail := if on then MTX_COIL_STAT_fail_close k else MTX_COIL_STAT_fail_open k
    let failed := fun t : State => t.fb fail = true ∧ Posted s t [s.coilEng k, 7] ∧ Kept s t (fail :: ringFields)
    (∀ (w : Fin 8) (v : BitVec 32), w.val = s.coilEng k →
      (s.gap = true → Next (.coilCommand w k v) s fun t => t.held = s.held ++ [⟨w, MTX_COIL_CMD k, v.toNat⟩] ∧ t.fields = s.fields ∧ t.mem = s.mem ∧ t.engs = s.engs) ∧
      (s.gap = false → k.val < 96 → v.toNat % 2 = 1 → s.closeRefused (k.val / 12) (k.val % 12) = true → Next (.coilCommand w k v) s fun t =>
        t.fb (MTX_COIL_STAT_refused k) = true ∧ Kept s t (MTX_COIL_STAT_refused k :: ringFields)) ∧
      (s.gap = false → 96 ≤ k.val ∨ v.toNat % 2 = 0 ∨ s.closeRefused (k.val / 12) (k.val % 12) = false → Next (.coilCommand w k v) s fun t =>
        t.f (MTX_COIL_CMD_cmd k) = v.toNat % 2 ∧ t.f (MTX_COIL_CMD_pull k) = Nat.max 10 (v.toNat / 2 ^ 8 % 256) ∧ t.f (MTX_COIL_CMD_hold k) = Nat.max 26 (v.toNat / 2 ^ 16 % 256) ∧
        t.fb (MTX_COIL_STAT_on k) = (decide (v.toNat % 2 = 1) && !s.coilsOff && (decide (k.val < 96 ∨ 112 ≤ k.val) || s.fb (MET_MEN_en ((k.val - 96) / 2)))))) ∧
    (s.clocked = true → x.onAt + s.f (MTX_COIL_CMD_pull k) * 400000 ≤ s.now → Next (.coilPullEnd k) s fun t => Regs s t [(MTX_COIL_STAT_pulling k, 0)]) ∧
    (s.clocked = false ∨ s.now < x.onAt + s.f (MTX_COIL_CMD_pull k) * 400000 → Next (.coilPullEnd k) s fun t => t = s) ∧
    (∀ closed, (s.clocked = true → Next (.feedbackChange k closed) s fun t => t.fb (MTX_COIL_STAT_fb_closed k) = (if s.f (MTX_COIL_CMD_fb_mode k) = 2 then !closed else closed) ∧
        Kept s t [MTX_COIL_STAT_fb_closed k] ∧ t.mem = s.mem ∧ t.engs = s.engs) ∧
      (s.clocked = false → Next (.feedbackChange k closed) s fun t => (SMap.get CoilInt.reset t.coils k).input = closed ∧ t.fields = s.fields ∧ t.mem = s.mem ∧ t.engs = s.engs)) ∧
    (timeout → Next (.coilFeedbackTimeout k) s failed) ∧ (¬timeout → Next (.coilFeedbackTimeout k) s fun t => t = s) ∧
    (mismatch → Next (.coilMismatch k) s failed) ∧ (¬mismatch → Next (.coilMismatch k) s fun t => t = s) ∧
    (s.clocked = true → on = true → Next (.coilOpen k) s fun t => t.fb (MTX_COIL_STAT_coil_open k) = true ∧ Kept s t (MTX_COIL_STAT_coil_open k :: ringFields)) ∧
    (s.clocked = false ∨ on = false → Next (.coilOpen k) s fun t => t = s) ∧
    ∀ (c : Fin 8) (en : Bool), Next (.menWrite 4 c en) s fun t => t.fb (MET_MEN_en c) = en ∧
      (s.fb (MET_MEN_en c) = true → en = false → t.f (MET_MEN_releases c) = Nat.min (s.f (MET_MEN_releases c) + 1) (2 ^ (MET_MEN_releases c).w - 1)) ∧
      (s.gap = false → ∀ j ∈ [96 + 2 * c.val, 97 + 2 * c.val], t.fb (MTX_COIL_STAT_on j) = (s.fb (MTX_COIL_CMD_cmd j) && !s.coilsOff && en))

/-- R198: SET_V and SET_I at the lead engine of a connector write the setpoint and its slew and are served until the reference arrives, here with no older one of the connector in service; SET_LIMIT waits for the control frame, of a port also. No lead, another lead, and SET_V or
SET_I of a port are rejected with details 1, 2 and 3. -/
def Obligations.Setpoints : Prop :=
  ∀ (s u : State) (x : Sender) (e : Fin 8) (r : Req),
    let q := QId.queue e 1
    let p := r.payload.toNat
    let i := r.scope.inst.toNat
    let all := [Instr.setV x e r, .setI x e r, .setLimit x e r]
    let served := fun t : State => (t.queue q).serving = (u.queue q).serving ++ [⟨r, []⟩]
    let alone := ∀ k ∈ [2, 3], ∀ y ∈ (u.queue (.queue k 1)).serving, y.req.scope = r.scope → y.req.opcode ≠ 0x0201 ∧ y.req.opcode ≠ 0x0202
    Served s x q r u →
      (∀ c < 8, r.scope.kind = 3 → i = c →
        (u.leadOf c = 0 → ∀ y ∈ all, Next y s fun t => t = u.complete q r 2 0x01 0) ∧
        (u.leadOf c ≠ 0 → u.leadOf c + 1 ≠ e → ∀ y ∈ all, Next y s fun t => t = u.complete q r 2 0x02 0) ∧
        (u.leadOf c ≠ 0 → u.leadOf c + 1 = e →
          (alone → Next (.setV x e r) s fun t => served t ∧ t.f (CONN_VSET_target c) = Nat.min (p % 2 ^ 32) 1250000 ∧ t.f (CONN_VSLEW_rate c) = Nat.max 1 (p / 2 ^ 32 % 2 ^ 16) ∧
            Kept u t [CONN_VSET_target c, CONN_VSLEW_rate c] ∧ t.mem = u.mem) ∧
          (alone → Next (.setI x e r) s fun t => served t ∧ t.f (CONN_ISET_target c) = p % 2 ^ 32 ∧ t.f (CONN_ISLEW_up c) = Nat.max 1 (p / 2 ^ 32 % 2 ^ 16) ∧
            t.f (CONN_ISLEW_down c) = Nat.max 1 (p / 2 ^ 48 % 2 ^ 16) ∧ Kept u t [CONN_ISET_target c, CONN_ISLEW_up c, CONN_ISLEW_down c] ∧ t.mem = u.mem) ∧
          Next (.setLimit x e r) s fun t => served t ∧ t.fields = u.fields ∧ t.mem = u.mem)) ∧
      (∀ c < 4, r.scope.kind = 4 → i = c → u.leadOf (8 + c) ≠ 0 → u.leadOf (8 + c) + 1 = e →
        (∀ y ∈ [Instr.setV x e r, .setI x e r], Next y s fun t => t = u.complete q r 2 0x03 0) ∧ Next (.setLimit x e r) s fun t => served t ∧ t.fields = u.fields ∧ t.mem = u.mem)

/-! ## Allocation, sessions, cooling, buffer -/

/-- R220, R221, R198: requests to T0's allocation. From T1 for a connector POWER_REQ is a demand and POWER_RELEASE ends it, both served until the frames complete them; HEADROOM of T5, BUFFER_AVAIL of T6 and SITE_LIMIT are kept
for the next frame. A wrong originator or scope is REJECTED with detail 1, a priority class above 2 with detail 2. -/
def Obligations.AllocationRequests : Prop :=
  ∀ (s u : State) (x : Sender) (r : Req),
    let q := QId.queue 0 1
    let p := r.payload.toNat
    let c := r.scope.inst.toNat
    let conn := r.scope.kind = 3 ∧ c < 8
    let served := fun (q : QId) (t : State) => (t.queue q).serving = (u.queue q).serving ++ [⟨r, []⟩] ∧ t.fields = u.fields ∧ t.mem = u.mem
    (Served s x q r u →
      (¬(r.origId = 2 ∧ conn) → ∀ i ∈ [Instr.powerReq x r, .powerRelease x r], Next i s fun t => t = u.complete q r 2 0x01 0) ∧
      (¬(r.origId = 6 ∧ conn) → Next (.headroom x r) s fun t => t = u.complete q r 2 0x01 0) ∧
      (¬(r.origId = 7 ∧ r.scope.kind = 4 ∧ c < 4) → Next (.bufferAvail x r) s fun t => t = u.complete q r 2 0x01 0) ∧
      (r.origId = 2 → conn →
        (2 < p / 2 ^ 48 % 256 → Next (.powerReq x r) s fun t => t = u.complete q r 2 0x02 0) ∧
        (p / 2 ^ 48 % 256 ≤ 2 → Next (.powerReq x r) s fun t => served q t ∧ ∃ d, t.demand c = some d ∧ d.req = r ∧ d.ceiling = p % 2 ^ 32 ∧ d.volts = p / 2 ^ 32 % 2 ^ 16 ∧
          d.cls = p / 2 ^ 48 % 256 ∧ d.energy = p / 2 ^ 64 % 2 ^ 32 ∧ d.deadline = p / 2 ^ 96 ∧ ∀ k, k ≠ c → t.demand k = u.demand k) ∧
        Next (.powerRelease x r) s fun t => served q t ∧ t.demand c = none ∧ ∀ k, k ≠ c → t.demand k = u.demand k) ∧
      (r.origId = 6 → conn → Next (.headroom x r) s fun t => served q t ∧ SMap.get none t.alloc.headroom c = some (p % 2 ^ 32, p / 2 ^ 32 % 2 ^ 32, u.now)) ∧
      (r.origId = 7 → r.scope.kind = 4 → c < 4 → Next (.bufferAvail x r) s fun t => served q t ∧
        SMap.get none t.alloc.buffers c = some (p % 2 ^ 16, p / 2 ^ 16 % 2 ^ 16, p / 2 ^ 32 % 2 ^ 16, u.now))) ∧
    (Served s x (siteQ x) r u →
      let ok := r.scope = siteScope ∧ ((r.origId = 7 ∧ siteQ x = .queue 0 1) ∨ (siteQ x = .queue 0 2 ∧ 0x20 ≤ r.origId.toNat ∧ r.origId.toNat < 0x30))
      (¬ok → Next (.siteLimit x r) s fun t => t = u.complete (siteQ x) r 2 0x01 0) ∧
      (ok → Next (.siteLimit x r) s fun t => served (siteQ x) t ∧ t.alloc.limits.getLast? = some ⟨r.origId, p % 2 ^ 32, p / 2 ^ 32 % 2 ^ 32, p / 2 ^ 64 % 2 ^ 32⟩ ∧
        (t.alloc.limits.filter fun y => y.orig == r.origId).length = 1))

/-- R216, R217, R231: in HOLD an allocation frame of T0, which it has just entered in slot 0, leaves no limit standing but 0, of every destination, and publishes it. In another slot there is no such frame. -/
def Obligations.AllocationFrame : Prop :=
  ∀ s : State,
    (s.devMode = 4 → (s.timerTick 0 0).freshFrame 0 0 = true → (∀ n < 96, s.fb (MTX_COIL_STAT_fail_close n) = false ∧ s.fb (MTX_COIL_STAT_fail_open n) = false) →
      Next (.slotTick 0 0 .alloc) s fun t => t.alloc.commits = s.alloc.commits + 1 ∧ t.devMode = 4 ∧ ∀ d < 12, (t.grant d).fwd = 0 ∧ (t.grant d).rev = 0) ∧
    ∀ k : Fin 8, k ≠ 0 → Next (.slotTick 0 k .alloc) s fun t => t = s.timerTick 0 k

/-- R258, R266: T0's answers to AUTHORIZE and TX_EVENT, and T1's to REMOTE_START, REMOTE_STOP, SET_AVAILABLE, UNLOCK and SET_CEILING. -/
def Obligations.SessionRequests : Prop :=
  ∀ (s u : State) (x : Sender) (r : Req),
    let q := QId.queue 1 1
    let p := r.payload.toNat
    let c := r.scope.inst.toNat
    (Served s x (.queue 0 1) r u → r.origId = 2 → r.scope.kind = 3 →
      (∀ a : AuthResult, c < 8 → (u.ses c).step ≠ 4 → Next (.authorize x r a) s fun t =>
        t = u.complete (.queue 0 1) r 1 0 (BitVec.ofNat 64 ((if a.accepted then 1 else 0) + (if a.critical then 2 else 0) + a.token.toNat * 2 ^ 32))) ∧
      (∀ a : AuthResult, c < 8 → (u.ses c).step = 4 → a.accepted = true → Next (.authorize x r a) s fun t =>
        (t.ses c).step = 5 ∧ t.f (SESS_STATUS_state c) = 3 ∧ (t.ses c).critical = a.critical ∧ (t.ses c).token = a.token.toNat) ∧
      (u.ocpp.events.length < 4096 → Next (.txEvent x r) s fun t => t.ocpp.events = u.ocpp.events ++ [⟨c, p % 256, p / 256 % 256, p / 2 ^ 32 % 2 ^ 32⟩])) ∧
    (Served s x q r u → r.origId = 1 → r.scope.kind = 3 → c < 8 →
      ((u.ses c).step ≠ 0 → Next (.remoteStart x r) s fun t => t = u.complete q r 2 0x01 0) ∧
      ((u.ses c).step = 0 → Next (.remoteStart x r) s fun t => (t.ses c).held = some (p / 2 ^ 32 % 2 ^ 32, u.now + 24000000000)) ∧
      ((u.tx c).isOpen = false ∨ (u.tx c).number ≠ p % 2 ^ 32 → Next (.remoteStop x r) s fun t => t = u.complete q r 2 0x01 0) ∧
      ((u.tx c).isOpen = true → (u.tx c).number = p % 2 ^ 32 →
        (11 ≤ (u.ses c).step → Next (.remoteStop x r) s fun t => t = u.complete q r 1 0 0) ∧
        ((u.ses c).step < 11 → Next (.remoteStop x r) s fun t => (t.ses c).step = 11 ∧ (t.ses c).reason = 1 ∧ t.f (SESS_STATUS_state c) = 9)) ∧
      (p % 2 = 1 → Next (.setAvailable x r) s fun t => (t.ses c).operative = true ∧ ((u.ses c).step = 0 → t.f (SESS_STATUS_state c) = 0)) ∧
      (p % 2 = 0 → (u.ses c).step = 0 → Next (.setAvailable x r) s fun t => (t.ses c).operative = false ∧ t.f (SESS_STATUS_state c) = 13) ∧
      (p % 2 = 0 → (u.ses c).step ≠ 0 → Next (.setAvailable x r) s fun t => (t.queue q).serving = (u.queue q).serving ++ [⟨r, []⟩] ∧ (t.ses c).availReq = some r ∧ t.fields = u.fields) ∧
      (u.mayUnlock c = false → Next (.unlock x r) s fun t => t = u.complete q r 2 0x02 0) ∧
      (u.mayUnlock c = true → u.fb (SESS_STATUS_locked c) = false → Next (.unlock x r) s fun t => t = u.complete q r 1 0 0) ∧
      (u.mayUnlock c = true → u.fb (SESS_STATUS_locked c) = true → Next (.unlock x r) s fun t => (t.queue q).serving = (u.queue q).serving ++ [⟨r, []⟩] ∧
        (t.ses c).pulse = some (false, u.now + u.f (SESS_LOCK_CFG_pulse c) * 4000000) ∧ (t.ses c).unlockReq = some r) ∧
      Next (.setCeiling x r) s fun t => (t.queue q).serving = (u.queue q).serving ++ [⟨r, []⟩] ∧ (t.ses c).ceiling = some (p % 2 ^ 32, p / 2 ^ 32 % 2 ^ 32) ∧ t.fields = u.fields)

/-- R254, R255, R257, R267, R268: a request of the vessel gets the next number, a retransmission keeps it and is counted; before the session's link nothing happens. A
connection whose TLS fails closes, with a record. A CALL of a back office has the MessageId's req_id, the connection's
next where it is new; the opcodes that T0 takes of engines only are REJECTED with detail 1. -/
def Obligations.VesselsAndCalls : Prop :=
  ∀ (s : State) (c : Fin 8) (k : Fin 16), s.lineUp = true →
    let n := s.ses c
    let live := 2 ≤ n.step ∧ s.fb (SESS_CTRL_t1s_en c) = true
    (∀ m, ¬live → Next (.vesselRequest c m) s fun t => t = s) ∧
    (∀ a, live → Next (.vesselRequest c (.tlsFail a)) s fun t => t.fb (SESS_STATUS_tls c) = false ∧ Posted s t [7] ∧ Kept s t (SESS_STATUS_tls c :: ringFields)) ∧
    (∀ msg r a, Next (.ocppCall k msg r (some a)) s fun t => Posted s t [7] ∧ Kept s t ringFields) ∧
    (∀ rest, n.step = 3 ∨ n.step = 4 → live → n.last ≠ some (.authorizationSetup rest) → Next (.vesselRequest c (.authorizationSetup rest)) s fun t =>
      t.f (SESS_SESSION_msg c) = (n.m + 1) % 2 ^ 16 ∧ (t.ses c).m = n.m + 1 ∧ (t.ses c).last = some (.authorizationSetup rest) ∧ (t.ses c).step = n.step) ∧
    (∀ rest, n.step = 3 ∨ n.step = 4 → live → n.last = some (.authorizationSetup rest) → Next (.vesselRequest c (.authorizationSetup rest)) s fun t =>
      t.f (SESS_SESSION_msg c) = s.f (SESS_SESSION_msg c) ∧ (t.ses c).m = n.m ∧ t.f (SESS_COUNTS_dups c) = Nat.min (s.f (SESS_COUNTS_dups c) + 1) (2 ^ (SESS_COUNTS_dups c).w - 1)) ∧
    (∀ rest, live → n.step = 2 → n.last ≠ some (.appProtocol true rest) →
      let q := s.queue (.queue 1 2)
      let id := BitVec.ofNat 32 (s.f (SESS_SESSION_seq c) * 65536 + (n.m + 1) % 65536)
      q.lints = [] → s.queueDisabled (.queue 1 2) = false → s.tripped (connScope c) = false → q.items = [] → s.f (SESS_SESSION_seq c) % 4096 = s.period 8 c % 4096 →
        Next (.vesselRequest c (.appProtocol true rest)) s fun t => (t.ses c).step = 3 ∧ t.f (SESS_STATUS_state c) = 3 ∧ t.fb (SESS_STATUS_tls c) = true ∧
          t.f (SESS_SESSION_msg c) = (n.m + 1) % 2 ^ 16 ∧ ∃ v, ⟨BitVec.ofNat 16 (0x10 + c), 1, 0, id, v⟩ ∈ t.outbox) ∧
    ∀ (msg : Nat) (r : Req), SMap.get [] s.ocpp.ids k = [] → r.opcode ≠ 0x0105 → r.periodKind = 0 →
      let rejected := 0x0101 ≤ r.opcode.toNat ∧ r.opcode.toNat ≤ 0x0104
      let id := BitVec.ofNat 32 (SMap.get 0 s.ocpp.counter k)
      let q := s.queue (.queue 0 2)
      superseding r.opcode = false → q.lints = [] → s.queueDisabled (.queue 0 2) = false → s.tripped r.scope = false → q.items = [] →
        (∀ o ∈ s.outbox, o.reqId ≠ id) →
          (¬rejected → Next (.ocppCall k msg r none) s fun t => (t.queue (.queue 0 2)).items = [⟨{ r with origId := BitVec.ofNat 16 (0x20 + k), reqId := id }, []⟩] ∧
            SMap.get [] t.ocpp.ids k = [(msg, id)] ∧ t.fields = s.fields) ∧
          (rejected → Next (.ocppCall k msg r none) s fun t => (t.queue (.queue 0 2)).items = [] ∧ ∃ v, ⟨BitVec.ofNat 16 (0x20 + k), 2, 1, id, v⟩ ∈ t.outbox)

/-- R250, R252, R253, R269: the line units' samples, the lock's pulses and feedback, the link, and the disable of a session. -/
def Obligations.SessionUnits : Prop :=
  ∀ (s : State) (c : Fin 8),
    let n := s.ses c
    let pulsed := fun (lock : Bool) (t : State) => (t.ses c).pulse = some (lock, s.now + s.f (SESS_LOCK_CFG_pulse c) * 4000000) ∧ t.fields = s.fields ∧ t.mem = s.mem ∧ t.engs = s.engs
    let lockEv := SESS_EVENTS_lock_change c
    (s.clocked = true → ∀ a b : Int, -2 ^ 15 ≤ a → a < 2 ^ 15 → -2 ^ 15 ≤ b → b < 2 ^ 15 → Next (.lineSample c a b) s fun t => t.fi (SESS_CPL_MEAS_v c) = a ∧ t.fi (SESS_PRX_MEAS_v c) = b ∧
      (a < s.f (SESS_CPL_CFG_th0 c) * 100 → (n.cpl.1 = 0 → 2 ≤ n.cpl.2 → t.f (SESS_STATUS_cpl_band c) = 0) ∧
        (n.cpl.1 ≠ 0 → t.f (SESS_STATUS_cpl_band c) = s.f (SESS_STATUS_cpl_band c) ∧ (t.ses c).cpl = (0, 1)))) ∧
    Next (.lockPulse 1 c) s (pulsed true) ∧ Next (.unlockPulse 1 c) s (pulsed false) ∧
    (s.clocked = true → Next (.lockPulseEnd c) s fun t => (t.ses c).pulse = (n.pulse.filter fun p => decide (s.now < p.2)) ∧ t.fields = s.fields ∧ t.mem = s.mem ∧ t.engs = s.engs) ∧
    (∀ high, let locked := high != s.fb (SESS_LOCK_CFG_fb_pol c)
      n.unlockReq = none → (s.fb (SESS_STATUS_locked c) ≠ locked → Next (.lockFeedbackChange c high) s fun t => t.fb (SESS_STATUS_locked c) = locked ∧ t.fb lockEv = true ∧ Posted s t [1, 7] ∧
          Kept s t (SESS_STATUS_locked c :: lockEv :: ringFields)) ∧
        (s.fb (SESS_STATUS_locked c) = locked → Next (.lockFeedbackChange c high) s fun t => t.fields = s.fields ∧ t.mem = s.mem)) ∧
    (n.await = none ∨ (∃ l x, n.await = some (l, x) ∧ s.now < x + 400000000) → Next (.lockTimeout c) s fun t => t = s) ∧
    (∀ l x, s.clocked = true → n.await = some (l, x) → x + 400000000 ≤ s.now → Next (.lockTimeout c) s fun t => t.fb (SESS_EVENTS_lock_timeout c) = true ∧ (t.ses c).await = none ∧ (t.ses c).lockFailed = true ∧
      ∃ x ∈ t.trips, x.eng = 1 ∧ x.cls = 2 ∧ x.scope = connScope c) ∧
    (Next (.t1sLinkChange c (s.fb (SESS_STATUS_link c))) s fun t => t = s) ∧
    (s.clocked = true → s.fb (SESS_STATUS_link c) = false → Next (.t1sLinkChange c true) s fun t => t.fb (SESS_STATUS_link c) = true ∧ t.fb (SESS_EVENTS_link_up c) = true ∧ Posted s t [1, 7]) ∧
    (s.clocked = true → s.fb (SESS_STATUS_link c) = true → Next (.t1sLinkChange c false) s fun t => t.fb (SESS_STATUS_link c) = false ∧ t.fb (SESS_STATUS_tls c) = false ∧
      t.fb (SESS_EVENTS_link_down c) = true ∧ t.f (SESS_T1S_STAT_link_drops c) = Nat.min (s.f (SESS_T1S_STAT_link_drops c) + 1) (2 ^ (SESS_T1S_STAT_link_drops c).w - 1)) ∧
    (s.fb (SESS_CTRL_en c) = false → Next (.sessionDisable 1 c) s fun t => t = s) ∧
    (s.fb (SESS_CTRL_en c) = true → Next (.sessionDisable 1 c) s fun t => t.fb (SESS_CTRL_en c) = false ∧ (∀ y ∈ (t.queue (.queue 1 2)).items, y.req.scope ≠ connScope c) ∧
      (1 ≤ n.step → n.step ≤ 10 → (t.ses c).step = 11 ∧ (t.ses c).reason = 7) ∧ (n.step = 0 → (t.ses c).step = 0)) ∧
    (s.clocked = false → ∀ i ∈ [Instr.lineSample c 0 0, .lockPulseEnd c, .lockTimeout c, .t1sLinkChange c true, .t1sLinkChange c false], Next i s fun t => t = s)

/-- R271, R306, R246, R247: the conversions of the cooling inputs; STRING_SW at T5; T7's nonces for string authentication and what AUTH_VERIFY finds. -/
def Obligations.CoolingAndStrings : Prop :=
  ∀ (s u : State) (x : Sender) (r : Req),
    (s.clocked = true → ∀ k : Fin 64, (s.f (COOL_TS_kind k) = 0 → ∀ v, Next (.tsConversion k v) s fun t => t = s) ∧
      (s.f (COOL_TS_kind k) ≠ 0 → ∀ (v : BitVec 16), ∀ p ∈ [(TsReading.openCircuit, 0x8000, 1, 0), (.shortCircuit, 0x8000, 0, 1), (.value v, v.toNat, 0, 0)],
        Next (.tsConversion k p.1) s fun t => Regs s t [(COOL_TS_value k, p.2.1), (COOL_TS_open k, p.2.2.1), (COOL_TS_short k, p.2.2.2), (COOL_TS_seq k, (s.f (COOL_TS_seq k) + 1) % 2 ^ (COOL_TS_seq k).w)])) ∧
    (s.clocked = true → ∀ (k : Fin 16) (v : BitVec 16), Next (.aiConversion k v) s fun t => Regs s t [(COOL_AI_value k, v.toNat),
      (COOL_AI_under k, if s.fb (COOL_AI_mode k) = true ∧ v.toNat < 7200 then 1 else 0), (COOL_AI_over k, if 42000 < v.toNat then 1 else 0)]) ∧
    (s.clocked = true → ∀ (k : Fin 8) (a b : BitVec 16), Next (.fqUpdate k a b) s fun t => Regs s t [(COOL_FQ_freq k, a.toNat), (COOL_FQ_count k, (s.f (COOL_FQ_count k) + b.toNat) % 2 ^ 16)]) ∧
    (Served s x (.queue 5 1) r u →
      let q := QId.queue 5 1
      let n := SMap.get 255 u.maq.stringRelay (r.payload.toNat % 256)
      let on := r.payload.toNat / 256 % 2 = 1
      (32 ≤ n → Next (.stringSw x r) s fun t => t = u.complete q r 2 0x02 0) ∧
      (n < 32 → on → u.fb (LSW_STATUS_tripped n) = true ∨ u.fb (LSW_STATUS_latched n) = true → Next (.stringSw x r) s fun t => t = u.complete q r 2 0x01 0) ∧
      (n < 32 → ¬on → u.fb LSW_HOLD_STAT_hold = false → u.gap = false → Next (.stringSw x r) s fun t => t.fb (LSW_STATUS_out n) = false ∧ t.fb (LSW_CTRL_cmd n) = false) ∧
      (n < 32 → on → u.fb LSW_HOLD_STAT_hold = false → u.gap = false → u.lsFree n = true → u.fb (LSW_STATUS_out n) = false → u.fb (LSW_RAIL_STAT_uv (n / 16)) = false → u.fb (LSW_CFG_inrush n) = true → Next (.stringSw x r) s fun t =>
        t.fb (LSW_STATUS_out n) = true ∧ t.fb (LSW_CTRL_cmd n) = true ∧ (t.queue q).serving = (u.queue q).serving ++ [⟨r, []⟩])) ∧
    (Served s x (.queue 7 1) r u →
      let q := QId.queue 7 1
      let n := r.payload.toNat % 256
      let done := fun (w : State) (v : DWord) (t : State) => t = w.complete q r 1 0 v
      let ours := r.origId = 7 ∧ r.scope = portScope (n / 4) ∧ n < 16
      (ours → r.payload.toNat / 256 % 2 = 0 → Next (.authNonce x r) s fun t => ∃ (v : Nat) (w : State), done w (BitVec.ofNat 64 v) t ∧ SMap.get none t.sec.strNonce n = some (v % 2 ^ 128) ∧ w.fields = u.fields ∧ w.mem = u.mem) ∧
      (∀ v, ours → r.payload.toNat / 256 % 2 = 1 → SMap.get none u.sec.strNonce n = some v → Next (.authNonce x r) s fun t => ∃ w : State, done w (BitVec.ofNat 64 (v / 2 ^ 64)) t ∧ w.fields = u.fields ∧ w.mem = u.mem) ∧
      (r.indirect = true → r.indLen = 225 → r.origId = 7 →
        let m := (u.rdB r.indAddr).toNat
        m < 16 → isDram r.indAddr = true → r.scope = portScope (m / 4) → SMap.get none u.sec.strNonce m = none → Next (.authVerify x r) s fun t => ∃ w : State, t = w.complete q r 1 4 0 ∧ w.fields = u.fields ∧ w.mem = u.mem ∧
          SMap.get none w.sec.strNonce m = none))

/-! ## Load switches -/

/-- R294 to R297, R304, R116: commands to a load-switch channel. In hold mode they have no effect, over a switch-over gap they are held. -/
def Sys2Proof.Claims.LoadSwitchCommands : Prop :=
  ∀ (s : State) (w : Fin 8) (n : Fin 32), w.val = s.lswEng →
    let cmds := [Instr.lsCommand w n true, .lsCommand w n false, .lsRetry w n, .lsClear w n, .lsLatch w n]
    let off := [(LSW_STATUS_out n, 0), (LSW_STATUS_open_load n, 0)]
    let out := s.fb (LSW_STATUS_out n)
    let uv := s.fb (LSW_RAIL_STAT_uv (n.val / 16))
    let free := s.fb (LSW_STATUS_tripped n) = false ∧ s.fb (LSW_STATUS_latched n) = false ∧ s.fb (LSW_STATUS_estop_off n) = false
    let refused := fun (ev : Fld) (t : State) => t.fb ev = true ∧ Posted s t [5, 7] ∧ Kept s t (ev :: ringFields)
    (s.fb LSW_HOLD_STAT_hold = true → ∀ i ∈ cmds, Next i s fun t => t = s) ∧
    (s.fb LSW_HOLD_STAT_hold = false → s.gap = true → ∀ i ∈ cmds, Next i s fun t => ∃ v, t.held = s.held ++ [⟨w, LSW_CTRL n, v⟩] ∧ t.fields = s.fields ∧ t.mem = s.mem ∧ t.engs = s.engs) ∧
    (s.fb LSW_HOLD_STAT_hold = false → s.gap = false →
      (Next (.lsCommand w n false) s fun t => Regs s t ([(LSW_CTRL_cmd n, 0), (LSW_STATUS_tripped n, 0), (LSW_STATUS_uv_off n, 0)] ++ off)) ∧
      (out = false → free → uv = false →
        (s.fb (LSW_CFG_inrush n) = true → Next (.lsCommand w n true) s fun t => Regs s t [(LSW_CTRL_cmd n, 1), (LSW_STATUS_out n, 1), (LSW_STATUS_inrush n, 1), (LSW_STATUS_uv_off n, 0)] ∧
          (t.lsw n).window = true) ∧
        (s.fb (LSW_CFG_inrush n) = false → Next (.lsCommand w n true) s fun t => t.fb (LSW_CTRL_cmd n) = true ∧ t.fb (LSW_STATUS_out n) = true ∧ t.fb (LSW_STATUS_inrush n) = false)) ∧
      (out = true ∨ ¬free ∨ uv = true → Next (.lsCommand w n true) s fun t => Regs s t [(LSW_CTRL_cmd n, 1)]) ∧
      (s.fb (LSW_STATUS_latched n) = true → Next (.lsRetry w n) s (refused (LSW_EVENTS_retry_blocked n))) ∧
      (s.fb (LSW_STATUS_latched n) = false → s.fb (LSW_STATUS_tripped n) = false → Next (.lsRetry w n) s fun t => t = s) ∧
      (s.fb (LSW_STATUS_latched n) = false → s.fb (LSW_STATUS_tripped n) = true →
        (s.now < (s.lsw n).trippedAt + 40000000 → Next (.lsRetry w n) s (refused (LSW_EVENTS_retry_early n))) ∧
        ((s.lsw n).trippedAt + 40000000 ≤ s.now → Next (.lsRetry w n) s fun t => t.fb (LSW_STATUS_tripped n) = false ∧
          t.f (LSW_STATUS_retry_count n) = Nat.min 15 (s.f (LSW_STATUS_retry_count n) + 1) ∧
          (s.fb (LSW_CTRL_cmd n) = true → s.fb (LSW_STATUS_estop_off n) = false → uv = false → t.fb (LSW_STATUS_out n) = true))) ∧
      (s.fb (LSW_GROUP_STAT_over (n.val / 8)) = true → Next (.lsClear w n) s (refused (LSW_EVENTS_clear_refused n))) ∧
      (s.fb (LSW_GROUP_STAT_over (n.val / 8)) = false → Next (.lsClear w n) s fun t => Regs s t ([(LSW_STATUS_latched n, 0), (LSW_STATUS_latch_cause n, 0), (LSW_STATUS_tripped n, 0),
        (LSW_STATUS_retry_count n, 0), (LSW_CTRL_cmd n, 0), (LSW_STATUS_uv_off n, 0)] ++ off)) ∧
      Next (.lsLatch w n) s fun t => Regs s t ([(LSW_STATUS_latched n, 1), (LSW_STATUS_latch_cause n, 2)] ++ off))

/-- R293 to R295, R298, R299: the clamp of a channel, the end of its inrush window, the reports of overload after 1 s above 2 A and open load after 100 ms below its threshold, and its current sense. -/
def Sys2Proof.Claims.LoadSwitchChannels : Prop :=
  ∀ (s : State) (n : Fin 32),
    let out := s.fb (LSW_STATUS_out n)
    let win := (s.lsw n).window
    let seen := fun (flag ev : Fld) (t : State) => t.fb flag = true ∧ t.fb ev = true ∧ Posted s t [5, 7] ∧ Kept s t (flag :: ev :: ringFields)
    (∀ mA, let trips := out = true ∧ (if win then 10000 else 6000) ≤ mA
      (¬trips → Next (.lsTrip n mA) s fun t => t = s) ∧
      (trips → Next (.lsTrip n mA) s fun t => t.fb (LSW_STATUS_out n) = false ∧ t.fb (LSW_STATUS_tripped n) = true ∧ (t.lsw n).trippedAt = s.now ∧ t.fb (LSW_EVENTS_trip n) = true ∧
        t.f (LSW_COUNTS_trips n) = Nat.min (s.f (LSW_COUNTS_trips n) + 1) (2 ^ (LSW_COUNTS_trips n).w - 1))) ∧
    (win = false ∨ s.now < (s.lsw n).till → Next (.lsInrushEnd n) s fun t => t = s) ∧
    (win = true → (s.lsw n).till ≤ s.now → Next (.lsInrushEnd n) s fun t => (t.lsw n).window = false ∧ t.fb (LSW_STATUS_inrush n) = false ∧ t.fb (LSW_STATUS_out n) = out) ∧
    (out = false ∨ win = true → ∀ i ∈ [Instr.lsOverload n, .lsOpenLoad n], Next i s fun t => t = s) ∧
    (out = true → win = false →
      (s.fb (LSW_STATUS_overload n) = false → 10000 ≤ (s.lsw n).high2A → Next (.lsOverload n) s (seen (LSW_STATUS_overload n) (LSW_EVENTS_overload n))) ∧
      (s.fb (LSW_STATUS_open_load n) = false → 1000 ≤ (s.lsw n).lowOl → Next (.lsOpenLoad n) s (seen (LSW_STATUS_open_load n) (LSW_EVENTS_open_load n))) ∧
      (s.fb (LSW_STATUS_overload n) = true ∨ (s.lsw n).high2A < 10000 → Next (.lsOverload n) s fun t => t = s) ∧ (s.fb (LSW_STATUS_open_load n) = true ∨ (s.lsw n).lowOl < 1000 → Next (.lsOpenLoad n) s fun t => t = s)) ∧
    ∀ i : Nat, Next (.lsSenseConversion n i) s fun t => t.f (LSW_SENSE_i n) = Nat.min i 0xFA0 ∧ t.f (LSW_SENSE_seq n) = (s.f (LSW_SENSE_seq n) + 1) % 2 ^ 8 ∧
      Kept s t [LSW_SENSE_i n, LSW_SENSE_seq n, LSW_STATUS_overload n, LSW_STATUS_open_load n] ∧
      (t.lsw n).high2A = (if out = true ∧ win = false ∧ 800 < i then Nat.min 10000 ((s.lsw n).high2A + 1) else 0) ∧
      (t.lsw n).lowOl = (if out = true ∧ win = false ∧ i < s.f (LSW_CFG_ol_th n) * 2 then Nat.min 1000 ((s.lsw n).lowOl + 1) else 0) ∧
      (i ≤ 800 → (s.lsw n).low2A = 9999 → t.fb (LSW_STATUS_overload n) = false) ∧
      (800 < i ∨ (s.lsw n).low2A < 9999 → t.f (LSW_STATUS_overload n) = s.f (LSW_STATUS_overload n)) ∧
      (s.f (LSW_CFG_ol_th n) * 2 ≤ i → (s.lsw n).highOl = 999 → t.fb (LSW_STATUS_open_load n) = false) ∧
      (i < s.f (LSW_CFG_ol_th n) * 2 ∨ (s.lsw n).highOl < 999 → t.f (LSW_STATUS_open_load n) = s.f (LSW_STATUS_open_load n)) ∧ t.mem = s.mem ∧ t.engs = s.engs

/-- R300: an undervoltage turns every channel of the rail off; after it they restart one at a time in channel order, 2 ms apart. R301, R302: a group whose temperature reaches its budget latches its faulted channels, else the one of the highest
shed priority, and every 10 ms again. R303 to R305: adoption ends hold mode; the VSW domain loses its content as VSW goes. -/
def Sys2Proof.Claims.LoadSwitchRails : Prop :=
  ∀ s : State,
    let eligible := fun n : Nat => s.fb (LSW_CTRL_cmd n) = true ∧ s.fb (LSW_STATUS_out n) = false ∧ s.lsFree n = true
    let faulted := fun n : Nat => (s.lsw n).window = false ∧ s.fb (LSW_STATUS_latched n) = false ∧ (s.fb (LSW_STATUS_tripped n) = true ∨ s.fb (LSW_STATUS_overload n) = true)
    let on := fun n : Nat => s.fb (LSW_STATUS_out n) = true ∧ (s.lsw n).window = false
    (∀ r : Fin 2,
      let uv := s.fb (LSW_RAIL_STAT_uv r)
      let rail := fun n : Nat => n < 32 ∧ n / 16 = r.val
      let again := s.fb (LSW_RAIL_STAT_restarting r) = true ∧ SMap.get 0 s.lsPace.rails r ≤ s.now
      (uv = true → Next (.lsUndervoltage r) s fun t => t = s) ∧
      (uv = false → Next (.lsUndervoltage r) s fun t => t.fb (LSW_RAIL_STAT_uv r) = true ∧ t.fb (LSW_RAIL_STAT_restarting r) = false ∧
        ∀ n < 32, (rail n → t.fb (LSW_STATUS_out n) = false ∧ (s.fb (LSW_STATUS_out n) = true → t.fb (LSW_STATUS_uv_off n) = true)) ∧ (¬rail n → t.fb (LSW_STATUS_out n) = s.fb (LSW_STATUS_out n))) ∧
      (uv = false → Next (.lsUvRecover r) s fun t => t = s) ∧
      (uv = true → Next (.lsUvRecover r) s fun t => t.fb (LSW_RAIL_STAT_uv r) = false ∧ (t.fb (LSW_RAIL_STAT_restarting r) = true ↔ ∃ n, rail n ∧ eligible n) ∧
        Kept s t [LSW_RAIL_STAT_uv r, LSW_RAIL_STAT_restarting r] ∧ t.mem = s.mem ∧ t.engs = s.engs) ∧
      (¬again → Next (.lsUvRestart r) s fun t => t = s) ∧
      (again → (∀ n, rail n → ¬eligible n) → Next (.lsUvRestart r) s fun t => Regs s t [(LSW_RAIL_STAT_restarting r, 0)]) ∧
      (again → ∀ n, rail n → eligible n → (∀ m < n, rail m → ¬eligible m) → Next (.lsUvRestart r) s fun t => t.fb (LSW_STATUS_out n) = true ∧ t.fb (LSW_EVENTS_uv_restart n) = true ∧ SMap.get 0 t.lsPace.rails r = s.now + 800000 ∧
        ∀ m < 32, m ≠ n → t.fb (LSW_STATUS_out m) = s.fb (LSW_STATUS_out m))) ∧
    (s.shedNext < 16 → ∀ g : Fin 4,
      let group := fun n : Nat => n / 8 = g.val
      let shut : Int := s.f (LSW_GROUP_CFG_shed_t g)
      let steps := Nat.min (s.f (LSW_GROUP_STAT_steps g) + 1) (2 ^ 16 - 1)
      let shed := fun t : State => t.f (LSW_GROUP_STAT_steps g) = steps ∧ (∀ n, group n → faulted n → t.fb (LSW_STATUS_latched n) = true ∧ t.f (LSW_STATUS_latch_cause n) = 1 ∧ t.fb (LSW_STATUS_out n) = false) ∧
        ((∀ n, group n → ¬faulted n) → ∀ n, group n → on n → (∀ m, group m → on m → m ≠ n → s.f (LSW_CFG_shed_prio m) < s.f (LSW_CFG_shed_prio n) ∨
          (s.f (LSW_CFG_shed_prio m) = s.f (LSW_CFG_shed_prio n) ∧ m < n)) → t.fb (LSW_STATUS_latched n) = true ∧ t.f (LSW_STATUS_latch_cause n) = 1 ∧ t.fb (LSW_STATUS_out n) = false ∧
            ∀ m, group m → m ≠ n → t.fb (LSW_STATUS_latched m) = s.fb (LSW_STATUS_latched m))
      (∀ x : BitVec 12, Next (.groupTempMeasure g x) s fun t => t.fi (LSW_GROUP_STAT_temp g) = x.toInt ∧ (shut ≤ x.toInt → t.fb (LSW_GROUP_STAT_over g) = true) ∧
        (x.toInt < shut - s.f (LSW_GROUP_CFG_hyst g) → t.fb (LSW_GROUP_STAT_over g) = false) ∧ (shut ≤ x.toInt → s.lsExceeded / 2 ^ g.val % 2 = 0 → shed t) ∧
        (x.toInt < shut ∨ s.lsExceeded / 2 ^ g.val % 2 = 1 → Kept s t [LSW_GROUP_STAT_temp g, LSW_GROUP_STAT_over g])) ∧
      (s.fi (LSW_GROUP_STAT_temp g) < shut ∨ s.now < SMap.get 0 s.lsPace.groups g → Next (.shedStep g) s fun t => t = s) ∧
      (shut ≤ s.fi (LSW_GROUP_STAT_temp g) → SMap.get 0 s.lsPace.groups g ≤ s.now → Next (.shedStep g) s shed)) ∧
    (s.fb LSW_HOLD_STAT_hold = false → Next (.lsAdopt 7) s fun t => t = s) ∧
    (s.fb LSW_HOLD_STAT_hold = true → Next (.lsAdopt 7) s fun t => t.fb LSW_HOLD_STAT_hold = false ∧ (s.f SEC_BOOT_STAT_stage = 9 → t.f SEC_BOOT_STAT_stage = 10) ∧ t.mem = s.mem ∧ t.engs = s.engs ∧
      ∀ n < 32, t.fb (LSW_STATUS_hold n) = false ∧ t.f (LSW_STATUS_out n) = s.f (LSW_STATUS_out n) ∧ t.f (LSW_CTRL_cmd n) = s.f (LSW_CTRL_cmd n) ∧ t.f (LSW_STATUS_tripped n) = s.f (LSW_STATUS_tripped n)) ∧
    (Next .vswLost s fun t => t.vswLost = true ∧ (∀ n < 32, t.fb (LSW_STATUS_out n) = false ∧ t.fb (LSW_CTRL_cmd n) = false) ∧ t.f LSW_HOLD_STAT_hold = s.f LSW_HOLD_STAT_hold ∧ t.mem = s.mem ∧ t.engs = s.engs) ∧
    (s.vswLost = false → Next .vswRestored s fun t => t = s) ∧
    (s.vswLost = true → Next .vswRestored s fun t => t.vswLost = false ∧ t.fb LSW_HOLD_STAT_lost = true ∧ (∀ n < 32, t.fb (LSW_STATUS_out n) = false) ∧ t.mem = s.mem ∧ t.engs = s.engs)

/-- R116, R293 to R305: load switches: commands to channels, their states and the rails. -/
def Obligations.LoadSwitches : Prop := LoadSwitchCommands ∧ LoadSwitchChannels ∧ LoadSwitchRails

/-! ## Metrology -/

/-- R317 to R319, R321, R331: run starts the blocks at the next edge of the 10 ms grid, a cut waits for the sample boundary, a block ends with the 100th sample of its 10 ms: its whole energies go to the tallies, the residues stay, and its
result waits for delivery, which stores it in the half of its number. An acknowledgement clears failed where the condition no longer stands; the lock freezes the Locked registers. -/
def Sys2Proof.Claims.MeterBlocks : Prop :=
  ∀ s : State, s.clocked = true →
    let runs := s.fb MET_STATUS_running = true ∧ s.met.startAt ≤ s.now
    let pending := s.fb MET_STATUS_cut_pending
    let cuts := pending = true ∧ s.met.cutDue = true ∧ s.met.slots ≠ 100
    let unit := 36 * 2 ^ 122
    let closes := fun t : State => t.met.block = s.met.block + 1 ∧ (∃ b, t.met.closed = s.met.closed ++ [b] ∧ b.length = 0x5C0 ∧ leNat (b.take 8) = s.met.block % 2 ^ 64) ∧
      t.f MET_STATUS_samples = 0 ∧ t.fb MET_STATUS_cut_pending = false ∧ ∀ a < 64, SMap.get 0 t.met.tally a = SMap.get 0 s.met.tally a + SMap.get 0 s.met.acc a / unit ∧
        SMap.get 0 t.met.acc a = SMap.get 0 s.met.acc a % unit
    (s.fb MET_CTRL_run = true → Next (.meterRun 4) s fun t => t = s) ∧
    (s.fb MET_CTRL_run = false → s.epoch ≤ s.now → Next (.meterRun 4) s fun t => Regs s t [(MET_CTRL_run, 1), (MET_STATUS_running, 1)] ∧ s.now < t.met.startAt ∧
      t.met.startAt ≤ s.now + 4000000 ∧ (t.met.startAt - s.epoch) % 4000000 = 0) ∧
    (runs → s.f MET_STATUS_samples ≠ 0 → pending = false → Next (.meterCut 4) s fun t => Regs s t [(MET_STATUS_cut_pending, 1)] ∧ t.met.cutDue = false) ∧
    (¬runs ∨ s.f MET_STATUS_samples = 0 ∨ pending = true → Next (.meterCut 4) s fun t => t = s) ∧
    (cuts → Next .cutBoundary s fun t => closes t ∧ t.met.slots = s.met.slots ∧ t.met.startAt = s.met.startAt) ∧ (¬cuts → Next .cutBoundary s fun t => t = s) ∧
    (runs → s.met.slots = 100 → Next .blockEnd s fun t => closes t ∧ t.met.slots = 0 ∧ t.met.startAt = s.met.startAt + 4000000) ∧ (¬runs ∨ s.met.slots ≠ 100 → Next .blockEnd s fun t => t = s) ∧
    (s.bill.ask = none → (s.met.closed = [] → Next .blockDelivery s fun t => t = s) ∧
      ∀ b rest, s.met.closed = b :: rest → b.length ≤ 0x800 →
        let n := leNat (b.take 8)
        Next .blockDelivery s fun t => t.met.closed = rest ∧ t.f MET_STATUS_half = n % 2 ∧ t.fb MET_STATUS_unacked = true ∧ t.f MET_BLOCK_LO_block = n % 2 ^ 32 ∧ t.f MET_BLOCK_HI_block = n / 2 ^ 32 % 2 ^ 32 ∧
          t.fb MET_EVENTS_block_done = true ∧ (s.met.unacked / 2 ^ (n % 2) % 2 = 1 → t.fb MET_EVENTS_overwrite = true) ∧
          t.rdBytes (sramKey 4 (0x1001D000 + 0x800 * (n % 2))) b.length = b) ∧
    (Next (.meterAck 4) s fun t => t.fb MET_STATUS_unacked = false ∧ (∀ m < 48, t.fb (MET_CH_STAT_failed m) = (s.fb (MET_CH_STAT_failed m) && (s.fb (MET_CH_STAT_stuck m) || s.fb (MET_CH_STAT_dens_out m)))) ∧
      ∀ e < 22, t.fb (MET_EL_STAT_fail e) = (t.fb (MET_CH_STAT_failed (elV e)) || t.fb (MET_CH_STAT_failed (elI e)))) ∧
    Next (.calLock 4) s fun t => Regs s t [(MET_CTRL_cal_lock, 1), (MET_STATUS_cal_locked, 1)]

/-- R309 to R316, R321, R326, R327, R331, R440: input checks, samples, half-cycles, windows, the segment RAM and the read latch. -/
def Sys2Proof.Claims.MeterInputs : Prop :=
  ∀ s : State, s.clocked = true →
    let runs := s.fb MET_STATUS_running = true ∧ s.met.startAt ≤ s.now
    (∀ (m : Fin 48) (stuck dens : Bool),
      let since := SMap.get 0 s.met.backs m
      let same := fun t : State => t.fb (MET_CH_STAT_stuck m) = stuck ∧ t.fb (MET_CH_STAT_dens_out m) = dens
      (s.fb (MET_CH_STAT_failed m) = false → stuck = true ∨ dens = true → Next (.metInputFail m stuck dens) s fun t => same t ∧ SMap.get 0 t.met.backs m = s.now + 1 ∧ t.fb (MET_CH_STAT_failed m) = true ∧ t.fb MET_EVENTS_ch_fail = true ∧
        t.f (MET_CH_STAT_fails m) = Nat.min (s.f (MET_CH_STAT_fails m) + 1) (2 ^ (MET_CH_STAT_fails m).w - 1) ∧ ∀ e < 22, elV e = m ∨ elI e = m → t.fb (MET_EL_STAT_fail e) = true) ∧
      (s.fb (MET_CH_STAT_failed m) = true ∨ (stuck = false ∧ dens = false) → Next (.metInputFail m stuck dens) s fun t => same t ∧ Kept s t [MET_CH_STAT_stuck m, MET_CH_STAT_dens_out m] ∧ t.mem = s.mem) ∧
      (since = 0 ∨ s.now + 1 < since + 400000000 → Next (.chBack m) s fun t => t = s) ∧
      (since ≠ 0 → since + 400000000 ≤ s.now + 1 → Next (.chBack m) s fun t => SMap.get 0 t.met.backs m = 0 ∧ t.fb (MET_CH_STAT_stuck m) = false ∧ t.fb (MET_CH_STAT_dens_out m) = false ∧ t.fb MET_EVENTS_ch_back = true ∧ Posted s t [4, 7] ∧
        Kept s t (MET_CH_STAT_stuck m :: MET_CH_STAT_dens_out m :: MET_EVENTS_ch_back :: ringFields))) ∧
    (∀ v : BitVec 48, (s.met.watch = 0 ∨ s.now < s.met.watch → Next (.metBootInputTest v) s fun t => t = s) ∧
      (s.met.watch ≠ 0 → s.met.watch ≤ s.now → Next (.metBootInputTest v) s fun t => t.met.watch = 0 ∧ (∀ m < 48, t.fb (MET_CH_STAT_boot_fail m) = v.getLsbD m) ∧ t.mem = s.mem ∧ t.engs = s.engs)) ∧
    (∀ e : Fin 6,
      let due := runs ∧ ((s.elem e).crossed = true ∨ 120 ≤ (s.elem e).len)
      (¬due → Next (.halfCycleEnd e) s fun t => t = s) ∧
      (due → Next (.halfCycleEnd e) s fun t =>
        let p := (s.elem e).halfP
        let q := (s.elem e).halfQ
        let part := fun k : Nat => match k with
          | 0 => p.toNat
          | 1 => (-p).toNat
          | 2 => q.toNat
          | _ => (-q).toNat
        (t.elem e).halfP = 0 ∧ (t.elem e).halfQ = 0 ∧ (t.elem e).len = 0 ∧ (t.elem e).crossed = false ∧ (p ≠ 0 → t.fb (MET_EL_STAT_import e) = decide (0 < p)) ∧
          ∀ k < 4, SMap.get 0 t.met.acc (elAcc e + k) = SMap.get 0 s.met.acc (elAcc e + k) + part k ∧
            SMap.get 0 t.met.acc (totAcc (e.val / 3) + k) = SMap.get 0 s.met.acc (totAcc (e.val / 3) + k) + part k)) ∧
    (∀ dens shifted delayed : List Int,
      let due := runs ∧ s.met.slots < 100 ∧ s.met.startAt + (s.met.slots + 1) * 40000 ≤ s.now
      (¬due → Next (.metrologySample dens shifted delayed) s fun t => t = s) ∧
      (due → Next (.metrologySample dens shifted delayed) s fun t => t.f MET_STATUS_samples = (s.f MET_STATUS_samples + 1) % 2 ^ 7 ∧ t.met.slots = s.met.slots + 1 ∧ t.met.cutDue = s.fb MET_STATUS_cut_pending ∧
        ∀ m < 48,
          let x : Int := (s.f (MET_CH_CFG_fs m) : Int) * s.f (MET_CH_GAIN_gain m) * (dens.getD m 0 - s.fi (MET_CH_OFS_ofs m))
          (t.chan m).abs = (s.chan m).abs + x.natAbs ∧ (t.chan m).sq = (s.chan m).sq + x.natAbs * x.natAbs ∧ (t.chan m).peak = Nat.max (s.chan m).peak x.natAbs)) ∧
    (∀ (i : Fin 2) (freq lag npe zs : Nat) (harm : List (BitVec 16)),
      let n := if s.fb MET_NOMINAL_f_nom then 60000 else 50000
      let w := Instr.harmonicWindow i freq lag npe zs harm
      let near := 90000 ≤ lag % 360000 ∧ lag % 360000 ≤ 150000
      let run := SMap.get GridRun.reset s.met.grid (4 * i)
      let due := runs ∧ (if s.fb MET_NOMINAL_f_nom then 24 else 20) ≤ SMap.get 0 s.met.halves i
      (¬due → Next w s fun t => t = s) ∧
      (due → Next w s fun t => t.f (MET_INTAKE_STAT_freq i) = freq % 2 ^ 20 ∧ SMap.get 0 t.met.halves i = 0 ∧ t.fb (MET_INTAKE_STAT_harm_valid i) = decide (95 * n ≤ 100 * freq ∧ 100 * freq ≤ 105 * n) ∧
        (s.f (MET_INTAKE_STAT_v_absent i) = 0 → near → s.fb (MET_INTAKE_STAT_seq_ok i) = false → run.on = 4 → t.fb (MET_INTAKE_STAT_seq_ok i) = true ∧ t.fb MET_EVENTS_seq_change = true) ∧
        (s.f (MET_INTAKE_STAT_v_absent i) = 0 → ¬near → s.fb (MET_INTAKE_STAT_seq_ok i) = true → run.off = 4 → t.fb (MET_INTAKE_STAT_seq_ok i) = false ∧ t.fb MET_EVENTS_seq_change = true) ∧
        (run.on < 4 → run.off < 4 → t.fb (MET_INTAKE_STAT_seq_ok i) = s.fb (MET_INTAKE_STAT_seq_ok i)))) ∧
    (∀ e : Fin 8,
      let i := s.f MET_SEG_ADDR_index
      let moved := if s.fb MET_SEG_ADDR_inc then [(MET_SEG_ADDR_index, (i + 1) % 2 ^ 9)] else []
      Next (.segDataAccess e none) s (fun t => Regs s t moved ∧ t.met = s.met) ∧
      (s.fb MET_STATUS_cal_locked = false → ∀ v : BitVec 32, Next (.segDataAccess 4 (some v)) s fun t => Regs s t moved ∧ (i < 352 → SMap.get 0 t.met.seg i = v.toNat) ∧
        ∀ j, j ≠ i ∨ 352 ≤ i → SMap.get 0 t.met.seg j = SMap.get 0 s.met.seg j) ∧
      (s.fb MET_STATUS_cal_locked = true → ∀ v : BitVec 32, Next (.segDataAccess 4 (some v)) s fun t => t.fb MET_EVENTS_cal_write = true ∧ t.met = s.met ∧ Posted s t [4, 7]) ∧
      Next (.blockReadLatch e) s fun t => (t.eng e).blkLatch = s.f MET_BLOCK_HI_block ∧ t.fields = s.fields ∧ t.mem = s.mem)

/-- R309 to R331, R440: blocks of the metering front end, and its inputs. -/
def Obligations.Metering : Prop := MeterBlocks ∧ MeterInputs

/-! ## Billing -/

/-- R343 to R349, R352: what T4 makes of the requests of its mailbox. While it has not started they wait; a wrong originator or scope is REJECTED with detail 1; else each has its effect, is refused with its detail, or waits for its record. -/
def Sys2Proof.Claims.BillingRequests : Prop :=
  ∀ (s u : State) (x : Sender) (r : Req),
    let p := r.payload.toNat
    let c := r.scope.inst.toNat
    let rows := [(Instr.txOpen x r, [2], 3), (.txClose x r, [2], 3), (.txConfirm x r, [1], 6), (.tariffLoad x r, [1], 6), (.utcOffset x r, [1], 6), (.creditSet x r, [1], 3), (.recordRead x r, [1, 8], 6),
      (.txUnconfirmed x r, [1], 6), (.flush x r, [8], 7), (.relayClear x r, [8], 3)]
    let answered := fun (status detail value : Nat) (t : State) => t.outIdx = (u.outIdx + 1) % 64 ∧ t.rd (0x21001000 + 16 * u.outIdx) 16 =
      r.origId.toNat + status * 2 ^ 16 + detail * 2 ^ 24 + r.reqId.toNat * 2 ^ 32 + value * 2 ^ 64
    let waits := fun t : State => t.mailbox.serving = u.mailbox.serving ++ [⟨r, []⟩]
    (s.clocked = true → s.bill.started = false → ∀ y ∈ rows, Next y.1 s fun t => t = (s.commitB x .mailbox r).2) ∧
    (s.bill.started = true → Served s x .mailbox r u →
      (∀ y ∈ rows, ¬(r.origId.toNat ∈ y.2.1 ∧ r.scope.kind.toNat = y.2.2 ∧ (y.2.2 = 3 → c < 8)) → Next y.1 s fun t => t = u.complete .mailbox r 2 0x01 0)) ∧
    (s.bill.started = true → Served s x .mailbox r u → u.bill.todo = [] → u.outIdx < 64 →
      (r.origId = 2 → r.scope.kind = 3 → c < 8 →
        let tx := u.tx c
        let open_ := Instr.txOpen x r
        (u.bill.excl / 2 ^ (6 + c) % 2 = 1 → Next open_ s (answered 2 0x10 0)) ∧
        (u.bill.excl / 2 ^ (6 + c) % 2 = 0 → tx.blocked = true → Next open_ s (answered 2 0x11 0)) ∧
        (u.bill.excl / 2 ^ (6 + c) % 2 = 0 → tx.blocked = false → u.ringLow = true → Next open_ s (answered 2 0x12 0)) ∧
        (u.bill.excl / 2 ^ (6 + c) % 2 = 0 → tx.blocked = false → u.ringLow = false → tx.isOpen = true → Next open_ s (answered 2 0x13 0)) ∧
        (u.bill.excl / 2 ^ (6 + c) % 2 = 0 → tx.blocked = false → u.ringLow = false → tx.isOpen = false → u.bill.stopped = false → Next open_ s fun t => waits t ∧ (t.tx c).isOpen = true ∧
          (t.tx c).number = u.bill.txNext ∧ (t.tx c).startImp = SMap.get 0 u.bill.regs (32 + 2 * c) ∧ (t.tx c).startExp = SMap.get 0 u.bill.regs (33 + 2 * c) ∧ (t.tx c).credit = p / 2 ^ 64 ∧
          (t.tx c).prepay = decide (p % 2 = 1) ∧ t.bill.txNext = u.bill.txNext + 1 ∧ t.bill.rseq = u.bill.rseq + 1 ∧ t.fb (BILL_TX_STAT_open c) = true ∧ t.fb (MET_MEN_en c) = u.fb (MET_MEN_en c)) ∧
        (tx.isOpen = true → Next (.txClose x r) s fun t => waits t ∧ (t.tx c).isOpen = false ∧ t.fb (MET_MEN_en c) = false ∧ t.bill.unconf = u.bill.unconf ++ [(tx.number, u.bill.rseq)] ∧
          t.bill.rseq = u.bill.rseq + 1)) ∧
      (r.origId = 1 → r.scope.kind = 6 →
        let n := p % 2 ^ 32
        let v := toSigned 16 p
        let o := if r.indirect then u.dmaRdBytes r.indAddr r.indLen else []
        (Next (.txConfirm x r) s fun t => waits t ∧ t.bill.rseq = u.bill.rseq + 1 ∧ t.bill.unconf = if p / 2 ^ 32 % 2 ^ 16 = u.f SEC_EPOCH_epoch then u.bill.unconf.filter (fun y => y.1 != n) else u.bill.unconf) ∧
        ((u.tariffSigned o = false → Next (.tariffLoad x r) s (answered 2 0x20 0)) ∧ (u.tariffSigned o = true → tariffInRange o = false → Next (.tariffLoad x r) s (answered 2 0x21 0)) ∧
          (u.tariffSigned o = true → tariffInRange o = true → tarId o ≤ tarId u.bill.active ∨ tarId o ≤ tarId u.bill.pend → Next (.tariffLoad x r) s (answered 2 0x22 0)) ∧
          (u.tariffSigned o = true → tariffInRange o = true → tarId u.bill.active < tarId o → tarId u.bill.pend < tarId o → Next (.tariffLoad x r) s fun t => waits t ∧ t.bill.pend = o ∧
            t.rdBytes 0x70701000 o.length = o ∧ t.bill.rseq = u.bill.rseq + 1)) ∧
        (2 < (v - u.bill.utcOfs).natAbs → Next (.utcOffset x r) s (answered 2 0x30 0)) ∧ ((v - u.bill.utcOfs).natAbs ≤ 2 → Next (.utcOffset x r) s fun t => waits t ∧ t.bill.newOfs = some (v, r)) ∧
        ((∀ y ∈ u.bill.unconf, y.1 ≤ n) → Next (.txUnconfirmed x r) s (answered 1 0 0)) ∧
        (∀ y ∈ u.bill.unconf, n < y.1 → y.1 < 2 ^ 32 → (∀ z ∈ u.bill.unconf, n < z.1 → z = y ∨ y.1 < z.1) → Next (.txUnconfirmed x r) s (answered 1 0 (y.1 + y.2 % 2 ^ 32 * 2 ^ 32)))) ∧
      (r.origId = 1 → r.scope.kind = 3 → c < 8 →
        let ok := (u.tx c).isOpen = true ∧ (u.tx c).exhausted = false ∧ (u.tx c).number = p / 2 ^ 64 % 2 ^ 32
        (ok → Next (.creditSet x r) s fun t => waits t ∧ (p % 2 ^ 64, r) ∈ t.bill.newCredits) ∧ (¬ok → Next (.creditSet x r) s (answered 2 0x14 0))) ∧
      (r.origId = 1 ∨ r.origId = 8 → r.scope.kind = 6 →
        let a := fun n => 0x70200000 + n % 20480 * 256
        let held := fun n => n % 2 ^ 32 = p % 2 ^ 32 ∧ 1 ≤ n ∧ n < u.bill.rseq ∧ u.bill.rseq ≤ n + 20480 ∧ u.rd (a n) 4 = 0x43455253 ∧ u.rd (a n + 6) 2 = u.f SEC_EPOCH_epoch ∧ u.rd (a n + 8) 8 = n
        let w := p / 2 ^ 32 % 32
        (∀ n, held n → w < 24 → Next (.recordRead x r) s (answered 1 0 (u.rd (a n + 8 * w) 8))) ∧ ((∀ n, ¬held n) → Next (.recordRead x r) s (answered 2 0x15 0))) ∧
      (r.origId = 8 → r.scope.kind = 7 →
        (∀ y, u.bill.ask = some y → Next (.flush x r) s fun t => waits t ∧ t.bill.ask = some ⟨y.kind, y.last || decide (p % 2 = 1)⟩) ∧
        (u.bill.ask = none → u.bill.stopped = false → u.metRuns = true → u.f MET_STATUS_samples ≠ 0 → u.met.block - u.met.closed.length ≤ u.bill.next → Next (.flush x r) s fun t =>
          waits t ∧ t.fb MET_STATUS_cut_pending = true ∧ t.bill.ask = some ⟨2, decide (p % 2 = 1)⟩)) ∧
      (r.origId = 8 → r.scope.kind = 3 → c < 8 →
        let ok := u.devMode = 5 ∧ u.fbClosed (96 + 2 * c) = false ∧ u.fbClosed (97 + 2 * c) = false
        (ok → Next (.relayClear x r) s fun t => waits t ∧ (t.tx c).blocked = false ∧ t.bill.rseq = u.bill.rseq + 1) ∧ (¬ok → Next (.relayClear x r) s (answered 2 0x16 0))))

/-- R344, R348, R349: the signed record stands in its slot of the ring; with the start record of an open transaction MEN rises. R356: a press of a display's step input moves it on and sets manual mode. -/
def Sys2Proof.Claims.BillingEvents : Prop :=
  ∀ s : State, s.clocked = true →
    ((∀ n b l t, s.bill.todo ≠ .record n b l :: t) → Next .recordSigned s fun t => t = s) ∧
    (s.bill.ask = none → ∀ n body, s.bill.todo = [.record n body [.nothing]] → body.length = 128 → Next .recordSigned s fun t => t.bill.todo = [] ∧
      t.rdBytes (0x70200000 + n % 20480 * 256) 128 = body) ∧
    (s.bill.ask = none → ∀ n body (c : Fin 8) r v, s.bill.todo = [.record n body [.txOpen c r v]] → (s.tx c).isOpen = true → (s.tx c).exhausted = false → (s.tx c).excluded = false →
      Next .recordSigned s fun t => t.fb (MET_MEN_en c) = true ∧ t.bill.todo = []) ∧
    ∀ c : Fin 8,
      let on := s.bill.started = true ∧ s.f BILL_DISP_CTRL_en / 2 ^ c.val % 2 = 1
      let i := s.f (BILL_DISP_STAT_item c)
      (¬on → Next (.dspStepPress c) s fun t => t = s) ∧
      (on → Next (.dspStepPress c) s fun t => t.fb (BILL_DISP_STAT_manual c) = true ∧ t.f (BILL_DISP_STAT_item c) = (if i = 0 ∨ 7 ≤ i then 1 else i + 1) ∧
        t.f (BILL_DISP_STAT_frames c) = Nat.min (s.f (BILL_DISP_STAT_frames c) + 1) (2 ^ 16 - 1) ∧
        Kept s t [BILL_DISP_STAT_manual c, BILL_DISP_STAT_item c, BILL_DISP_STAT_frames c] ∧ t.mem = s.mem ∧ t.engs = s.engs)

/-- R343 to R356: requests to the meter image, and its events. -/
def Obligations.Billing : Prop := BillingRequests ∧ BillingEvents

/-! ## Points, device time, rings, block transfers -/

/-- R368 to R371: commands to points. Point 0, a point that cannot be written, a value out of range and an overridden point are REJECTED with details 1 to 4; a register of the device is written at once, any other point when its source has
taken it. R373: HIST_READ gives at most 255 records of the point. A Modbus write of a mapped address is a POINT_WRITE, a read answers at once; an unmapped address answers exception 2. -/
def Obligations.PointCommands : Prop :=
  (∀ (s u : State) (x : Sender) (r : Req),
    let n := r.payload.toNat % 2 ^ 20
    let v := r.payload.toNat / 2 ^ 64
    let at_ := ptAddr n
    let quality := fun t : State => (t.rdB (at_ + 0x1E)).toNat
    let tidy := (u.eng 6).cache = [] ∧ u.ptProfile n = 0 ∧ u.net.openAt = none
    let w := u.dropOldWrites n
    let ours := r.origId = 1 ∨ r.origId = 8
    let q := pointQueue x
    let q1 := QId.queue 6 1
    (Served s x q r u →
      let refused := fun (d : Nat) => Next (.pointWrite x r) s fun t => t = w.complete q r 2 d 0
      (n = 0 → refused 1) ∧ (n ≠ 0 → w.ptWritable n = false → refused 2) ∧ (n ≠ 0 → w.ptWritable n = true → w.ptOutside n v = true → refused 3) ∧
      (n ≠ 0 → w.ptWritable n = true → w.ptOutside n v = false →
        (quality w / 16 % 2 = 1 → refused 4) ∧
        (quality w / 16 % 2 = 0 → w.ptProto n = 0 → tidy → Next (.pointWrite x r) s fun t => t.rd (at_ + 0x10) 8 = v ∧ quality t = quality w / 8 * 8) ∧
        (quality w / 16 % 2 = 0 → w.ptProto n ≠ 0 → w.ptClass n < 6 → (u.eng 6).cache = [] → Next (.pointWrite x r) s fun t => (t.queue q).serving = (w.queue q).serving ++ [⟨r, []⟩] ∧
          quality t / 32 % 2 = 1 ∧ t.rd (at_ + 0x10) 8 = w.rd (at_ + 0x10) 8))) ∧
    (Served s x q1 r u →
      (n = 0 → ∀ i ∈ [Instr.scanNow x r, .override x r, .histRead x r], Next i s fun t => t = u.complete q1 r 2 1 0) ∧
      (n ≠ 0 → Next (.scanNow x r) s fun t => (t.queue q1).serving = (u.queue q1).serving ++ [⟨r, []⟩] ∧
        t.net.scanNow = u.net.scanNow ++ (List.range (r.payload.toNat / 2 ^ 20 % 512 + 1)).map (n + ·)) ∧
      (n ≠ 0 → ours → tidy → r.payload.toNat / 2 ^ 32 % 2 = 1 → u.writePending n = false → Next (.override x r) s fun t => t.rd (at_ + 0x10) 8 = v ∧ quality t / 16 % 2 = 1) ∧
      (n ≠ 0 → ours → tidy → r.payload.toNat / 2 ^ 32 % 2 = 0 → Next (.override x r) s fun t => t.rd (at_ + 0x10) 8 = u.rd (at_ + 0x10) 8 ∧ quality t / 16 % 2 = 0) ∧
      (n ≠ 0 → ours → Next (.histRead x r) s fun t => ∃ l : List Nat, l.length ≤ 255 ∧ (∀ y ∈ l, y / 2 ^ 64 % 2 ^ 20 = n) ∧
        t = (u.dmaWrBytes v (l.flatMap fun y => bytesOf y 16)).complete q1 r 1 0 (BitVec.ofNat 64 l.length)))) ∧
  ∀ (s : State) (src : ModbusSrc) (addr : Nat) (v : BitVec 64),
    let n := SMap.get 0 s.maq.modbusMap addr
    let id := s.modbusId src addr
    let answer := fun (x : Option Nat) (exc : Option Nat) (val : DWord) (t : State) => t = { s.modbusKeep src addr x with modbus := s.modbus ++ [⟨modbusOrig src, id x, exc, val⟩] }
    (s.modbusUp src = false → ∀ i ∈ [Instr.modbusWrite src addr v, .modbusRead src addr], Next i s fun t => t = s) ∧
    (s.modbusUp src = true → n = 0 → Next (.modbusWrite src addr v) s (answer (some v.toNat) (some 2) 0) ∧ Next (.modbusRead src addr) s (answer none (some 2) 0)) ∧
    (s.modbusUp src = true → n ≠ 0 → Next (.modbusRead src addr) s (answer none none (BitVec.ofNat 64 (s.rd (ptAddr n + 0x10) 8))) ∧
      Next (.modbusWrite src addr v) s fun t =>
        exec (.pointWrite .adapter ⟨modbusOrig src, 0x0601, id (some v.toNat), s.ptScope n, 0, 0, false, true, 16, v ++ BitVec.ofNat 64 n⟩) (s.modbusKeep src addr (some v.toNat)) = .next t)

/-- R376 to R378, R440: steps and slew of device time and of the port clocks, TIME_SET, the second edge, and the latches of the split reads. -/
def Obligations.TimeCommands : Prop :=
  ∀ (s : State) (w : Fin 8) (p : Fin 2) (v : BitVec 32),
    let joined := fun low : Fld => toSigned 64 (s.f low + 2 ^ 32 * v.toNat)
    let ns := (s.phc p).ns
    (w.val = s.dtEng → Next (.dtStep w v) s fun t => t.net.dtStep = some (joined (NET_DT_STEP_step 0)) ∧ t.f (NET_DT_STEP_step 1) = v.toNat ∧ t.dtNs = s.dtNs ∧ Kept s t [NET_DT_STEP_step 1] ∧ t.mem = s.mem) ∧
    (v.toInt.natAbs ≤ 1000000 → Next (.dtSlew 0 v) s fun t => t.fi NET_DT_SLEW_slew = v.toInt ∧ Kept s t [NET_DT_SLEW_slew] ∧ t.mem = s.mem ∧ t.engs = s.engs) ∧
    (1000000 < v.toInt.natAbs → Next (.dtSlew 0 v) s fun t => t.fi NET_DT_SLEW_slew = (if v.toInt < 0 then -1000000 else 1000000) ∧ t.fb NET_DT_STATUS_slew_clipped = true) ∧
    (∀ e : Fin 8, Next (.dtReadLatch e) s (fun t => (t.eng e).dtLatch = s.dtNs / 2 ^ 32 % 2 ^ 32 ∧ t.fields = s.fields ∧ t.mem = s.mem) ∧
      Next (.phcReadLatch e p) s fun t => SMap.get 0 (t.eng e).phcLatch (2 * p) = ns / 1000000000 % 2 ^ 32 ∧ SMap.get 0 (t.eng e).phcLatch (2 * p + 1) = ns / 1000000000 / 2 ^ 32 % 2 ^ 16 ∧
        t.fields = s.fields ∧ t.mem = s.mem) ∧
    (Next (.phcStep 0 p v) s fun t => (t.phc p).step = some (joined (NET_PTP_STEP_step p 0)) ∧ (t.phc p).ns = ns ∧ t.f (NET_PTP_STEP_step p 1) = v.toNat ∧ Kept s t [NET_PTP_STEP_step p 1] ∧ t.mem = s.mem) ∧
    (s.clocked = false ∨ (s.phc p).edge = false → Next (.phcSecond p) s fun t => t = s) ∧
    (s.clocked = true → (s.phc p).edge = true → Next (.phcSecond p) s fun t => (t.phc p).edge = false ∧ t.f (NET_PTP_STATUS_seconds p) = (s.f (NET_PTP_STATUS_seconds p) + 1) % 2 ^ (NET_PTP_STATUS_seconds p).w ∧
      Kept s t [NET_PTP_STATUS_seconds p, NET_DT_PPS_OFS_ofs] ∧ (s.f CLK_REF_CFG_pps_port = p → ((s.dtNs : Int) - ns).natAbs < 2 ^ 31 → t.fi NET_DT_PPS_OFS_ofs = (s.dtNs : Int) - ns) ∧
      (s.f CLK_REF_CFG_pps_port ≠ p → t.f NET_DT_PPS_OFS_ofs = s.f NET_DT_PPS_OFS_ofs)) ∧
    ∀ (u : State) (x : Sender) (r : Req), Served s x (.queue 0 1) r u →
      let d : Int := (r.payload.toNat % 2 ^ 64 : Nat) - (u.dtNs : Int)
      d < 2 ^ 63 → -2 ^ 63 ≤ d → Next (.timeSet x r) s fun t => (t.queue (.queue 0 1)).serving = (u.queue (.queue 0 1)).serving ++ [⟨r, []⟩] ∧ t.net.dtStep = some d ∧
        t.fb NET_DT_CTRL_valid = true ∧ t.f NET_DT_CTRL_source = 4

/-- R374, R375, R47: Ethernet ports. What is received is stored in the next receive descriptor, or dropped and counted; what is sent returns its descriptor; a disable discards what waits. A write of a ring's index gives descriptors. -/
def Sys2Proof.Claims.EthernetRings : Prop :=
  ∀ (s : State) (n : Fin 6),
    let en := s.fb (NET_ETH_CTRL_en n)
    let rx := ringOf false (.eth n)
    let tx := ringOf true (.eth n)
    let count := fun j => NET_ETH_STATS_count n j
    let one := fun j => (count j, Nat.min (s.f (count j) + 1) (2 ^ 32 - 1))
    let next := fun r : Ring => (s.f r.hw + 1) % 2 ^ (4 + s.f r.size) % 2 ^ 11
    (∀ (w : Fin 8) (u : RingUnit) (t : Bool) (v : BitVec 32), w.val = ringEng u → Next (.ringIndexWrite w u t v) s fun q => Regs s q [((ringOf t u).sw, v.toNat % 2 ^ 11)]) ∧
    (∀ (frame : List Byte) (bad ev : Bool),
      let i := Instr.ethFrameReceived n frame bad ev []
      let a := s.descAt rx (s.f rx.hw)
      let buf := s.rd a 8
      let on := s.lineUp = true ∧ en = true
      (¬on → Next i s fun t => t = s) ∧ (on → bad = true ∨ 1522 < frame.length → Next i s fun t => Regs s t [one 2]) ∧
      (on → bad = false → frame.length ≤ 1522 → s.ethPasses n frame = false → Next i s fun t => t = s) ∧
      (on → bad = false → frame.length ≤ 1522 → s.ethPasses n frame = true → s.ringUsed rx = 0 → Next i s fun t => Regs s t [one 3]) ∧
      (on → bad = false → frame.length ≤ 1522 → s.ethPasses n frame = true → s.ringUsed rx ≠ 0 → s.stamps n ev = false → InDram buf frame.length → InDram a 32 →
        (buf + frame.length ≤ a ∨ a + 32 ≤ buf) → Next i s fun t => t.rdBytes buf frame.length = frame ∧ t.rd (a + 8) 2 = frame.length ∧ t.rd (a + 10) 2 = 2 ∧ t.f rx.hw = next rx ∧
          t.f (count 0) = (one 0).2 ∧ t.fb (NET_ETH_EVENTS_rx n) = true ∧ Posted s t [ethEng n])) ∧
    (∀ ev : Bool,
      let late := n.val ∈ s.net.begun
      let a := s.descAt tx (s.f tx.hw)
      (s.lineUp = false ∨ en = false ∧ ¬late ∨ s.ringUsed tx = 0 → Next (.ethFrameSent n ev) s fun t => t = s) ∧
      (s.lineUp = true → en = true → ¬late → s.ringUsed tx ≠ 0 → s.stamps n ev = false → InDram a 32 → Next (.ethFrameSent n ev) s fun t => t.rd (a + 10) 2 = 2 ∧ t.f tx.hw = next tx ∧ t.f (count 1) = (one 1).2 ∧
        t.fb (NET_ETH_EVENTS_tx n) = true ∧ Posted s t [ethEng n])) ∧
    (∀ (link : Bool) (speed : Fin 3), Next (.ethLinkChange n link speed) s fun t => t.fb (NET_ETH_STATUS_link n) = link ∧ t.f (NET_ETH_STATUS_speed n) = speed ∧
      (s.fb (NET_ETH_STATUS_link n) ≠ link → t.fb (NET_ETH_EVENTS_link_change n) = true ∧ Posted s t [ethEng n]) ∧ (s.fb (NET_ETH_STATUS_link n) = link → Kept s t [NET_ETH_STATUS_link n, NET_ETH_STATUS_speed n])) ∧
    ∀ (w : Fin 8), w.val = ethEng n → (en = false → ∀ b, Next (.ethDisable w n b) s fun t => t = s) ∧
      (en = true → Next (.ethDisable w n false) s fun t => t.fb (NET_ETH_CTRL_en n) = false ∧ t.f tx.hw = s.f tx.sw % 2 ^ (4 + s.f tx.size) % 2 ^ 11 ∧
        (s.ringUsed tx ≠ 0 → t.f (count 4) = Nat.min (s.f (count 4) + s.ringUsed tx) (2 ^ 32 - 1) ∧ t.fb (NET_ETH_EVENTS_discarded n) = true))

/-- R375, R379, R47: UARTs. R373, R47: block transfers of BT0 and BT1 begin within their window, end with their blocks moved, fail or are abandoned. -/
def Sys2Proof.Claims.UartsAndTransfers : Prop :=
  (∀ (s : State) (u : Fin 4),
    let en := s.fb (NET_U_CTRL_en u)
    let rx := ringOf false (.uart u)
    let tx := ringOf true (.uart u)
    let next := fun r : Ring => (s.f r.hw + 1) % 2 ^ (4 + s.f r.size) % 2 ^ 11
    (∀ (frame : List Byte) (bad : Bool),
      let a := s.descAt rx (s.f rx.hw)
      let buf := s.rd a 8
      let on := s.clocked = true ∧ en = true
      (¬on → Next (.uartFrameEnd u frame bad []) s fun t => t = s) ∧
      (on → Next (.uartFrameEnd u frame true []) s fun t => t.fb (NET_U_STATUS_rx_busy u) = false ∧ t.fb (NET_U_EVENTS_rx_error u) = true ∧ Posted s t [6] ∧
        t.f (NET_U_STATS_errors u) = Nat.min (s.f (NET_U_STATS_errors u) + 1) (2 ^ (NET_U_STATS_errors u).w - 1)) ∧
      (on → s.ringUsed rx = 0 → Next (.uartFrameEnd u frame false []) s fun t => Regs s t [(NET_U_STATUS_rx_busy u, 0)]) ∧
      (on → s.ringUsed rx ≠ 0 → InDram buf frame.length → InDram a 32 → frame.length < 2 ^ 16 → (buf + frame.length ≤ a ∨ a + 32 ≤ buf) → Next (.uartFrameEnd u frame false []) s fun t =>
        t.rdBytes buf frame.length = frame ∧ t.rd (a + 8) 2 = frame.length ∧ t.rd (a + 10) 2 = 2 ∧ t.f rx.hw = next rx ∧ t.fb (NET_U_EVENTS_rx u) = true ∧ Posted s t [6] ∧
          t.f (NET_U_STATS_frames u) = (s.f (NET_U_STATS_frames u) + 1) % 2 ^ (NET_U_STATS_frames u).w)) ∧
    (let a := s.descAt tx (s.f tx.hw)
      let late := 8 + u.val ∈ s.net.begun
      (s.clocked = false ∨ en = false ∧ ¬late ∨ s.ringUsed tx = 0 → Next (.uartFrameSent u) s fun t => t = s) ∧
      (s.clocked = true → en = true → ¬late → s.ringUsed tx ≠ 0 → InDram a 32 → Next (.uartFrameSent u) s fun t => t.rd (a + 10) 2 = 2 ∧ t.f tx.hw = next tx ∧ t.fb (NET_U_EVENTS_tx u) = true ∧ Posted s t [6])) ∧
    (en = false → ∀ b, Next (.uartDisable 6 u b) s fun t => t = s) ∧
    (en = true → Next (.uartDisable 6 u false) s fun t => t.fb (NET_U_CTRL_en u) = false ∧ t.fb (NET_U_STATUS_tx_busy u) = false ∧ t.f tx.hw = s.f tx.sw % 2 ^ (4 + s.f tx.size) % 2 ^ 11 ∧
      (s.ringUsed tx ≠ 0 → t.fb (NET_U_EVENTS_discarded u) = true))) ∧
  ∀ (s : State) (w : Fin 8) (b : Fin 2), w.val = btEng b →
    let st := NET_BT_STATUS_state b
    let cnt := NET_BT_CTRL_count_m1 b
    let emmc := emmcKey (512 * (s.f (NET_BT_WIN_BASE_blocks b) + s.f (NET_BT_LBA_lba b)))
    let dram := s.f (NET_BT_DRAM_LO_addr b) + 2 ^ 32 * s.f (NET_BT_DRAM_HI_addr b)
    let len := 512 * (s.f cnt + 1)
    (∀ v : BitVec 32, v.toNat % 2 = 1 → v.toNat / 1024 % 2 = 0 → s.f st ≠ 1 →
      let set := [(NET_BT_CTRL_dir b, v.toNat / 2 % 2), (cnt, v.toNat / 4 % 256)]
      let ovr := s.f (NET_BT_WIN_SIZE_blocks b) < s.f (NET_BT_LBA_lba b) + v.toNat / 4 % 256 + 1
      (ovr → Next (.btGo w b v) s fun t => Regs s t (set ++ [(st, 3), (NET_BT_ERRORS_errors b, Nat.min (s.f (NET_BT_ERRORS_errors b) + 1) (2 ^ (NET_BT_ERRORS_errors b).w - 1))])) ∧
      (¬ovr → Next (.btGo w b v) s fun t => Regs s t (set ++ [(st, 1)]))) ∧
    (s.f st = 1 → Next (.btAbort w b) s fun t => t.f st = 3 ∧ Posted s t [7, btEng b] ∧ Kept s t (st :: ringFields)) ∧ (s.f st ≠ 1 → Next (.btAbort w b) s fun t => t = s) ∧
    (∀ good k, s.clocked = false ∨ s.f st ≠ 1 → Next (.btDone b good k) s fun t => t = s) ∧
    (s.clocked = true → s.f st = 1 → s.net.histBusy = false → s.sec.arch.busy = false → ∀ k,
      let retries := (NET_BT_ERRORS_retries b, Nat.min (s.f (NET_BT_ERRORS_retries b) + k) (2 ^ (NET_BT_ERRORS_retries b).w - 1))
      (Next (.btDone b false k) s fun t => Regs s t [retries, (st, 3), (NET_BT_ERRORS_errors b, Nat.min (s.f (NET_BT_ERRORS_errors b) + 1) (2 ^ (NET_BT_ERRORS_errors b).w - 1))]) ∧
      (InDram dram len → Next (.btDone b true k) s fun t => t.f st = 2 ∧ t.f retries.1 = retries.2 ∧
        (if s.fb (NET_BT_CTRL_dir b) then t.rdBytes emmc len = s.rdBytes dram len else t.rdBytes dram len = s.rdBytes emmc len) ∧
        ∀ a, a < (if s.fb (NET_BT_CTRL_dir b) then emmc else dram) ∨ (if s.fb (NET_BT_CTRL_dir b) then emmc else dram) + len ≤ a → t.rdB a = s.rdB a))

/-- R47, R373 to R375, R379: Ethernet, UARTs and block transfers. -/
def Obligations.Network : Prop := EthernetRings ∧ UartsAndTransfers

/-! ## CAN and the power line -/

/-- R382 to R391, R47: CAN controllers: enable, disable, commit, discard, which in bus-off comes with T6's declaration, recovery, what is sent, and the errors. -/
def Sys2Proof.Claims.CanTransmission : Prop :=
  ∀ (s : State) (n : Fin 8),
    let en := s.fb (CAN_CTRL_en n)
    let st := s.f (CAN_STATUS_state n)
    let used := (s.f (CAN_TX_IDX_sw n) + 64 - s.f (CAN_TX_IDX_hw n)) % 64
    let head := s.txEntry n (s.f (CAN_TX_IDX_hw n))
    let sends := s.lineUp = true ∧ en = true ∧ s.fb (CAN_CTRL_listen n) = false ∧ st < 2
    let sat := fun (x : Fld) (k : Nat) => Nat.min (s.f x + k) (2 ^ x.w - 1)
    let calm := [(CAN_STATUS_state n, 0), (CAN_ERRCNT_tec n, 0), (CAN_ERRCNT_rec n, 0)]
    let recovered := s.lineUp = true ∧ st = 3 ∧ (s.can n).recAt + 1408 * s.nominalBit n ≤ s.now
    (∀ v : BitVec 32, en = false → used = 0 → v.toNat / 4 % 4 = 0 →
      let set := [(CAN_CTRL_fd_en n, v.toNat / 2 % 2), (CAN_CTRL_listen n, v.toNat / 16 % 2), (CAN_CTRL_loopback n, v.toNat / 32 % 2)]
      let ok := 400 ≤ s.nominalBit n ∧ (v.toNat / 2 % 2 = 0 ∨ (50 ≤ s.dataBit n ∧ (s.fb (CAN_TDC_en n) = true ∨ 400 ≤ s.dataBit n)))
      (ok → Next (.canEnable 6 n v) s fun t => Regs s t (set ++ [(CAN_CTRL_en n, 1)])) ∧
      (¬ok → Next (.canEnable 6 n v) s fun t => t.fb (CAN_CTRL_en n) = false ∧ t.fb (CAN_EVENTS_cfg_err n) = true ∧ Posted s t [6, 7])) ∧
    (en = false → Next (.canDisable 6 n) s fun t => t = s) ∧
    (en = true → (s.can n).queued = [] → Next (.canDisable 6 n) s fun t => t.fb (CAN_CTRL_en n) = false ∧ (∀ p ∈ calm, t.f p.1 = p.2) ∧ t.f (CAN_TX_IDX_hw n) = s.f (CAN_TX_IDX_sw n) % 2 ^ 6 ∧
      t.f (CAN_DISC_STAT_entries n) = sat (CAN_DISC_STAT_entries n) used) ∧
    (∀ sw : BitVec 6, let ovr := 32 < (sw.toNat + 64 - s.f (CAN_TX_IDX_hw n)) % 64
      (ovr → Next (.canTxCommit 6 n sw) s fun t => t.fb (CAN_EVENTS_tx_idx_err n) = true ∧ Posted s t [6, 7] ∧ Kept s t (CAN_EVENTS_tx_idx_err n :: ringFields)) ∧
      (¬ovr → en = false ∨ s.entryOk n head = true → Next (.canTxCommit 6 n sw) s fun t => Regs s t [(CAN_TX_IDX_sw n, sw.toNat)])) ∧
    (st = 2 → (∀ x ∈ s.trips, ¬(x.eng = 6 ∧ x.cls = 2 ∧ x.scope = unitScope 1 n)) → ∀ begun, Next (.canDiscard 6 n begun) s fun t => ∃ x ∈ t.trips, x.eng = 6 ∧ x.cls = 2 ∧ x.scope = unitScope 1 n) ∧
    (st ≠ 2 ∨ (∃ x ∈ s.trips, x.eng = 6 ∧ x.cls = 2 ∧ x.scope = unitScope 1 n) → (s.can n).queued = [] → Next (.canDiscard 6 n false) s fun t => t.f (CAN_TX_IDX_hw n) = s.f (CAN_TX_IDX_sw n) % 2 ^ 6 ∧ t.f (CAN_DISC_STAT_entries n) = sat (CAN_DISC_STAT_entries n) used ∧
      t.f (CAN_DISC_STAT_discards n) = sat (CAN_DISC_STAT_discards n) 1 ∧ t.fb (CAN_EVENTS_discarded n) = true ∧ t.fb (CAN_CTRL_en n) = en) ∧
    (st = 2 → Next (.canRecover 6 n) s fun t => Regs s t [(CAN_STATUS_state n, 3)] ∧ (t.can n).recAt = s.now) ∧ (st ≠ 2 → Next (.canRecover 6 n) s fun t => t = s) ∧
    (¬recovered → Next (.canRecoveryComplete n) s fun t => t = s) ∧
    (recovered → Next (.canRecoveryComplete n) s fun t => (∀ p ∈ calm, t.f p.1 = p.2) ∧ t.fb (CAN_EVENTS_recovered n) = true ∧ t.f (CAN_BUSOFF_STAT_recoveries n) = sat (CAN_BUSOFF_STAT_recoveries n) 1 ∧
      ∀ x ∈ t.trips, ¬(x.eng = 6 ∧ x.cls = 2 ∧ x.scope = unitScope 1 n)) ∧
    (¬sends ∨ used = 0 → Next (.canTxDone n) s (fun t => t = s) ∧ ∀ e r, Next (.canAttemptFail n e r) s fun t => t = s) ∧
    (sends → used = 1 → (s.can n).oneShot = none → (s.can n).queued = [] → InDram head 16 → s.f (CAN_TX_IDX_sw n) < 64 → s.f (CAN_TX_IDX_hw n) < 64 → Next (.canTxDone n) s fun t =>
      t.rd (head + 7) 1 = 1 ∧ t.rd (head + 8) 8 = s.dtNs % 2 ^ 64 ∧ t.f (CAN_TX_IDX_hw n) = s.f (CAN_TX_IDX_sw n) ∧ t.fb (CAN_EVENTS_tx_done n) = true ∧
        t.f (CAN_TX_STAT_sent n) = (s.f (CAN_TX_STAT_sent n) + 1) % 2 ^ (CAN_TX_STAT_sent n).w) ∧
    (sends → used ≠ 0 → (s.can n).oneShot = none → Next (.canAttemptFail n none false) s (fun t => Regs s t [(CAN_TX_STAT_retries n, sat (CAN_TX_STAT_retries n) 1)]) ∧
      ∀ (c : Fin 7) (d : Bool), Next (.canAttemptFail n (some (c, d)) false) s fun t => Regs s t [(CAN_ERRCODE_code n, c.val), (CAN_ERRCODE_data_phase n, if d then 1 else 0),
        (CAN_ERRCODE_count n, sat (CAN_ERRCODE_count n) 1), (CAN_TX_STAT_retries n, sat (CAN_TX_STAT_retries n) 1)]) ∧
    (∀ (c : Fin 7) (d : Bool) (r : Fin 9), (¬(s.lineUp = true ∧ en = true ∧ st < 2) → Next (.canRxError n c d r) s fun t => t = s) ∧
      (s.lineUp = true → en = true → st < 2 → Next (.canRxError n c d r) s fun t => t.f (CAN_ERRCODE_code n) = c ∧ t.fb (CAN_ERRCODE_data_phase n) = d ∧ t.f (CAN_ERRCNT_rec n) = Nat.min 255 (s.f (CAN_ERRCNT_rec n) + r) ∧
        t.f (CAN_ERRCNT_tec n) = Nat.min 256 (s.f (CAN_ERRCNT_tec n)) ∧
        (s.f (CAN_ERRCNT_tec n) < 128 → s.f (CAN_ERRCNT_rec n) + r < 128 → t.f (CAN_STATUS_state n) = 0) ∧ (s.f (CAN_ERRCNT_tec n) < 256 → st = 0 → 128 ≤ s.f (CAN_ERRCNT_rec n) + r → t.f (CAN_STATUS_state n) = 1)))

/-- R384, R390: a received frame is stored in the next entry with its identifier, data and DT, or dropped and counted where software owns every entry. The power line, R397 to R402: bursts sent, received, and what a disable discards. -/
def Sys2Proof.Claims.CanReceptionAndPlc : Prop :=
  (∀ (s : State) (n : Fin 8) (f : CanFrame),
    let en := s.fb (CAN_CTRL_en n)
    let i := Instr.canFrameReceived n f
    let h := s.f (CAN_RX_IDX_hw n)
    let full := 256 ≤ (h + 512 - s.f (CAN_RX_IDX_sw n)) % 512
    let a := s.rxBase n + 128 * (h % 256)
    let taken := s.lineUp = true ∧ en = true ∧ s.f (CAN_STATUS_state n) < 2 ∧ (f.own = true → s.fb (CAN_CTRL_loopback n) = true) ∧ (f.flags.toNat % 2 = 1 → s.fb (CAN_CTRL_fd_en n) = true)
    (¬taken → Next i s fun t => t = s) ∧
    (taken → full → Next i s fun t => t.f (CAN_RX_STAT_overflow n) = Nat.min (s.f (CAN_RX_STAT_overflow n) + 1) (2 ^ (CAN_RX_STAT_overflow n).w - 1) ∧ t.fb (CAN_EVENTS_rx_overflow n) = true ∧
      t.f (CAN_RX_IDX_hw n) = h) ∧
    (taken → ¬full → f.data.length ≤ 64 → InDram a 128 → (∀ c ∈ s.maq.canCmds, c.ctrl ≠ n) → s.ptList = [] → a + 128 ≤ ptAddr 0 ∨ 0x142000000 ≤ a → Next i s fun t => t.rd a 4 = f.id.toNat ∧
      t.rd (a + 8) 8 = s.dtNs % 2 ^ 64 ∧ t.rdBytes (a + 0x20) f.data.length = f.data ∧ t.f (CAN_RX_IDX_hw n) = (h + 1) % 2 ^ 9 ∧ t.fb (CAN_EVENTS_rx n) = true ∧
        t.f (CAN_RX_STAT_frames n) = (s.f (CAN_RX_STAT_frames n) + 1) % 2 ^ (CAN_RX_STAT_frames n).w)) ∧
  ∀ s : State,
    let en := s.fb PLC_CTRL_en
    let used := s.ringUsed (ringOf true .plc)
    let a := s.descAt (ringOf true .plc) (s.f PLC_TX_IDX_hw)
    let next := (s.f PLC_TX_IDX_hw + 1) % 2 ^ (4 + s.f PLC_TX_RING_size) % 2 ^ 11
    let sat := fun (x : Fld) (k : Nat) => Nat.min (s.f x + k) (2 ^ x.w - 1)
    let on := s.lineUp = true ∧ en = true
    let late := 400000 * s.f PLC_CFG_dl_max < (s.now - s.epoch) % (400000 * s.f PLC_CFG_cycle)
    (¬on → (∀ p v, Next (.plcCycleStart p v) s fun t => t = s) ∧ (∀ b, Next (.plcBurstSent b) s fun t => t = s) ∧ ∀ b x y, Next (.plcBurstReceived b x y) s fun t => t = s) ∧
    (en = false → Next (.plcDisable 6) s fun t => t = s) ∧ ((s.now - s.epoch) % (400000 * s.f PLC_CFG_cycle) ≠ 0 → ∀ p v, Next (.plcCycleStart p v) s fun t => t = s) ∧
    (on → (s.now - s.epoch) % (400000 * s.f PLC_CFG_cycle) = 0 → ∀ (p : Option PlcPlan) (v : BitVec 16), Next (.plcCycleStart p v) s fun t => t.f PLC_NOISE_floor = v.toNat ∧ t.fb PLC_EVENTS_cycle = true ∧
      t.period 9 0 = (s.period 9 0 + 1) % 2 ^ 32 ∧ ∀ x, p = some x → ∃ b, t.plc.burst = some b ∧ b.peer = x.peer.toNat ∧ (t.link b.peer).acks = []) ∧
    (used = 0 → ∀ b, Next (.plcBurstSent b) s fun t => t = s) ∧
    (on → ¬late → used ≠ 0 → InDram a 32 → Next (.plcBurstSent true) s fun t => t.rd (a + 10) 2 = 2 ∧ t.f PLC_TX_IDX_hw = next ∧ t.fb PLC_EVENTS_tx = true ∧ Posted s t [6]) ∧
    (on → used ≠ 0 → InDram a 32 → ∀ b, (b = false ∨ late) → Next (.plcBurstSent b) s fun t => t.rd (a + 10) 2 = 8 ∧ t.f PLC_TX_IDX_hw = next ∧ t.fb PLC_EVENTS_discarded = true ∧
      t.f PLC_STATS_discarded = sat PLC_STATS_discarded 1 ∧ t.f PLC_TX_ERR_refused = sat PLC_TX_ERR_refused 1) ∧
    (on → ∀ (b : List Byte) (x y : Nat), leNat ((b.drop 7).take 1) ≠ 0 → Next (.plcBurstReceived b x y) s fun t => t.f PLC_STATS_bursts = (s.f PLC_STATS_bursts + 1) % 2 ^ (PLC_STATS_bursts).w ∧
      t.f PLC_STATS_bad = sat PLC_STATS_bad 1 ∧ t.fb PLC_EVENTS_rx_bad = true ∧ t.f PLC_RX_ERR_rs_fixed = sat PLC_RX_ERR_rs_fixed x ∧ t.plc = s.plc) ∧
    (on → ∀ (k lsn x y : Nat), k < 256 → lsn < 2 ^ 16 → s.ringUsed (ringOf false .plc) ≠ 0 → s.link k = PlcLink.reset → Next (.plcBurstReceived (bytesOf k 2 ++ bytesOf 0 14 ++ bytesOf lsn 2 ++ bytesOf 1 1 ++ bytesOf 0 5) x y) s
      fun t => t.fb PLC_EVENTS_rx = true ∧ (t.link k).seen = [lsn] ∧ (t.link k).acks = [lsn]) ∧
    (en = true → Next (.plcDisable 6) s fun t => t.fb PLC_CTRL_en = false ∧ t.plc.burst = none ∧ ∀ x ∈ t.plc.links, x.2.segs = [])

/-- R47, R382 to R402: CAN and the power line. -/
def Obligations.FieldBuses : Prop := CanTransmission ∧ CanReceptionAndPlc


/-! ## Security -/

/-- A request for T7 reaches it: the clocks and T7 run; the adapter has given the request the session's originator, the queue stores it, its scope is the device, and a BLANK device, or one whose boot has failed, accepts it. -/
def Sys2Proof.Claims.Asked (s : State) (x : Sender) (q : QId) (r0 r : Req) (u : State) : Prop :=
  s.t7Serves = true ∧ r = (if x = .service then s.portOrig r0 else r0) ∧ r.scope = deviceScope ∧
    (u.lifecycle = 0 → blankOpcode r.opcode = true) ∧ u.failOpcode r.opcode = true ∧ Served (if x = .service then s.setSec fun a => { a with lastReq := s.now } else s) x q r u

/-- No session, no level, no nonce. -/
def Sys2Proof.Claims.NoSession (t : State) : Prop :=
  t.fb SEC_SVC_STAT_open = false ∧ t.f SEC_SVC_STAT_authorised = 0 ∧ t.f SEC_DBG_STAT_granted = 0 ∧ t.sec.nonceAt = none ∧ ∀ j < 8, t.f (SEC_CHAL_nonce j) = 0

/-- R408, R416 to R418, R420, R421, R433: service sessions open with the next number, close, and end with their authorisation, level and nonce; CHALLENGE returns words of the nonce, 60 s old at most; a debug level is granted within the mode's and
the authorised one; the idle expiry of a session leaves the mode, its other ends leave SERVICE. -/
def Obligations.ServiceSessions : Prop :=
  (∀ (s u : State) (x : Sender) (r0 r : Req), Asked s x svcQ r0 r u →
    let opn := u.fb SEC_SVC_STAT_open
    let n := u.sec.sessions % 255
    let k := r.payload.toNat % 4
    let l := r.payload.toNat % 4
    let level := if u.devMode = 5 then 3 else 1
    let auth := u.f SEC_SVC_STAT_authorised
    let word := fun w : State => BitVec.ofNat 64 (w.f (SEC_CHAL_nonce (2 * k)) + w.f (SEC_CHAL_nonce (2 * k + 1)) * 2 ^ 32)
    (opn = true → Next (.svcOpen x r0) s fun t => t = u.complete svcQ r 2 0x44 0) ∧
    (opn = false → Next (.svcOpen x r0) s fun t => t.fb SEC_SVC_STAT_open = true ∧ t.f SEC_SVC_STAT_session = n ∧ t.f SEC_SVC_STAT_authorised = 0 ∧ t.sec.sessions = u.sec.sessions + 1 ∧
      ∃ v, t = State.complete v svcQ r 1 0 (BitVec.ofNat 64 (0xF000 + n))) ∧
    (opn = true → Next (.svcClose x r0) s fun t => t.fb SEC_SVC_STAT_open = false ∧ (u.devMode ≠ 5 → NoSession t ∧ t.devMode = u.devMode) ∧ (u.devMode = 5 → u.mode.svcHalt = false → NoSession t ∧ (t.devMode = 2 ∨ t.devMode = 4))) ∧
    (opn = false → Next (.challenge x r0) s fun t => t = u.complete svcQ r 2 0x43 0) ∧
    (opn = true → r.payload.toNat / 4 % 2 = 0 → Next (.challenge x r0) s fun t => t = u.complete svcQ r 1 0 (word u)) ∧
    (opn = true → r.payload.toNat / 4 % 2 = 1 → Next (.challenge x r0) s fun t => ∃ w : State, w.sec.nonceAt = some u.now ∧ w.outbox = u.outbox ∧ w.mem = u.mem ∧ t = w.complete svcQ r 1 0 (word w)) ∧
    (level < l → Next (.debugLevel x r0) s fun t => ∃ v, t = State.complete v svcQ r 2 0x40 0) ∧
    (l ≤ level → u.lifecycle ≠ 0 → auth = 0 ∨ opn = false → Next (.debugLevel x r0) s fun t => t = u.complete svcQ r 2 0x43 0) ∧
    (l ≤ level → u.lifecycle ≠ 0 → auth ≠ 0 → opn = true → auth < l → Next (.debugLevel x r0) s fun t => ∃ v, t = State.complete v svcQ r 2 0x41 0) ∧
    (l ≤ level → u.lifecycle ≠ 0 → auth ≠ 0 → opn = true → l ≤ auth → Next (.debugLevel x r0) s fun t => t.f SEC_DBG_STAT_granted = l ∧ t.f SEC_DBG_CTRL_grant = l ∧
      ∃ v, t = State.complete v svcQ r 1 0 (BitVec.ofNat 64 l))) ∧
  ∀ s : State,
    let opn := s.fb SEC_SVC_STAT_open
    (opn = false → s.devMode ≠ 5 → Next .trst s fun t => t = s) ∧
    (opn = true → s.devMode ≠ 5 → Next .trst s fun t => NoSession t ∧ t.devMode = s.devMode) ∧
    (opn = true → s.devMode = 5 → s.t7Serves = true → s.mode.svcHalt = false → Next .trst s fun t => NoSession t ∧ (t.devMode = 2 ∨ t.devMode = 4)) ∧
    (opn = true ∧ s.sec.lastReq + 240000000000 ≤ s.now → Next .sessionIdleTimeout s fun t => NoSession t ∧ t.devMode = s.devMode) ∧
    (opn = false ∨ s.now < s.sec.lastReq + 240000000000 → Next .sessionIdleTimeout s fun t => t = s) ∧
    (s.sec.nonceAt = none → Next .nonceExpiry s fun t => t = s) ∧
    (∀ t0, s.sec.nonceAt = some t0 → (s.now < t0 + 24000000000 → Next .nonceExpiry s fun t => t = s) ∧
      (t0 + 24000000000 ≤ s.now → Next .nonceExpiry s fun t => t.sec.nonceAt = none ∧ (∀ j < 8, t.f (SEC_CHAL_nonce j) = 0) ∧ Kept s t ((List.range 8).map fun j => SEC_CHAL_nonce j) ∧ t.mem = s.mem ∧ t.engs = s.engs)) ∧
    Next (.dbgRevoke 7) s (fun t => Regs s t [(SEC_DBG_STAT_granted, 0)]) ∧
    ∀ v : BitVec 2,
      let g := Nat.min v.toNat (if s.devMode = 5 then 3 else 1)
      s.lifecycle ≠ 0 → Next (.dbgGrant 7 v) s fun t => Regs s t [(SEC_DBG_CTRL_grant, g), (SEC_DBG_STAT_granted, Nat.min g (s.f SEC_SVC_STAT_authorised))]

/-- R404 to R412, R418: AUTHORISE takes one nonce; three failures in a row lock out for 600 s; a passed one authorises a level or begins a lifecycle transition, which its latch lets be programmed within 10 ms; PROVISION programs a BLANK device;
programming blows the fuses; the main rollback counter never falls. -/
def Obligations.Authorisation : Prop :=
  (∀ (s u : State) (x : Sender) (r0 r : Req), Asked s x svcQ r0 r u →
    let i := Instr.authorise x r0
    let locked := u.fb SEC_AUTH_STAT_lockout
    let opn := u.fb SEC_SVC_STAT_open
    let b := u.staged r
    let op := leNat (b.take 1)
    let arg := leNat ((b.drop 1).take 1)
    let held := ∃ t0, u.sec.nonceAt = some t0 ∧ u.now < t0 + 24000000000
    let fails := Nat.min (u.f SEC_AUTH_STAT_fails + 1) 15
    let spent := fun t : State => t.sec.nonceAt = none ∧ ∀ j < 8, t.f (SEC_CHAL_nonce j) = 0
    let failed := fun (d : Nat) (t : State) => spent t ∧ t.f SEC_AUTH_STAT_fails = fails ∧ (3 ≤ fails → t.fb SEC_AUTH_STAT_lockout = true ∧ t.vault.lockTill = u.now + 240000000000) ∧
      ∃ v, t = State.complete v svcQ r 2 d 0
    let passed := fun t : State => spent t ∧ t.f SEC_AUTH_STAT_fails = 0
    (locked = true → Next i s fun t => t = u.complete svcQ r 2 0x46 0) ∧ (locked = false → opn = false → Next i s fun t => t = u.complete svcQ r 2 0x43 0) ∧
    (locked = false → opn = true → inStaging r 132 = true →
      (¬held → Next i s (failed 0x48)) ∧ (held → u.authOk b = false → Next i s (failed 0x47)) ∧
      (held → u.authOk b = true → op = 1 → Next i s fun t => passed t ∧ t.f SEC_SVC_STAT_authorised = arg % 4 ∧ t.sec.latch = some (1, arg, u.now) ∧ t.fb SEC_AUTH_STAT_latch = true ∧
        ∃ v, t = State.complete v svcQ r 1 0 (BitVec.ofNat 64 arg)) ∧
      (held → u.authOk b = true → op ≠ 1 → (∀ d, u.transitionRefusal op arg = some d → Next i s fun t => passed t ∧ ∃ v, t = State.complete v svcQ r 2 d 0) ∧
        (u.transitionRefusal op arg = none → u.bill.started = false → u.devMode ≠ 1 → Next i s fun t => passed t ∧ t.sec.waiting = some (r, op) ∧ t.sec.flushAt = some u.now ∧
          t.sec.latch = some (op, arg, u.now) ∧ t.vault = u.vault))) ∧
    (u.lifecycle = 0 → u.f SEC_BOOT_STAT_stage = 6 → u.fb PWR_STATUS_hold_ready = true → u.fb PWR_STATUS_pfw = false → u.pwr.cause = 0 → u.sec.prog = none → u.f SEC_LC_CTRL_status ≠ 1 → inStaging r 192 = true →
      Next (.provision x r0) s fun t => t.sec.prog = some (1, 0) ∧ t.f SEC_LC_CTRL_status = 1 ∧ t.sec.hashes = b ∧ t.sec.waiting = some (r, 1) ∧ (t.queue svcQ).serving = (u.queue svcQ).serving ++ [⟨r, []⟩]) ∧
    (u.lifecycle ≠ 0 ∨ u.f SEC_BOOT_STAT_stage ≠ 6 → Next (.provision x r0) s fun t => t = u.complete svcQ r 2 0x44 0)) ∧
  ∀ s : State,
    (∀ (p : BitVec 3) (k : BitVec 2),
      let op := p.toNat
      let open' := s.f SEC_LC_CTRL_status ≠ 1 ∧ 1 ≤ op ∧ op ≤ 5
      let may := op = 1 ∧ s.lifecycle = 0 ∨ op ≠ 1 ∧ ∃ a t0, s.sec.latch = some (op, a, t0) ∧ (op = 5 → a = k.toNat)
      let set := [(SEC_LC_CTRL_prog, op), (SEC_LC_CTRL_key, k.toNat)]
      (¬open' → Next (.fuseProgram 7 p k) s fun t => t = s) ∧
      (open' → may → Next (.fuseProgram 7 p k) s fun t => Regs s t (set ++ [(SEC_LC_CTRL_status, 1), (SEC_AUTH_STAT_latch, 0)]) ∧ t.sec.prog = some (op, k.toNat) ∧ t.sec.latch = none ∧ t.vault = s.vault) ∧
      (open' → ¬may → Next (.fuseProgram 7 p k) s fun t => Regs s t (set ++ [(SEC_LC_CTRL_status, 3)]) ∧ t.sec = s.sec ∧ t.vault = s.vault)) ∧
    (s.sec.prog = none → Next .fuseProgramDone s fun t => t = s) ∧
    (∀ op key, s.sec.prog = some (op, key) → Next .fuseProgramDone s fun t => t.f SEC_LC_CTRL_status = 2 ∧ t.sec.prog = none ∧ t.sec.resetDue = true ∧ t.sec.waiting = none ∧ t.vault.lockTill = s.vault.lockTill ∧
      (t.vault.seals = s.vault.seals + (if op = 2 then 1 else 0) ∧ t.vault.unseals = s.vault.unseals + (if op = 3 then 1 else 0) ∧ t.vault.provisioned = (s.vault.provisioned || op == 1) ∧
        t.vault.retired = (s.vault.retired || op == 4) ∧ t.vault.revoked = (if op = 5 then s.vault.revoked ||| 2 ^ key else s.vault.revoked) ∧ t.vault.mainCount = s.vault.mainCount ∧
        t.vault.plinthCount = (if op = 2 then Nat.max s.vault.plinthCount (Nat.min 255 (s.rd 0x63000010 4)) else s.vault.plinthCount) ∧
        t.vault.meterKeys = (if op = 4 then [] else s.vault.meterKeys) ∧ ∀ k, SMap.get [] t.vault.hashes k = if op = 1 ∧ k < 6 then (s.sec.hashes.drop (32 * k)).take 32 else SMap.get [] s.vault.hashes k)) ∧
    (∀ v, v = Nat.min 255 (s.rd ((if s.fb SEC_BOOT_STAT_image then 0x61800000 else 0x60000000) + 0x10) 4) →
      (v ≤ s.vault.mainCount → Next (.rollbackRaise 7) s fun t => t = s) ∧
      (s.vault.mainCount < v → Next (.rollbackRaise 7) s fun t => t.vault = { s.vault with mainCount := v } ∧ t.f SEC_ROLLBACK_main = v ∧ Posted s t [7] ∧ Kept s t (SEC_ROLLBACK_main :: ringFields))) ∧
    (s.sec.latch = none → Next .authLatchExpiry s fun t => t = s) ∧
    (∀ op a t0, s.sec.latch = some (op, a, t0) → (s.now < t0 + 4000000 → Next .authLatchExpiry s fun t => t = s) ∧
      (t0 + 4000000 ≤ s.now → Next .authLatchExpiry s fun t => t.fb SEC_AUTH_STAT_latch = false ∧ t.sec.latch = none ∧ t.vault = s.vault ∧ (s.sec.prog = none → t.sec.waiting = none))) ∧
    (s.fb SEC_AUTH_STAT_lockout = true ∧ s.vault.lockTill ≤ s.now → Next .lockoutEnd s fun t => Regs s t [(SEC_AUTH_STAT_lockout, 0)] ∧ t.vault = { s.vault with lockTill := 0 }) ∧
    (s.fb SEC_AUTH_STAT_lockout = false ∨ s.now < s.vault.lockTill → Next .lockoutEnd s fun t => t = s)

/-- R142, R152, R413, R414, R418, R432: SERVICE is entered from IDLE and left again; images and plinth images are written from the staging buffer, and stand when they verify; SEC_READ and KEY_READ. -/
def Obligations.ServiceRequests : Prop :=
  (∀ (s u : State) (x : Sender) (r0 r : Req), Asked s x svcQ r0 r u →
    let entitled := u.f SEC_SVC_STAT_authorised ≠ 0 ∧ u.fb SEC_SVC_STAT_open = true
    let sound := u.fb PWR_STATUS_pfw = false ∧ u.pwr.cause = 0
    let p := r.payload.toNat
    let no := fun (d : Nat) (t : State) => t = u.complete svcQ r 2 d 0
    let n := 16 * (p / 2 ^ 40 % 256 + 1)
    let at_ := p % 2 ^ 32
    let st := stagingKey (p / 2 ^ 48 % 2 ^ 16)
    let fits := fun room => at_ + n ≤ room ∧ p / 2 ^ 48 % 2 ^ 16 + n ≤ 4096
    let put := fun (base : Nat) (t : State) => t.rdBytes (base + at_) n = u.rdBytes st n ∧ ∀ a, a < 2 ^ 36 → a < base + at_ ∨ base + at_ + n ≤ a → t.rdB a = u.rdB a
    let image := fun (i : Instr) (base room : Nat) =>
      (u.imageRefusal = none → fits room → Next i s (put base)) ∧ ∀ d, u.imageRefusal = some d → Next i s (no d)
    (¬entitled → Next (.serviceMode x r0) s (no 0x43)) ∧ (entitled → ¬sound → Next (.serviceMode x r0) s (no 0x44)) ∧
    (entitled → sound → p % 2 = 1 → u.devMode = 2 → u.syncCauses.anyCause = false → u.phuAny = false → (∀ c < 8, (u.ses c).step = 0) → Next (.serviceMode x r0) s fun t => t.devMode = 5) ∧
    (entitled → sound → p % 2 = 1 → u.devMode ≠ 2 → Next (.serviceMode x r0) s (no 0x44)) ∧
    (entitled → sound → p % 2 = 0 → u.devMode = 5 → u.mode.svcHalt = false → Next (.serviceMode x r0) s fun t => t.devMode = 2 ∨ t.devMode = 4) ∧
    (entitled → sound → p % 2 = 0 → u.devMode ≠ 5 → Next (.serviceMode x r0) s (no 0x44)) ∧
    (u.devMode = 5 → sound → u.f SEC_DBG_STAT_granted ≠ 0 → u.imageRefusal = none) ∧ (u.devMode = 5 → sound → u.f SEC_DBG_STAT_granted = 0 → u.imageRefusal = some 0x43) ∧ (¬sound → u.imageRefusal = some 0x44) ∧
    (u.devMode ≠ 5 → u.devMode ≠ 1 → u.imageRefusal = some 0x44) ∧ (u.devMode = 1 → sound → u.f SEC_BOOT_STAT_fail = 3 ∨ u.f SEC_BOOT_STAT_fail = 4 → u.imageRefusal = none) ∧
    image (.imageWrite x r0) (if p / 2 ^ 32 % 2 = 1 then 0x61800000 else 0x60000000) 0x1800000 ∧
    (u.lifecycle ≠ 1 → Next (.plinthWrite x r0) s (no 0x44)) ∧ (u.lifecycle = 1 → at_ ≠ 0xFFFFFFFF → image (.plinthWrite x r0) 0x63000000 0x1000000) ∧
    (u.lifecycle = 1 → at_ = 0xFFFFFFFF → u.imageRefusal = none →
      let (ok, w) := u.verifyImage 0x63000000 2
      Next (.plinthWrite x r0) s fun t => t = if ok then w.complete svcQ r 1 0 0 else w.complete svcQ r 2 0x4A 0) ∧
    (u.imageRefusal = none →
      let b := p % 2 == 1
      let (ok, w) := u.verifyImage (if b then 0x61800000 else 0x60000000) 1
      Next (.imageCommit x r0) s fun t => if ok then t.vault.preferB = b ∧ ∃ v, t = State.complete v svcQ r 1 0 0 else t = w.complete svcQ r 2 0x4A 0) ∧
    (secReadable (p % 4096) = true → Next (.secRead x r0) s fun t => t = u.complete svcQ r 1 0 (BitVec.ofNat 64 (u.regValue rowsSEC (SEC_MODE + p % 4096))))) ∧
  ∀ (s u : State) (x : Sender) (r0 r : Req), Asked s x (keyQ x) r0 r u →
    let q := keyQ x
    let k := r.payload.toNat % 8
    let key := if k = 7 then SMap.get [] u.vault.meterKeys (u.f SEC_EPOCH_epoch) else SMap.get [] u.maq.pubKeys k
    (q = .queue 7 1 → r.origId ≠ 1 → Next (.keyRead x r0) s fun t => t = u.complete q r 2 0x44 0) ∧
    (q = .queue 7 3 ∨ r.origId = 1 →
      ((k = 7 ∧ key = [] ∨ k ≠ 7 ∧ SMap.get [] u.vault.hashes k = []) → Next (.keyRead x r0) s fun t => t = u.complete q r 2 0x4B 0) ∧
      (key ≠ [] → k = 7 ∨ SMap.get [] u.vault.hashes k ≠ [] → Next (.keyRead x r0) s fun t =>
        t = u.complete q r 1 0 (BitVec.ofNat 64 (leNat ((key.drop (8 * (r.payload.toNat / 8 % 8))).take 8)))))

/-- R423 to R427, R431: the freeze takes SERVICE, level D3 and sound power; it begins with the state 1, parked lanes and released coils, records DT and halts every engine once T4 has paused or 5 ms have passed, stops the dividers on their common edge, every 200 ns, and ends with a
reset of code 5. The archive seals its open block. -/
def Obligations.Freezing : Prop :=
  ∀ s : State,
    let st := s.f SEC_FREEZE_STAT_state
    let may := fun u : State => u.devMode = 5 ∧ u.f SEC_DBG_STAT_granted = 3 ∧ u.fb PWR_STATUS_pfw = false ∧ u.pwr.cause = 0 ∧ u.sec.prog = none ∧ u.f SEC_FREEZE_STAT_state = 0
    let begun := fun (u t : State) => t.f SEC_FREEZE_STAT_state = 1 ∧ t.f SEC_FREEZE_STAT_freezes = Nat.min (u.f SEC_FREEZE_STAT_freezes + 1) 65535 ∧ t.sec.goAt = u.now ∧
      (∀ k, t.coilWanted k = false) ∧ t.fb LSW_HOLD_STAT_hold = true ∧
      ∀ n < 32, u.f (LANE_STATUS_state n) = 1 ∨ u.f (LANE_STATUS_state n) = 2 → t.f (LANE_STATUS_state n) = 3 ∧ t.f (LANE_STATUS_park_cause n) = 6
    let entering := st = 1 ∧ s.sec.step4At = none
    let asleep := fun t : State => t.f SEC_FREEZE_DT_LO_dt = s.dtNs % 2 ^ 32 ∧ t.f SEC_FREEZE_DT_HI_dt = s.dtNs / 2 ^ 32 % 2 ^ 32 ∧ t.pwr.dramAsleep = true ∧ t.sec.freezeReq = none ∧
      t.sec.step4At = some s.now ∧ ∀ e < 8, t.fb (ENG_STATUS_halted e) = true
    let ends := fun t : State => t.f SEC_BOOT_STAT_stage = 3 ∧ t.f SEC_RESET_CAUSE_kind = 5 ∧ t.f SEC_FREEZE_STAT_state = 0
    let resets := s.fb PWR_STATUS_pfw = false ∧ s.pwr.cause = 0 ∧ s.mode.keep = false
    (∀ (u : State) (x : Sender) (r0 r : Req), Asked s x svcQ r0 r u → (may u → Next (.freeze x r0) s (begun u)) ∧ (¬may u → Next (.freeze x r0) s fun t => t = u.complete svcQ r 2 0x44 0)) ∧
    (may s → Next (.freezeGo 7) s (begun s)) ∧ (¬may s → Next (.freezeGo 7) s fun t => t = s) ∧
    (entering → Next (.pauseOk 4) s asleep) ∧ (¬entering → Next (.pauseOk 4) s fun t => t = s) ∧ Next (.pauseOk 7) s (fun t => t = s) ∧
    (entering ∧ s.sec.goAt + 2000000 ≤ s.now → Next .pauseTimeout s fun t => asleep t ∧ t.fb SEC_FREEZE_STAT_pause_missing = true) ∧
    (¬entering ∨ s.now < s.sec.goAt + 2000000 → Next .pauseTimeout s fun t => t = s) ∧
    (∀ t0, s.sec.step4At = some t0 → (st = 1 ∧ t0 + 80 ≤ s.now ∧ (s.now - s.epoch) % 80 = 0 → Next .freezeDividersStop s fun t => Regs s t [(SEC_FREEZE_STAT_state, 2)]) ∧
      (st ≠ 1 ∨ s.now < t0 + 80 ∨ (s.now - s.epoch) % 80 ≠ 0 → Next .freezeDividersStop s fun t => t = s)) ∧
    (s.sec.step4At = none → Next .freezeDividersStop s fun t => t = s) ∧
    (st = 0 → Next .freezeLimit s (fun t => t = s) ∧ Next .thaw s fun t => t = s) ∧
    (st ≠ 0 → s.now < s.sec.goAt + 24000000000 * s.f SEC_FREEZE_CTRL_limit → Next .freezeLimit s fun t => t = s) ∧
    (st ≠ 0 → resets → (s.sec.goAt + 24000000000 * s.f SEC_FREEZE_CTRL_limit ≤ s.now → Next .freezeLimit s ends) ∧ Next .thaw s ends) ∧
    (s.sec.arch.openAt = none → Next (.archSealNow 7) s fun t => t = s) ∧
    ∀ base, s.sec.arch.openAt = some base → Next (.archSealNow 7) s fun t => t.sec.arch.sealed = s.sec.arch.sealed ++ [(s.sec.arch.recs, s.sec.arch.bseq, base)] ∧ t.sec.arch.recs = [] ∧
      t.sec.arch.openAt = none ∧ t.sec.arch.bseq = s.sec.arch.bseq + 1 ∧ t.f SEC_ARCH_STAT_lag = Nat.min 255 (s.sec.arch.sealed.length + 1)

/-- R415, R416, R419 to R422, R425, R426: what each scan of the service port shifts out and does. In KEEP nothing answers. -/
def Obligations.PortScans : Prop :=
  ∀ s : State,
    let out := fun (u : State) (v : Nat) => { u with sec := { u.sec with tckAt := some s.now, tdo := v } }
    let c := s.sec.castChain
    let go := fun v => { out s v with sec := { (out s v).sec with castWord := s.sec.castWord + 1 } }
    let sram := fun c k => s.rd (sramKey (c - 8) (if k < 32768 then 4 * k else 0x10000000 + 4 * (k - 32768))) 4
    (s.mode.keep = true → ∀ i ∈ [Instr.idcode, .castData], Next i s fun t => t = s) ∧
    (s.mode.keep = true → ∀ a b r idx w d ad e ch, ∀ i ∈ [Instr.bypass a, .samplePreload a b, .extest a, .svc r, .svcBuf idx w d, .dbgAccess ad e w d, .castSel ch], Next i s fun t => t = s) ∧
    (s.mode.keep = false →
      (∀ b, Next (.bypass b) s fun t => t = out s (2 * b)) ∧ Next .idcode s (fun t => ∃ v, t = out s v ∧ v % 2 = 1 ∧ v / 2 ^ 12 % 2 ^ 16 = 0x9600 ∧ v < 2 ^ 32) ∧
      (∀ balls v, Next (.samplePreload balls v) s fun t => t = { out s balls with sec := { (out s balls).sec with bsr := v } }) ∧
      (∀ v, (s.lifecycle ≠ 0 → Next (.extest v) s fun t => t = out s (2 * v)) ∧ (s.lifecycle = 0 → Next (.extest v) s fun t => t.sec.bsr = v ∧ t.fields = s.fields ∧ t.mem = s.mem ∧ t.engs = s.engs)) ∧
      (∀ a l, s.svcUnread = a :: l → l.length < 255 →
        let v := resultNat a + (l.length + 1) * 2 ^ 128
        let u := { s with sec := { s.sec with tckAt := some s.now, svcRead := s.sec.svcRead + 1 } }
        Next (.svc none) s (fun t => t = out u v) ∧
        ∀ r : Req, ∀ p ∈ [(0x0701, Instr.svcOpen .service r), (0x0702, .svcClose .service r), (0x0703, .challenge .service r), (0x0704, .authorise .service r), (0x0705, .debugLevel .service r),
          (0x0706, .serviceMode .service r), (0x0707, .freeze .service r), (0x0708, .imageWrite .service r), (0x0709, .imageCommit .service r), (0x070A, .plinthWrite .service r), (0x070B, .provision .service r),
          (0x070C, .secRead .service r), (0x070D, .keyRead .service r)], r.opcode.toNat = p.1 →
            Next (.svc (some r)) s fun t => ∃ w, exec p.2 u = .next w ∧ t = { w with sec := { w.sec with tdo := v } }) ∧
      (∀ (idx : BitVec 10) (d : BitVec 32),
        let k := stagingKey (4 * idx.toNat)
        Next (.svcBuf idx false d) s (fun t => t = { out s (idx.toNat + s.rd k 4 * 2 ^ 16) with sec := { (out s (idx.toNat + s.rd k 4 * 2 ^ 16)).sec with bufIdx := (idx.toNat + 1) % 1024 } }) ∧
        Next (.svcBuf idx true d) s fun t => t.rd k 4 = d.toNat ∧ (∀ a, a < k ∨ k + 4 ≤ a → t.rdB a = s.rdB a) ∧ t.sec.bufIdx = (idx.toNat + 1) % 1024 ∧ t.fields = s.fields ∧ t.engs = s.engs) ∧
      (∀ (ad : BitVec 32) (e : Fin 8) (d : BitVec 32),
        let a := ad.toNat
        let head := a + e.val * 2 ^ 32
        let ours := e ≠ 4 ∨ s.lifecycle ≠ 2
        (s.debugLevel < 1 → Next (.dbgAccess ad e false d) s fun t => t.sec.tdo = head ∧ Posted s t [7] ∧ Kept s t ringFields) ∧
        (s.debugLevel < 2 → Next (.dbgAccess ad e true d) s fun t => t.sec.tdo = head + 2 ^ 35 ∧ Posted s t [7] ∧ Kept s t ringFields) ∧
        (1 ≤ s.debugLevel → a % 4 = 0 → regionOf a = .isram ∨ regionOf a = .dsram → Next (.dbgAccess ad e false d) s fun t =>
          t = out s (head + (if e = 4 ∧ s.lifecycle = 2 then 0 else s.rd (sramKey e a) 4) * 2 ^ 64)) ∧
        (2 ≤ s.debugLevel → ours → a % 4 = 0 → regionOf a = .dsram → s.fb (ENG_STATUS_halted e) = true → Next (.dbgAccess ad e true d) s fun t => t.rd (sramKey e a) 4 = d.toNat ∧
          (∀ k, k < sramKey e a ∨ sramKey e a + 4 ≤ k → t.rdB k = s.rdB k) ∧ t.sec.tdo = head + 2 ^ 35 + d.toNat * 2 ^ 64 ∧ t.fields = s.fields ∧ t.engs = s.engs) ∧
        (2 ≤ s.debugLevel → ours → s.frozen = false → a = ENG_CTRL e → s.fb (ENG_CTRL_run e) = true → s.fb (ENG_CTRL_halt_req e) = false → d.toNat % 16 = 5 → Next (.dbgAccess ad e true d) s fun t =>
          t.fb (ENG_STATUS_halted e) = true ∧ t.fb (ENG_CTRL_halt_req e) = true ∧ t.mem = s.mem)) ∧
      (∀ ch : BitVec 8, let sel := fun v => { out s v with sec := { (out s v).sec with castChain := ch.toNat, castWord := 1 } }
        (s.debugLevel < 3 → Next (.castSel ch) s fun t => t = sel ch.toNat) ∧
        (3 ≤ s.debugLevel → s.frozen = true → 8 ≤ ch.toNat → ch.toNat < 16 → ch.toNat ≠ 12 ∨ s.lifecycle ≠ 2 → Next (.castSel ch) s fun t => t = sel (ch.toNat + sram ch.toNat 0 * 2 ^ 8))) ∧
      ((s.debugLevel < 3 → Next .castData s fun t => t = go 0) ∧
        (3 ≤ s.debugLevel → s.frozen = true → 8 ≤ c → c < 16 → c ≠ 12 ∨ s.lifecycle ≠ 2 → s.sec.castWord < 65536 → Next .castData s fun t => t = go (sram c s.sec.castWord))))


/-! ## All commands -/

/-- R33, R71 to R73: a request that the queue does not store has no other effect than the answer to it; one for an engine's program that does not run stays queued; nothing comes in while the clocks of the fabric stand. -/
def Obligations.RequestsNotStored : Prop :=
  ∀ (s : State) (x : Sender) (r : Req),
    let q1 := QId.queue 6 1
    let meter := [Instr.txOpen x r, .txClose x r, .txConfirm x r, .tariffLoad x r, .utcOffset x r, .creditSet x r, .recordRead x r, .txUnconfirmed x r, .flush x r, .relayClear x r]
    let service := [Instr.svcOpen x r, .svcClose x r, .challenge x r, .authorise x r, .debugLevel x r, .serviceMode x r, .freeze x r, .imageWrite x r, .imageCommit x r, .plinthWrite x r, .provision x r, .secRead x r]
    let ported := if x = .service then s.portOrig r else r
    let told := if x = .service then s.setSec fun a => { a with lastReq := s.now } else s
    let rows := [(allocQ, Instr.powerReq x r), (allocQ, .powerRelease x r), (allocQ, .headroom x r), (allocQ, .bufferAvail x r), (siteQ x, .siteLimit x r), (backQ, .txEvent x r), (.queue 0 1, .timeSet x r),
        (authQ, .authNonce x r), (authQ, .authVerify x r), (.queue 5 1, .stringSw x r), (t1Q, .remoteStart x r), (t1Q, .remoteStop x r), (t1Q, .setAvailable x r), (t1Q, .unlock x r), (t1Q, .setCeiling x r),
        (pointQueue x, .pointWrite x r), (q1, .scanNow x r), (q1, .override x r), (q1, .histRead x r)]
    (s.clocked = false → (∀ p ∈ rows, Next p.2 s fun t => t = s) ∧ (∀ a, Next (.authorize x r a) s fun t => t = s) ∧ (∀ i ∈ meter, Next i s fun t => t = s) ∧
      (∀ i ∈ service, Next i s fun t => t = s) ∧ Next (.keyRead x r) s fun t => t = s) ∧
    (s.clocked = true → (∀ p ∈ rows, ∀ u, s.commitB x p.1 r = (false, u) → Next p.2 s fun t => t = u) ∧
      (∀ a u, s.commitB x backQ r = (false, u) → Next (.authorize x r a) s fun t => t = u) ∧
      (∀ i ∈ meter, (s.bill.started = false → Next i s fun t => t = s.commit x .mailbox r) ∧ ∀ u, s.commitB x .mailbox r = (false, u) → Next i s fun t => t = u) ∧
      ∀ p ∈ (keyQ x, Instr.keyRead x r) :: service.map fun i => (svcQ, i),
        (s.t7Serves = false → Next p.2 s fun t => t = told.commit x p.1 ported) ∧ ∀ u, told.commitB x p.1 ported = (false, u) → Next p.2 s fun t => t = u)

/-- Every command of the table completes in every state: this device refuses no command and none stops it; an access outside an engine's map and every other error of a program is a trap, which is a next state (R56, R70). -/
def Obligations.EveryCommandCompletes : Prop := ∀ (i : Instr) (s : State), Completes (exec i s)

/-- On an empty queue one tick of 2.5 ns passes (the model's choice, log 13): nothing comes into the queue, the real-time clock's fraction goes on once in 400,000,000 / 32,768 ticks, or takes what was written to it (R138), and where the derived
clocks run and no step of DT waits, DT gains 2.5 ns, more or less by its slew (R377). No single step, reset after a lifecycle transition or restart after a double trap falls into this tick. -/
def Obligations.IdleTick : Prop :=
  ∀ s : State, s.pending = [] → (∀ e, (s.eng e).stepDue = false) → s.sec.resetDue = false → (∀ e < 8, s.fb (ENG_STATUS_double_trap e) = false) → ∃ t, step s = .next t ∧ t.pending = [] ∧ t.now = s.now + 1 ∧
    (s.pwr.rtcFrac + 32768 < 400000000 → t.f PWR_RTC_SEC_sec = s.f PWR_RTC_SEC_sec ∧ t.f PWR_RTC_SUB_sub = s.f PWR_RTC_SUB_sub ∧ t.pwr.rtcNew = s.pwr.rtcNew) ∧
    (400000000 ≤ s.pwr.rtcFrac + 32768 → ∀ v, s.pwr.rtcNew = some v → t.f PWR_RTC_SEC_sec = v % 2 ^ 32 ∧ t.pwr.rtcNew = none) ∧
    (400000000 ≤ s.pwr.rtcFrac + 32768 → s.pwr.rtcNew = none → s.f PWR_RTC_SUB_sub < 32767 → t.f PWR_RTC_SUB_sub = s.f PWR_RTC_SUB_sub + 1 ∧ t.f PWR_RTC_SEC_sec = s.f PWR_RTC_SEC_sec) ∧
    (400000000 ≤ s.pwr.rtcFrac + 32768 → s.pwr.rtcNew = none → s.f PWR_RTC_SUB_sub = 32767 → t.f PWR_RTC_SUB_sub = 0 ∧ t.f PWR_RTC_SEC_sec = (s.f PWR_RTC_SEC_sec + 1) % 2 ^ 32) ∧
    (s.clocked = false → t.dtNs = s.dtNs ∧ t.dtFrac = s.dtFrac ∧ t.engs = s.engs) ∧
    (s.clocked = true → s.net.dtStep = none → s.fi NET_DT_SLEW_slew = 0 → t.dtNs = (s.dtNs + (s.dtFrac + 250000000000) / 100000000000) % 2 ^ 64 ∧ t.dtFrac = (s.dtFrac + 250000000000) % 100000000000)

/-! ## Encodings of the engines -/

/-- R80, R87 to R97: words written out from the spec's encodings are the instructions they stand for. -/
def Obligations.WordsDecode : Prop :=
  ∀ e : Fin 8,
    decodeTocon e 0x00642801 = some (.add e 3 4 5) ∧ decodeTocon e 0x04E64786 = some (.qmac e 7 6 8 30) ∧ decodeTocon e 0x08000006 = some (.heartbeat e) ∧ decodeTocon e 0x1041FFFF = some (.addi e 2 1 0xFFFF) ∧
    decodeTocon e 0x50620000 = some (.lw e 3 2 0) ∧ decodeTocon e 0x80220003 = some (.beq e 1 2 3) ∧ decodeTocon e 0xA1A41A00 = some (.ucmdStaged e 13 4 3 0) ∧ decodeTocon e 0xB9C00001 = some (.rinse e 14 0 1) ∧
    decodeTocon e 0xC0200000 = some (.step e 1 0) ∧ decodeTocon e 0x00642841 = none ∧ decodeTocon e 0x0000003F = none ∧ decodeTocon e 0xFC000000 = none

/-- R80, R87 to R97: every instruction has one word, and every word that is an instruction is the word of just that one: no bit of an encoding is dropped, and none is read for another. -/
def Obligations.EncodingRoundTrip : Prop :=
  (∀ (e : Fin 8) (w : Word) (i : Instr), decodeTocon e w = some i → encodeTocon i = some w) ∧
  (∀ (i : Instr) (w : Word), encodeTocon i = some w → ∃ e, decodeTocon e w = some i) ∧
  ∀ i : Instr, (encodeTocon i).isSome = true → ∀ s, runTocon i s = exec i s

/-! ## Reset and memory -/

/-- R142, R148, R152, R441: right after the first power-on reset every register has its reset value, among them these; no command waits; no memory is written. (The reset values of what the spec gives none are the model's choice: log 1 to 4.) -/
def Obligations.ResetState : Prop :=
  let s := State.reset
  (∀ x : Fld, s.f x = x.rst) ∧ s.pending = [] ∧ Memory.wf s.mem ∧ (∀ a, s.rdB a = 0) ∧ s.devMode = 1 ∧ s.f SEC_BOOT_STAT_stage = 1 ∧ s.dtNs = 0 ∧ s.fb CLK_CTRL_pll_en = true ∧ s.f SEC_FREEZE_CTRL_limit = 30 ∧
    (∀ e : Fin 8, s.ready e = false ∧ s.fb (ENG_CTRL_run e) = false ∧ s.f (ENG_CTRL_q_en e) = 15 ∧ s.f (ENG_STATUS_ctx e) = 8 ∧ ∀ q, s.queue (.queue e q) = Queue.reset) ∧
    (∀ n < 32, s.f (LANE_STATUS_state n) = 3 ∧ s.f (LANE_STATUS_park_cause n) = 10) ∧ (∀ n < 256, s.fb (PHU_CTRL_en n) = false ∧ s.f (PHU_CTRL_dest n) = 15 ∧ s.f (PHU_TON_BASE_base n) = 10000) ∧
    (∀ c < 8, s.f (CONN_VSLEW_rate c) = 500 ∧ s.f (CONN_OV_LEVEL_level c) = 1300000) ∧ ∀ k < 128, s.fb (MTX_COIL_CMD_cmd k) = false ∧ s.fb (MTX_COIL_STAT_on k) = false

/-- Memory keeps its canonical form in every step, whatever the command: equal memories are equal data. -/
def Obligations.MemoryKept : Prop := ∀ s t : State, Memory.wf s.mem → step s = .next t → Memory.wf t.mem
end

