-- ==== Sys2Proof/Laws/Crypto.lean ====
section
/-!
SUPPORT. Laws of ECDSA's point products that need no evaluation of 256 doublings.
-/
namespace Sys2Proof.Machine

/-- Zero times a point is the point at infinity. -/
theorem mulPoint_zero (k : Nat) (p : Option (Nat × Nat)) : mulPoint k 0 p = none := by
  induction k generalizing p with
  | zero => rfl
  | succ k ih => simp [mulPoint, ih, addPoint]

/-- One times a point is the point. -/
theorem mulPoint_one (k : Nat) (p : Option (Nat × Nat)) : mulPoint (k + 1) 1 p = p := by
  cases p <;> simp [mulPoint, mulPoint_zero, addPoint]

/-- A signature whose two multipliers are both one verifies where the sum of the base point and the key has the abscissa r. -/
theorem ecdsaOk_of_unit (q : Nat × Nat) (e r s : Nat) (he : e * invMod p256n s % p256n = 1) (hr : r * invMod p256n s % p256n = 1)
    (hq : onCurve q = true) (hb : 0 < r ∧ r < p256n ∧ 0 < s ∧ s < p256n)
    (hx : ((addPoint (some p256g) (some q)).map fun x => x.1 % p256n) = some r) : ecdsaOk q e r s = true := by
  simp only [ecdsaOk, he, hr, hq, mulPoint_one, Bool.true_and, Bool.and_eq_true, decide_eq_true_eq]
  refine ⟨hb, ?_⟩
  cases h : addPoint (some p256g) (some q) with
  | none => simp [h] at hx
  | some x => simp [h] at hx; simp [hx]

end Sys2Proof.Machine
end

