-- ==== Sys2Proof/Laws/Map.lean ====
section
/-!
SUPPORT. Laws of sparse maps: reading after writing, and the canonical form, which every operation keeps.
-/
namespace Sys2Proof.Machine

variable {α : Type}

theorem SMap.get_put_same (d : α) (m : SMap α) (k : Nat) (v : α) : SMap.get d (SMap.put m k v) k = v := by
  induction m with
  | nil => simp [SMap.put, SMap.get]
  | cons p t ih => obtain ⟨a, w⟩ := p; simp only [SMap.put]; split <;> (try split) <;> simp_all [SMap.get]

theorem SMap.get_put_ne (d : α) (m : SMap α) (k j : Nat) (v : α) (h : j ≠ k) : SMap.get d (SMap.put m k v) j = SMap.get d m j := by
  induction m with
  | nil => simp [SMap.put, SMap.get, h]
  | cons p t ih => obtain ⟨a, w⟩ := p; simp only [SMap.put]; split <;> (try split) <;> simp_all [SMap.get]

theorem SMap.get_del_same (d : α) (m : SMap α) (k : Nat) : SMap.get d (SMap.del m k) k = d := by
  induction m with
  | nil => simp [SMap.del, SMap.get]
  | cons p t ih => obtain ⟨a, w⟩ := p; simp only [SMap.del]; split <;> simp_all [SMap.get]

theorem SMap.get_del_ne (d : α) (m : SMap α) (k j : Nat) (h : j ≠ k) : SMap.get d (SMap.del m k) j = SMap.get d m j := by
  induction m with
  | nil => simp [SMap.del]
  | cons p t ih => obtain ⟨a, w⟩ := p; simp only [SMap.del]; split <;> simp_all [SMap.get]

/-- Reading the key just written gives the value written. -/
@[simp] theorem SMap.get_set_same [DecidableEq α] (d : α) (m : SMap α) (k : Nat) (v : α) : SMap.get d (SMap.set d m k v) k = v := by
  unfold SMap.set; split
  · next h => rw [h]; exact SMap.get_del_same d m k
  · exact SMap.get_put_same d m k v

/-- Every other key reads as before. -/
theorem SMap.get_set_ne [DecidableEq α] (d c : α) (m : SMap α) (k j : Nat) (v : α) (h : j ≠ k) :
    SMap.get d (SMap.set c m k v) j = SMap.get d m j := by
  unfold SMap.set; split
  · exact SMap.get_del_ne d m k j h
  · exact SMap.get_put_ne d m k j v h

/-! ## The canonical form -/

/-- Every key of the map lies above a bound. -/
def SMap.above (b : Nat) (m : SMap α) : Prop := ∀ p ∈ m, b < p.1

theorem SMap.sorted_cons (a : Nat) (w : α) (t : SMap α) : SMap.sorted ((a, w) :: t) = true ↔ SMap.above a t ∧ SMap.sorted t = true := by
  induction t generalizing a w with
  | nil => simp [SMap.sorted, SMap.above]
  | cons p t ih =>
    obtain ⟨b, v⟩ := p
    simp only [SMap.sorted, Bool.and_eq_true, decide_eq_true_eq, SMap.above, List.mem_cons, forall_eq_or_imp]
    refine ⟨fun ⟨h, h2⟩ => ⟨⟨h, fun q hq => ?_⟩, h2⟩, fun ⟨⟨h, _⟩, h2⟩ => ⟨h, h2⟩⟩
    exact Nat.lt_trans h (((ih b v).1 h2).1 q hq)

theorem SMap.above_put (b k : Nat) (v : α) (m : SMap α) (hk : b < k) (h : SMap.above b m) : SMap.above b (SMap.put m k v) := by
  induction m with
  | nil => simpa [SMap.put, SMap.above] using hk
  | cons p t ih =>
    obtain ⟨a, w⟩ := p
    simp only [SMap.above, List.mem_cons, forall_eq_or_imp] at h
    have := ih h.2
    simp only [SMap.put]; split <;> (try split) <;> simp only [SMap.above, List.mem_cons, forall_eq_or_imp] at * <;> grind

theorem SMap.above_del (b k : Nat) (m : SMap α) (h : SMap.above b m) : SMap.above b (SMap.del m k) := by
  induction m with
  | nil => simp [SMap.del, SMap.above]
  | cons p t ih =>
    obtain ⟨a, w⟩ := p
    simp only [SMap.above, List.mem_cons, forall_eq_or_imp] at h
    simp only [SMap.del]; split
    · exact ih h.2
    · simp only [SMap.above, List.mem_cons, forall_eq_or_imp]; exact ⟨h.1, ih h.2⟩

theorem SMap.sorted_put (k : Nat) (v : α) (m : SMap α) (h : SMap.sorted m = true) : SMap.sorted (SMap.put m k v) = true := by
  induction m with
  | nil => simp [SMap.put, SMap.sorted]
  | cons p t ih =>
    obtain ⟨a, w⟩ := p
    have h' := (SMap.sorted_cons a w t).1 h
    simp only [SMap.put]; split
    · next hk =>
      refine (SMap.sorted_cons k v _).2 ⟨?_, h⟩
      simp only [SMap.above, List.mem_cons, forall_eq_or_imp]
      exact ⟨hk, fun q hq => Nat.lt_trans hk (h'.1 q hq)⟩
    · split
      · next hk => subst hk; exact (SMap.sorted_cons _ _ _).2 h'
      · exact (SMap.sorted_cons _ _ _).2 ⟨SMap.above_put a k v t (by omega) h'.1, ih h'.2⟩

theorem SMap.sorted_del (k : Nat) (m : SMap α) (h : SMap.sorted m = true) : SMap.sorted (SMap.del m k) = true := by
  induction m with
  | nil => simp [SMap.del, SMap.sorted]
  | cons p t ih =>
    obtain ⟨a, w⟩ := p
    have h' := (SMap.sorted_cons a w t).1 h
    simp only [SMap.del]; split
    · exact ih h'.2
    · exact (SMap.sorted_cons _ _ _).2 ⟨SMap.above_del a k t h'.1, ih h'.2⟩

theorem SMap.mem_put (k : Nat) (v : α) (m : SMap α) (p : Nat × α) (h : p ∈ SMap.put m k v) : p = (k, v) ∨ p ∈ m := by
  induction m with
  | nil => simpa [SMap.put] using h
  | cons q t ih =>
    obtain ⟨a, w⟩ := q
    simp only [SMap.put] at h; split at h <;> (try split at h) <;> simp only [List.mem_cons] at h ⊢ <;> grind

theorem SMap.mem_del (k : Nat) (m : SMap α) (p : Nat × α) (h : p ∈ SMap.del m k) : p ∈ m := by
  induction m with
  | nil => simp [SMap.del] at h
  | cons q t ih =>
    obtain ⟨a, w⟩ := q
    simp only [SMap.del] at h; split at h
    · exact List.mem_cons_of_mem _ (ih h)
    · rcases List.mem_cons.1 h with h | h
      · exact h ▸ List.mem_cons_self ..
      · exact List.mem_cons_of_mem _ (ih h)

theorem SMap.wf_iff [DecidableEq α] (d : α) (m : SMap α) : SMap.wf d m = true ↔ SMap.sorted m = true ∧ ∀ p ∈ m, p.2 ≠ d := by
  simp [SMap.wf]

/-- A write keeps the canonical form. -/
theorem SMap.wf_set [DecidableEq α] (d : α) (m : SMap α) (k : Nat) (v : α) (h : SMap.wf d m = true) : SMap.wf d (SMap.set d m k v) = true := by
  rw [SMap.wf_iff] at h ⊢
  unfold SMap.set; split
  · exact ⟨SMap.sorted_del k m h.1, fun p hp => h.2 p (SMap.mem_del k m p hp)⟩
  · next hv =>
    refine ⟨SMap.sorted_put k v m h.1, fun p hp => ?_⟩
    rcases SMap.mem_put k v m p hp with rfl | hp
    · exact hv
    · exact h.2 p hp

theorem SMap.sorted_filter (q : Nat × α → Bool) (m : SMap α) (h : SMap.sorted m = true) : SMap.sorted (m.filter q) = true := by
  induction m with
  | nil => simp [SMap.sorted]
  | cons p t ih =>
    obtain ⟨a, w⟩ := p
    have h' := (SMap.sorted_cons a w t).1 h
    rw [List.filter_cons]; split
    · exact (SMap.sorted_cons a w _).2 ⟨fun p hp => h'.1 p (List.mem_filter.1 hp).1, ih h'.2⟩
    · exact ih h'.2

/-- Dropping keys keeps the canonical form. -/
theorem SMap.wf_filter [DecidableEq α] (d : α) (q : Nat × α → Bool) (m : SMap α) (h : SMap.wf d m = true) : SMap.wf d (m.filter q) = true := by
  rw [SMap.wf_iff] at h ⊢
  exact ⟨SMap.sorted_filter q m h.1, fun p hp => h.2 p (List.mem_filter.1 hp).1⟩

/-- Two maps in canonical form that read the same at every key are equal. -/
theorem SMap.ext_wf [DecidableEq α] (d : α) (m n : SMap α) (hm : SMap.wf d m = true) (hn : SMap.wf d n = true) (h : ∀ k, SMap.get d m k = SMap.get d n k) :
    m = n := by
  have notIn : ∀ (b : Nat) (m : SMap α) (j : Nat), SMap.above b m → j ≤ b → SMap.get d m j = d := by
    intro b m j ha hj
    induction m with
    | nil => rfl
    | cons p t ih =>
      obtain ⟨a, w⟩ := p
      simp only [SMap.above, List.mem_cons, forall_eq_or_imp] at ha
      simp only [SMap.get]; rw [if_neg (by omega)]; exact ih ha.2
  induction m generalizing n with
  | nil =>
    cases n with
    | nil => rfl
    | cons p t =>
      obtain ⟨a, w⟩ := p
      have := h a
      simp [SMap.get] at this
      exact absurd this.symm (((SMap.wf_iff d _).1 hn).2 (a, w) (List.mem_cons_self ..))
  | cons p t ih =>
    obtain ⟨a, w⟩ := p
    have hm' := (SMap.wf_iff d _).1 hm
    have sm := (SMap.sorted_cons a w t).1 hm'.1
    have hw := hm'.2 (a, w) (List.mem_cons_self ..)
    cases n with
    | nil => have := h a; simp [SMap.get] at this; exact absurd this hw
    | cons q u =>
      obtain ⟨b, v⟩ := q
      have hn' := (SMap.wf_iff d _).1 hn
      have sn := (SMap.sorted_cons b v u).1 hn'.1
      have hv := hn'.2 (b, v) (List.mem_cons_self ..)
      have hab : a = b := by
        rcases Nat.lt_trichotomy a b with hlt | heq | hgt
        · have := h a; simp only [SMap.get, if_true] at this
          rw [if_neg (by omega), notIn b u a sn.1 (by omega)] at this; exact absurd this hw
        · exact heq
        · have := h b; simp only [SMap.get, if_true] at this
          rw [if_neg (by omega), notIn a t b sm.1 (by omega)] at this; exact absurd this.symm hv
      subst hab
      have hwv : w = v := by have := h a; simpa [SMap.get] using this
      subst hwv
      congr 1
      refine ih u ((SMap.wf_iff d t).2 ⟨sm.2, fun p hp => hm'.2 p (List.mem_cons_of_mem _ hp)⟩)
        ((SMap.wf_iff d u).2 ⟨sn.2, fun p hp => hn'.2 p (List.mem_cons_of_mem _ hp)⟩) fun k => ?_
      by_cases hk : k = a
      · subst hk; rw [notIn k t k sm.1 (Nat.le_refl _), notIn k u k sn.1 (Nat.le_refl _)]
      · have := h k; simpa [SMap.get, hk] using this

end Sys2Proof.Machine
end

