-- ==== Sys2Proof/Laws/Fields.lean ====
section
/-!
SUPPORT. Laws of register fields (R9, R441): reading a field after a field has been written.
-/
namespace Sys2Proof.Machine

/-- A field just written reads as the value cut to its width. -/
@[simp] theorem State.f_setF_same (s : State) (x : Fld) (v : Nat) : (s.setF x v).f x = v % 2 ^ x.w := by simp [State.f, State.setF]

/-- A field with another key reads as before. -/
theorem State.f_setF_ne (s : State) (x y : Fld) (v : Nat) (h : y.key ≠ x.key) : (s.setF x v).f y = s.f y := by
  simp [State.f, State.setF, SMap.get_set_ne _ _ _ _ _ _ h]

@[simp] theorem State.fb_setB_same (s : State) (x : Fld) (b : Bool) (h : 0 < x.w) : (s.setB x b).fb x = b := by
  have h2 : 1 < 2 ^ x.w := Nat.one_lt_two_pow (by omega)
  cases b <;> simp [State.fb, State.setB, Nat.mod_eq_of_lt h2]

theorem State.fb_setB_ne (s : State) (x y : Fld) (b : Bool) (h : y.key ≠ x.key) : (s.setB x b).fb y = s.fb y := by
  simp [State.fb, State.setB, State.f_setF_ne _ _ _ _ h]

/-- Writing a list of fields leaves every field outside it. -/
theorem State.f_setAll_ne (l : List (Fld × Nat)) (s : State) (y : Fld) (h : ∀ p ∈ l, y.key ≠ p.1.key) : (s.setAll l).f y = s.f y := by
  induction l generalizing s with
  | nil => rfl
  | cons p t ih =>
    obtain ⟨x, v⟩ := p
    simp only [State.setAll]
    rw [ih _ fun q hq => h q (List.mem_cons_of_mem _ hq), State.f_setF_ne _ _ _ _ (h (x, v) (List.mem_cons_self ..))]

@[simp] theorem State.setAll_nil (s : State) : s.setAll [] = s := rfl
@[simp] theorem State.setAll_cons (s : State) (x : Fld) (v : Nat) (t : List (Fld × Nat)) : s.setAll ((x, v) :: t) = (s.setF x v).setAll t := rfl

end Sys2Proof.Machine
end

