-- ==== Sys2Proof/Laws/Engine.lean ====
section
/-!
SUPPORT. Laws of the engines' registers (R54, R55): what the updates of an engine leave.
-/
namespace Sys2Proof.Machine

@[simp] theorem State.eng_setEng_same (s : State) (e : Nat) (n : Engine) : (s.setEng e n).eng e = n := by simp [State.eng, State.setEng]

theorem State.eng_setEng_ne (s : State) (e j : Nat) (n : Engine) (h : j ≠ e) : (s.setEng e n).eng j = s.eng j := by
  simp [State.eng, State.setEng, SMap.get_set_ne _ _ _ _ _ _ h]

@[simp] theorem State.eng_setF (s : State) (x : Fld) (v e : Nat) : (s.setF x v).eng e = s.eng e := rfl
@[simp] theorem State.f_setEng (s : State) (x : Fld) (e : Nat) (n : Engine) : (s.setEng e n).f x = s.f x := rfl
@[simp] theorem State.fb_setEng (s : State) (x : Fld) (e : Nat) (n : Engine) : (s.setEng e n).fb x = s.fb x := rfl

/-! ## Program counter, flags and general registers -/

@[simp] theorem Engine.pc_setPc (n : Engine) (v : DWord) : (n.setPc v).pc = v := by simp [Engine.pc, Engine.setPc]
@[simp] theorem Engine.pc_setS0 (n : Engine) (v : DWord) : (n.setS0 v).pc = n.pc := rfl
@[simp] theorem Engine.s0_setS0 (n : Engine) (v : DWord) : (n.setS0 v).s0 = v := by simp [Engine.s0, Engine.setS0]
@[simp] theorem Engine.s0_setPc (n : Engine) (v : DWord) : (n.setPc v).s0 = n.s0 := rfl
@[simp] theorem Engine.s0_next (n : Engine) : n.next.s0 = n.s0 := rfl
@[simp] theorem Engine.pc_next (n : Engine) : n.next.pc = n.pc + 4 := by simp [Engine.next]
@[simp] theorem Engine.g_setPc (n : Engine) (v : DWord) (r : Fin 32) : (n.setPc v).g r = n.g r := rfl
@[simp] theorem Engine.g_setS0 (n : Engine) (v : DWord) (r : Fin 32) : (n.setS0 v).g r = n.g r := rfl
@[simp] theorem Engine.g_next (n : Engine) (r : Fin 32) : n.next.g r = n.g r := rfl

@[simp] theorem Engine.pc_setG (n : Engine) (r : Fin 32) (v : DWord) : (n.setG r v).pc = n.pc := by
  unfold Engine.setG Engine.pc; split <;> (try split) <;> rfl
@[simp] theorem Engine.s0_setG (n : Engine) (r : Fin 32) (v : DWord) : (n.setG r v).s0 = n.s0 := by
  unfold Engine.setG Engine.s0; split <;> (try split) <;> rfl
@[simp] theorem Engine.ctx_setG (n : Engine) (r : Fin 32) (v : DWord) : (n.setG r v).ctx = n.ctx := by
  unfold Engine.setG; split <;> (try split) <;> rfl

/-- g0 reads zero whatever was written (R54). -/
@[simp] theorem Engine.g_zero (n : Engine) : n.g 0 = 0 := rfl

/-- Reading a general register after a write: g0 stays zero, the written register has the value, every other keeps its own. -/
theorem Engine.g_setG (n : Engine) (r q : Fin 32) (v : DWord) : (n.setG r v).g q = if q = 0 then 0 else if q = r then v else n.g q := by
  by_cases hq : q = 0
  · subst hq; simp
  · have hq' : q.val ≠ 0 := fun h => hq (Fin.ext h)
    by_cases hr : r.val = 0
    · have : q ≠ r := fun h => hq' (h ▸ hr)
      simp [Engine.setG, hr, hq, this]
    · rcases Nat.lt_or_ge r.val 16 with hr16 | hr16 <;> rcases Nat.lt_or_ge q.val 16 with hq16 | hq16 <;> by_cases h : q = r
      all_goals try (subst h; simp_all [Engine.setG, Engine.g])
      · have : 16 * n.ctx + q.val ≠ 16 * n.ctx + r.val := fun e => h (Fin.ext (by omega))
        simp [Engine.setG, Engine.g, hr, hr16, hq, hq', hq16, h, SMap.get_set_ne _ _ _ _ _ _ this]
      · simp [Engine.setG, Engine.g, hr, hr16, hq, hq', Nat.not_lt.2 hq16, h]
      · simp [Engine.setG, Engine.g, hr, Nat.not_lt.2 hr16, hq, hq', hq16, h]
      · have : q.val ≠ r.val := fun e => h (Fin.ext e)
        simp [Engine.setG, Engine.g, hr, Nat.not_lt.2 hr16, hq, hq', Nat.not_lt.2 hq16, h, SMap.get_set_ne _ _ _ _ _ _ this]

end Sys2Proof.Machine
end

