-- ==== Sys2Proof/Laws/State.lean ====
section
/-!
SUPPORT. Laws of the state's updates: what each of them leaves, field by field, and what the readings of registers, engines, queues,
memory and sub-records give after it.
-/
namespace Sys2Proof.Machine

variable (s : State)

/-! ## `setF` writes `fields` -/

@[simp] theorem State.now_setF (x : Fld) (v : Nat) : (s.setF x v).now = s.now := rfl
@[simp] theorem State.pending_setF (x : Fld) (v : Nat) : (s.setF x v).pending = s.pending := rfl
@[simp] theorem State.free_setF (x : Fld) (v : Nat) : (s.setF x v).free = s.free := rfl
@[simp] theorem State.mem_setF (x : Fld) (v : Nat) : (s.setF x v).mem = s.mem := rfl
@[simp] theorem State.ecc_setF (x : Fld) (v : Nat) : (s.setF x v).ecc = s.ecc := rfl
@[simp] theorem State.engs_setF (x : Fld) (v : Nat) : (s.setF x v).engs = s.engs := rfl
@[simp] theorem State.mailbox_setF (x : Fld) (v : Nat) : (s.setF x v).mailbox = s.mailbox := rfl
@[simp] theorem State.outIdx_setF (x : Fld) (v : Nat) : (s.setF x v).outIdx = s.outIdx := rfl
@[simp] theorem State.outbox_setF (x : Fld) (v : Nat) : (s.setF x v).outbox = s.outbox := rfl
@[simp] theorem State.notices_setF (x : Fld) (v : Nat) : (s.setF x v).notices = s.notices := rfl
@[simp] theorem State.periods_setF (x : Fld) (v : Nat) : (s.setF x v).periods = s.periods := rfl
@[simp] theorem State.trips_setF (x : Fld) (v : Nat) : (s.setF x v).trips = s.trips := rfl
@[simp] theorem State.dtNs_setF (x : Fld) (v : Nat) : (s.setF x v).dtNs = s.dtNs := rfl
@[simp] theorem State.dtFrac_setF (x : Fld) (v : Nat) : (s.setF x v).dtFrac = s.dtFrac := rfl
@[simp] theorem State.maq_setF (x : Fld) (v : Nat) : (s.setF x v).maq = s.maq := rfl
@[simp] theorem State.phus_setF (x : Fld) (v : Nat) : (s.setF x v).phus = s.phus := rfl
@[simp] theorem State.lanes_setF (x : Fld) (v : Nat) : (s.setF x v).lanes = s.lanes := rfl
@[simp] theorem State.conns_setF (x : Fld) (v : Nat) : (s.setF x v).conns = s.conns := rfl
@[simp] theorem State.dests_setF (x : Fld) (v : Nat) : (s.setF x v).dests = s.dests := rfl
@[simp] theorem State.coils_setF (x : Fld) (v : Nat) : (s.setF x v).coils = s.coils := rfl
@[simp] theorem State.coilsOff_setF (x : Fld) (v : Nat) : (s.setF x v).coilsOff = s.coilsOff := rfl
@[simp] theorem State.epoch_setF (x : Fld) (v : Nat) : (s.setF x v).epoch = s.epoch := rfl
@[simp] theorem State.gap_setF (x : Fld) (v : Nat) : (s.setF x v).gap = s.gap := rfl
@[simp] theorem State.held_setF (x : Fld) (v : Nat) : (s.setF x v).held = s.held := rfl
@[simp] theorem State.clk_setF (x : Fld) (v : Nat) : (s.setF x v).clk = s.clk := rfl
@[simp] theorem State.pwr_setF (x : Fld) (v : Nat) : (s.setF x v).pwr = s.pwr := rfl
@[simp] theorem State.mode_setF (x : Fld) (v : Nat) : (s.setF x v).mode = s.mode := rfl
@[simp] theorem State.ctl_setF (x : Fld) (v : Nat) : (s.setF x v).ctl = s.ctl := rfl
@[simp] theorem State.portCharge_setF (x : Fld) (v : Nat) : (s.setF x v).portCharge = s.portCharge := rfl
@[simp] theorem State.lsws_setF (x : Fld) (v : Nat) : (s.setF x v).lsws = s.lsws := rfl
@[simp] theorem State.lsExceeded_setF (x : Fld) (v : Nat) : (s.setF x v).lsExceeded = s.lsExceeded := rfl
@[simp] theorem State.shedNext_setF (x : Fld) (v : Nat) : (s.setF x v).shedNext = s.shedNext := rfl
@[simp] theorem State.lsPace_setF (x : Fld) (v : Nat) : (s.setF x v).lsPace = s.lsPace := rfl
@[simp] theorem State.vswLost_setF (x : Fld) (v : Nat) : (s.setF x v).vswLost = s.vswLost := rfl
@[simp] theorem State.net_setF (x : Fld) (v : Nat) : (s.setF x v).net = s.net := rfl
@[simp] theorem State.modbus_setF (x : Fld) (v : Nat) : (s.setF x v).modbus = s.modbus := rfl
@[simp] theorem State.cans_setF (x : Fld) (v : Nat) : (s.setF x v).cans = s.cans := rfl
@[simp] theorem State.plc_setF (x : Fld) (v : Nat) : (s.setF x v).plc = s.plc := rfl
@[simp] theorem State.answered_setF (x : Fld) (v : Nat) : (s.setF x v).answered = s.answered := rfl
@[simp] theorem State.alloc_setF (x : Fld) (v : Nat) : (s.setF x v).alloc = s.alloc := rfl
@[simp] theorem State.met_setF (x : Fld) (v : Nat) : (s.setF x v).met = s.met := rfl
@[simp] theorem State.bill_setF (x : Fld) (v : Nat) : (s.setF x v).bill = s.bill := rfl
@[simp] theorem State.sess_setF (x : Fld) (v : Nat) : (s.setF x v).sess = s.sess := rfl
@[simp] theorem State.t1Req_setF (x : Fld) (v : Nat) : (s.setF x v).t1Req = s.t1Req := rfl
@[simp] theorem State.ocpp_setF (x : Fld) (v : Nat) : (s.setF x v).ocpp = s.ocpp := rfl
@[simp] theorem State.cool_setF (x : Fld) (v : Nat) : (s.setF x v).cool = s.cool := rfl
@[simp] theorem State.buf_setF (x : Fld) (v : Nat) : (s.setF x v).buf = s.buf := rfl
@[simp] theorem State.vault_setF (x : Fld) (v : Nat) : (s.setF x v).vault = s.vault := rfl
@[simp] theorem State.sec_setF (x : Fld) (v : Nat) : (s.setF x v).sec = s.sec := rfl
@[simp] theorem State.rdB_setF (x : Fld) (v : Nat) (a : Nat) : (s.setF x v).rdB a = s.rdB a := rfl
@[simp] theorem State.queue_setF (x : Fld) (v : Nat) (i : QId) : (s.setF x v).queue i = s.queue i := rfl
@[simp] theorem State.dt_setF (x : Fld) (v : Nat) : (s.setF x v).dt = s.dt := rfl
@[simp] theorem State.period_setF (x : Fld) (v : Nat) (i j : Nat) : (s.setF x v).period i j = s.period i j := rfl
@[simp] theorem State.tripped_setF (x : Fld) (v : Nat) (z : Scope) : (s.setF x v).tripped z = s.tripped z := rfl

/-! ## `setB` writes `fields` -/

@[simp] theorem State.now_setB (x : Fld) (b : Bool) : (s.setB x b).now = s.now := rfl
@[simp] theorem State.pending_setB (x : Fld) (b : Bool) : (s.setB x b).pending = s.pending := rfl
@[simp] theorem State.free_setB (x : Fld) (b : Bool) : (s.setB x b).free = s.free := rfl
@[simp] theorem State.mem_setB (x : Fld) (b : Bool) : (s.setB x b).mem = s.mem := rfl
@[simp] theorem State.ecc_setB (x : Fld) (b : Bool) : (s.setB x b).ecc = s.ecc := rfl
@[simp] theorem State.engs_setB (x : Fld) (b : Bool) : (s.setB x b).engs = s.engs := rfl
@[simp] theorem State.mailbox_setB (x : Fld) (b : Bool) : (s.setB x b).mailbox = s.mailbox := rfl
@[simp] theorem State.outIdx_setB (x : Fld) (b : Bool) : (s.setB x b).outIdx = s.outIdx := rfl
@[simp] theorem State.outbox_setB (x : Fld) (b : Bool) : (s.setB x b).outbox = s.outbox := rfl
@[simp] theorem State.notices_setB (x : Fld) (b : Bool) : (s.setB x b).notices = s.notices := rfl
@[simp] theorem State.periods_setB (x : Fld) (b : Bool) : (s.setB x b).periods = s.periods := rfl
@[simp] theorem State.trips_setB (x : Fld) (b : Bool) : (s.setB x b).trips = s.trips := rfl
@[simp] theorem State.dtNs_setB (x : Fld) (b : Bool) : (s.setB x b).dtNs = s.dtNs := rfl
@[simp] theorem State.dtFrac_setB (x : Fld) (b : Bool) : (s.setB x b).dtFrac = s.dtFrac := rfl
@[simp] theorem State.maq_setB (x : Fld) (b : Bool) : (s.setB x b).maq = s.maq := rfl
@[simp] theorem State.phus_setB (x : Fld) (b : Bool) : (s.setB x b).phus = s.phus := rfl
@[simp] theorem State.lanes_setB (x : Fld) (b : Bool) : (s.setB x b).lanes = s.lanes := rfl
@[simp] theorem State.conns_setB (x : Fld) (b : Bool) : (s.setB x b).conns = s.conns := rfl
@[simp] theorem State.dests_setB (x : Fld) (b : Bool) : (s.setB x b).dests = s.dests := rfl
@[simp] theorem State.coils_setB (x : Fld) (b : Bool) : (s.setB x b).coils = s.coils := rfl
@[simp] theorem State.coilsOff_setB (x : Fld) (b : Bool) : (s.setB x b).coilsOff = s.coilsOff := rfl
@[simp] theorem State.epoch_setB (x : Fld) (b : Bool) : (s.setB x b).epoch = s.epoch := rfl
@[simp] theorem State.gap_setB (x : Fld) (b : Bool) : (s.setB x b).gap = s.gap := rfl
@[simp] theorem State.held_setB (x : Fld) (b : Bool) : (s.setB x b).held = s.held := rfl
@[simp] theorem State.clk_setB (x : Fld) (b : Bool) : (s.setB x b).clk = s.clk := rfl
@[simp] theorem State.pwr_setB (x : Fld) (b : Bool) : (s.setB x b).pwr = s.pwr := rfl
@[simp] theorem State.mode_setB (x : Fld) (b : Bool) : (s.setB x b).mode = s.mode := rfl
@[simp] theorem State.ctl_setB (x : Fld) (b : Bool) : (s.setB x b).ctl = s.ctl := rfl
@[simp] theorem State.portCharge_setB (x : Fld) (b : Bool) : (s.setB x b).portCharge = s.portCharge := rfl
@[simp] theorem State.lsws_setB (x : Fld) (b : Bool) : (s.setB x b).lsws = s.lsws := rfl
@[simp] theorem State.lsExceeded_setB (x : Fld) (b : Bool) : (s.setB x b).lsExceeded = s.lsExceeded := rfl
@[simp] theorem State.shedNext_setB (x : Fld) (b : Bool) : (s.setB x b).shedNext = s.shedNext := rfl
@[simp] theorem State.lsPace_setB (x : Fld) (b : Bool) : (s.setB x b).lsPace = s.lsPace := rfl
@[simp] theorem State.vswLost_setB (x : Fld) (b : Bool) : (s.setB x b).vswLost = s.vswLost := rfl
@[simp] theorem State.net_setB (x : Fld) (b : Bool) : (s.setB x b).net = s.net := rfl
@[simp] theorem State.modbus_setB (x : Fld) (b : Bool) : (s.setB x b).modbus = s.modbus := rfl
@[simp] theorem State.cans_setB (x : Fld) (b : Bool) : (s.setB x b).cans = s.cans := rfl
@[simp] theorem State.plc_setB (x : Fld) (b : Bool) : (s.setB x b).plc = s.plc := rfl
@[simp] theorem State.answered_setB (x : Fld) (b : Bool) : (s.setB x b).answered = s.answered := rfl
@[simp] theorem State.alloc_setB (x : Fld) (b : Bool) : (s.setB x b).alloc = s.alloc := rfl
@[simp] theorem State.met_setB (x : Fld) (b : Bool) : (s.setB x b).met = s.met := rfl
@[simp] theorem State.bill_setB (x : Fld) (b : Bool) : (s.setB x b).bill = s.bill := rfl
@[simp] theorem State.sess_setB (x : Fld) (b : Bool) : (s.setB x b).sess = s.sess := rfl
@[simp] theorem State.t1Req_setB (x : Fld) (b : Bool) : (s.setB x b).t1Req = s.t1Req := rfl
@[simp] theorem State.ocpp_setB (x : Fld) (b : Bool) : (s.setB x b).ocpp = s.ocpp := rfl
@[simp] theorem State.cool_setB (x : Fld) (b : Bool) : (s.setB x b).cool = s.cool := rfl
@[simp] theorem State.buf_setB (x : Fld) (b : Bool) : (s.setB x b).buf = s.buf := rfl
@[simp] theorem State.vault_setB (x : Fld) (b : Bool) : (s.setB x b).vault = s.vault := rfl
@[simp] theorem State.sec_setB (x : Fld) (b : Bool) : (s.setB x b).sec = s.sec := rfl
@[simp] theorem State.eng_setB (x : Fld) (b : Bool) (j : Nat) : (s.setB x b).eng j = s.eng j := rfl
@[simp] theorem State.rdB_setB (x : Fld) (b : Bool) (a : Nat) : (s.setB x b).rdB a = s.rdB a := rfl
@[simp] theorem State.queue_setB (x : Fld) (b : Bool) (i : QId) : (s.setB x b).queue i = s.queue i := rfl
@[simp] theorem State.dt_setB (x : Fld) (b : Bool) : (s.setB x b).dt = s.dt := rfl
@[simp] theorem State.period_setB (x : Fld) (b : Bool) (i j : Nat) : (s.setB x b).period i j = s.period i j := rfl
@[simp] theorem State.tripped_setB (x : Fld) (b : Bool) (z : Scope) : (s.setB x b).tripped z = s.tripped z := rfl

/-! ## `setFi` writes `fields` -/

@[simp] theorem State.now_setFi (x : Fld) (v : Int) : (s.setFi x v).now = s.now := rfl
@[simp] theorem State.pending_setFi (x : Fld) (v : Int) : (s.setFi x v).pending = s.pending := rfl
@[simp] theorem State.free_setFi (x : Fld) (v : Int) : (s.setFi x v).free = s.free := rfl
@[simp] theorem State.mem_setFi (x : Fld) (v : Int) : (s.setFi x v).mem = s.mem := rfl
@[simp] theorem State.ecc_setFi (x : Fld) (v : Int) : (s.setFi x v).ecc = s.ecc := rfl
@[simp] theorem State.engs_setFi (x : Fld) (v : Int) : (s.setFi x v).engs = s.engs := rfl
@[simp] theorem State.mailbox_setFi (x : Fld) (v : Int) : (s.setFi x v).mailbox = s.mailbox := rfl
@[simp] theorem State.outIdx_setFi (x : Fld) (v : Int) : (s.setFi x v).outIdx = s.outIdx := rfl
@[simp] theorem State.outbox_setFi (x : Fld) (v : Int) : (s.setFi x v).outbox = s.outbox := rfl
@[simp] theorem State.notices_setFi (x : Fld) (v : Int) : (s.setFi x v).notices = s.notices := rfl
@[simp] theorem State.periods_setFi (x : Fld) (v : Int) : (s.setFi x v).periods = s.periods := rfl
@[simp] theorem State.trips_setFi (x : Fld) (v : Int) : (s.setFi x v).trips = s.trips := rfl
@[simp] theorem State.dtNs_setFi (x : Fld) (v : Int) : (s.setFi x v).dtNs = s.dtNs := rfl
@[simp] theorem State.dtFrac_setFi (x : Fld) (v : Int) : (s.setFi x v).dtFrac = s.dtFrac := rfl
@[simp] theorem State.maq_setFi (x : Fld) (v : Int) : (s.setFi x v).maq = s.maq := rfl
@[simp] theorem State.phus_setFi (x : Fld) (v : Int) : (s.setFi x v).phus = s.phus := rfl
@[simp] theorem State.lanes_setFi (x : Fld) (v : Int) : (s.setFi x v).lanes = s.lanes := rfl
@[simp] theorem State.conns_setFi (x : Fld) (v : Int) : (s.setFi x v).conns = s.conns := rfl
@[simp] theorem State.dests_setFi (x : Fld) (v : Int) : (s.setFi x v).dests = s.dests := rfl
@[simp] theorem State.coils_setFi (x : Fld) (v : Int) : (s.setFi x v).coils = s.coils := rfl
@[simp] theorem State.coilsOff_setFi (x : Fld) (v : Int) : (s.setFi x v).coilsOff = s.coilsOff := rfl
@[simp] theorem State.epoch_setFi (x : Fld) (v : Int) : (s.setFi x v).epoch = s.epoch := rfl
@[simp] theorem State.gap_setFi (x : Fld) (v : Int) : (s.setFi x v).gap = s.gap := rfl
@[simp] theorem State.held_setFi (x : Fld) (v : Int) : (s.setFi x v).held = s.held := rfl
@[simp] theorem State.clk_setFi (x : Fld) (v : Int) : (s.setFi x v).clk = s.clk := rfl
@[simp] theorem State.pwr_setFi (x : Fld) (v : Int) : (s.setFi x v).pwr = s.pwr := rfl
@[simp] theorem State.mode_setFi (x : Fld) (v : Int) : (s.setFi x v).mode = s.mode := rfl
@[simp] theorem State.ctl_setFi (x : Fld) (v : Int) : (s.setFi x v).ctl = s.ctl := rfl
@[simp] theorem State.portCharge_setFi (x : Fld) (v : Int) : (s.setFi x v).portCharge = s.portCharge := rfl
@[simp] theorem State.lsws_setFi (x : Fld) (v : Int) : (s.setFi x v).lsws = s.lsws := rfl
@[simp] theorem State.lsExceeded_setFi (x : Fld) (v : Int) : (s.setFi x v).lsExceeded = s.lsExceeded := rfl
@[simp] theorem State.shedNext_setFi (x : Fld) (v : Int) : (s.setFi x v).shedNext = s.shedNext := rfl
@[simp] theorem State.lsPace_setFi (x : Fld) (v : Int) : (s.setFi x v).lsPace = s.lsPace := rfl
@[simp] theorem State.vswLost_setFi (x : Fld) (v : Int) : (s.setFi x v).vswLost = s.vswLost := rfl
@[simp] theorem State.net_setFi (x : Fld) (v : Int) : (s.setFi x v).net = s.net := rfl
@[simp] theorem State.modbus_setFi (x : Fld) (v : Int) : (s.setFi x v).modbus = s.modbus := rfl
@[simp] theorem State.cans_setFi (x : Fld) (v : Int) : (s.setFi x v).cans = s.cans := rfl
@[simp] theorem State.plc_setFi (x : Fld) (v : Int) : (s.setFi x v).plc = s.plc := rfl
@[simp] theorem State.answered_setFi (x : Fld) (v : Int) : (s.setFi x v).answered = s.answered := rfl
@[simp] theorem State.alloc_setFi (x : Fld) (v : Int) : (s.setFi x v).alloc = s.alloc := rfl
@[simp] theorem State.met_setFi (x : Fld) (v : Int) : (s.setFi x v).met = s.met := rfl
@[simp] theorem State.bill_setFi (x : Fld) (v : Int) : (s.setFi x v).bill = s.bill := rfl
@[simp] theorem State.sess_setFi (x : Fld) (v : Int) : (s.setFi x v).sess = s.sess := rfl
@[simp] theorem State.t1Req_setFi (x : Fld) (v : Int) : (s.setFi x v).t1Req = s.t1Req := rfl
@[simp] theorem State.ocpp_setFi (x : Fld) (v : Int) : (s.setFi x v).ocpp = s.ocpp := rfl
@[simp] theorem State.cool_setFi (x : Fld) (v : Int) : (s.setFi x v).cool = s.cool := rfl
@[simp] theorem State.buf_setFi (x : Fld) (v : Int) : (s.setFi x v).buf = s.buf := rfl
@[simp] theorem State.vault_setFi (x : Fld) (v : Int) : (s.setFi x v).vault = s.vault := rfl
@[simp] theorem State.sec_setFi (x : Fld) (v : Int) : (s.setFi x v).sec = s.sec := rfl
@[simp] theorem State.eng_setFi (x : Fld) (v : Int) (j : Nat) : (s.setFi x v).eng j = s.eng j := rfl
@[simp] theorem State.rdB_setFi (x : Fld) (v : Int) (a : Nat) : (s.setFi x v).rdB a = s.rdB a := rfl
@[simp] theorem State.queue_setFi (x : Fld) (v : Int) (i : QId) : (s.setFi x v).queue i = s.queue i := rfl
@[simp] theorem State.dt_setFi (x : Fld) (v : Int) : (s.setFi x v).dt = s.dt := rfl
@[simp] theorem State.period_setFi (x : Fld) (v : Int) (i j : Nat) : (s.setFi x v).period i j = s.period i j := rfl
@[simp] theorem State.tripped_setFi (x : Fld) (v : Int) (z : Scope) : (s.setFi x v).tripped z = s.tripped z := rfl

/-! ## `addSat` writes `fields` -/

@[simp] theorem State.now_addSat (x : Fld) (v : Nat) : (s.addSat x v).now = s.now := rfl
@[simp] theorem State.pending_addSat (x : Fld) (v : Nat) : (s.addSat x v).pending = s.pending := rfl
@[simp] theorem State.free_addSat (x : Fld) (v : Nat) : (s.addSat x v).free = s.free := rfl
@[simp] theorem State.mem_addSat (x : Fld) (v : Nat) : (s.addSat x v).mem = s.mem := rfl
@[simp] theorem State.ecc_addSat (x : Fld) (v : Nat) : (s.addSat x v).ecc = s.ecc := rfl
@[simp] theorem State.engs_addSat (x : Fld) (v : Nat) : (s.addSat x v).engs = s.engs := rfl
@[simp] theorem State.mailbox_addSat (x : Fld) (v : Nat) : (s.addSat x v).mailbox = s.mailbox := rfl
@[simp] theorem State.outIdx_addSat (x : Fld) (v : Nat) : (s.addSat x v).outIdx = s.outIdx := rfl
@[simp] theorem State.outbox_addSat (x : Fld) (v : Nat) : (s.addSat x v).outbox = s.outbox := rfl
@[simp] theorem State.notices_addSat (x : Fld) (v : Nat) : (s.addSat x v).notices = s.notices := rfl
@[simp] theorem State.periods_addSat (x : Fld) (v : Nat) : (s.addSat x v).periods = s.periods := rfl
@[simp] theorem State.trips_addSat (x : Fld) (v : Nat) : (s.addSat x v).trips = s.trips := rfl
@[simp] theorem State.dtNs_addSat (x : Fld) (v : Nat) : (s.addSat x v).dtNs = s.dtNs := rfl
@[simp] theorem State.dtFrac_addSat (x : Fld) (v : Nat) : (s.addSat x v).dtFrac = s.dtFrac := rfl
@[simp] theorem State.maq_addSat (x : Fld) (v : Nat) : (s.addSat x v).maq = s.maq := rfl
@[simp] theorem State.phus_addSat (x : Fld) (v : Nat) : (s.addSat x v).phus = s.phus := rfl
@[simp] theorem State.lanes_addSat (x : Fld) (v : Nat) : (s.addSat x v).lanes = s.lanes := rfl
@[simp] theorem State.conns_addSat (x : Fld) (v : Nat) : (s.addSat x v).conns = s.conns := rfl
@[simp] theorem State.dests_addSat (x : Fld) (v : Nat) : (s.addSat x v).dests = s.dests := rfl
@[simp] theorem State.coils_addSat (x : Fld) (v : Nat) : (s.addSat x v).coils = s.coils := rfl
@[simp] theorem State.coilsOff_addSat (x : Fld) (v : Nat) : (s.addSat x v).coilsOff = s.coilsOff := rfl
@[simp] theorem State.epoch_addSat (x : Fld) (v : Nat) : (s.addSat x v).epoch = s.epoch := rfl
@[simp] theorem State.gap_addSat (x : Fld) (v : Nat) : (s.addSat x v).gap = s.gap := rfl
@[simp] theorem State.held_addSat (x : Fld) (v : Nat) : (s.addSat x v).held = s.held := rfl
@[simp] theorem State.clk_addSat (x : Fld) (v : Nat) : (s.addSat x v).clk = s.clk := rfl
@[simp] theorem State.pwr_addSat (x : Fld) (v : Nat) : (s.addSat x v).pwr = s.pwr := rfl
@[simp] theorem State.mode_addSat (x : Fld) (v : Nat) : (s.addSat x v).mode = s.mode := rfl
@[simp] theorem State.ctl_addSat (x : Fld) (v : Nat) : (s.addSat x v).ctl = s.ctl := rfl
@[simp] theorem State.portCharge_addSat (x : Fld) (v : Nat) : (s.addSat x v).portCharge = s.portCharge := rfl
@[simp] theorem State.lsws_addSat (x : Fld) (v : Nat) : (s.addSat x v).lsws = s.lsws := rfl
@[simp] theorem State.lsExceeded_addSat (x : Fld) (v : Nat) : (s.addSat x v).lsExceeded = s.lsExceeded := rfl
@[simp] theorem State.shedNext_addSat (x : Fld) (v : Nat) : (s.addSat x v).shedNext = s.shedNext := rfl
@[simp] theorem State.lsPace_addSat (x : Fld) (v : Nat) : (s.addSat x v).lsPace = s.lsPace := rfl
@[simp] theorem State.vswLost_addSat (x : Fld) (v : Nat) : (s.addSat x v).vswLost = s.vswLost := rfl
@[simp] theorem State.net_addSat (x : Fld) (v : Nat) : (s.addSat x v).net = s.net := rfl
@[simp] theorem State.modbus_addSat (x : Fld) (v : Nat) : (s.addSat x v).modbus = s.modbus := rfl
@[simp] theorem State.cans_addSat (x : Fld) (v : Nat) : (s.addSat x v).cans = s.cans := rfl
@[simp] theorem State.plc_addSat (x : Fld) (v : Nat) : (s.addSat x v).plc = s.plc := rfl
@[simp] theorem State.answered_addSat (x : Fld) (v : Nat) : (s.addSat x v).answered = s.answered := rfl
@[simp] theorem State.alloc_addSat (x : Fld) (v : Nat) : (s.addSat x v).alloc = s.alloc := rfl
@[simp] theorem State.met_addSat (x : Fld) (v : Nat) : (s.addSat x v).met = s.met := rfl
@[simp] theorem State.bill_addSat (x : Fld) (v : Nat) : (s.addSat x v).bill = s.bill := rfl
@[simp] theorem State.sess_addSat (x : Fld) (v : Nat) : (s.addSat x v).sess = s.sess := rfl
@[simp] theorem State.t1Req_addSat (x : Fld) (v : Nat) : (s.addSat x v).t1Req = s.t1Req := rfl
@[simp] theorem State.ocpp_addSat (x : Fld) (v : Nat) : (s.addSat x v).ocpp = s.ocpp := rfl
@[simp] theorem State.cool_addSat (x : Fld) (v : Nat) : (s.addSat x v).cool = s.cool := rfl
@[simp] theorem State.buf_addSat (x : Fld) (v : Nat) : (s.addSat x v).buf = s.buf := rfl
@[simp] theorem State.vault_addSat (x : Fld) (v : Nat) : (s.addSat x v).vault = s.vault := rfl
@[simp] theorem State.sec_addSat (x : Fld) (v : Nat) : (s.addSat x v).sec = s.sec := rfl
@[simp] theorem State.eng_addSat (x : Fld) (v : Nat) (j : Nat) : (s.addSat x v).eng j = s.eng j := rfl
@[simp] theorem State.rdB_addSat (x : Fld) (v : Nat) (a : Nat) : (s.addSat x v).rdB a = s.rdB a := rfl
@[simp] theorem State.queue_addSat (x : Fld) (v : Nat) (i : QId) : (s.addSat x v).queue i = s.queue i := rfl
@[simp] theorem State.dt_addSat (x : Fld) (v : Nat) : (s.addSat x v).dt = s.dt := rfl
@[simp] theorem State.period_addSat (x : Fld) (v : Nat) (i j : Nat) : (s.addSat x v).period i j = s.period i j := rfl
@[simp] theorem State.tripped_addSat (x : Fld) (v : Nat) (z : Scope) : (s.addSat x v).tripped z = s.tripped z := rfl

/-! ## `addWrap` writes `fields` -/

@[simp] theorem State.now_addWrap (x : Fld) (v : Nat) : (s.addWrap x v).now = s.now := rfl
@[simp] theorem State.pending_addWrap (x : Fld) (v : Nat) : (s.addWrap x v).pending = s.pending := rfl
@[simp] theorem State.free_addWrap (x : Fld) (v : Nat) : (s.addWrap x v).free = s.free := rfl
@[simp] theorem State.mem_addWrap (x : Fld) (v : Nat) : (s.addWrap x v).mem = s.mem := rfl
@[simp] theorem State.ecc_addWrap (x : Fld) (v : Nat) : (s.addWrap x v).ecc = s.ecc := rfl
@[simp] theorem State.engs_addWrap (x : Fld) (v : Nat) : (s.addWrap x v).engs = s.engs := rfl
@[simp] theorem State.mailbox_addWrap (x : Fld) (v : Nat) : (s.addWrap x v).mailbox = s.mailbox := rfl
@[simp] theorem State.outIdx_addWrap (x : Fld) (v : Nat) : (s.addWrap x v).outIdx = s.outIdx := rfl
@[simp] theorem State.outbox_addWrap (x : Fld) (v : Nat) : (s.addWrap x v).outbox = s.outbox := rfl
@[simp] theorem State.notices_addWrap (x : Fld) (v : Nat) : (s.addWrap x v).notices = s.notices := rfl
@[simp] theorem State.periods_addWrap (x : Fld) (v : Nat) : (s.addWrap x v).periods = s.periods := rfl
@[simp] theorem State.trips_addWrap (x : Fld) (v : Nat) : (s.addWrap x v).trips = s.trips := rfl
@[simp] theorem State.dtNs_addWrap (x : Fld) (v : Nat) : (s.addWrap x v).dtNs = s.dtNs := rfl
@[simp] theorem State.dtFrac_addWrap (x : Fld) (v : Nat) : (s.addWrap x v).dtFrac = s.dtFrac := rfl
@[simp] theorem State.maq_addWrap (x : Fld) (v : Nat) : (s.addWrap x v).maq = s.maq := rfl
@[simp] theorem State.phus_addWrap (x : Fld) (v : Nat) : (s.addWrap x v).phus = s.phus := rfl
@[simp] theorem State.lanes_addWrap (x : Fld) (v : Nat) : (s.addWrap x v).lanes = s.lanes := rfl
@[simp] theorem State.conns_addWrap (x : Fld) (v : Nat) : (s.addWrap x v).conns = s.conns := rfl
@[simp] theorem State.dests_addWrap (x : Fld) (v : Nat) : (s.addWrap x v).dests = s.dests := rfl
@[simp] theorem State.coils_addWrap (x : Fld) (v : Nat) : (s.addWrap x v).coils = s.coils := rfl
@[simp] theorem State.coilsOff_addWrap (x : Fld) (v : Nat) : (s.addWrap x v).coilsOff = s.coilsOff := rfl
@[simp] theorem State.epoch_addWrap (x : Fld) (v : Nat) : (s.addWrap x v).epoch = s.epoch := rfl
@[simp] theorem State.gap_addWrap (x : Fld) (v : Nat) : (s.addWrap x v).gap = s.gap := rfl
@[simp] theorem State.held_addWrap (x : Fld) (v : Nat) : (s.addWrap x v).held = s.held := rfl
@[simp] theorem State.clk_addWrap (x : Fld) (v : Nat) : (s.addWrap x v).clk = s.clk := rfl
@[simp] theorem State.pwr_addWrap (x : Fld) (v : Nat) : (s.addWrap x v).pwr = s.pwr := rfl
@[simp] theorem State.mode_addWrap (x : Fld) (v : Nat) : (s.addWrap x v).mode = s.mode := rfl
@[simp] theorem State.ctl_addWrap (x : Fld) (v : Nat) : (s.addWrap x v).ctl = s.ctl := rfl
@[simp] theorem State.portCharge_addWrap (x : Fld) (v : Nat) : (s.addWrap x v).portCharge = s.portCharge := rfl
@[simp] theorem State.lsws_addWrap (x : Fld) (v : Nat) : (s.addWrap x v).lsws = s.lsws := rfl
@[simp] theorem State.lsExceeded_addWrap (x : Fld) (v : Nat) : (s.addWrap x v).lsExceeded = s.lsExceeded := rfl
@[simp] theorem State.shedNext_addWrap (x : Fld) (v : Nat) : (s.addWrap x v).shedNext = s.shedNext := rfl
@[simp] theorem State.lsPace_addWrap (x : Fld) (v : Nat) : (s.addWrap x v).lsPace = s.lsPace := rfl
@[simp] theorem State.vswLost_addWrap (x : Fld) (v : Nat) : (s.addWrap x v).vswLost = s.vswLost := rfl
@[simp] theorem State.net_addWrap (x : Fld) (v : Nat) : (s.addWrap x v).net = s.net := rfl
@[simp] theorem State.modbus_addWrap (x : Fld) (v : Nat) : (s.addWrap x v).modbus = s.modbus := rfl
@[simp] theorem State.cans_addWrap (x : Fld) (v : Nat) : (s.addWrap x v).cans = s.cans := rfl
@[simp] theorem State.plc_addWrap (x : Fld) (v : Nat) : (s.addWrap x v).plc = s.plc := rfl
@[simp] theorem State.answered_addWrap (x : Fld) (v : Nat) : (s.addWrap x v).answered = s.answered := rfl
@[simp] theorem State.alloc_addWrap (x : Fld) (v : Nat) : (s.addWrap x v).alloc = s.alloc := rfl
@[simp] theorem State.met_addWrap (x : Fld) (v : Nat) : (s.addWrap x v).met = s.met := rfl
@[simp] theorem State.bill_addWrap (x : Fld) (v : Nat) : (s.addWrap x v).bill = s.bill := rfl
@[simp] theorem State.sess_addWrap (x : Fld) (v : Nat) : (s.addWrap x v).sess = s.sess := rfl
@[simp] theorem State.t1Req_addWrap (x : Fld) (v : Nat) : (s.addWrap x v).t1Req = s.t1Req := rfl
@[simp] theorem State.ocpp_addWrap (x : Fld) (v : Nat) : (s.addWrap x v).ocpp = s.ocpp := rfl
@[simp] theorem State.cool_addWrap (x : Fld) (v : Nat) : (s.addWrap x v).cool = s.cool := rfl
@[simp] theorem State.buf_addWrap (x : Fld) (v : Nat) : (s.addWrap x v).buf = s.buf := rfl
@[simp] theorem State.vault_addWrap (x : Fld) (v : Nat) : (s.addWrap x v).vault = s.vault := rfl
@[simp] theorem State.sec_addWrap (x : Fld) (v : Nat) : (s.addWrap x v).sec = s.sec := rfl
@[simp] theorem State.eng_addWrap (x : Fld) (v : Nat) (j : Nat) : (s.addWrap x v).eng j = s.eng j := rfl
@[simp] theorem State.rdB_addWrap (x : Fld) (v : Nat) (a : Nat) : (s.addWrap x v).rdB a = s.rdB a := rfl
@[simp] theorem State.queue_addWrap (x : Fld) (v : Nat) (i : QId) : (s.addWrap x v).queue i = s.queue i := rfl
@[simp] theorem State.dt_addWrap (x : Fld) (v : Nat) : (s.addWrap x v).dt = s.dt := rfl
@[simp] theorem State.period_addWrap (x : Fld) (v : Nat) (i j : Nat) : (s.addWrap x v).period i j = s.period i j := rfl
@[simp] theorem State.tripped_addWrap (x : Fld) (v : Nat) (z : Scope) : (s.addWrap x v).tripped z = s.tripped z := rfl

/-! ## `setEng` writes `engs` -/

@[simp] theorem State.now_setEng (e : Nat) (n : Engine) : (s.setEng e n).now = s.now := rfl
@[simp] theorem State.pending_setEng (e : Nat) (n : Engine) : (s.setEng e n).pending = s.pending := rfl
@[simp] theorem State.free_setEng (e : Nat) (n : Engine) : (s.setEng e n).free = s.free := rfl
@[simp] theorem State.fields_setEng (e : Nat) (n : Engine) : (s.setEng e n).fields = s.fields := rfl
@[simp] theorem State.mem_setEng (e : Nat) (n : Engine) : (s.setEng e n).mem = s.mem := rfl
@[simp] theorem State.ecc_setEng (e : Nat) (n : Engine) : (s.setEng e n).ecc = s.ecc := rfl
@[simp] theorem State.mailbox_setEng (e : Nat) (n : Engine) : (s.setEng e n).mailbox = s.mailbox := rfl
@[simp] theorem State.outIdx_setEng (e : Nat) (n : Engine) : (s.setEng e n).outIdx = s.outIdx := rfl
@[simp] theorem State.outbox_setEng (e : Nat) (n : Engine) : (s.setEng e n).outbox = s.outbox := rfl
@[simp] theorem State.notices_setEng (e : Nat) (n : Engine) : (s.setEng e n).notices = s.notices := rfl
@[simp] theorem State.periods_setEng (e : Nat) (n : Engine) : (s.setEng e n).periods = s.periods := rfl
@[simp] theorem State.trips_setEng (e : Nat) (n : Engine) : (s.setEng e n).trips = s.trips := rfl
@[simp] theorem State.dtNs_setEng (e : Nat) (n : Engine) : (s.setEng e n).dtNs = s.dtNs := rfl
@[simp] theorem State.dtFrac_setEng (e : Nat) (n : Engine) : (s.setEng e n).dtFrac = s.dtFrac := rfl
@[simp] theorem State.maq_setEng (e : Nat) (n : Engine) : (s.setEng e n).maq = s.maq := rfl
@[simp] theorem State.phus_setEng (e : Nat) (n : Engine) : (s.setEng e n).phus = s.phus := rfl
@[simp] theorem State.lanes_setEng (e : Nat) (n : Engine) : (s.setEng e n).lanes = s.lanes := rfl
@[simp] theorem State.conns_setEng (e : Nat) (n : Engine) : (s.setEng e n).conns = s.conns := rfl
@[simp] theorem State.dests_setEng (e : Nat) (n : Engine) : (s.setEng e n).dests = s.dests := rfl
@[simp] theorem State.coils_setEng (e : Nat) (n : Engine) : (s.setEng e n).coils = s.coils := rfl
@[simp] theorem State.coilsOff_setEng (e : Nat) (n : Engine) : (s.setEng e n).coilsOff = s.coilsOff := rfl
@[simp] theorem State.epoch_setEng (e : Nat) (n : Engine) : (s.setEng e n).epoch = s.epoch := rfl
@[simp] theorem State.gap_setEng (e : Nat) (n : Engine) : (s.setEng e n).gap = s.gap := rfl
@[simp] theorem State.held_setEng (e : Nat) (n : Engine) : (s.setEng e n).held = s.held := rfl
@[simp] theorem State.clk_setEng (e : Nat) (n : Engine) : (s.setEng e n).clk = s.clk := rfl
@[simp] theorem State.pwr_setEng (e : Nat) (n : Engine) : (s.setEng e n).pwr = s.pwr := rfl
@[simp] theorem State.mode_setEng (e : Nat) (n : Engine) : (s.setEng e n).mode = s.mode := rfl
@[simp] theorem State.ctl_setEng (e : Nat) (n : Engine) : (s.setEng e n).ctl = s.ctl := rfl
@[simp] theorem State.portCharge_setEng (e : Nat) (n : Engine) : (s.setEng e n).portCharge = s.portCharge := rfl
@[simp] theorem State.lsws_setEng (e : Nat) (n : Engine) : (s.setEng e n).lsws = s.lsws := rfl
@[simp] theorem State.lsExceeded_setEng (e : Nat) (n : Engine) : (s.setEng e n).lsExceeded = s.lsExceeded := rfl
@[simp] theorem State.shedNext_setEng (e : Nat) (n : Engine) : (s.setEng e n).shedNext = s.shedNext := rfl
@[simp] theorem State.lsPace_setEng (e : Nat) (n : Engine) : (s.setEng e n).lsPace = s.lsPace := rfl
@[simp] theorem State.vswLost_setEng (e : Nat) (n : Engine) : (s.setEng e n).vswLost = s.vswLost := rfl
@[simp] theorem State.net_setEng (e : Nat) (n : Engine) : (s.setEng e n).net = s.net := rfl
@[simp] theorem State.modbus_setEng (e : Nat) (n : Engine) : (s.setEng e n).modbus = s.modbus := rfl
@[simp] theorem State.cans_setEng (e : Nat) (n : Engine) : (s.setEng e n).cans = s.cans := rfl
@[simp] theorem State.plc_setEng (e : Nat) (n : Engine) : (s.setEng e n).plc = s.plc := rfl
@[simp] theorem State.answered_setEng (e : Nat) (n : Engine) : (s.setEng e n).answered = s.answered := rfl
@[simp] theorem State.alloc_setEng (e : Nat) (n : Engine) : (s.setEng e n).alloc = s.alloc := rfl
@[simp] theorem State.met_setEng (e : Nat) (n : Engine) : (s.setEng e n).met = s.met := rfl
@[simp] theorem State.bill_setEng (e : Nat) (n : Engine) : (s.setEng e n).bill = s.bill := rfl
@[simp] theorem State.sess_setEng (e : Nat) (n : Engine) : (s.setEng e n).sess = s.sess := rfl
@[simp] theorem State.t1Req_setEng (e : Nat) (n : Engine) : (s.setEng e n).t1Req = s.t1Req := rfl
@[simp] theorem State.ocpp_setEng (e : Nat) (n : Engine) : (s.setEng e n).ocpp = s.ocpp := rfl
@[simp] theorem State.cool_setEng (e : Nat) (n : Engine) : (s.setEng e n).cool = s.cool := rfl
@[simp] theorem State.buf_setEng (e : Nat) (n : Engine) : (s.setEng e n).buf = s.buf := rfl
@[simp] theorem State.vault_setEng (e : Nat) (n : Engine) : (s.setEng e n).vault = s.vault := rfl
@[simp] theorem State.sec_setEng (e : Nat) (n : Engine) : (s.setEng e n).sec = s.sec := rfl
@[simp] theorem State.fi_setEng (e : Nat) (n : Engine) (y : Fld) : (s.setEng e n).fi y = s.fi y := rfl
@[simp] theorem State.rdB_setEng (e : Nat) (n : Engine) (a : Nat) : (s.setEng e n).rdB a = s.rdB a := rfl
@[simp] theorem State.dt_setEng (e : Nat) (n : Engine) : (s.setEng e n).dt = s.dt := rfl
@[simp] theorem State.period_setEng (e : Nat) (n : Engine) (i j : Nat) : (s.setEng e n).period i j = s.period i j := rfl
@[simp] theorem State.tripped_setEng (e : Nat) (n : Engine) (z : Scope) : (s.setEng e n).tripped z = s.tripped z := rfl

/-! ## `setSlot` writes `engs` -/

@[simp] theorem State.now_setSlot (e k : Nat) (x : Slot) : (s.setSlot e k x).now = s.now := rfl
@[simp] theorem State.pending_setSlot (e k : Nat) (x : Slot) : (s.setSlot e k x).pending = s.pending := rfl
@[simp] theorem State.free_setSlot (e k : Nat) (x : Slot) : (s.setSlot e k x).free = s.free := rfl
@[simp] theorem State.fields_setSlot (e k : Nat) (x : Slot) : (s.setSlot e k x).fields = s.fields := rfl
@[simp] theorem State.mem_setSlot (e k : Nat) (x : Slot) : (s.setSlot e k x).mem = s.mem := rfl
@[simp] theorem State.ecc_setSlot (e k : Nat) (x : Slot) : (s.setSlot e k x).ecc = s.ecc := rfl
@[simp] theorem State.mailbox_setSlot (e k : Nat) (x : Slot) : (s.setSlot e k x).mailbox = s.mailbox := rfl
@[simp] theorem State.outIdx_setSlot (e k : Nat) (x : Slot) : (s.setSlot e k x).outIdx = s.outIdx := rfl
@[simp] theorem State.outbox_setSlot (e k : Nat) (x : Slot) : (s.setSlot e k x).outbox = s.outbox := rfl
@[simp] theorem State.notices_setSlot (e k : Nat) (x : Slot) : (s.setSlot e k x).notices = s.notices := rfl
@[simp] theorem State.periods_setSlot (e k : Nat) (x : Slot) : (s.setSlot e k x).periods = s.periods := rfl
@[simp] theorem State.trips_setSlot (e k : Nat) (x : Slot) : (s.setSlot e k x).trips = s.trips := rfl
@[simp] theorem State.dtNs_setSlot (e k : Nat) (x : Slot) : (s.setSlot e k x).dtNs = s.dtNs := rfl
@[simp] theorem State.dtFrac_setSlot (e k : Nat) (x : Slot) : (s.setSlot e k x).dtFrac = s.dtFrac := rfl
@[simp] theorem State.maq_setSlot (e k : Nat) (x : Slot) : (s.setSlot e k x).maq = s.maq := rfl
@[simp] theorem State.phus_setSlot (e k : Nat) (x : Slot) : (s.setSlot e k x).phus = s.phus := rfl
@[simp] theorem State.lanes_setSlot (e k : Nat) (x : Slot) : (s.setSlot e k x).lanes = s.lanes := rfl
@[simp] theorem State.conns_setSlot (e k : Nat) (x : Slot) : (s.setSlot e k x).conns = s.conns := rfl
@[simp] theorem State.dests_setSlot (e k : Nat) (x : Slot) : (s.setSlot e k x).dests = s.dests := rfl
@[simp] theorem State.coils_setSlot (e k : Nat) (x : Slot) : (s.setSlot e k x).coils = s.coils := rfl
@[simp] theorem State.coilsOff_setSlot (e k : Nat) (x : Slot) : (s.setSlot e k x).coilsOff = s.coilsOff := rfl
@[simp] theorem State.epoch_setSlot (e k : Nat) (x : Slot) : (s.setSlot e k x).epoch = s.epoch := rfl
@[simp] theorem State.gap_setSlot (e k : Nat) (x : Slot) : (s.setSlot e k x).gap = s.gap := rfl
@[simp] theorem State.held_setSlot (e k : Nat) (x : Slot) : (s.setSlot e k x).held = s.held := rfl
@[simp] theorem State.clk_setSlot (e k : Nat) (x : Slot) : (s.setSlot e k x).clk = s.clk := rfl
@[simp] theorem State.pwr_setSlot (e k : Nat) (x : Slot) : (s.setSlot e k x).pwr = s.pwr := rfl
@[simp] theorem State.mode_setSlot (e k : Nat) (x : Slot) : (s.setSlot e k x).mode = s.mode := rfl
@[simp] theorem State.ctl_setSlot (e k : Nat) (x : Slot) : (s.setSlot e k x).ctl = s.ctl := rfl
@[simp] theorem State.portCharge_setSlot (e k : Nat) (x : Slot) : (s.setSlot e k x).portCharge = s.portCharge := rfl
@[simp] theorem State.lsws_setSlot (e k : Nat) (x : Slot) : (s.setSlot e k x).lsws = s.lsws := rfl
@[simp] theorem State.lsExceeded_setSlot (e k : Nat) (x : Slot) : (s.setSlot e k x).lsExceeded = s.lsExceeded := rfl
@[simp] theorem State.shedNext_setSlot (e k : Nat) (x : Slot) : (s.setSlot e k x).shedNext = s.shedNext := rfl
@[simp] theorem State.lsPace_setSlot (e k : Nat) (x : Slot) : (s.setSlot e k x).lsPace = s.lsPace := rfl
@[simp] theorem State.vswLost_setSlot (e k : Nat) (x : Slot) : (s.setSlot e k x).vswLost = s.vswLost := rfl
@[simp] theorem State.net_setSlot (e k : Nat) (x : Slot) : (s.setSlot e k x).net = s.net := rfl
@[simp] theorem State.modbus_setSlot (e k : Nat) (x : Slot) : (s.setSlot e k x).modbus = s.modbus := rfl
@[simp] theorem State.cans_setSlot (e k : Nat) (x : Slot) : (s.setSlot e k x).cans = s.cans := rfl
@[simp] theorem State.plc_setSlot (e k : Nat) (x : Slot) : (s.setSlot e k x).plc = s.plc := rfl
@[simp] theorem State.answered_setSlot (e k : Nat) (x : Slot) : (s.setSlot e k x).answered = s.answered := rfl
@[simp] theorem State.alloc_setSlot (e k : Nat) (x : Slot) : (s.setSlot e k x).alloc = s.alloc := rfl
@[simp] theorem State.met_setSlot (e k : Nat) (x : Slot) : (s.setSlot e k x).met = s.met := rfl
@[simp] theorem State.bill_setSlot (e k : Nat) (x : Slot) : (s.setSlot e k x).bill = s.bill := rfl
@[simp] theorem State.sess_setSlot (e k : Nat) (x : Slot) : (s.setSlot e k x).sess = s.sess := rfl
@[simp] theorem State.t1Req_setSlot (e k : Nat) (x : Slot) : (s.setSlot e k x).t1Req = s.t1Req := rfl
@[simp] theorem State.ocpp_setSlot (e k : Nat) (x : Slot) : (s.setSlot e k x).ocpp = s.ocpp := rfl
@[simp] theorem State.cool_setSlot (e k : Nat) (x : Slot) : (s.setSlot e k x).cool = s.cool := rfl
@[simp] theorem State.buf_setSlot (e k : Nat) (x : Slot) : (s.setSlot e k x).buf = s.buf := rfl
@[simp] theorem State.vault_setSlot (e k : Nat) (x : Slot) : (s.setSlot e k x).vault = s.vault := rfl
@[simp] theorem State.sec_setSlot (e k : Nat) (x : Slot) : (s.setSlot e k x).sec = s.sec := rfl
@[simp] theorem State.f_setSlot (e k : Nat) (x : Slot) (y : Fld) : (s.setSlot e k x).f y = s.f y := rfl
@[simp] theorem State.fb_setSlot (e k : Nat) (x : Slot) (y : Fld) : (s.setSlot e k x).fb y = s.fb y := rfl
@[simp] theorem State.fi_setSlot (e k : Nat) (x : Slot) (y : Fld) : (s.setSlot e k x).fi y = s.fi y := rfl
@[simp] theorem State.rdB_setSlot (e k : Nat) (x : Slot) (a : Nat) : (s.setSlot e k x).rdB a = s.rdB a := rfl
@[simp] theorem State.dt_setSlot (e k : Nat) (x : Slot) : (s.setSlot e k x).dt = s.dt := rfl
@[simp] theorem State.period_setSlot (e k : Nat) (x : Slot) (i j : Nat) : (s.setSlot e k x).period i j = s.period i j := rfl
@[simp] theorem State.tripped_setSlot (e k : Nat) (x : Slot) (z : Scope) : (s.setSlot e k x).tripped z = s.tripped z := rfl

/-! ## `wrB` writes `mem` and `ecc` -/

@[simp] theorem State.now_wrB (k : Nat) (b : Byte) : (s.wrB k b).now = s.now := rfl
@[simp] theorem State.pending_wrB (k : Nat) (b : Byte) : (s.wrB k b).pending = s.pending := rfl
@[simp] theorem State.free_wrB (k : Nat) (b : Byte) : (s.wrB k b).free = s.free := rfl
@[simp] theorem State.fields_wrB (k : Nat) (b : Byte) : (s.wrB k b).fields = s.fields := rfl
@[simp] theorem State.engs_wrB (k : Nat) (b : Byte) : (s.wrB k b).engs = s.engs := rfl
@[simp] theorem State.mailbox_wrB (k : Nat) (b : Byte) : (s.wrB k b).mailbox = s.mailbox := rfl
@[simp] theorem State.outIdx_wrB (k : Nat) (b : Byte) : (s.wrB k b).outIdx = s.outIdx := rfl
@[simp] theorem State.outbox_wrB (k : Nat) (b : Byte) : (s.wrB k b).outbox = s.outbox := rfl
@[simp] theorem State.notices_wrB (k : Nat) (b : Byte) : (s.wrB k b).notices = s.notices := rfl
@[simp] theorem State.periods_wrB (k : Nat) (b : Byte) : (s.wrB k b).periods = s.periods := rfl
@[simp] theorem State.trips_wrB (k : Nat) (b : Byte) : (s.wrB k b).trips = s.trips := rfl
@[simp] theorem State.dtNs_wrB (k : Nat) (b : Byte) : (s.wrB k b).dtNs = s.dtNs := rfl
@[simp] theorem State.dtFrac_wrB (k : Nat) (b : Byte) : (s.wrB k b).dtFrac = s.dtFrac := rfl
@[simp] theorem State.maq_wrB (k : Nat) (b : Byte) : (s.wrB k b).maq = s.maq := rfl
@[simp] theorem State.phus_wrB (k : Nat) (b : Byte) : (s.wrB k b).phus = s.phus := rfl
@[simp] theorem State.lanes_wrB (k : Nat) (b : Byte) : (s.wrB k b).lanes = s.lanes := rfl
@[simp] theorem State.conns_wrB (k : Nat) (b : Byte) : (s.wrB k b).conns = s.conns := rfl
@[simp] theorem State.dests_wrB (k : Nat) (b : Byte) : (s.wrB k b).dests = s.dests := rfl
@[simp] theorem State.coils_wrB (k : Nat) (b : Byte) : (s.wrB k b).coils = s.coils := rfl
@[simp] theorem State.coilsOff_wrB (k : Nat) (b : Byte) : (s.wrB k b).coilsOff = s.coilsOff := rfl
@[simp] theorem State.epoch_wrB (k : Nat) (b : Byte) : (s.wrB k b).epoch = s.epoch := rfl
@[simp] theorem State.gap_wrB (k : Nat) (b : Byte) : (s.wrB k b).gap = s.gap := rfl
@[simp] theorem State.held_wrB (k : Nat) (b : Byte) : (s.wrB k b).held = s.held := rfl
@[simp] theorem State.clk_wrB (k : Nat) (b : Byte) : (s.wrB k b).clk = s.clk := rfl
@[simp] theorem State.pwr_wrB (k : Nat) (b : Byte) : (s.wrB k b).pwr = s.pwr := rfl
@[simp] theorem State.mode_wrB (k : Nat) (b : Byte) : (s.wrB k b).mode = s.mode := rfl
@[simp] theorem State.ctl_wrB (k : Nat) (b : Byte) : (s.wrB k b).ctl = s.ctl := rfl
@[simp] theorem State.portCharge_wrB (k : Nat) (b : Byte) : (s.wrB k b).portCharge = s.portCharge := rfl
@[simp] theorem State.lsws_wrB (k : Nat) (b : Byte) : (s.wrB k b).lsws = s.lsws := rfl
@[simp] theorem State.lsExceeded_wrB (k : Nat) (b : Byte) : (s.wrB k b).lsExceeded = s.lsExceeded := rfl
@[simp] theorem State.shedNext_wrB (k : Nat) (b : Byte) : (s.wrB k b).shedNext = s.shedNext := rfl
@[simp] theorem State.lsPace_wrB (k : Nat) (b : Byte) : (s.wrB k b).lsPace = s.lsPace := rfl
@[simp] theorem State.vswLost_wrB (k : Nat) (b : Byte) : (s.wrB k b).vswLost = s.vswLost := rfl
@[simp] theorem State.net_wrB (k : Nat) (b : Byte) : (s.wrB k b).net = s.net := rfl
@[simp] theorem State.modbus_wrB (k : Nat) (b : Byte) : (s.wrB k b).modbus = s.modbus := rfl
@[simp] theorem State.cans_wrB (k : Nat) (b : Byte) : (s.wrB k b).cans = s.cans := rfl
@[simp] theorem State.plc_wrB (k : Nat) (b : Byte) : (s.wrB k b).plc = s.plc := rfl
@[simp] theorem State.answered_wrB (k : Nat) (b : Byte) : (s.wrB k b).answered = s.answered := rfl
@[simp] theorem State.alloc_wrB (k : Nat) (b : Byte) : (s.wrB k b).alloc = s.alloc := rfl
@[simp] theorem State.met_wrB (k : Nat) (b : Byte) : (s.wrB k b).met = s.met := rfl
@[simp] theorem State.bill_wrB (k : Nat) (b : Byte) : (s.wrB k b).bill = s.bill := rfl
@[simp] theorem State.sess_wrB (k : Nat) (b : Byte) : (s.wrB k b).sess = s.sess := rfl
@[simp] theorem State.t1Req_wrB (k : Nat) (b : Byte) : (s.wrB k b).t1Req = s.t1Req := rfl
@[simp] theorem State.ocpp_wrB (k : Nat) (b : Byte) : (s.wrB k b).ocpp = s.ocpp := rfl
@[simp] theorem State.cool_wrB (k : Nat) (b : Byte) : (s.wrB k b).cool = s.cool := rfl
@[simp] theorem State.buf_wrB (k : Nat) (b : Byte) : (s.wrB k b).buf = s.buf := rfl
@[simp] theorem State.vault_wrB (k : Nat) (b : Byte) : (s.wrB k b).vault = s.vault := rfl
@[simp] theorem State.sec_wrB (k : Nat) (b : Byte) : (s.wrB k b).sec = s.sec := rfl
@[simp] theorem State.f_wrB (k : Nat) (b : Byte) (y : Fld) : (s.wrB k b).f y = s.f y := rfl
@[simp] theorem State.fb_wrB (k : Nat) (b : Byte) (y : Fld) : (s.wrB k b).fb y = s.fb y := rfl
@[simp] theorem State.fi_wrB (k : Nat) (b : Byte) (y : Fld) : (s.wrB k b).fi y = s.fi y := rfl
@[simp] theorem State.eng_wrB (k : Nat) (b : Byte) (j : Nat) : (s.wrB k b).eng j = s.eng j := rfl
@[simp] theorem State.queue_wrB (k : Nat) (b : Byte) (i : QId) : (s.wrB k b).queue i = s.queue i := rfl
@[simp] theorem State.dt_wrB (k : Nat) (b : Byte) : (s.wrB k b).dt = s.dt := rfl
@[simp] theorem State.period_wrB (k : Nat) (b : Byte) (i j : Nat) : (s.wrB k b).period i j = s.period i j := rfl
@[simp] theorem State.tripped_wrB (k : Nat) (b : Byte) (z : Scope) : (s.wrB k b).tripped z = s.tripped z := rfl

/-! ## `clearMem` writes `mem` and `ecc` -/

@[simp] theorem State.now_clearMem (lo hi : Nat) : (s.clearMem lo hi).now = s.now := rfl
@[simp] theorem State.pending_clearMem (lo hi : Nat) : (s.clearMem lo hi).pending = s.pending := rfl
@[simp] theorem State.free_clearMem (lo hi : Nat) : (s.clearMem lo hi).free = s.free := rfl
@[simp] theorem State.fields_clearMem (lo hi : Nat) : (s.clearMem lo hi).fields = s.fields := rfl
@[simp] theorem State.engs_clearMem (lo hi : Nat) : (s.clearMem lo hi).engs = s.engs := rfl
@[simp] theorem State.mailbox_clearMem (lo hi : Nat) : (s.clearMem lo hi).mailbox = s.mailbox := rfl
@[simp] theorem State.outIdx_clearMem (lo hi : Nat) : (s.clearMem lo hi).outIdx = s.outIdx := rfl
@[simp] theorem State.outbox_clearMem (lo hi : Nat) : (s.clearMem lo hi).outbox = s.outbox := rfl
@[simp] theorem State.notices_clearMem (lo hi : Nat) : (s.clearMem lo hi).notices = s.notices := rfl
@[simp] theorem State.periods_clearMem (lo hi : Nat) : (s.clearMem lo hi).periods = s.periods := rfl
@[simp] theorem State.trips_clearMem (lo hi : Nat) : (s.clearMem lo hi).trips = s.trips := rfl
@[simp] theorem State.dtNs_clearMem (lo hi : Nat) : (s.clearMem lo hi).dtNs = s.dtNs := rfl
@[simp] theorem State.dtFrac_clearMem (lo hi : Nat) : (s.clearMem lo hi).dtFrac = s.dtFrac := rfl
@[simp] theorem State.maq_clearMem (lo hi : Nat) : (s.clearMem lo hi).maq = s.maq := rfl
@[simp] theorem State.phus_clearMem (lo hi : Nat) : (s.clearMem lo hi).phus = s.phus := rfl
@[simp] theorem State.lanes_clearMem (lo hi : Nat) : (s.clearMem lo hi).lanes = s.lanes := rfl
@[simp] theorem State.conns_clearMem (lo hi : Nat) : (s.clearMem lo hi).conns = s.conns := rfl
@[simp] theorem State.dests_clearMem (lo hi : Nat) : (s.clearMem lo hi).dests = s.dests := rfl
@[simp] theorem State.coils_clearMem (lo hi : Nat) : (s.clearMem lo hi).coils = s.coils := rfl
@[simp] theorem State.coilsOff_clearMem (lo hi : Nat) : (s.clearMem lo hi).coilsOff = s.coilsOff := rfl
@[simp] theorem State.epoch_clearMem (lo hi : Nat) : (s.clearMem lo hi).epoch = s.epoch := rfl
@[simp] theorem State.gap_clearMem (lo hi : Nat) : (s.clearMem lo hi).gap = s.gap := rfl
@[simp] theorem State.held_clearMem (lo hi : Nat) : (s.clearMem lo hi).held = s.held := rfl
@[simp] theorem State.clk_clearMem (lo hi : Nat) : (s.clearMem lo hi).clk = s.clk := rfl
@[simp] theorem State.pwr_clearMem (lo hi : Nat) : (s.clearMem lo hi).pwr = s.pwr := rfl
@[simp] theorem State.mode_clearMem (lo hi : Nat) : (s.clearMem lo hi).mode = s.mode := rfl
@[simp] theorem State.ctl_clearMem (lo hi : Nat) : (s.clearMem lo hi).ctl = s.ctl := rfl
@[simp] theorem State.portCharge_clearMem (lo hi : Nat) : (s.clearMem lo hi).portCharge = s.portCharge := rfl
@[simp] theorem State.lsws_clearMem (lo hi : Nat) : (s.clearMem lo hi).lsws = s.lsws := rfl
@[simp] theorem State.lsExceeded_clearMem (lo hi : Nat) : (s.clearMem lo hi).lsExceeded = s.lsExceeded := rfl
@[simp] theorem State.shedNext_clearMem (lo hi : Nat) : (s.clearMem lo hi).shedNext = s.shedNext := rfl
@[simp] theorem State.lsPace_clearMem (lo hi : Nat) : (s.clearMem lo hi).lsPace = s.lsPace := rfl
@[simp] theorem State.vswLost_clearMem (lo hi : Nat) : (s.clearMem lo hi).vswLost = s.vswLost := rfl
@[simp] theorem State.net_clearMem (lo hi : Nat) : (s.clearMem lo hi).net = s.net := rfl
@[simp] theorem State.modbus_clearMem (lo hi : Nat) : (s.clearMem lo hi).modbus = s.modbus := rfl
@[simp] theorem State.cans_clearMem (lo hi : Nat) : (s.clearMem lo hi).cans = s.cans := rfl
@[simp] theorem State.plc_clearMem (lo hi : Nat) : (s.clearMem lo hi).plc = s.plc := rfl
@[simp] theorem State.answered_clearMem (lo hi : Nat) : (s.clearMem lo hi).answered = s.answered := rfl
@[simp] theorem State.alloc_clearMem (lo hi : Nat) : (s.clearMem lo hi).alloc = s.alloc := rfl
@[simp] theorem State.met_clearMem (lo hi : Nat) : (s.clearMem lo hi).met = s.met := rfl
@[simp] theorem State.bill_clearMem (lo hi : Nat) : (s.clearMem lo hi).bill = s.bill := rfl
@[simp] theorem State.sess_clearMem (lo hi : Nat) : (s.clearMem lo hi).sess = s.sess := rfl
@[simp] theorem State.t1Req_clearMem (lo hi : Nat) : (s.clearMem lo hi).t1Req = s.t1Req := rfl
@[simp] theorem State.ocpp_clearMem (lo hi : Nat) : (s.clearMem lo hi).ocpp = s.ocpp := rfl
@[simp] theorem State.cool_clearMem (lo hi : Nat) : (s.clearMem lo hi).cool = s.cool := rfl
@[simp] theorem State.buf_clearMem (lo hi : Nat) : (s.clearMem lo hi).buf = s.buf := rfl
@[simp] theorem State.vault_clearMem (lo hi : Nat) : (s.clearMem lo hi).vault = s.vault := rfl
@[simp] theorem State.sec_clearMem (lo hi : Nat) : (s.clearMem lo hi).sec = s.sec := rfl
@[simp] theorem State.f_clearMem (lo hi : Nat) (y : Fld) : (s.clearMem lo hi).f y = s.f y := rfl
@[simp] theorem State.fb_clearMem (lo hi : Nat) (y : Fld) : (s.clearMem lo hi).fb y = s.fb y := rfl
@[simp] theorem State.fi_clearMem (lo hi : Nat) (y : Fld) : (s.clearMem lo hi).fi y = s.fi y := rfl
@[simp] theorem State.eng_clearMem (lo hi : Nat) (j : Nat) : (s.clearMem lo hi).eng j = s.eng j := rfl
@[simp] theorem State.queue_clearMem (lo hi : Nat) (i : QId) : (s.clearMem lo hi).queue i = s.queue i := rfl
@[simp] theorem State.dt_clearMem (lo hi : Nat) : (s.clearMem lo hi).dt = s.dt := rfl
@[simp] theorem State.period_clearMem (lo hi : Nat) (i j : Nat) : (s.clearMem lo hi).period i j = s.period i j := rfl
@[simp] theorem State.tripped_clearMem (lo hi : Nat) (z : Scope) : (s.clearMem lo hi).tripped z = s.tripped z := rfl

/-! ## `setPhu` writes `phus` -/

@[simp] theorem State.now_setPhu (n : Nat) (x : PhuInt) : (s.setPhu n x).now = s.now := rfl
@[simp] theorem State.pending_setPhu (n : Nat) (x : PhuInt) : (s.setPhu n x).pending = s.pending := rfl
@[simp] theorem State.free_setPhu (n : Nat) (x : PhuInt) : (s.setPhu n x).free = s.free := rfl
@[simp] theorem State.fields_setPhu (n : Nat) (x : PhuInt) : (s.setPhu n x).fields = s.fields := rfl
@[simp] theorem State.mem_setPhu (n : Nat) (x : PhuInt) : (s.setPhu n x).mem = s.mem := rfl
@[simp] theorem State.ecc_setPhu (n : Nat) (x : PhuInt) : (s.setPhu n x).ecc = s.ecc := rfl
@[simp] theorem State.engs_setPhu (n : Nat) (x : PhuInt) : (s.setPhu n x).engs = s.engs := rfl
@[simp] theorem State.mailbox_setPhu (n : Nat) (x : PhuInt) : (s.setPhu n x).mailbox = s.mailbox := rfl
@[simp] theorem State.outIdx_setPhu (n : Nat) (x : PhuInt) : (s.setPhu n x).outIdx = s.outIdx := rfl
@[simp] theorem State.outbox_setPhu (n : Nat) (x : PhuInt) : (s.setPhu n x).outbox = s.outbox := rfl
@[simp] theorem State.notices_setPhu (n : Nat) (x : PhuInt) : (s.setPhu n x).notices = s.notices := rfl
@[simp] theorem State.periods_setPhu (n : Nat) (x : PhuInt) : (s.setPhu n x).periods = s.periods := rfl
@[simp] theorem State.trips_setPhu (n : Nat) (x : PhuInt) : (s.setPhu n x).trips = s.trips := rfl
@[simp] theorem State.dtNs_setPhu (n : Nat) (x : PhuInt) : (s.setPhu n x).dtNs = s.dtNs := rfl
@[simp] theorem State.dtFrac_setPhu (n : Nat) (x : PhuInt) : (s.setPhu n x).dtFrac = s.dtFrac := rfl
@[simp] theorem State.maq_setPhu (n : Nat) (x : PhuInt) : (s.setPhu n x).maq = s.maq := rfl
@[simp] theorem State.lanes_setPhu (n : Nat) (x : PhuInt) : (s.setPhu n x).lanes = s.lanes := rfl
@[simp] theorem State.conns_setPhu (n : Nat) (x : PhuInt) : (s.setPhu n x).conns = s.conns := rfl
@[simp] theorem State.dests_setPhu (n : Nat) (x : PhuInt) : (s.setPhu n x).dests = s.dests := rfl
@[simp] theorem State.coils_setPhu (n : Nat) (x : PhuInt) : (s.setPhu n x).coils = s.coils := rfl
@[simp] theorem State.coilsOff_setPhu (n : Nat) (x : PhuInt) : (s.setPhu n x).coilsOff = s.coilsOff := rfl
@[simp] theorem State.epoch_setPhu (n : Nat) (x : PhuInt) : (s.setPhu n x).epoch = s.epoch := rfl
@[simp] theorem State.gap_setPhu (n : Nat) (x : PhuInt) : (s.setPhu n x).gap = s.gap := rfl
@[simp] theorem State.held_setPhu (n : Nat) (x : PhuInt) : (s.setPhu n x).held = s.held := rfl
@[simp] theorem State.clk_setPhu (n : Nat) (x : PhuInt) : (s.setPhu n x).clk = s.clk := rfl
@[simp] theorem State.pwr_setPhu (n : Nat) (x : PhuInt) : (s.setPhu n x).pwr = s.pwr := rfl
@[simp] theorem State.mode_setPhu (n : Nat) (x : PhuInt) : (s.setPhu n x).mode = s.mode := rfl
@[simp] theorem State.ctl_setPhu (n : Nat) (x : PhuInt) : (s.setPhu n x).ctl = s.ctl := rfl
@[simp] theorem State.portCharge_setPhu (n : Nat) (x : PhuInt) : (s.setPhu n x).portCharge = s.portCharge := rfl
@[simp] theorem State.lsws_setPhu (n : Nat) (x : PhuInt) : (s.setPhu n x).lsws = s.lsws := rfl
@[simp] theorem State.lsExceeded_setPhu (n : Nat) (x : PhuInt) : (s.setPhu n x).lsExceeded = s.lsExceeded := rfl
@[simp] theorem State.shedNext_setPhu (n : Nat) (x : PhuInt) : (s.setPhu n x).shedNext = s.shedNext := rfl
@[simp] theorem State.lsPace_setPhu (n : Nat) (x : PhuInt) : (s.setPhu n x).lsPace = s.lsPace := rfl
@[simp] theorem State.vswLost_setPhu (n : Nat) (x : PhuInt) : (s.setPhu n x).vswLost = s.vswLost := rfl
@[simp] theorem State.net_setPhu (n : Nat) (x : PhuInt) : (s.setPhu n x).net = s.net := rfl
@[simp] theorem State.modbus_setPhu (n : Nat) (x : PhuInt) : (s.setPhu n x).modbus = s.modbus := rfl
@[simp] theorem State.cans_setPhu (n : Nat) (x : PhuInt) : (s.setPhu n x).cans = s.cans := rfl
@[simp] theorem State.plc_setPhu (n : Nat) (x : PhuInt) : (s.setPhu n x).plc = s.plc := rfl
@[simp] theorem State.answered_setPhu (n : Nat) (x : PhuInt) : (s.setPhu n x).answered = s.answered := rfl
@[simp] theorem State.alloc_setPhu (n : Nat) (x : PhuInt) : (s.setPhu n x).alloc = s.alloc := rfl
@[simp] theorem State.met_setPhu (n : Nat) (x : PhuInt) : (s.setPhu n x).met = s.met := rfl
@[simp] theorem State.bill_setPhu (n : Nat) (x : PhuInt) : (s.setPhu n x).bill = s.bill := rfl
@[simp] theorem State.sess_setPhu (n : Nat) (x : PhuInt) : (s.setPhu n x).sess = s.sess := rfl
@[simp] theorem State.t1Req_setPhu (n : Nat) (x : PhuInt) : (s.setPhu n x).t1Req = s.t1Req := rfl
@[simp] theorem State.ocpp_setPhu (n : Nat) (x : PhuInt) : (s.setPhu n x).ocpp = s.ocpp := rfl
@[simp] theorem State.cool_setPhu (n : Nat) (x : PhuInt) : (s.setPhu n x).cool = s.cool := rfl
@[simp] theorem State.buf_setPhu (n : Nat) (x : PhuInt) : (s.setPhu n x).buf = s.buf := rfl
@[simp] theorem State.vault_setPhu (n : Nat) (x : PhuInt) : (s.setPhu n x).vault = s.vault := rfl
@[simp] theorem State.sec_setPhu (n : Nat) (x : PhuInt) : (s.setPhu n x).sec = s.sec := rfl
@[simp] theorem State.f_setPhu (n : Nat) (x : PhuInt) (y : Fld) : (s.setPhu n x).f y = s.f y := rfl
@[simp] theorem State.fb_setPhu (n : Nat) (x : PhuInt) (y : Fld) : (s.setPhu n x).fb y = s.fb y := rfl
@[simp] theorem State.fi_setPhu (n : Nat) (x : PhuInt) (y : Fld) : (s.setPhu n x).fi y = s.fi y := rfl
@[simp] theorem State.eng_setPhu (n : Nat) (x : PhuInt) (j : Nat) : (s.setPhu n x).eng j = s.eng j := rfl
@[simp] theorem State.rdB_setPhu (n : Nat) (x : PhuInt) (a : Nat) : (s.setPhu n x).rdB a = s.rdB a := rfl
@[simp] theorem State.queue_setPhu (n : Nat) (x : PhuInt) (i : QId) : (s.setPhu n x).queue i = s.queue i := rfl
@[simp] theorem State.dt_setPhu (n : Nat) (x : PhuInt) : (s.setPhu n x).dt = s.dt := rfl
@[simp] theorem State.period_setPhu (n : Nat) (x : PhuInt) (i j : Nat) : (s.setPhu n x).period i j = s.period i j := rfl
@[simp] theorem State.tripped_setPhu (n : Nat) (x : PhuInt) (z : Scope) : (s.setPhu n x).tripped z = s.tripped z := rfl

/-! ## `setLane` writes `lanes` -/

@[simp] theorem State.now_setLane (n : Nat) (x : LaneInt) : (s.setLane n x).now = s.now := rfl
@[simp] theorem State.pending_setLane (n : Nat) (x : LaneInt) : (s.setLane n x).pending = s.pending := rfl
@[simp] theorem State.free_setLane (n : Nat) (x : LaneInt) : (s.setLane n x).free = s.free := rfl
@[simp] theorem State.fields_setLane (n : Nat) (x : LaneInt) : (s.setLane n x).fields = s.fields := rfl
@[simp] theorem State.mem_setLane (n : Nat) (x : LaneInt) : (s.setLane n x).mem = s.mem := rfl
@[simp] theorem State.ecc_setLane (n : Nat) (x : LaneInt) : (s.setLane n x).ecc = s.ecc := rfl
@[simp] theorem State.engs_setLane (n : Nat) (x : LaneInt) : (s.setLane n x).engs = s.engs := rfl
@[simp] theorem State.mailbox_setLane (n : Nat) (x : LaneInt) : (s.setLane n x).mailbox = s.mailbox := rfl
@[simp] theorem State.outIdx_setLane (n : Nat) (x : LaneInt) : (s.setLane n x).outIdx = s.outIdx := rfl
@[simp] theorem State.outbox_setLane (n : Nat) (x : LaneInt) : (s.setLane n x).outbox = s.outbox := rfl
@[simp] theorem State.notices_setLane (n : Nat) (x : LaneInt) : (s.setLane n x).notices = s.notices := rfl
@[simp] theorem State.periods_setLane (n : Nat) (x : LaneInt) : (s.setLane n x).periods = s.periods := rfl
@[simp] theorem State.trips_setLane (n : Nat) (x : LaneInt) : (s.setLane n x).trips = s.trips := rfl
@[simp] theorem State.dtNs_setLane (n : Nat) (x : LaneInt) : (s.setLane n x).dtNs = s.dtNs := rfl
@[simp] theorem State.dtFrac_setLane (n : Nat) (x : LaneInt) : (s.setLane n x).dtFrac = s.dtFrac := rfl
@[simp] theorem State.maq_setLane (n : Nat) (x : LaneInt) : (s.setLane n x).maq = s.maq := rfl
@[simp] theorem State.phus_setLane (n : Nat) (x : LaneInt) : (s.setLane n x).phus = s.phus := rfl
@[simp] theorem State.conns_setLane (n : Nat) (x : LaneInt) : (s.setLane n x).conns = s.conns := rfl
@[simp] theorem State.dests_setLane (n : Nat) (x : LaneInt) : (s.setLane n x).dests = s.dests := rfl
@[simp] theorem State.coils_setLane (n : Nat) (x : LaneInt) : (s.setLane n x).coils = s.coils := rfl
@[simp] theorem State.coilsOff_setLane (n : Nat) (x : LaneInt) : (s.setLane n x).coilsOff = s.coilsOff := rfl
@[simp] theorem State.epoch_setLane (n : Nat) (x : LaneInt) : (s.setLane n x).epoch = s.epoch := rfl
@[simp] theorem State.gap_setLane (n : Nat) (x : LaneInt) : (s.setLane n x).gap = s.gap := rfl
@[simp] theorem State.held_setLane (n : Nat) (x : LaneInt) : (s.setLane n x).held = s.held := rfl
@[simp] theorem State.clk_setLane (n : Nat) (x : LaneInt) : (s.setLane n x).clk = s.clk := rfl
@[simp] theorem State.pwr_setLane (n : Nat) (x : LaneInt) : (s.setLane n x).pwr = s.pwr := rfl
@[simp] theorem State.mode_setLane (n : Nat) (x : LaneInt) : (s.setLane n x).mode = s.mode := rfl
@[simp] theorem State.ctl_setLane (n : Nat) (x : LaneInt) : (s.setLane n x).ctl = s.ctl := rfl
@[simp] theorem State.portCharge_setLane (n : Nat) (x : LaneInt) : (s.setLane n x).portCharge = s.portCharge := rfl
@[simp] theorem State.lsws_setLane (n : Nat) (x : LaneInt) : (s.setLane n x).lsws = s.lsws := rfl
@[simp] theorem State.lsExceeded_setLane (n : Nat) (x : LaneInt) : (s.setLane n x).lsExceeded = s.lsExceeded := rfl
@[simp] theorem State.shedNext_setLane (n : Nat) (x : LaneInt) : (s.setLane n x).shedNext = s.shedNext := rfl
@[simp] theorem State.lsPace_setLane (n : Nat) (x : LaneInt) : (s.setLane n x).lsPace = s.lsPace := rfl
@[simp] theorem State.vswLost_setLane (n : Nat) (x : LaneInt) : (s.setLane n x).vswLost = s.vswLost := rfl
@[simp] theorem State.net_setLane (n : Nat) (x : LaneInt) : (s.setLane n x).net = s.net := rfl
@[simp] theorem State.modbus_setLane (n : Nat) (x : LaneInt) : (s.setLane n x).modbus = s.modbus := rfl
@[simp] theorem State.cans_setLane (n : Nat) (x : LaneInt) : (s.setLane n x).cans = s.cans := rfl
@[simp] theorem State.plc_setLane (n : Nat) (x : LaneInt) : (s.setLane n x).plc = s.plc := rfl
@[simp] theorem State.answered_setLane (n : Nat) (x : LaneInt) : (s.setLane n x).answered = s.answered := rfl
@[simp] theorem State.alloc_setLane (n : Nat) (x : LaneInt) : (s.setLane n x).alloc = s.alloc := rfl
@[simp] theorem State.met_setLane (n : Nat) (x : LaneInt) : (s.setLane n x).met = s.met := rfl
@[simp] theorem State.bill_setLane (n : Nat) (x : LaneInt) : (s.setLane n x).bill = s.bill := rfl
@[simp] theorem State.sess_setLane (n : Nat) (x : LaneInt) : (s.setLane n x).sess = s.sess := rfl
@[simp] theorem State.t1Req_setLane (n : Nat) (x : LaneInt) : (s.setLane n x).t1Req = s.t1Req := rfl
@[simp] theorem State.ocpp_setLane (n : Nat) (x : LaneInt) : (s.setLane n x).ocpp = s.ocpp := rfl
@[simp] theorem State.cool_setLane (n : Nat) (x : LaneInt) : (s.setLane n x).cool = s.cool := rfl
@[simp] theorem State.buf_setLane (n : Nat) (x : LaneInt) : (s.setLane n x).buf = s.buf := rfl
@[simp] theorem State.vault_setLane (n : Nat) (x : LaneInt) : (s.setLane n x).vault = s.vault := rfl
@[simp] theorem State.sec_setLane (n : Nat) (x : LaneInt) : (s.setLane n x).sec = s.sec := rfl
@[simp] theorem State.f_setLane (n : Nat) (x : LaneInt) (y : Fld) : (s.setLane n x).f y = s.f y := rfl
@[simp] theorem State.fb_setLane (n : Nat) (x : LaneInt) (y : Fld) : (s.setLane n x).fb y = s.fb y := rfl
@[simp] theorem State.fi_setLane (n : Nat) (x : LaneInt) (y : Fld) : (s.setLane n x).fi y = s.fi y := rfl
@[simp] theorem State.eng_setLane (n : Nat) (x : LaneInt) (j : Nat) : (s.setLane n x).eng j = s.eng j := rfl
@[simp] theorem State.rdB_setLane (n : Nat) (x : LaneInt) (a : Nat) : (s.setLane n x).rdB a = s.rdB a := rfl
@[simp] theorem State.queue_setLane (n : Nat) (x : LaneInt) (i : QId) : (s.setLane n x).queue i = s.queue i := rfl
@[simp] theorem State.dt_setLane (n : Nat) (x : LaneInt) : (s.setLane n x).dt = s.dt := rfl
@[simp] theorem State.period_setLane (n : Nat) (x : LaneInt) (i j : Nat) : (s.setLane n x).period i j = s.period i j := rfl
@[simp] theorem State.tripped_setLane (n : Nat) (x : LaneInt) (z : Scope) : (s.setLane n x).tripped z = s.tripped z := rfl

/-! ## `setConn` writes `conns` -/

@[simp] theorem State.now_setConn (c : Nat) (x : ConnInt) : (s.setConn c x).now = s.now := rfl
@[simp] theorem State.pending_setConn (c : Nat) (x : ConnInt) : (s.setConn c x).pending = s.pending := rfl
@[simp] theorem State.free_setConn (c : Nat) (x : ConnInt) : (s.setConn c x).free = s.free := rfl
@[simp] theorem State.fields_setConn (c : Nat) (x : ConnInt) : (s.setConn c x).fields = s.fields := rfl
@[simp] theorem State.mem_setConn (c : Nat) (x : ConnInt) : (s.setConn c x).mem = s.mem := rfl
@[simp] theorem State.ecc_setConn (c : Nat) (x : ConnInt) : (s.setConn c x).ecc = s.ecc := rfl
@[simp] theorem State.engs_setConn (c : Nat) (x : ConnInt) : (s.setConn c x).engs = s.engs := rfl
@[simp] theorem State.mailbox_setConn (c : Nat) (x : ConnInt) : (s.setConn c x).mailbox = s.mailbox := rfl
@[simp] theorem State.outIdx_setConn (c : Nat) (x : ConnInt) : (s.setConn c x).outIdx = s.outIdx := rfl
@[simp] theorem State.outbox_setConn (c : Nat) (x : ConnInt) : (s.setConn c x).outbox = s.outbox := rfl
@[simp] theorem State.notices_setConn (c : Nat) (x : ConnInt) : (s.setConn c x).notices = s.notices := rfl
@[simp] theorem State.periods_setConn (c : Nat) (x : ConnInt) : (s.setConn c x).periods = s.periods := rfl
@[simp] theorem State.trips_setConn (c : Nat) (x : ConnInt) : (s.setConn c x).trips = s.trips := rfl
@[simp] theorem State.dtNs_setConn (c : Nat) (x : ConnInt) : (s.setConn c x).dtNs = s.dtNs := rfl
@[simp] theorem State.dtFrac_setConn (c : Nat) (x : ConnInt) : (s.setConn c x).dtFrac = s.dtFrac := rfl
@[simp] theorem State.maq_setConn (c : Nat) (x : ConnInt) : (s.setConn c x).maq = s.maq := rfl
@[simp] theorem State.phus_setConn (c : Nat) (x : ConnInt) : (s.setConn c x).phus = s.phus := rfl
@[simp] theorem State.lanes_setConn (c : Nat) (x : ConnInt) : (s.setConn c x).lanes = s.lanes := rfl
@[simp] theorem State.dests_setConn (c : Nat) (x : ConnInt) : (s.setConn c x).dests = s.dests := rfl
@[simp] theorem State.coils_setConn (c : Nat) (x : ConnInt) : (s.setConn c x).coils = s.coils := rfl
@[simp] theorem State.coilsOff_setConn (c : Nat) (x : ConnInt) : (s.setConn c x).coilsOff = s.coilsOff := rfl
@[simp] theorem State.epoch_setConn (c : Nat) (x : ConnInt) : (s.setConn c x).epoch = s.epoch := rfl
@[simp] theorem State.gap_setConn (c : Nat) (x : ConnInt) : (s.setConn c x).gap = s.gap := rfl
@[simp] theorem State.held_setConn (c : Nat) (x : ConnInt) : (s.setConn c x).held = s.held := rfl
@[simp] theorem State.clk_setConn (c : Nat) (x : ConnInt) : (s.setConn c x).clk = s.clk := rfl
@[simp] theorem State.pwr_setConn (c : Nat) (x : ConnInt) : (s.setConn c x).pwr = s.pwr := rfl
@[simp] theorem State.mode_setConn (c : Nat) (x : ConnInt) : (s.setConn c x).mode = s.mode := rfl
@[simp] theorem State.ctl_setConn (c : Nat) (x : ConnInt) : (s.setConn c x).ctl = s.ctl := rfl
@[simp] theorem State.portCharge_setConn (c : Nat) (x : ConnInt) : (s.setConn c x).portCharge = s.portCharge := rfl
@[simp] theorem State.lsws_setConn (c : Nat) (x : ConnInt) : (s.setConn c x).lsws = s.lsws := rfl
@[simp] theorem State.lsExceeded_setConn (c : Nat) (x : ConnInt) : (s.setConn c x).lsExceeded = s.lsExceeded := rfl
@[simp] theorem State.shedNext_setConn (c : Nat) (x : ConnInt) : (s.setConn c x).shedNext = s.shedNext := rfl
@[simp] theorem State.lsPace_setConn (c : Nat) (x : ConnInt) : (s.setConn c x).lsPace = s.lsPace := rfl
@[simp] theorem State.vswLost_setConn (c : Nat) (x : ConnInt) : (s.setConn c x).vswLost = s.vswLost := rfl
@[simp] theorem State.net_setConn (c : Nat) (x : ConnInt) : (s.setConn c x).net = s.net := rfl
@[simp] theorem State.modbus_setConn (c : Nat) (x : ConnInt) : (s.setConn c x).modbus = s.modbus := rfl
@[simp] theorem State.cans_setConn (c : Nat) (x : ConnInt) : (s.setConn c x).cans = s.cans := rfl
@[simp] theorem State.plc_setConn (c : Nat) (x : ConnInt) : (s.setConn c x).plc = s.plc := rfl
@[simp] theorem State.answered_setConn (c : Nat) (x : ConnInt) : (s.setConn c x).answered = s.answered := rfl
@[simp] theorem State.alloc_setConn (c : Nat) (x : ConnInt) : (s.setConn c x).alloc = s.alloc := rfl
@[simp] theorem State.met_setConn (c : Nat) (x : ConnInt) : (s.setConn c x).met = s.met := rfl
@[simp] theorem State.bill_setConn (c : Nat) (x : ConnInt) : (s.setConn c x).bill = s.bill := rfl
@[simp] theorem State.sess_setConn (c : Nat) (x : ConnInt) : (s.setConn c x).sess = s.sess := rfl
@[simp] theorem State.t1Req_setConn (c : Nat) (x : ConnInt) : (s.setConn c x).t1Req = s.t1Req := rfl
@[simp] theorem State.ocpp_setConn (c : Nat) (x : ConnInt) : (s.setConn c x).ocpp = s.ocpp := rfl
@[simp] theorem State.cool_setConn (c : Nat) (x : ConnInt) : (s.setConn c x).cool = s.cool := rfl
@[simp] theorem State.buf_setConn (c : Nat) (x : ConnInt) : (s.setConn c x).buf = s.buf := rfl
@[simp] theorem State.vault_setConn (c : Nat) (x : ConnInt) : (s.setConn c x).vault = s.vault := rfl
@[simp] theorem State.sec_setConn (c : Nat) (x : ConnInt) : (s.setConn c x).sec = s.sec := rfl
@[simp] theorem State.f_setConn (c : Nat) (x : ConnInt) (y : Fld) : (s.setConn c x).f y = s.f y := rfl
@[simp] theorem State.fb_setConn (c : Nat) (x : ConnInt) (y : Fld) : (s.setConn c x).fb y = s.fb y := rfl
@[simp] theorem State.fi_setConn (c : Nat) (x : ConnInt) (y : Fld) : (s.setConn c x).fi y = s.fi y := rfl
@[simp] theorem State.eng_setConn (c : Nat) (x : ConnInt) (j : Nat) : (s.setConn c x).eng j = s.eng j := rfl
@[simp] theorem State.rdB_setConn (c : Nat) (x : ConnInt) (a : Nat) : (s.setConn c x).rdB a = s.rdB a := rfl
@[simp] theorem State.queue_setConn (c : Nat) (x : ConnInt) (i : QId) : (s.setConn c x).queue i = s.queue i := rfl
@[simp] theorem State.dt_setConn (c : Nat) (x : ConnInt) : (s.setConn c x).dt = s.dt := rfl
@[simp] theorem State.period_setConn (c : Nat) (x : ConnInt) (i j : Nat) : (s.setConn c x).period i j = s.period i j := rfl
@[simp] theorem State.tripped_setConn (c : Nat) (x : ConnInt) (z : Scope) : (s.setConn c x).tripped z = s.tripped z := rfl

/-! ## `setDest` writes `dests` -/

@[simp] theorem State.now_setDest (d : Nat) (x : DestInt) : (s.setDest d x).now = s.now := rfl
@[simp] theorem State.pending_setDest (d : Nat) (x : DestInt) : (s.setDest d x).pending = s.pending := rfl
@[simp] theorem State.free_setDest (d : Nat) (x : DestInt) : (s.setDest d x).free = s.free := rfl
@[simp] theorem State.fields_setDest (d : Nat) (x : DestInt) : (s.setDest d x).fields = s.fields := rfl
@[simp] theorem State.mem_setDest (d : Nat) (x : DestInt) : (s.setDest d x).mem = s.mem := rfl
@[simp] theorem State.ecc_setDest (d : Nat) (x : DestInt) : (s.setDest d x).ecc = s.ecc := rfl
@[simp] theorem State.engs_setDest (d : Nat) (x : DestInt) : (s.setDest d x).engs = s.engs := rfl
@[simp] theorem State.mailbox_setDest (d : Nat) (x : DestInt) : (s.setDest d x).mailbox = s.mailbox := rfl
@[simp] theorem State.outIdx_setDest (d : Nat) (x : DestInt) : (s.setDest d x).outIdx = s.outIdx := rfl
@[simp] theorem State.outbox_setDest (d : Nat) (x : DestInt) : (s.setDest d x).outbox = s.outbox := rfl
@[simp] theorem State.notices_setDest (d : Nat) (x : DestInt) : (s.setDest d x).notices = s.notices := rfl
@[simp] theorem State.periods_setDest (d : Nat) (x : DestInt) : (s.setDest d x).periods = s.periods := rfl
@[simp] theorem State.trips_setDest (d : Nat) (x : DestInt) : (s.setDest d x).trips = s.trips := rfl
@[simp] theorem State.dtNs_setDest (d : Nat) (x : DestInt) : (s.setDest d x).dtNs = s.dtNs := rfl
@[simp] theorem State.dtFrac_setDest (d : Nat) (x : DestInt) : (s.setDest d x).dtFrac = s.dtFrac := rfl
@[simp] theorem State.maq_setDest (d : Nat) (x : DestInt) : (s.setDest d x).maq = s.maq := rfl
@[simp] theorem State.phus_setDest (d : Nat) (x : DestInt) : (s.setDest d x).phus = s.phus := rfl
@[simp] theorem State.lanes_setDest (d : Nat) (x : DestInt) : (s.setDest d x).lanes = s.lanes := rfl
@[simp] theorem State.conns_setDest (d : Nat) (x : DestInt) : (s.setDest d x).conns = s.conns := rfl
@[simp] theorem State.coils_setDest (d : Nat) (x : DestInt) : (s.setDest d x).coils = s.coils := rfl
@[simp] theorem State.coilsOff_setDest (d : Nat) (x : DestInt) : (s.setDest d x).coilsOff = s.coilsOff := rfl
@[simp] theorem State.epoch_setDest (d : Nat) (x : DestInt) : (s.setDest d x).epoch = s.epoch := rfl
@[simp] theorem State.gap_setDest (d : Nat) (x : DestInt) : (s.setDest d x).gap = s.gap := rfl
@[simp] theorem State.held_setDest (d : Nat) (x : DestInt) : (s.setDest d x).held = s.held := rfl
@[simp] theorem State.clk_setDest (d : Nat) (x : DestInt) : (s.setDest d x).clk = s.clk := rfl
@[simp] theorem State.pwr_setDest (d : Nat) (x : DestInt) : (s.setDest d x).pwr = s.pwr := rfl
@[simp] theorem State.mode_setDest (d : Nat) (x : DestInt) : (s.setDest d x).mode = s.mode := rfl
@[simp] theorem State.ctl_setDest (d : Nat) (x : DestInt) : (s.setDest d x).ctl = s.ctl := rfl
@[simp] theorem State.portCharge_setDest (d : Nat) (x : DestInt) : (s.setDest d x).portCharge = s.portCharge := rfl
@[simp] theorem State.lsws_setDest (d : Nat) (x : DestInt) : (s.setDest d x).lsws = s.lsws := rfl
@[simp] theorem State.lsExceeded_setDest (d : Nat) (x : DestInt) : (s.setDest d x).lsExceeded = s.lsExceeded := rfl
@[simp] theorem State.shedNext_setDest (d : Nat) (x : DestInt) : (s.setDest d x).shedNext = s.shedNext := rfl
@[simp] theorem State.lsPace_setDest (d : Nat) (x : DestInt) : (s.setDest d x).lsPace = s.lsPace := rfl
@[simp] theorem State.vswLost_setDest (d : Nat) (x : DestInt) : (s.setDest d x).vswLost = s.vswLost := rfl
@[simp] theorem State.net_setDest (d : Nat) (x : DestInt) : (s.setDest d x).net = s.net := rfl
@[simp] theorem State.modbus_setDest (d : Nat) (x : DestInt) : (s.setDest d x).modbus = s.modbus := rfl
@[simp] theorem State.cans_setDest (d : Nat) (x : DestInt) : (s.setDest d x).cans = s.cans := rfl
@[simp] theorem State.plc_setDest (d : Nat) (x : DestInt) : (s.setDest d x).plc = s.plc := rfl
@[simp] theorem State.answered_setDest (d : Nat) (x : DestInt) : (s.setDest d x).answered = s.answered := rfl
@[simp] theorem State.alloc_setDest (d : Nat) (x : DestInt) : (s.setDest d x).alloc = s.alloc := rfl
@[simp] theorem State.met_setDest (d : Nat) (x : DestInt) : (s.setDest d x).met = s.met := rfl
@[simp] theorem State.bill_setDest (d : Nat) (x : DestInt) : (s.setDest d x).bill = s.bill := rfl
@[simp] theorem State.sess_setDest (d : Nat) (x : DestInt) : (s.setDest d x).sess = s.sess := rfl
@[simp] theorem State.t1Req_setDest (d : Nat) (x : DestInt) : (s.setDest d x).t1Req = s.t1Req := rfl
@[simp] theorem State.ocpp_setDest (d : Nat) (x : DestInt) : (s.setDest d x).ocpp = s.ocpp := rfl
@[simp] theorem State.cool_setDest (d : Nat) (x : DestInt) : (s.setDest d x).cool = s.cool := rfl
@[simp] theorem State.buf_setDest (d : Nat) (x : DestInt) : (s.setDest d x).buf = s.buf := rfl
@[simp] theorem State.vault_setDest (d : Nat) (x : DestInt) : (s.setDest d x).vault = s.vault := rfl
@[simp] theorem State.sec_setDest (d : Nat) (x : DestInt) : (s.setDest d x).sec = s.sec := rfl
@[simp] theorem State.f_setDest (d : Nat) (x : DestInt) (y : Fld) : (s.setDest d x).f y = s.f y := rfl
@[simp] theorem State.fb_setDest (d : Nat) (x : DestInt) (y : Fld) : (s.setDest d x).fb y = s.fb y := rfl
@[simp] theorem State.fi_setDest (d : Nat) (x : DestInt) (y : Fld) : (s.setDest d x).fi y = s.fi y := rfl
@[simp] theorem State.eng_setDest (d : Nat) (x : DestInt) (j : Nat) : (s.setDest d x).eng j = s.eng j := rfl
@[simp] theorem State.rdB_setDest (d : Nat) (x : DestInt) (a : Nat) : (s.setDest d x).rdB a = s.rdB a := rfl
@[simp] theorem State.queue_setDest (d : Nat) (x : DestInt) (i : QId) : (s.setDest d x).queue i = s.queue i := rfl
@[simp] theorem State.dt_setDest (d : Nat) (x : DestInt) : (s.setDest d x).dt = s.dt := rfl
@[simp] theorem State.period_setDest (d : Nat) (x : DestInt) (i j : Nat) : (s.setDest d x).period i j = s.period i j := rfl
@[simp] theorem State.tripped_setDest (d : Nat) (x : DestInt) (z : Scope) : (s.setDest d x).tripped z = s.tripped z := rfl

/-! ## `setLsw` writes `lsws` -/

@[simp] theorem State.now_setLsw (n : Nat) (x : LswInt) : (s.setLsw n x).now = s.now := rfl
@[simp] theorem State.pending_setLsw (n : Nat) (x : LswInt) : (s.setLsw n x).pending = s.pending := rfl
@[simp] theorem State.free_setLsw (n : Nat) (x : LswInt) : (s.setLsw n x).free = s.free := rfl
@[simp] theorem State.fields_setLsw (n : Nat) (x : LswInt) : (s.setLsw n x).fields = s.fields := rfl
@[simp] theorem State.mem_setLsw (n : Nat) (x : LswInt) : (s.setLsw n x).mem = s.mem := rfl
@[simp] theorem State.ecc_setLsw (n : Nat) (x : LswInt) : (s.setLsw n x).ecc = s.ecc := rfl
@[simp] theorem State.engs_setLsw (n : Nat) (x : LswInt) : (s.setLsw n x).engs = s.engs := rfl
@[simp] theorem State.mailbox_setLsw (n : Nat) (x : LswInt) : (s.setLsw n x).mailbox = s.mailbox := rfl
@[simp] theorem State.outIdx_setLsw (n : Nat) (x : LswInt) : (s.setLsw n x).outIdx = s.outIdx := rfl
@[simp] theorem State.outbox_setLsw (n : Nat) (x : LswInt) : (s.setLsw n x).outbox = s.outbox := rfl
@[simp] theorem State.notices_setLsw (n : Nat) (x : LswInt) : (s.setLsw n x).notices = s.notices := rfl
@[simp] theorem State.periods_setLsw (n : Nat) (x : LswInt) : (s.setLsw n x).periods = s.periods := rfl
@[simp] theorem State.trips_setLsw (n : Nat) (x : LswInt) : (s.setLsw n x).trips = s.trips := rfl
@[simp] theorem State.dtNs_setLsw (n : Nat) (x : LswInt) : (s.setLsw n x).dtNs = s.dtNs := rfl
@[simp] theorem State.dtFrac_setLsw (n : Nat) (x : LswInt) : (s.setLsw n x).dtFrac = s.dtFrac := rfl
@[simp] theorem State.maq_setLsw (n : Nat) (x : LswInt) : (s.setLsw n x).maq = s.maq := rfl
@[simp] theorem State.phus_setLsw (n : Nat) (x : LswInt) : (s.setLsw n x).phus = s.phus := rfl
@[simp] theorem State.lanes_setLsw (n : Nat) (x : LswInt) : (s.setLsw n x).lanes = s.lanes := rfl
@[simp] theorem State.conns_setLsw (n : Nat) (x : LswInt) : (s.setLsw n x).conns = s.conns := rfl
@[simp] theorem State.dests_setLsw (n : Nat) (x : LswInt) : (s.setLsw n x).dests = s.dests := rfl
@[simp] theorem State.coils_setLsw (n : Nat) (x : LswInt) : (s.setLsw n x).coils = s.coils := rfl
@[simp] theorem State.coilsOff_setLsw (n : Nat) (x : LswInt) : (s.setLsw n x).coilsOff = s.coilsOff := rfl
@[simp] theorem State.epoch_setLsw (n : Nat) (x : LswInt) : (s.setLsw n x).epoch = s.epoch := rfl
@[simp] theorem State.gap_setLsw (n : Nat) (x : LswInt) : (s.setLsw n x).gap = s.gap := rfl
@[simp] theorem State.held_setLsw (n : Nat) (x : LswInt) : (s.setLsw n x).held = s.held := rfl
@[simp] theorem State.clk_setLsw (n : Nat) (x : LswInt) : (s.setLsw n x).clk = s.clk := rfl
@[simp] theorem State.pwr_setLsw (n : Nat) (x : LswInt) : (s.setLsw n x).pwr = s.pwr := rfl
@[simp] theorem State.mode_setLsw (n : Nat) (x : LswInt) : (s.setLsw n x).mode = s.mode := rfl
@[simp] theorem State.ctl_setLsw (n : Nat) (x : LswInt) : (s.setLsw n x).ctl = s.ctl := rfl
@[simp] theorem State.portCharge_setLsw (n : Nat) (x : LswInt) : (s.setLsw n x).portCharge = s.portCharge := rfl
@[simp] theorem State.lsExceeded_setLsw (n : Nat) (x : LswInt) : (s.setLsw n x).lsExceeded = s.lsExceeded := rfl
@[simp] theorem State.shedNext_setLsw (n : Nat) (x : LswInt) : (s.setLsw n x).shedNext = s.shedNext := rfl
@[simp] theorem State.lsPace_setLsw (n : Nat) (x : LswInt) : (s.setLsw n x).lsPace = s.lsPace := rfl
@[simp] theorem State.vswLost_setLsw (n : Nat) (x : LswInt) : (s.setLsw n x).vswLost = s.vswLost := rfl
@[simp] theorem State.net_setLsw (n : Nat) (x : LswInt) : (s.setLsw n x).net = s.net := rfl
@[simp] theorem State.modbus_setLsw (n : Nat) (x : LswInt) : (s.setLsw n x).modbus = s.modbus := rfl
@[simp] theorem State.cans_setLsw (n : Nat) (x : LswInt) : (s.setLsw n x).cans = s.cans := rfl
@[simp] theorem State.plc_setLsw (n : Nat) (x : LswInt) : (s.setLsw n x).plc = s.plc := rfl
@[simp] theorem State.answered_setLsw (n : Nat) (x : LswInt) : (s.setLsw n x).answered = s.answered := rfl
@[simp] theorem State.alloc_setLsw (n : Nat) (x : LswInt) : (s.setLsw n x).alloc = s.alloc := rfl
@[simp] theorem State.met_setLsw (n : Nat) (x : LswInt) : (s.setLsw n x).met = s.met := rfl
@[simp] theorem State.bill_setLsw (n : Nat) (x : LswInt) : (s.setLsw n x).bill = s.bill := rfl
@[simp] theorem State.sess_setLsw (n : Nat) (x : LswInt) : (s.setLsw n x).sess = s.sess := rfl
@[simp] theorem State.t1Req_setLsw (n : Nat) (x : LswInt) : (s.setLsw n x).t1Req = s.t1Req := rfl
@[simp] theorem State.ocpp_setLsw (n : Nat) (x : LswInt) : (s.setLsw n x).ocpp = s.ocpp := rfl
@[simp] theorem State.cool_setLsw (n : Nat) (x : LswInt) : (s.setLsw n x).cool = s.cool := rfl
@[simp] theorem State.buf_setLsw (n : Nat) (x : LswInt) : (s.setLsw n x).buf = s.buf := rfl
@[simp] theorem State.vault_setLsw (n : Nat) (x : LswInt) : (s.setLsw n x).vault = s.vault := rfl
@[simp] theorem State.sec_setLsw (n : Nat) (x : LswInt) : (s.setLsw n x).sec = s.sec := rfl
@[simp] theorem State.f_setLsw (n : Nat) (x : LswInt) (y : Fld) : (s.setLsw n x).f y = s.f y := rfl
@[simp] theorem State.fb_setLsw (n : Nat) (x : LswInt) (y : Fld) : (s.setLsw n x).fb y = s.fb y := rfl
@[simp] theorem State.fi_setLsw (n : Nat) (x : LswInt) (y : Fld) : (s.setLsw n x).fi y = s.fi y := rfl
@[simp] theorem State.eng_setLsw (n : Nat) (x : LswInt) (j : Nat) : (s.setLsw n x).eng j = s.eng j := rfl
@[simp] theorem State.rdB_setLsw (n : Nat) (x : LswInt) (a : Nat) : (s.setLsw n x).rdB a = s.rdB a := rfl
@[simp] theorem State.queue_setLsw (n : Nat) (x : LswInt) (i : QId) : (s.setLsw n x).queue i = s.queue i := rfl
@[simp] theorem State.dt_setLsw (n : Nat) (x : LswInt) : (s.setLsw n x).dt = s.dt := rfl
@[simp] theorem State.period_setLsw (n : Nat) (x : LswInt) (i j : Nat) : (s.setLsw n x).period i j = s.period i j := rfl
@[simp] theorem State.tripped_setLsw (n : Nat) (x : LswInt) (z : Scope) : (s.setLsw n x).tripped z = s.tripped z := rfl

/-! ## `setCan` writes `cans` -/

@[simp] theorem State.now_setCan (n : Nat) (x : CanInt) : (s.setCan n x).now = s.now := rfl
@[simp] theorem State.pending_setCan (n : Nat) (x : CanInt) : (s.setCan n x).pending = s.pending := rfl
@[simp] theorem State.free_setCan (n : Nat) (x : CanInt) : (s.setCan n x).free = s.free := rfl
@[simp] theorem State.fields_setCan (n : Nat) (x : CanInt) : (s.setCan n x).fields = s.fields := rfl
@[simp] theorem State.mem_setCan (n : Nat) (x : CanInt) : (s.setCan n x).mem = s.mem := rfl
@[simp] theorem State.ecc_setCan (n : Nat) (x : CanInt) : (s.setCan n x).ecc = s.ecc := rfl
@[simp] theorem State.engs_setCan (n : Nat) (x : CanInt) : (s.setCan n x).engs = s.engs := rfl
@[simp] theorem State.mailbox_setCan (n : Nat) (x : CanInt) : (s.setCan n x).mailbox = s.mailbox := rfl
@[simp] theorem State.outIdx_setCan (n : Nat) (x : CanInt) : (s.setCan n x).outIdx = s.outIdx := rfl
@[simp] theorem State.outbox_setCan (n : Nat) (x : CanInt) : (s.setCan n x).outbox = s.outbox := rfl
@[simp] theorem State.notices_setCan (n : Nat) (x : CanInt) : (s.setCan n x).notices = s.notices := rfl
@[simp] theorem State.periods_setCan (n : Nat) (x : CanInt) : (s.setCan n x).periods = s.periods := rfl
@[simp] theorem State.trips_setCan (n : Nat) (x : CanInt) : (s.setCan n x).trips = s.trips := rfl
@[simp] theorem State.dtNs_setCan (n : Nat) (x : CanInt) : (s.setCan n x).dtNs = s.dtNs := rfl
@[simp] theorem State.dtFrac_setCan (n : Nat) (x : CanInt) : (s.setCan n x).dtFrac = s.dtFrac := rfl
@[simp] theorem State.maq_setCan (n : Nat) (x : CanInt) : (s.setCan n x).maq = s.maq := rfl
@[simp] theorem State.phus_setCan (n : Nat) (x : CanInt) : (s.setCan n x).phus = s.phus := rfl
@[simp] theorem State.lanes_setCan (n : Nat) (x : CanInt) : (s.setCan n x).lanes = s.lanes := rfl
@[simp] theorem State.conns_setCan (n : Nat) (x : CanInt) : (s.setCan n x).conns = s.conns := rfl
@[simp] theorem State.dests_setCan (n : Nat) (x : CanInt) : (s.setCan n x).dests = s.dests := rfl
@[simp] theorem State.coils_setCan (n : Nat) (x : CanInt) : (s.setCan n x).coils = s.coils := rfl
@[simp] theorem State.coilsOff_setCan (n : Nat) (x : CanInt) : (s.setCan n x).coilsOff = s.coilsOff := rfl
@[simp] theorem State.epoch_setCan (n : Nat) (x : CanInt) : (s.setCan n x).epoch = s.epoch := rfl
@[simp] theorem State.gap_setCan (n : Nat) (x : CanInt) : (s.setCan n x).gap = s.gap := rfl
@[simp] theorem State.held_setCan (n : Nat) (x : CanInt) : (s.setCan n x).held = s.held := rfl
@[simp] theorem State.clk_setCan (n : Nat) (x : CanInt) : (s.setCan n x).clk = s.clk := rfl
@[simp] theorem State.pwr_setCan (n : Nat) (x : CanInt) : (s.setCan n x).pwr = s.pwr := rfl
@[simp] theorem State.mode_setCan (n : Nat) (x : CanInt) : (s.setCan n x).mode = s.mode := rfl
@[simp] theorem State.ctl_setCan (n : Nat) (x : CanInt) : (s.setCan n x).ctl = s.ctl := rfl
@[simp] theorem State.portCharge_setCan (n : Nat) (x : CanInt) : (s.setCan n x).portCharge = s.portCharge := rfl
@[simp] theorem State.lsws_setCan (n : Nat) (x : CanInt) : (s.setCan n x).lsws = s.lsws := rfl
@[simp] theorem State.lsExceeded_setCan (n : Nat) (x : CanInt) : (s.setCan n x).lsExceeded = s.lsExceeded := rfl
@[simp] theorem State.shedNext_setCan (n : Nat) (x : CanInt) : (s.setCan n x).shedNext = s.shedNext := rfl
@[simp] theorem State.lsPace_setCan (n : Nat) (x : CanInt) : (s.setCan n x).lsPace = s.lsPace := rfl
@[simp] theorem State.vswLost_setCan (n : Nat) (x : CanInt) : (s.setCan n x).vswLost = s.vswLost := rfl
@[simp] theorem State.net_setCan (n : Nat) (x : CanInt) : (s.setCan n x).net = s.net := rfl
@[simp] theorem State.modbus_setCan (n : Nat) (x : CanInt) : (s.setCan n x).modbus = s.modbus := rfl
@[simp] theorem State.plc_setCan (n : Nat) (x : CanInt) : (s.setCan n x).plc = s.plc := rfl
@[simp] theorem State.answered_setCan (n : Nat) (x : CanInt) : (s.setCan n x).answered = s.answered := rfl
@[simp] theorem State.alloc_setCan (n : Nat) (x : CanInt) : (s.setCan n x).alloc = s.alloc := rfl
@[simp] theorem State.met_setCan (n : Nat) (x : CanInt) : (s.setCan n x).met = s.met := rfl
@[simp] theorem State.bill_setCan (n : Nat) (x : CanInt) : (s.setCan n x).bill = s.bill := rfl
@[simp] theorem State.sess_setCan (n : Nat) (x : CanInt) : (s.setCan n x).sess = s.sess := rfl
@[simp] theorem State.t1Req_setCan (n : Nat) (x : CanInt) : (s.setCan n x).t1Req = s.t1Req := rfl
@[simp] theorem State.ocpp_setCan (n : Nat) (x : CanInt) : (s.setCan n x).ocpp = s.ocpp := rfl
@[simp] theorem State.cool_setCan (n : Nat) (x : CanInt) : (s.setCan n x).cool = s.cool := rfl
@[simp] theorem State.buf_setCan (n : Nat) (x : CanInt) : (s.setCan n x).buf = s.buf := rfl
@[simp] theorem State.vault_setCan (n : Nat) (x : CanInt) : (s.setCan n x).vault = s.vault := rfl
@[simp] theorem State.sec_setCan (n : Nat) (x : CanInt) : (s.setCan n x).sec = s.sec := rfl
@[simp] theorem State.f_setCan (n : Nat) (x : CanInt) (y : Fld) : (s.setCan n x).f y = s.f y := rfl
@[simp] theorem State.fb_setCan (n : Nat) (x : CanInt) (y : Fld) : (s.setCan n x).fb y = s.fb y := rfl
@[simp] theorem State.fi_setCan (n : Nat) (x : CanInt) (y : Fld) : (s.setCan n x).fi y = s.fi y := rfl
@[simp] theorem State.eng_setCan (n : Nat) (x : CanInt) (j : Nat) : (s.setCan n x).eng j = s.eng j := rfl
@[simp] theorem State.rdB_setCan (n : Nat) (x : CanInt) (a : Nat) : (s.setCan n x).rdB a = s.rdB a := rfl
@[simp] theorem State.queue_setCan (n : Nat) (x : CanInt) (i : QId) : (s.setCan n x).queue i = s.queue i := rfl
@[simp] theorem State.dt_setCan (n : Nat) (x : CanInt) : (s.setCan n x).dt = s.dt := rfl
@[simp] theorem State.period_setCan (n : Nat) (x : CanInt) (i j : Nat) : (s.setCan n x).period i j = s.period i j := rfl
@[simp] theorem State.tripped_setCan (n : Nat) (x : CanInt) (z : Scope) : (s.setCan n x).tripped z = s.tripped z := rfl

/-! ## `setLink` writes `plc` -/

@[simp] theorem State.now_setLink (k : Nat) (x : PlcLink) : (s.setLink k x).now = s.now := rfl
@[simp] theorem State.pending_setLink (k : Nat) (x : PlcLink) : (s.setLink k x).pending = s.pending := rfl
@[simp] theorem State.free_setLink (k : Nat) (x : PlcLink) : (s.setLink k x).free = s.free := rfl
@[simp] theorem State.fields_setLink (k : Nat) (x : PlcLink) : (s.setLink k x).fields = s.fields := rfl
@[simp] theorem State.mem_setLink (k : Nat) (x : PlcLink) : (s.setLink k x).mem = s.mem := rfl
@[simp] theorem State.ecc_setLink (k : Nat) (x : PlcLink) : (s.setLink k x).ecc = s.ecc := rfl
@[simp] theorem State.engs_setLink (k : Nat) (x : PlcLink) : (s.setLink k x).engs = s.engs := rfl
@[simp] theorem State.mailbox_setLink (k : Nat) (x : PlcLink) : (s.setLink k x).mailbox = s.mailbox := rfl
@[simp] theorem State.outIdx_setLink (k : Nat) (x : PlcLink) : (s.setLink k x).outIdx = s.outIdx := rfl
@[simp] theorem State.outbox_setLink (k : Nat) (x : PlcLink) : (s.setLink k x).outbox = s.outbox := rfl
@[simp] theorem State.notices_setLink (k : Nat) (x : PlcLink) : (s.setLink k x).notices = s.notices := rfl
@[simp] theorem State.periods_setLink (k : Nat) (x : PlcLink) : (s.setLink k x).periods = s.periods := rfl
@[simp] theorem State.trips_setLink (k : Nat) (x : PlcLink) : (s.setLink k x).trips = s.trips := rfl
@[simp] theorem State.dtNs_setLink (k : Nat) (x : PlcLink) : (s.setLink k x).dtNs = s.dtNs := rfl
@[simp] theorem State.dtFrac_setLink (k : Nat) (x : PlcLink) : (s.setLink k x).dtFrac = s.dtFrac := rfl
@[simp] theorem State.maq_setLink (k : Nat) (x : PlcLink) : (s.setLink k x).maq = s.maq := rfl
@[simp] theorem State.phus_setLink (k : Nat) (x : PlcLink) : (s.setLink k x).phus = s.phus := rfl
@[simp] theorem State.lanes_setLink (k : Nat) (x : PlcLink) : (s.setLink k x).lanes = s.lanes := rfl
@[simp] theorem State.conns_setLink (k : Nat) (x : PlcLink) : (s.setLink k x).conns = s.conns := rfl
@[simp] theorem State.dests_setLink (k : Nat) (x : PlcLink) : (s.setLink k x).dests = s.dests := rfl
@[simp] theorem State.coils_setLink (k : Nat) (x : PlcLink) : (s.setLink k x).coils = s.coils := rfl
@[simp] theorem State.coilsOff_setLink (k : Nat) (x : PlcLink) : (s.setLink k x).coilsOff = s.coilsOff := rfl
@[simp] theorem State.epoch_setLink (k : Nat) (x : PlcLink) : (s.setLink k x).epoch = s.epoch := rfl
@[simp] theorem State.gap_setLink (k : Nat) (x : PlcLink) : (s.setLink k x).gap = s.gap := rfl
@[simp] theorem State.held_setLink (k : Nat) (x : PlcLink) : (s.setLink k x).held = s.held := rfl
@[simp] theorem State.clk_setLink (k : Nat) (x : PlcLink) : (s.setLink k x).clk = s.clk := rfl
@[simp] theorem State.pwr_setLink (k : Nat) (x : PlcLink) : (s.setLink k x).pwr = s.pwr := rfl
@[simp] theorem State.mode_setLink (k : Nat) (x : PlcLink) : (s.setLink k x).mode = s.mode := rfl
@[simp] theorem State.ctl_setLink (k : Nat) (x : PlcLink) : (s.setLink k x).ctl = s.ctl := rfl
@[simp] theorem State.portCharge_setLink (k : Nat) (x : PlcLink) : (s.setLink k x).portCharge = s.portCharge := rfl
@[simp] theorem State.lsws_setLink (k : Nat) (x : PlcLink) : (s.setLink k x).lsws = s.lsws := rfl
@[simp] theorem State.lsExceeded_setLink (k : Nat) (x : PlcLink) : (s.setLink k x).lsExceeded = s.lsExceeded := rfl
@[simp] theorem State.shedNext_setLink (k : Nat) (x : PlcLink) : (s.setLink k x).shedNext = s.shedNext := rfl
@[simp] theorem State.lsPace_setLink (k : Nat) (x : PlcLink) : (s.setLink k x).lsPace = s.lsPace := rfl
@[simp] theorem State.vswLost_setLink (k : Nat) (x : PlcLink) : (s.setLink k x).vswLost = s.vswLost := rfl
@[simp] theorem State.net_setLink (k : Nat) (x : PlcLink) : (s.setLink k x).net = s.net := rfl
@[simp] theorem State.modbus_setLink (k : Nat) (x : PlcLink) : (s.setLink k x).modbus = s.modbus := rfl
@[simp] theorem State.cans_setLink (k : Nat) (x : PlcLink) : (s.setLink k x).cans = s.cans := rfl
@[simp] theorem State.answered_setLink (k : Nat) (x : PlcLink) : (s.setLink k x).answered = s.answered := rfl
@[simp] theorem State.alloc_setLink (k : Nat) (x : PlcLink) : (s.setLink k x).alloc = s.alloc := rfl
@[simp] theorem State.met_setLink (k : Nat) (x : PlcLink) : (s.setLink k x).met = s.met := rfl
@[simp] theorem State.bill_setLink (k : Nat) (x : PlcLink) : (s.setLink k x).bill = s.bill := rfl
@[simp] theorem State.sess_setLink (k : Nat) (x : PlcLink) : (s.setLink k x).sess = s.sess := rfl
@[simp] theorem State.t1Req_setLink (k : Nat) (x : PlcLink) : (s.setLink k x).t1Req = s.t1Req := rfl
@[simp] theorem State.ocpp_setLink (k : Nat) (x : PlcLink) : (s.setLink k x).ocpp = s.ocpp := rfl
@[simp] theorem State.cool_setLink (k : Nat) (x : PlcLink) : (s.setLink k x).cool = s.cool := rfl
@[simp] theorem State.buf_setLink (k : Nat) (x : PlcLink) : (s.setLink k x).buf = s.buf := rfl
@[simp] theorem State.vault_setLink (k : Nat) (x : PlcLink) : (s.setLink k x).vault = s.vault := rfl
@[simp] theorem State.sec_setLink (k : Nat) (x : PlcLink) : (s.setLink k x).sec = s.sec := rfl
@[simp] theorem State.f_setLink (k : Nat) (x : PlcLink) (y : Fld) : (s.setLink k x).f y = s.f y := rfl
@[simp] theorem State.fb_setLink (k : Nat) (x : PlcLink) (y : Fld) : (s.setLink k x).fb y = s.fb y := rfl
@[simp] theorem State.fi_setLink (k : Nat) (x : PlcLink) (y : Fld) : (s.setLink k x).fi y = s.fi y := rfl
@[simp] theorem State.eng_setLink (k : Nat) (x : PlcLink) (j : Nat) : (s.setLink k x).eng j = s.eng j := rfl
@[simp] theorem State.rdB_setLink (k : Nat) (x : PlcLink) (a : Nat) : (s.setLink k x).rdB a = s.rdB a := rfl
@[simp] theorem State.queue_setLink (k : Nat) (x : PlcLink) (i : QId) : (s.setLink k x).queue i = s.queue i := rfl
@[simp] theorem State.dt_setLink (k : Nat) (x : PlcLink) : (s.setLink k x).dt = s.dt := rfl
@[simp] theorem State.period_setLink (k : Nat) (x : PlcLink) (i j : Nat) : (s.setLink k x).period i j = s.period i j := rfl
@[simp] theorem State.tripped_setLink (k : Nat) (x : PlcLink) (z : Scope) : (s.setLink k x).tripped z = s.tripped z := rfl

/-! ## `setPhc` writes `net` -/

@[simp] theorem State.now_setPhc (p : Nat) (x : PhcInt) : (s.setPhc p x).now = s.now := rfl
@[simp] theorem State.pending_setPhc (p : Nat) (x : PhcInt) : (s.setPhc p x).pending = s.pending := rfl
@[simp] theorem State.free_setPhc (p : Nat) (x : PhcInt) : (s.setPhc p x).free = s.free := rfl
@[simp] theorem State.fields_setPhc (p : Nat) (x : PhcInt) : (s.setPhc p x).fields = s.fields := rfl
@[simp] theorem State.mem_setPhc (p : Nat) (x : PhcInt) : (s.setPhc p x).mem = s.mem := rfl
@[simp] theorem State.ecc_setPhc (p : Nat) (x : PhcInt) : (s.setPhc p x).ecc = s.ecc := rfl
@[simp] theorem State.engs_setPhc (p : Nat) (x : PhcInt) : (s.setPhc p x).engs = s.engs := rfl
@[simp] theorem State.mailbox_setPhc (p : Nat) (x : PhcInt) : (s.setPhc p x).mailbox = s.mailbox := rfl
@[simp] theorem State.outIdx_setPhc (p : Nat) (x : PhcInt) : (s.setPhc p x).outIdx = s.outIdx := rfl
@[simp] theorem State.outbox_setPhc (p : Nat) (x : PhcInt) : (s.setPhc p x).outbox = s.outbox := rfl
@[simp] theorem State.notices_setPhc (p : Nat) (x : PhcInt) : (s.setPhc p x).notices = s.notices := rfl
@[simp] theorem State.periods_setPhc (p : Nat) (x : PhcInt) : (s.setPhc p x).periods = s.periods := rfl
@[simp] theorem State.trips_setPhc (p : Nat) (x : PhcInt) : (s.setPhc p x).trips = s.trips := rfl
@[simp] theorem State.dtNs_setPhc (p : Nat) (x : PhcInt) : (s.setPhc p x).dtNs = s.dtNs := rfl
@[simp] theorem State.dtFrac_setPhc (p : Nat) (x : PhcInt) : (s.setPhc p x).dtFrac = s.dtFrac := rfl
@[simp] theorem State.maq_setPhc (p : Nat) (x : PhcInt) : (s.setPhc p x).maq = s.maq := rfl
@[simp] theorem State.phus_setPhc (p : Nat) (x : PhcInt) : (s.setPhc p x).phus = s.phus := rfl
@[simp] theorem State.lanes_setPhc (p : Nat) (x : PhcInt) : (s.setPhc p x).lanes = s.lanes := rfl
@[simp] theorem State.conns_setPhc (p : Nat) (x : PhcInt) : (s.setPhc p x).conns = s.conns := rfl
@[simp] theorem State.dests_setPhc (p : Nat) (x : PhcInt) : (s.setPhc p x).dests = s.dests := rfl
@[simp] theorem State.coils_setPhc (p : Nat) (x : PhcInt) : (s.setPhc p x).coils = s.coils := rfl
@[simp] theorem State.coilsOff_setPhc (p : Nat) (x : PhcInt) : (s.setPhc p x).coilsOff = s.coilsOff := rfl
@[simp] theorem State.epoch_setPhc (p : Nat) (x : PhcInt) : (s.setPhc p x).epoch = s.epoch := rfl
@[simp] theorem State.gap_setPhc (p : Nat) (x : PhcInt) : (s.setPhc p x).gap = s.gap := rfl
@[simp] theorem State.held_setPhc (p : Nat) (x : PhcInt) : (s.setPhc p x).held = s.held := rfl
@[simp] theorem State.clk_setPhc (p : Nat) (x : PhcInt) : (s.setPhc p x).clk = s.clk := rfl
@[simp] theorem State.pwr_setPhc (p : Nat) (x : PhcInt) : (s.setPhc p x).pwr = s.pwr := rfl
@[simp] theorem State.mode_setPhc (p : Nat) (x : PhcInt) : (s.setPhc p x).mode = s.mode := rfl
@[simp] theorem State.ctl_setPhc (p : Nat) (x : PhcInt) : (s.setPhc p x).ctl = s.ctl := rfl
@[simp] theorem State.portCharge_setPhc (p : Nat) (x : PhcInt) : (s.setPhc p x).portCharge = s.portCharge := rfl
@[simp] theorem State.lsws_setPhc (p : Nat) (x : PhcInt) : (s.setPhc p x).lsws = s.lsws := rfl
@[simp] theorem State.lsExceeded_setPhc (p : Nat) (x : PhcInt) : (s.setPhc p x).lsExceeded = s.lsExceeded := rfl
@[simp] theorem State.shedNext_setPhc (p : Nat) (x : PhcInt) : (s.setPhc p x).shedNext = s.shedNext := rfl
@[simp] theorem State.lsPace_setPhc (p : Nat) (x : PhcInt) : (s.setPhc p x).lsPace = s.lsPace := rfl
@[simp] theorem State.vswLost_setPhc (p : Nat) (x : PhcInt) : (s.setPhc p x).vswLost = s.vswLost := rfl
@[simp] theorem State.modbus_setPhc (p : Nat) (x : PhcInt) : (s.setPhc p x).modbus = s.modbus := rfl
@[simp] theorem State.cans_setPhc (p : Nat) (x : PhcInt) : (s.setPhc p x).cans = s.cans := rfl
@[simp] theorem State.plc_setPhc (p : Nat) (x : PhcInt) : (s.setPhc p x).plc = s.plc := rfl
@[simp] theorem State.answered_setPhc (p : Nat) (x : PhcInt) : (s.setPhc p x).answered = s.answered := rfl
@[simp] theorem State.alloc_setPhc (p : Nat) (x : PhcInt) : (s.setPhc p x).alloc = s.alloc := rfl
@[simp] theorem State.met_setPhc (p : Nat) (x : PhcInt) : (s.setPhc p x).met = s.met := rfl
@[simp] theorem State.bill_setPhc (p : Nat) (x : PhcInt) : (s.setPhc p x).bill = s.bill := rfl
@[simp] theorem State.sess_setPhc (p : Nat) (x : PhcInt) : (s.setPhc p x).sess = s.sess := rfl
@[simp] theorem State.t1Req_setPhc (p : Nat) (x : PhcInt) : (s.setPhc p x).t1Req = s.t1Req := rfl
@[simp] theorem State.ocpp_setPhc (p : Nat) (x : PhcInt) : (s.setPhc p x).ocpp = s.ocpp := rfl
@[simp] theorem State.cool_setPhc (p : Nat) (x : PhcInt) : (s.setPhc p x).cool = s.cool := rfl
@[simp] theorem State.buf_setPhc (p : Nat) (x : PhcInt) : (s.setPhc p x).buf = s.buf := rfl
@[simp] theorem State.vault_setPhc (p : Nat) (x : PhcInt) : (s.setPhc p x).vault = s.vault := rfl
@[simp] theorem State.sec_setPhc (p : Nat) (x : PhcInt) : (s.setPhc p x).sec = s.sec := rfl
@[simp] theorem State.f_setPhc (p : Nat) (x : PhcInt) (y : Fld) : (s.setPhc p x).f y = s.f y := rfl
@[simp] theorem State.fb_setPhc (p : Nat) (x : PhcInt) (y : Fld) : (s.setPhc p x).fb y = s.fb y := rfl
@[simp] theorem State.fi_setPhc (p : Nat) (x : PhcInt) (y : Fld) : (s.setPhc p x).fi y = s.fi y := rfl
@[simp] theorem State.eng_setPhc (p : Nat) (x : PhcInt) (j : Nat) : (s.setPhc p x).eng j = s.eng j := rfl
@[simp] theorem State.rdB_setPhc (p : Nat) (x : PhcInt) (a : Nat) : (s.setPhc p x).rdB a = s.rdB a := rfl
@[simp] theorem State.queue_setPhc (p : Nat) (x : PhcInt) (i : QId) : (s.setPhc p x).queue i = s.queue i := rfl
@[simp] theorem State.dt_setPhc (p : Nat) (x : PhcInt) : (s.setPhc p x).dt = s.dt := rfl
@[simp] theorem State.period_setPhc (p : Nat) (x : PhcInt) (i j : Nat) : (s.setPhc p x).period i j = s.period i j := rfl
@[simp] theorem State.tripped_setPhc (p : Nat) (x : PhcInt) (z : Scope) : (s.setPhc p x).tripped z = s.tripped z := rfl

/-! ## `setMet` writes `met` -/

@[simp] theorem State.now_setMet (g : MetInt → MetInt) : (s.setMet g).now = s.now := rfl
@[simp] theorem State.pending_setMet (g : MetInt → MetInt) : (s.setMet g).pending = s.pending := rfl
@[simp] theorem State.free_setMet (g : MetInt → MetInt) : (s.setMet g).free = s.free := rfl
@[simp] theorem State.fields_setMet (g : MetInt → MetInt) : (s.setMet g).fields = s.fields := rfl
@[simp] theorem State.mem_setMet (g : MetInt → MetInt) : (s.setMet g).mem = s.mem := rfl
@[simp] theorem State.ecc_setMet (g : MetInt → MetInt) : (s.setMet g).ecc = s.ecc := rfl
@[simp] theorem State.engs_setMet (g : MetInt → MetInt) : (s.setMet g).engs = s.engs := rfl
@[simp] theorem State.mailbox_setMet (g : MetInt → MetInt) : (s.setMet g).mailbox = s.mailbox := rfl
@[simp] theorem State.outIdx_setMet (g : MetInt → MetInt) : (s.setMet g).outIdx = s.outIdx := rfl
@[simp] theorem State.outbox_setMet (g : MetInt → MetInt) : (s.setMet g).outbox = s.outbox := rfl
@[simp] theorem State.notices_setMet (g : MetInt → MetInt) : (s.setMet g).notices = s.notices := rfl
@[simp] theorem State.periods_setMet (g : MetInt → MetInt) : (s.setMet g).periods = s.periods := rfl
@[simp] theorem State.trips_setMet (g : MetInt → MetInt) : (s.setMet g).trips = s.trips := rfl
@[simp] theorem State.dtNs_setMet (g : MetInt → MetInt) : (s.setMet g).dtNs = s.dtNs := rfl
@[simp] theorem State.dtFrac_setMet (g : MetInt → MetInt) : (s.setMet g).dtFrac = s.dtFrac := rfl
@[simp] theorem State.maq_setMet (g : MetInt → MetInt) : (s.setMet g).maq = s.maq := rfl
@[simp] theorem State.phus_setMet (g : MetInt → MetInt) : (s.setMet g).phus = s.phus := rfl
@[simp] theorem State.lanes_setMet (g : MetInt → MetInt) : (s.setMet g).lanes = s.lanes := rfl
@[simp] theorem State.conns_setMet (g : MetInt → MetInt) : (s.setMet g).conns = s.conns := rfl
@[simp] theorem State.dests_setMet (g : MetInt → MetInt) : (s.setMet g).dests = s.dests := rfl
@[simp] theorem State.coils_setMet (g : MetInt → MetInt) : (s.setMet g).coils = s.coils := rfl
@[simp] theorem State.coilsOff_setMet (g : MetInt → MetInt) : (s.setMet g).coilsOff = s.coilsOff := rfl
@[simp] theorem State.epoch_setMet (g : MetInt → MetInt) : (s.setMet g).epoch = s.epoch := rfl
@[simp] theorem State.gap_setMet (g : MetInt → MetInt) : (s.setMet g).gap = s.gap := rfl
@[simp] theorem State.held_setMet (g : MetInt → MetInt) : (s.setMet g).held = s.held := rfl
@[simp] theorem State.clk_setMet (g : MetInt → MetInt) : (s.setMet g).clk = s.clk := rfl
@[simp] theorem State.pwr_setMet (g : MetInt → MetInt) : (s.setMet g).pwr = s.pwr := rfl
@[simp] theorem State.mode_setMet (g : MetInt → MetInt) : (s.setMet g).mode = s.mode := rfl
@[simp] theorem State.ctl_setMet (g : MetInt → MetInt) : (s.setMet g).ctl = s.ctl := rfl
@[simp] theorem State.portCharge_setMet (g : MetInt → MetInt) : (s.setMet g).portCharge = s.portCharge := rfl
@[simp] theorem State.lsws_setMet (g : MetInt → MetInt) : (s.setMet g).lsws = s.lsws := rfl
@[simp] theorem State.lsExceeded_setMet (g : MetInt → MetInt) : (s.setMet g).lsExceeded = s.lsExceeded := rfl
@[simp] theorem State.shedNext_setMet (g : MetInt → MetInt) : (s.setMet g).shedNext = s.shedNext := rfl
@[simp] theorem State.lsPace_setMet (g : MetInt → MetInt) : (s.setMet g).lsPace = s.lsPace := rfl
@[simp] theorem State.vswLost_setMet (g : MetInt → MetInt) : (s.setMet g).vswLost = s.vswLost := rfl
@[simp] theorem State.net_setMet (g : MetInt → MetInt) : (s.setMet g).net = s.net := rfl
@[simp] theorem State.modbus_setMet (g : MetInt → MetInt) : (s.setMet g).modbus = s.modbus := rfl
@[simp] theorem State.cans_setMet (g : MetInt → MetInt) : (s.setMet g).cans = s.cans := rfl
@[simp] theorem State.plc_setMet (g : MetInt → MetInt) : (s.setMet g).plc = s.plc := rfl
@[simp] theorem State.answered_setMet (g : MetInt → MetInt) : (s.setMet g).answered = s.answered := rfl
@[simp] theorem State.alloc_setMet (g : MetInt → MetInt) : (s.setMet g).alloc = s.alloc := rfl
@[simp] theorem State.bill_setMet (g : MetInt → MetInt) : (s.setMet g).bill = s.bill := rfl
@[simp] theorem State.sess_setMet (g : MetInt → MetInt) : (s.setMet g).sess = s.sess := rfl
@[simp] theorem State.t1Req_setMet (g : MetInt → MetInt) : (s.setMet g).t1Req = s.t1Req := rfl
@[simp] theorem State.ocpp_setMet (g : MetInt → MetInt) : (s.setMet g).ocpp = s.ocpp := rfl
@[simp] theorem State.cool_setMet (g : MetInt → MetInt) : (s.setMet g).cool = s.cool := rfl
@[simp] theorem State.buf_setMet (g : MetInt → MetInt) : (s.setMet g).buf = s.buf := rfl
@[simp] theorem State.vault_setMet (g : MetInt → MetInt) : (s.setMet g).vault = s.vault := rfl
@[simp] theorem State.sec_setMet (g : MetInt → MetInt) : (s.setMet g).sec = s.sec := rfl
@[simp] theorem State.f_setMet (g : MetInt → MetInt) (y : Fld) : (s.setMet g).f y = s.f y := rfl
@[simp] theorem State.fb_setMet (g : MetInt → MetInt) (y : Fld) : (s.setMet g).fb y = s.fb y := rfl
@[simp] theorem State.fi_setMet (g : MetInt → MetInt) (y : Fld) : (s.setMet g).fi y = s.fi y := rfl
@[simp] theorem State.eng_setMet (g : MetInt → MetInt) (j : Nat) : (s.setMet g).eng j = s.eng j := rfl
@[simp] theorem State.rdB_setMet (g : MetInt → MetInt) (a : Nat) : (s.setMet g).rdB a = s.rdB a := rfl
@[simp] theorem State.queue_setMet (g : MetInt → MetInt) (i : QId) : (s.setMet g).queue i = s.queue i := rfl
@[simp] theorem State.dt_setMet (g : MetInt → MetInt) : (s.setMet g).dt = s.dt := rfl
@[simp] theorem State.period_setMet (g : MetInt → MetInt) (i j : Nat) : (s.setMet g).period i j = s.period i j := rfl
@[simp] theorem State.tripped_setMet (g : MetInt → MetInt) (z : Scope) : (s.setMet g).tripped z = s.tripped z := rfl

/-! ## `setBill` writes `bill` -/

@[simp] theorem State.now_setBill (g : BillInt → BillInt) : (s.setBill g).now = s.now := rfl
@[simp] theorem State.pending_setBill (g : BillInt → BillInt) : (s.setBill g).pending = s.pending := rfl
@[simp] theorem State.free_setBill (g : BillInt → BillInt) : (s.setBill g).free = s.free := rfl
@[simp] theorem State.fields_setBill (g : BillInt → BillInt) : (s.setBill g).fields = s.fields := rfl
@[simp] theorem State.mem_setBill (g : BillInt → BillInt) : (s.setBill g).mem = s.mem := rfl
@[simp] theorem State.ecc_setBill (g : BillInt → BillInt) : (s.setBill g).ecc = s.ecc := rfl
@[simp] theorem State.engs_setBill (g : BillInt → BillInt) : (s.setBill g).engs = s.engs := rfl
@[simp] theorem State.mailbox_setBill (g : BillInt → BillInt) : (s.setBill g).mailbox = s.mailbox := rfl
@[simp] theorem State.outIdx_setBill (g : BillInt → BillInt) : (s.setBill g).outIdx = s.outIdx := rfl
@[simp] theorem State.outbox_setBill (g : BillInt → BillInt) : (s.setBill g).outbox = s.outbox := rfl
@[simp] theorem State.notices_setBill (g : BillInt → BillInt) : (s.setBill g).notices = s.notices := rfl
@[simp] theorem State.periods_setBill (g : BillInt → BillInt) : (s.setBill g).periods = s.periods := rfl
@[simp] theorem State.trips_setBill (g : BillInt → BillInt) : (s.setBill g).trips = s.trips := rfl
@[simp] theorem State.dtNs_setBill (g : BillInt → BillInt) : (s.setBill g).dtNs = s.dtNs := rfl
@[simp] theorem State.dtFrac_setBill (g : BillInt → BillInt) : (s.setBill g).dtFrac = s.dtFrac := rfl
@[simp] theorem State.maq_setBill (g : BillInt → BillInt) : (s.setBill g).maq = s.maq := rfl
@[simp] theorem State.phus_setBill (g : BillInt → BillInt) : (s.setBill g).phus = s.phus := rfl
@[simp] theorem State.lanes_setBill (g : BillInt → BillInt) : (s.setBill g).lanes = s.lanes := rfl
@[simp] theorem State.conns_setBill (g : BillInt → BillInt) : (s.setBill g).conns = s.conns := rfl
@[simp] theorem State.dests_setBill (g : BillInt → BillInt) : (s.setBill g).dests = s.dests := rfl
@[simp] theorem State.coils_setBill (g : BillInt → BillInt) : (s.setBill g).coils = s.coils := rfl
@[simp] theorem State.coilsOff_setBill (g : BillInt → BillInt) : (s.setBill g).coilsOff = s.coilsOff := rfl
@[simp] theorem State.epoch_setBill (g : BillInt → BillInt) : (s.setBill g).epoch = s.epoch := rfl
@[simp] theorem State.gap_setBill (g : BillInt → BillInt) : (s.setBill g).gap = s.gap := rfl
@[simp] theorem State.held_setBill (g : BillInt → BillInt) : (s.setBill g).held = s.held := rfl
@[simp] theorem State.clk_setBill (g : BillInt → BillInt) : (s.setBill g).clk = s.clk := rfl
@[simp] theorem State.pwr_setBill (g : BillInt → BillInt) : (s.setBill g).pwr = s.pwr := rfl
@[simp] theorem State.mode_setBill (g : BillInt → BillInt) : (s.setBill g).mode = s.mode := rfl
@[simp] theorem State.ctl_setBill (g : BillInt → BillInt) : (s.setBill g).ctl = s.ctl := rfl
@[simp] theorem State.portCharge_setBill (g : BillInt → BillInt) : (s.setBill g).portCharge = s.portCharge := rfl
@[simp] theorem State.lsws_setBill (g : BillInt → BillInt) : (s.setBill g).lsws = s.lsws := rfl
@[simp] theorem State.lsExceeded_setBill (g : BillInt → BillInt) : (s.setBill g).lsExceeded = s.lsExceeded := rfl
@[simp] theorem State.shedNext_setBill (g : BillInt → BillInt) : (s.setBill g).shedNext = s.shedNext := rfl
@[simp] theorem State.lsPace_setBill (g : BillInt → BillInt) : (s.setBill g).lsPace = s.lsPace := rfl
@[simp] theorem State.vswLost_setBill (g : BillInt → BillInt) : (s.setBill g).vswLost = s.vswLost := rfl
@[simp] theorem State.net_setBill (g : BillInt → BillInt) : (s.setBill g).net = s.net := rfl
@[simp] theorem State.modbus_setBill (g : BillInt → BillInt) : (s.setBill g).modbus = s.modbus := rfl
@[simp] theorem State.cans_setBill (g : BillInt → BillInt) : (s.setBill g).cans = s.cans := rfl
@[simp] theorem State.plc_setBill (g : BillInt → BillInt) : (s.setBill g).plc = s.plc := rfl
@[simp] theorem State.answered_setBill (g : BillInt → BillInt) : (s.setBill g).answered = s.answered := rfl
@[simp] theorem State.alloc_setBill (g : BillInt → BillInt) : (s.setBill g).alloc = s.alloc := rfl
@[simp] theorem State.met_setBill (g : BillInt → BillInt) : (s.setBill g).met = s.met := rfl
@[simp] theorem State.sess_setBill (g : BillInt → BillInt) : (s.setBill g).sess = s.sess := rfl
@[simp] theorem State.t1Req_setBill (g : BillInt → BillInt) : (s.setBill g).t1Req = s.t1Req := rfl
@[simp] theorem State.ocpp_setBill (g : BillInt → BillInt) : (s.setBill g).ocpp = s.ocpp := rfl
@[simp] theorem State.cool_setBill (g : BillInt → BillInt) : (s.setBill g).cool = s.cool := rfl
@[simp] theorem State.buf_setBill (g : BillInt → BillInt) : (s.setBill g).buf = s.buf := rfl
@[simp] theorem State.vault_setBill (g : BillInt → BillInt) : (s.setBill g).vault = s.vault := rfl
@[simp] theorem State.sec_setBill (g : BillInt → BillInt) : (s.setBill g).sec = s.sec := rfl
@[simp] theorem State.f_setBill (g : BillInt → BillInt) (y : Fld) : (s.setBill g).f y = s.f y := rfl
@[simp] theorem State.fb_setBill (g : BillInt → BillInt) (y : Fld) : (s.setBill g).fb y = s.fb y := rfl
@[simp] theorem State.fi_setBill (g : BillInt → BillInt) (y : Fld) : (s.setBill g).fi y = s.fi y := rfl
@[simp] theorem State.eng_setBill (g : BillInt → BillInt) (j : Nat) : (s.setBill g).eng j = s.eng j := rfl
@[simp] theorem State.rdB_setBill (g : BillInt → BillInt) (a : Nat) : (s.setBill g).rdB a = s.rdB a := rfl
@[simp] theorem State.queue_setBill (g : BillInt → BillInt) (i : QId) : (s.setBill g).queue i = s.queue i := rfl
@[simp] theorem State.dt_setBill (g : BillInt → BillInt) : (s.setBill g).dt = s.dt := rfl
@[simp] theorem State.period_setBill (g : BillInt → BillInt) (i j : Nat) : (s.setBill g).period i j = s.period i j := rfl
@[simp] theorem State.tripped_setBill (g : BillInt → BillInt) (z : Scope) : (s.setBill g).tripped z = s.tripped z := rfl

/-! ## `setSes` writes `sess` -/

@[simp] theorem State.now_setSes (c : Nat) (g : SessInt → SessInt) : (s.setSes c g).now = s.now := rfl
@[simp] theorem State.pending_setSes (c : Nat) (g : SessInt → SessInt) : (s.setSes c g).pending = s.pending := rfl
@[simp] theorem State.free_setSes (c : Nat) (g : SessInt → SessInt) : (s.setSes c g).free = s.free := rfl
@[simp] theorem State.fields_setSes (c : Nat) (g : SessInt → SessInt) : (s.setSes c g).fields = s.fields := rfl
@[simp] theorem State.mem_setSes (c : Nat) (g : SessInt → SessInt) : (s.setSes c g).mem = s.mem := rfl
@[simp] theorem State.ecc_setSes (c : Nat) (g : SessInt → SessInt) : (s.setSes c g).ecc = s.ecc := rfl
@[simp] theorem State.engs_setSes (c : Nat) (g : SessInt → SessInt) : (s.setSes c g).engs = s.engs := rfl
@[simp] theorem State.mailbox_setSes (c : Nat) (g : SessInt → SessInt) : (s.setSes c g).mailbox = s.mailbox := rfl
@[simp] theorem State.outIdx_setSes (c : Nat) (g : SessInt → SessInt) : (s.setSes c g).outIdx = s.outIdx := rfl
@[simp] theorem State.outbox_setSes (c : Nat) (g : SessInt → SessInt) : (s.setSes c g).outbox = s.outbox := rfl
@[simp] theorem State.notices_setSes (c : Nat) (g : SessInt → SessInt) : (s.setSes c g).notices = s.notices := rfl
@[simp] theorem State.periods_setSes (c : Nat) (g : SessInt → SessInt) : (s.setSes c g).periods = s.periods := rfl
@[simp] theorem State.trips_setSes (c : Nat) (g : SessInt → SessInt) : (s.setSes c g).trips = s.trips := rfl
@[simp] theorem State.dtNs_setSes (c : Nat) (g : SessInt → SessInt) : (s.setSes c g).dtNs = s.dtNs := rfl
@[simp] theorem State.dtFrac_setSes (c : Nat) (g : SessInt → SessInt) : (s.setSes c g).dtFrac = s.dtFrac := rfl
@[simp] theorem State.maq_setSes (c : Nat) (g : SessInt → SessInt) : (s.setSes c g).maq = s.maq := rfl
@[simp] theorem State.phus_setSes (c : Nat) (g : SessInt → SessInt) : (s.setSes c g).phus = s.phus := rfl
@[simp] theorem State.lanes_setSes (c : Nat) (g : SessInt → SessInt) : (s.setSes c g).lanes = s.lanes := rfl
@[simp] theorem State.conns_setSes (c : Nat) (g : SessInt → SessInt) : (s.setSes c g).conns = s.conns := rfl
@[simp] theorem State.dests_setSes (c : Nat) (g : SessInt → SessInt) : (s.setSes c g).dests = s.dests := rfl
@[simp] theorem State.coils_setSes (c : Nat) (g : SessInt → SessInt) : (s.setSes c g).coils = s.coils := rfl
@[simp] theorem State.coilsOff_setSes (c : Nat) (g : SessInt → SessInt) : (s.setSes c g).coilsOff = s.coilsOff := rfl
@[simp] theorem State.epoch_setSes (c : Nat) (g : SessInt → SessInt) : (s.setSes c g).epoch = s.epoch := rfl
@[simp] theorem State.gap_setSes (c : Nat) (g : SessInt → SessInt) : (s.setSes c g).gap = s.gap := rfl
@[simp] theorem State.held_setSes (c : Nat) (g : SessInt → SessInt) : (s.setSes c g).held = s.held := rfl
@[simp] theorem State.clk_setSes (c : Nat) (g : SessInt → SessInt) : (s.setSes c g).clk = s.clk := rfl
@[simp] theorem State.pwr_setSes (c : Nat) (g : SessInt → SessInt) : (s.setSes c g).pwr = s.pwr := rfl
@[simp] theorem State.mode_setSes (c : Nat) (g : SessInt → SessInt) : (s.setSes c g).mode = s.mode := rfl
@[simp] theorem State.ctl_setSes (c : Nat) (g : SessInt → SessInt) : (s.setSes c g).ctl = s.ctl := rfl
@[simp] theorem State.portCharge_setSes (c : Nat) (g : SessInt → SessInt) : (s.setSes c g).portCharge = s.portCharge := rfl
@[simp] theorem State.lsws_setSes (c : Nat) (g : SessInt → SessInt) : (s.setSes c g).lsws = s.lsws := rfl
@[simp] theorem State.lsExceeded_setSes (c : Nat) (g : SessInt → SessInt) : (s.setSes c g).lsExceeded = s.lsExceeded := rfl
@[simp] theorem State.shedNext_setSes (c : Nat) (g : SessInt → SessInt) : (s.setSes c g).shedNext = s.shedNext := rfl
@[simp] theorem State.lsPace_setSes (c : Nat) (g : SessInt → SessInt) : (s.setSes c g).lsPace = s.lsPace := rfl
@[simp] theorem State.vswLost_setSes (c : Nat) (g : SessInt → SessInt) : (s.setSes c g).vswLost = s.vswLost := rfl
@[simp] theorem State.net_setSes (c : Nat) (g : SessInt → SessInt) : (s.setSes c g).net = s.net := rfl
@[simp] theorem State.modbus_setSes (c : Nat) (g : SessInt → SessInt) : (s.setSes c g).modbus = s.modbus := rfl
@[simp] theorem State.cans_setSes (c : Nat) (g : SessInt → SessInt) : (s.setSes c g).cans = s.cans := rfl
@[simp] theorem State.plc_setSes (c : Nat) (g : SessInt → SessInt) : (s.setSes c g).plc = s.plc := rfl
@[simp] theorem State.answered_setSes (c : Nat) (g : SessInt → SessInt) : (s.setSes c g).answered = s.answered := rfl
@[simp] theorem State.alloc_setSes (c : Nat) (g : SessInt → SessInt) : (s.setSes c g).alloc = s.alloc := rfl
@[simp] theorem State.met_setSes (c : Nat) (g : SessInt → SessInt) : (s.setSes c g).met = s.met := rfl
@[simp] theorem State.bill_setSes (c : Nat) (g : SessInt → SessInt) : (s.setSes c g).bill = s.bill := rfl
@[simp] theorem State.t1Req_setSes (c : Nat) (g : SessInt → SessInt) : (s.setSes c g).t1Req = s.t1Req := rfl
@[simp] theorem State.ocpp_setSes (c : Nat) (g : SessInt → SessInt) : (s.setSes c g).ocpp = s.ocpp := rfl
@[simp] theorem State.cool_setSes (c : Nat) (g : SessInt → SessInt) : (s.setSes c g).cool = s.cool := rfl
@[simp] theorem State.buf_setSes (c : Nat) (g : SessInt → SessInt) : (s.setSes c g).buf = s.buf := rfl
@[simp] theorem State.vault_setSes (c : Nat) (g : SessInt → SessInt) : (s.setSes c g).vault = s.vault := rfl
@[simp] theorem State.sec_setSes (c : Nat) (g : SessInt → SessInt) : (s.setSes c g).sec = s.sec := rfl
@[simp] theorem State.f_setSes (c : Nat) (g : SessInt → SessInt) (y : Fld) : (s.setSes c g).f y = s.f y := rfl
@[simp] theorem State.fb_setSes (c : Nat) (g : SessInt → SessInt) (y : Fld) : (s.setSes c g).fb y = s.fb y := rfl
@[simp] theorem State.fi_setSes (c : Nat) (g : SessInt → SessInt) (y : Fld) : (s.setSes c g).fi y = s.fi y := rfl
@[simp] theorem State.eng_setSes (c : Nat) (g : SessInt → SessInt) (j : Nat) : (s.setSes c g).eng j = s.eng j := rfl
@[simp] theorem State.rdB_setSes (c : Nat) (g : SessInt → SessInt) (a : Nat) : (s.setSes c g).rdB a = s.rdB a := rfl
@[simp] theorem State.queue_setSes (c : Nat) (g : SessInt → SessInt) (i : QId) : (s.setSes c g).queue i = s.queue i := rfl
@[simp] theorem State.dt_setSes (c : Nat) (g : SessInt → SessInt) : (s.setSes c g).dt = s.dt := rfl
@[simp] theorem State.period_setSes (c : Nat) (g : SessInt → SessInt) (i j : Nat) : (s.setSes c g).period i j = s.period i j := rfl
@[simp] theorem State.tripped_setSes (c : Nat) (g : SessInt → SessInt) (z : Scope) : (s.setSes c g).tripped z = s.tripped z := rfl

/-! ## `setCool` writes `cool` -/

@[simp] theorem State.now_setCool (g : CoolInt → CoolInt) : (s.setCool g).now = s.now := rfl
@[simp] theorem State.pending_setCool (g : CoolInt → CoolInt) : (s.setCool g).pending = s.pending := rfl
@[simp] theorem State.free_setCool (g : CoolInt → CoolInt) : (s.setCool g).free = s.free := rfl
@[simp] theorem State.fields_setCool (g : CoolInt → CoolInt) : (s.setCool g).fields = s.fields := rfl
@[simp] theorem State.mem_setCool (g : CoolInt → CoolInt) : (s.setCool g).mem = s.mem := rfl
@[simp] theorem State.ecc_setCool (g : CoolInt → CoolInt) : (s.setCool g).ecc = s.ecc := rfl
@[simp] theorem State.engs_setCool (g : CoolInt → CoolInt) : (s.setCool g).engs = s.engs := rfl
@[simp] theorem State.mailbox_setCool (g : CoolInt → CoolInt) : (s.setCool g).mailbox = s.mailbox := rfl
@[simp] theorem State.outIdx_setCool (g : CoolInt → CoolInt) : (s.setCool g).outIdx = s.outIdx := rfl
@[simp] theorem State.outbox_setCool (g : CoolInt → CoolInt) : (s.setCool g).outbox = s.outbox := rfl
@[simp] theorem State.notices_setCool (g : CoolInt → CoolInt) : (s.setCool g).notices = s.notices := rfl
@[simp] theorem State.periods_setCool (g : CoolInt → CoolInt) : (s.setCool g).periods = s.periods := rfl
@[simp] theorem State.trips_setCool (g : CoolInt → CoolInt) : (s.setCool g).trips = s.trips := rfl
@[simp] theorem State.dtNs_setCool (g : CoolInt → CoolInt) : (s.setCool g).dtNs = s.dtNs := rfl
@[simp] theorem State.dtFrac_setCool (g : CoolInt → CoolInt) : (s.setCool g).dtFrac = s.dtFrac := rfl
@[simp] theorem State.maq_setCool (g : CoolInt → CoolInt) : (s.setCool g).maq = s.maq := rfl
@[simp] theorem State.phus_setCool (g : CoolInt → CoolInt) : (s.setCool g).phus = s.phus := rfl
@[simp] theorem State.lanes_setCool (g : CoolInt → CoolInt) : (s.setCool g).lanes = s.lanes := rfl
@[simp] theorem State.conns_setCool (g : CoolInt → CoolInt) : (s.setCool g).conns = s.conns := rfl
@[simp] theorem State.dests_setCool (g : CoolInt → CoolInt) : (s.setCool g).dests = s.dests := rfl
@[simp] theorem State.coils_setCool (g : CoolInt → CoolInt) : (s.setCool g).coils = s.coils := rfl
@[simp] theorem State.coilsOff_setCool (g : CoolInt → CoolInt) : (s.setCool g).coilsOff = s.coilsOff := rfl
@[simp] theorem State.epoch_setCool (g : CoolInt → CoolInt) : (s.setCool g).epoch = s.epoch := rfl
@[simp] theorem State.gap_setCool (g : CoolInt → CoolInt) : (s.setCool g).gap = s.gap := rfl
@[simp] theorem State.held_setCool (g : CoolInt → CoolInt) : (s.setCool g).held = s.held := rfl
@[simp] theorem State.clk_setCool (g : CoolInt → CoolInt) : (s.setCool g).clk = s.clk := rfl
@[simp] theorem State.pwr_setCool (g : CoolInt → CoolInt) : (s.setCool g).pwr = s.pwr := rfl
@[simp] theorem State.mode_setCool (g : CoolInt → CoolInt) : (s.setCool g).mode = s.mode := rfl
@[simp] theorem State.ctl_setCool (g : CoolInt → CoolInt) : (s.setCool g).ctl = s.ctl := rfl
@[simp] theorem State.portCharge_setCool (g : CoolInt → CoolInt) : (s.setCool g).portCharge = s.portCharge := rfl
@[simp] theorem State.lsws_setCool (g : CoolInt → CoolInt) : (s.setCool g).lsws = s.lsws := rfl
@[simp] theorem State.lsExceeded_setCool (g : CoolInt → CoolInt) : (s.setCool g).lsExceeded = s.lsExceeded := rfl
@[simp] theorem State.shedNext_setCool (g : CoolInt → CoolInt) : (s.setCool g).shedNext = s.shedNext := rfl
@[simp] theorem State.lsPace_setCool (g : CoolInt → CoolInt) : (s.setCool g).lsPace = s.lsPace := rfl
@[simp] theorem State.vswLost_setCool (g : CoolInt → CoolInt) : (s.setCool g).vswLost = s.vswLost := rfl
@[simp] theorem State.net_setCool (g : CoolInt → CoolInt) : (s.setCool g).net = s.net := rfl
@[simp] theorem State.modbus_setCool (g : CoolInt → CoolInt) : (s.setCool g).modbus = s.modbus := rfl
@[simp] theorem State.cans_setCool (g : CoolInt → CoolInt) : (s.setCool g).cans = s.cans := rfl
@[simp] theorem State.plc_setCool (g : CoolInt → CoolInt) : (s.setCool g).plc = s.plc := rfl
@[simp] theorem State.answered_setCool (g : CoolInt → CoolInt) : (s.setCool g).answered = s.answered := rfl
@[simp] theorem State.alloc_setCool (g : CoolInt → CoolInt) : (s.setCool g).alloc = s.alloc := rfl
@[simp] theorem State.met_setCool (g : CoolInt → CoolInt) : (s.setCool g).met = s.met := rfl
@[simp] theorem State.bill_setCool (g : CoolInt → CoolInt) : (s.setCool g).bill = s.bill := rfl
@[simp] theorem State.sess_setCool (g : CoolInt → CoolInt) : (s.setCool g).sess = s.sess := rfl
@[simp] theorem State.t1Req_setCool (g : CoolInt → CoolInt) : (s.setCool g).t1Req = s.t1Req := rfl
@[simp] theorem State.ocpp_setCool (g : CoolInt → CoolInt) : (s.setCool g).ocpp = s.ocpp := rfl
@[simp] theorem State.buf_setCool (g : CoolInt → CoolInt) : (s.setCool g).buf = s.buf := rfl
@[simp] theorem State.vault_setCool (g : CoolInt → CoolInt) : (s.setCool g).vault = s.vault := rfl
@[simp] theorem State.sec_setCool (g : CoolInt → CoolInt) : (s.setCool g).sec = s.sec := rfl
@[simp] theorem State.f_setCool (g : CoolInt → CoolInt) (y : Fld) : (s.setCool g).f y = s.f y := rfl
@[simp] theorem State.fb_setCool (g : CoolInt → CoolInt) (y : Fld) : (s.setCool g).fb y = s.fb y := rfl
@[simp] theorem State.fi_setCool (g : CoolInt → CoolInt) (y : Fld) : (s.setCool g).fi y = s.fi y := rfl
@[simp] theorem State.eng_setCool (g : CoolInt → CoolInt) (j : Nat) : (s.setCool g).eng j = s.eng j := rfl
@[simp] theorem State.rdB_setCool (g : CoolInt → CoolInt) (a : Nat) : (s.setCool g).rdB a = s.rdB a := rfl
@[simp] theorem State.queue_setCool (g : CoolInt → CoolInt) (i : QId) : (s.setCool g).queue i = s.queue i := rfl
@[simp] theorem State.dt_setCool (g : CoolInt → CoolInt) : (s.setCool g).dt = s.dt := rfl
@[simp] theorem State.period_setCool (g : CoolInt → CoolInt) (i j : Nat) : (s.setCool g).period i j = s.period i j := rfl
@[simp] theorem State.tripped_setCool (g : CoolInt → CoolInt) (z : Scope) : (s.setCool g).tripped z = s.tripped z := rfl

/-! ## `setBuf` writes `buf` -/

@[simp] theorem State.now_setBuf (g : BufInt → BufInt) : (s.setBuf g).now = s.now := rfl
@[simp] theorem State.pending_setBuf (g : BufInt → BufInt) : (s.setBuf g).pending = s.pending := rfl
@[simp] theorem State.free_setBuf (g : BufInt → BufInt) : (s.setBuf g).free = s.free := rfl
@[simp] theorem State.fields_setBuf (g : BufInt → BufInt) : (s.setBuf g).fields = s.fields := rfl
@[simp] theorem State.mem_setBuf (g : BufInt → BufInt) : (s.setBuf g).mem = s.mem := rfl
@[simp] theorem State.ecc_setBuf (g : BufInt → BufInt) : (s.setBuf g).ecc = s.ecc := rfl
@[simp] theorem State.engs_setBuf (g : BufInt → BufInt) : (s.setBuf g).engs = s.engs := rfl
@[simp] theorem State.mailbox_setBuf (g : BufInt → BufInt) : (s.setBuf g).mailbox = s.mailbox := rfl
@[simp] theorem State.outIdx_setBuf (g : BufInt → BufInt) : (s.setBuf g).outIdx = s.outIdx := rfl
@[simp] theorem State.outbox_setBuf (g : BufInt → BufInt) : (s.setBuf g).outbox = s.outbox := rfl
@[simp] theorem State.notices_setBuf (g : BufInt → BufInt) : (s.setBuf g).notices = s.notices := rfl
@[simp] theorem State.periods_setBuf (g : BufInt → BufInt) : (s.setBuf g).periods = s.periods := rfl
@[simp] theorem State.trips_setBuf (g : BufInt → BufInt) : (s.setBuf g).trips = s.trips := rfl
@[simp] theorem State.dtNs_setBuf (g : BufInt → BufInt) : (s.setBuf g).dtNs = s.dtNs := rfl
@[simp] theorem State.dtFrac_setBuf (g : BufInt → BufInt) : (s.setBuf g).dtFrac = s.dtFrac := rfl
@[simp] theorem State.maq_setBuf (g : BufInt → BufInt) : (s.setBuf g).maq = s.maq := rfl
@[simp] theorem State.phus_setBuf (g : BufInt → BufInt) : (s.setBuf g).phus = s.phus := rfl
@[simp] theorem State.lanes_setBuf (g : BufInt → BufInt) : (s.setBuf g).lanes = s.lanes := rfl
@[simp] theorem State.conns_setBuf (g : BufInt → BufInt) : (s.setBuf g).conns = s.conns := rfl
@[simp] theorem State.dests_setBuf (g : BufInt → BufInt) : (s.setBuf g).dests = s.dests := rfl
@[simp] theorem State.coils_setBuf (g : BufInt → BufInt) : (s.setBuf g).coils = s.coils := rfl
@[simp] theorem State.coilsOff_setBuf (g : BufInt → BufInt) : (s.setBuf g).coilsOff = s.coilsOff := rfl
@[simp] theorem State.epoch_setBuf (g : BufInt → BufInt) : (s.setBuf g).epoch = s.epoch := rfl
@[simp] theorem State.gap_setBuf (g : BufInt → BufInt) : (s.setBuf g).gap = s.gap := rfl
@[simp] theorem State.held_setBuf (g : BufInt → BufInt) : (s.setBuf g).held = s.held := rfl
@[simp] theorem State.clk_setBuf (g : BufInt → BufInt) : (s.setBuf g).clk = s.clk := rfl
@[simp] theorem State.pwr_setBuf (g : BufInt → BufInt) : (s.setBuf g).pwr = s.pwr := rfl
@[simp] theorem State.mode_setBuf (g : BufInt → BufInt) : (s.setBuf g).mode = s.mode := rfl
@[simp] theorem State.ctl_setBuf (g : BufInt → BufInt) : (s.setBuf g).ctl = s.ctl := rfl
@[simp] theorem State.portCharge_setBuf (g : BufInt → BufInt) : (s.setBuf g).portCharge = s.portCharge := rfl
@[simp] theorem State.lsws_setBuf (g : BufInt → BufInt) : (s.setBuf g).lsws = s.lsws := rfl
@[simp] theorem State.lsExceeded_setBuf (g : BufInt → BufInt) : (s.setBuf g).lsExceeded = s.lsExceeded := rfl
@[simp] theorem State.shedNext_setBuf (g : BufInt → BufInt) : (s.setBuf g).shedNext = s.shedNext := rfl
@[simp] theorem State.lsPace_setBuf (g : BufInt → BufInt) : (s.setBuf g).lsPace = s.lsPace := rfl
@[simp] theorem State.vswLost_setBuf (g : BufInt → BufInt) : (s.setBuf g).vswLost = s.vswLost := rfl
@[simp] theorem State.net_setBuf (g : BufInt → BufInt) : (s.setBuf g).net = s.net := rfl
@[simp] theorem State.modbus_setBuf (g : BufInt → BufInt) : (s.setBuf g).modbus = s.modbus := rfl
@[simp] theorem State.cans_setBuf (g : BufInt → BufInt) : (s.setBuf g).cans = s.cans := rfl
@[simp] theorem State.plc_setBuf (g : BufInt → BufInt) : (s.setBuf g).plc = s.plc := rfl
@[simp] theorem State.answered_setBuf (g : BufInt → BufInt) : (s.setBuf g).answered = s.answered := rfl
@[simp] theorem State.alloc_setBuf (g : BufInt → BufInt) : (s.setBuf g).alloc = s.alloc := rfl
@[simp] theorem State.met_setBuf (g : BufInt → BufInt) : (s.setBuf g).met = s.met := rfl
@[simp] theorem State.bill_setBuf (g : BufInt → BufInt) : (s.setBuf g).bill = s.bill := rfl
@[simp] theorem State.sess_setBuf (g : BufInt → BufInt) : (s.setBuf g).sess = s.sess := rfl
@[simp] theorem State.t1Req_setBuf (g : BufInt → BufInt) : (s.setBuf g).t1Req = s.t1Req := rfl
@[simp] theorem State.ocpp_setBuf (g : BufInt → BufInt) : (s.setBuf g).ocpp = s.ocpp := rfl
@[simp] theorem State.cool_setBuf (g : BufInt → BufInt) : (s.setBuf g).cool = s.cool := rfl
@[simp] theorem State.vault_setBuf (g : BufInt → BufInt) : (s.setBuf g).vault = s.vault := rfl
@[simp] theorem State.sec_setBuf (g : BufInt → BufInt) : (s.setBuf g).sec = s.sec := rfl
@[simp] theorem State.f_setBuf (g : BufInt → BufInt) (y : Fld) : (s.setBuf g).f y = s.f y := rfl
@[simp] theorem State.fb_setBuf (g : BufInt → BufInt) (y : Fld) : (s.setBuf g).fb y = s.fb y := rfl
@[simp] theorem State.fi_setBuf (g : BufInt → BufInt) (y : Fld) : (s.setBuf g).fi y = s.fi y := rfl
@[simp] theorem State.eng_setBuf (g : BufInt → BufInt) (j : Nat) : (s.setBuf g).eng j = s.eng j := rfl
@[simp] theorem State.rdB_setBuf (g : BufInt → BufInt) (a : Nat) : (s.setBuf g).rdB a = s.rdB a := rfl
@[simp] theorem State.queue_setBuf (g : BufInt → BufInt) (i : QId) : (s.setBuf g).queue i = s.queue i := rfl
@[simp] theorem State.dt_setBuf (g : BufInt → BufInt) : (s.setBuf g).dt = s.dt := rfl
@[simp] theorem State.period_setBuf (g : BufInt → BufInt) (i j : Nat) : (s.setBuf g).period i j = s.period i j := rfl
@[simp] theorem State.tripped_setBuf (g : BufInt → BufInt) (z : Scope) : (s.setBuf g).tripped z = s.tripped z := rfl

/-! ## `setAlloc` writes `alloc` -/

@[simp] theorem State.now_setAlloc (g : AllocInt → AllocInt) : (s.setAlloc g).now = s.now := rfl
@[simp] theorem State.pending_setAlloc (g : AllocInt → AllocInt) : (s.setAlloc g).pending = s.pending := rfl
@[simp] theorem State.free_setAlloc (g : AllocInt → AllocInt) : (s.setAlloc g).free = s.free := rfl
@[simp] theorem State.fields_setAlloc (g : AllocInt → AllocInt) : (s.setAlloc g).fields = s.fields := rfl
@[simp] theorem State.mem_setAlloc (g : AllocInt → AllocInt) : (s.setAlloc g).mem = s.mem := rfl
@[simp] theorem State.ecc_setAlloc (g : AllocInt → AllocInt) : (s.setAlloc g).ecc = s.ecc := rfl
@[simp] theorem State.engs_setAlloc (g : AllocInt → AllocInt) : (s.setAlloc g).engs = s.engs := rfl
@[simp] theorem State.mailbox_setAlloc (g : AllocInt → AllocInt) : (s.setAlloc g).mailbox = s.mailbox := rfl
@[simp] theorem State.outIdx_setAlloc (g : AllocInt → AllocInt) : (s.setAlloc g).outIdx = s.outIdx := rfl
@[simp] theorem State.outbox_setAlloc (g : AllocInt → AllocInt) : (s.setAlloc g).outbox = s.outbox := rfl
@[simp] theorem State.notices_setAlloc (g : AllocInt → AllocInt) : (s.setAlloc g).notices = s.notices := rfl
@[simp] theorem State.periods_setAlloc (g : AllocInt → AllocInt) : (s.setAlloc g).periods = s.periods := rfl
@[simp] theorem State.trips_setAlloc (g : AllocInt → AllocInt) : (s.setAlloc g).trips = s.trips := rfl
@[simp] theorem State.dtNs_setAlloc (g : AllocInt → AllocInt) : (s.setAlloc g).dtNs = s.dtNs := rfl
@[simp] theorem State.dtFrac_setAlloc (g : AllocInt → AllocInt) : (s.setAlloc g).dtFrac = s.dtFrac := rfl
@[simp] theorem State.maq_setAlloc (g : AllocInt → AllocInt) : (s.setAlloc g).maq = s.maq := rfl
@[simp] theorem State.phus_setAlloc (g : AllocInt → AllocInt) : (s.setAlloc g).phus = s.phus := rfl
@[simp] theorem State.lanes_setAlloc (g : AllocInt → AllocInt) : (s.setAlloc g).lanes = s.lanes := rfl
@[simp] theorem State.conns_setAlloc (g : AllocInt → AllocInt) : (s.setAlloc g).conns = s.conns := rfl
@[simp] theorem State.dests_setAlloc (g : AllocInt → AllocInt) : (s.setAlloc g).dests = s.dests := rfl
@[simp] theorem State.coils_setAlloc (g : AllocInt → AllocInt) : (s.setAlloc g).coils = s.coils := rfl
@[simp] theorem State.coilsOff_setAlloc (g : AllocInt → AllocInt) : (s.setAlloc g).coilsOff = s.coilsOff := rfl
@[simp] theorem State.epoch_setAlloc (g : AllocInt → AllocInt) : (s.setAlloc g).epoch = s.epoch := rfl
@[simp] theorem State.gap_setAlloc (g : AllocInt → AllocInt) : (s.setAlloc g).gap = s.gap := rfl
@[simp] theorem State.held_setAlloc (g : AllocInt → AllocInt) : (s.setAlloc g).held = s.held := rfl
@[simp] theorem State.clk_setAlloc (g : AllocInt → AllocInt) : (s.setAlloc g).clk = s.clk := rfl
@[simp] theorem State.pwr_setAlloc (g : AllocInt → AllocInt) : (s.setAlloc g).pwr = s.pwr := rfl
@[simp] theorem State.mode_setAlloc (g : AllocInt → AllocInt) : (s.setAlloc g).mode = s.mode := rfl
@[simp] theorem State.ctl_setAlloc (g : AllocInt → AllocInt) : (s.setAlloc g).ctl = s.ctl := rfl
@[simp] theorem State.portCharge_setAlloc (g : AllocInt → AllocInt) : (s.setAlloc g).portCharge = s.portCharge := rfl
@[simp] theorem State.lsws_setAlloc (g : AllocInt → AllocInt) : (s.setAlloc g).lsws = s.lsws := rfl
@[simp] theorem State.lsExceeded_setAlloc (g : AllocInt → AllocInt) : (s.setAlloc g).lsExceeded = s.lsExceeded := rfl
@[simp] theorem State.shedNext_setAlloc (g : AllocInt → AllocInt) : (s.setAlloc g).shedNext = s.shedNext := rfl
@[simp] theorem State.lsPace_setAlloc (g : AllocInt → AllocInt) : (s.setAlloc g).lsPace = s.lsPace := rfl
@[simp] theorem State.vswLost_setAlloc (g : AllocInt → AllocInt) : (s.setAlloc g).vswLost = s.vswLost := rfl
@[simp] theorem State.net_setAlloc (g : AllocInt → AllocInt) : (s.setAlloc g).net = s.net := rfl
@[simp] theorem State.modbus_setAlloc (g : AllocInt → AllocInt) : (s.setAlloc g).modbus = s.modbus := rfl
@[simp] theorem State.cans_setAlloc (g : AllocInt → AllocInt) : (s.setAlloc g).cans = s.cans := rfl
@[simp] theorem State.plc_setAlloc (g : AllocInt → AllocInt) : (s.setAlloc g).plc = s.plc := rfl
@[simp] theorem State.answered_setAlloc (g : AllocInt → AllocInt) : (s.setAlloc g).answered = s.answered := rfl
@[simp] theorem State.met_setAlloc (g : AllocInt → AllocInt) : (s.setAlloc g).met = s.met := rfl
@[simp] theorem State.bill_setAlloc (g : AllocInt → AllocInt) : (s.setAlloc g).bill = s.bill := rfl
@[simp] theorem State.sess_setAlloc (g : AllocInt → AllocInt) : (s.setAlloc g).sess = s.sess := rfl
@[simp] theorem State.t1Req_setAlloc (g : AllocInt → AllocInt) : (s.setAlloc g).t1Req = s.t1Req := rfl
@[simp] theorem State.ocpp_setAlloc (g : AllocInt → AllocInt) : (s.setAlloc g).ocpp = s.ocpp := rfl
@[simp] theorem State.cool_setAlloc (g : AllocInt → AllocInt) : (s.setAlloc g).cool = s.cool := rfl
@[simp] theorem State.buf_setAlloc (g : AllocInt → AllocInt) : (s.setAlloc g).buf = s.buf := rfl
@[simp] theorem State.vault_setAlloc (g : AllocInt → AllocInt) : (s.setAlloc g).vault = s.vault := rfl
@[simp] theorem State.sec_setAlloc (g : AllocInt → AllocInt) : (s.setAlloc g).sec = s.sec := rfl
@[simp] theorem State.f_setAlloc (g : AllocInt → AllocInt) (y : Fld) : (s.setAlloc g).f y = s.f y := rfl
@[simp] theorem State.fb_setAlloc (g : AllocInt → AllocInt) (y : Fld) : (s.setAlloc g).fb y = s.fb y := rfl
@[simp] theorem State.fi_setAlloc (g : AllocInt → AllocInt) (y : Fld) : (s.setAlloc g).fi y = s.fi y := rfl
@[simp] theorem State.eng_setAlloc (g : AllocInt → AllocInt) (j : Nat) : (s.setAlloc g).eng j = s.eng j := rfl
@[simp] theorem State.rdB_setAlloc (g : AllocInt → AllocInt) (a : Nat) : (s.setAlloc g).rdB a = s.rdB a := rfl
@[simp] theorem State.queue_setAlloc (g : AllocInt → AllocInt) (i : QId) : (s.setAlloc g).queue i = s.queue i := rfl
@[simp] theorem State.dt_setAlloc (g : AllocInt → AllocInt) : (s.setAlloc g).dt = s.dt := rfl
@[simp] theorem State.period_setAlloc (g : AllocInt → AllocInt) (i j : Nat) : (s.setAlloc g).period i j = s.period i j := rfl
@[simp] theorem State.tripped_setAlloc (g : AllocInt → AllocInt) (z : Scope) : (s.setAlloc g).tripped z = s.tripped z := rfl

/-! ## `setPwr` writes `pwr` -/

@[simp] theorem State.now_setPwr (g : PwrInt → PwrInt) : (s.setPwr g).now = s.now := rfl
@[simp] theorem State.pending_setPwr (g : PwrInt → PwrInt) : (s.setPwr g).pending = s.pending := rfl
@[simp] theorem State.free_setPwr (g : PwrInt → PwrInt) : (s.setPwr g).free = s.free := rfl
@[simp] theorem State.fields_setPwr (g : PwrInt → PwrInt) : (s.setPwr g).fields = s.fields := rfl
@[simp] theorem State.mem_setPwr (g : PwrInt → PwrInt) : (s.setPwr g).mem = s.mem := rfl
@[simp] theorem State.ecc_setPwr (g : PwrInt → PwrInt) : (s.setPwr g).ecc = s.ecc := rfl
@[simp] theorem State.engs_setPwr (g : PwrInt → PwrInt) : (s.setPwr g).engs = s.engs := rfl
@[simp] theorem State.mailbox_setPwr (g : PwrInt → PwrInt) : (s.setPwr g).mailbox = s.mailbox := rfl
@[simp] theorem State.outIdx_setPwr (g : PwrInt → PwrInt) : (s.setPwr g).outIdx = s.outIdx := rfl
@[simp] theorem State.outbox_setPwr (g : PwrInt → PwrInt) : (s.setPwr g).outbox = s.outbox := rfl
@[simp] theorem State.notices_setPwr (g : PwrInt → PwrInt) : (s.setPwr g).notices = s.notices := rfl
@[simp] theorem State.periods_setPwr (g : PwrInt → PwrInt) : (s.setPwr g).periods = s.periods := rfl
@[simp] theorem State.trips_setPwr (g : PwrInt → PwrInt) : (s.setPwr g).trips = s.trips := rfl
@[simp] theorem State.dtNs_setPwr (g : PwrInt → PwrInt) : (s.setPwr g).dtNs = s.dtNs := rfl
@[simp] theorem State.dtFrac_setPwr (g : PwrInt → PwrInt) : (s.setPwr g).dtFrac = s.dtFrac := rfl
@[simp] theorem State.maq_setPwr (g : PwrInt → PwrInt) : (s.setPwr g).maq = s.maq := rfl
@[simp] theorem State.phus_setPwr (g : PwrInt → PwrInt) : (s.setPwr g).phus = s.phus := rfl
@[simp] theorem State.lanes_setPwr (g : PwrInt → PwrInt) : (s.setPwr g).lanes = s.lanes := rfl
@[simp] theorem State.conns_setPwr (g : PwrInt → PwrInt) : (s.setPwr g).conns = s.conns := rfl
@[simp] theorem State.dests_setPwr (g : PwrInt → PwrInt) : (s.setPwr g).dests = s.dests := rfl
@[simp] theorem State.coils_setPwr (g : PwrInt → PwrInt) : (s.setPwr g).coils = s.coils := rfl
@[simp] theorem State.coilsOff_setPwr (g : PwrInt → PwrInt) : (s.setPwr g).coilsOff = s.coilsOff := rfl
@[simp] theorem State.epoch_setPwr (g : PwrInt → PwrInt) : (s.setPwr g).epoch = s.epoch := rfl
@[simp] theorem State.gap_setPwr (g : PwrInt → PwrInt) : (s.setPwr g).gap = s.gap := rfl
@[simp] theorem State.held_setPwr (g : PwrInt → PwrInt) : (s.setPwr g).held = s.held := rfl
@[simp] theorem State.clk_setPwr (g : PwrInt → PwrInt) : (s.setPwr g).clk = s.clk := rfl
@[simp] theorem State.mode_setPwr (g : PwrInt → PwrInt) : (s.setPwr g).mode = s.mode := rfl
@[simp] theorem State.ctl_setPwr (g : PwrInt → PwrInt) : (s.setPwr g).ctl = s.ctl := rfl
@[simp] theorem State.portCharge_setPwr (g : PwrInt → PwrInt) : (s.setPwr g).portCharge = s.portCharge := rfl
@[simp] theorem State.lsws_setPwr (g : PwrInt → PwrInt) : (s.setPwr g).lsws = s.lsws := rfl
@[simp] theorem State.lsExceeded_setPwr (g : PwrInt → PwrInt) : (s.setPwr g).lsExceeded = s.lsExceeded := rfl
@[simp] theorem State.shedNext_setPwr (g : PwrInt → PwrInt) : (s.setPwr g).shedNext = s.shedNext := rfl
@[simp] theorem State.lsPace_setPwr (g : PwrInt → PwrInt) : (s.setPwr g).lsPace = s.lsPace := rfl
@[simp] theorem State.vswLost_setPwr (g : PwrInt → PwrInt) : (s.setPwr g).vswLost = s.vswLost := rfl
@[simp] theorem State.net_setPwr (g : PwrInt → PwrInt) : (s.setPwr g).net = s.net := rfl
@[simp] theorem State.modbus_setPwr (g : PwrInt → PwrInt) : (s.setPwr g).modbus = s.modbus := rfl
@[simp] theorem State.cans_setPwr (g : PwrInt → PwrInt) : (s.setPwr g).cans = s.cans := rfl
@[simp] theorem State.plc_setPwr (g : PwrInt → PwrInt) : (s.setPwr g).plc = s.plc := rfl
@[simp] theorem State.answered_setPwr (g : PwrInt → PwrInt) : (s.setPwr g).answered = s.answered := rfl
@[simp] theorem State.alloc_setPwr (g : PwrInt → PwrInt) : (s.setPwr g).alloc = s.alloc := rfl
@[simp] theorem State.met_setPwr (g : PwrInt → PwrInt) : (s.setPwr g).met = s.met := rfl
@[simp] theorem State.bill_setPwr (g : PwrInt → PwrInt) : (s.setPwr g).bill = s.bill := rfl
@[simp] theorem State.sess_setPwr (g : PwrInt → PwrInt) : (s.setPwr g).sess = s.sess := rfl
@[simp] theorem State.t1Req_setPwr (g : PwrInt → PwrInt) : (s.setPwr g).t1Req = s.t1Req := rfl
@[simp] theorem State.ocpp_setPwr (g : PwrInt → PwrInt) : (s.setPwr g).ocpp = s.ocpp := rfl
@[simp] theorem State.cool_setPwr (g : PwrInt → PwrInt) : (s.setPwr g).cool = s.cool := rfl
@[simp] theorem State.buf_setPwr (g : PwrInt → PwrInt) : (s.setPwr g).buf = s.buf := rfl
@[simp] theorem State.vault_setPwr (g : PwrInt → PwrInt) : (s.setPwr g).vault = s.vault := rfl
@[simp] theorem State.sec_setPwr (g : PwrInt → PwrInt) : (s.setPwr g).sec = s.sec := rfl
@[simp] theorem State.f_setPwr (g : PwrInt → PwrInt) (y : Fld) : (s.setPwr g).f y = s.f y := rfl
@[simp] theorem State.fb_setPwr (g : PwrInt → PwrInt) (y : Fld) : (s.setPwr g).fb y = s.fb y := rfl
@[simp] theorem State.fi_setPwr (g : PwrInt → PwrInt) (y : Fld) : (s.setPwr g).fi y = s.fi y := rfl
@[simp] theorem State.eng_setPwr (g : PwrInt → PwrInt) (j : Nat) : (s.setPwr g).eng j = s.eng j := rfl
@[simp] theorem State.rdB_setPwr (g : PwrInt → PwrInt) (a : Nat) : (s.setPwr g).rdB a = s.rdB a := rfl
@[simp] theorem State.queue_setPwr (g : PwrInt → PwrInt) (i : QId) : (s.setPwr g).queue i = s.queue i := rfl
@[simp] theorem State.dt_setPwr (g : PwrInt → PwrInt) : (s.setPwr g).dt = s.dt := rfl
@[simp] theorem State.period_setPwr (g : PwrInt → PwrInt) (i j : Nat) : (s.setPwr g).period i j = s.period i j := rfl
@[simp] theorem State.tripped_setPwr (g : PwrInt → PwrInt) (z : Scope) : (s.setPwr g).tripped z = s.tripped z := rfl

/-! ## `setSec` writes `sec` -/

@[simp] theorem State.now_setSec (g : SecInt → SecInt) : (s.setSec g).now = s.now := rfl
@[simp] theorem State.pending_setSec (g : SecInt → SecInt) : (s.setSec g).pending = s.pending := rfl
@[simp] theorem State.free_setSec (g : SecInt → SecInt) : (s.setSec g).free = s.free := rfl
@[simp] theorem State.fields_setSec (g : SecInt → SecInt) : (s.setSec g).fields = s.fields := rfl
@[simp] theorem State.mem_setSec (g : SecInt → SecInt) : (s.setSec g).mem = s.mem := rfl
@[simp] theorem State.ecc_setSec (g : SecInt → SecInt) : (s.setSec g).ecc = s.ecc := rfl
@[simp] theorem State.engs_setSec (g : SecInt → SecInt) : (s.setSec g).engs = s.engs := rfl
@[simp] theorem State.mailbox_setSec (g : SecInt → SecInt) : (s.setSec g).mailbox = s.mailbox := rfl
@[simp] theorem State.outIdx_setSec (g : SecInt → SecInt) : (s.setSec g).outIdx = s.outIdx := rfl
@[simp] theorem State.outbox_setSec (g : SecInt → SecInt) : (s.setSec g).outbox = s.outbox := rfl
@[simp] theorem State.notices_setSec (g : SecInt → SecInt) : (s.setSec g).notices = s.notices := rfl
@[simp] theorem State.periods_setSec (g : SecInt → SecInt) : (s.setSec g).periods = s.periods := rfl
@[simp] theorem State.trips_setSec (g : SecInt → SecInt) : (s.setSec g).trips = s.trips := rfl
@[simp] theorem State.dtNs_setSec (g : SecInt → SecInt) : (s.setSec g).dtNs = s.dtNs := rfl
@[simp] theorem State.dtFrac_setSec (g : SecInt → SecInt) : (s.setSec g).dtFrac = s.dtFrac := rfl
@[simp] theorem State.maq_setSec (g : SecInt → SecInt) : (s.setSec g).maq = s.maq := rfl
@[simp] theorem State.phus_setSec (g : SecInt → SecInt) : (s.setSec g).phus = s.phus := rfl
@[simp] theorem State.lanes_setSec (g : SecInt → SecInt) : (s.setSec g).lanes = s.lanes := rfl
@[simp] theorem State.conns_setSec (g : SecInt → SecInt) : (s.setSec g).conns = s.conns := rfl
@[simp] theorem State.dests_setSec (g : SecInt → SecInt) : (s.setSec g).dests = s.dests := rfl
@[simp] theorem State.coils_setSec (g : SecInt → SecInt) : (s.setSec g).coils = s.coils := rfl
@[simp] theorem State.coilsOff_setSec (g : SecInt → SecInt) : (s.setSec g).coilsOff = s.coilsOff := rfl
@[simp] theorem State.epoch_setSec (g : SecInt → SecInt) : (s.setSec g).epoch = s.epoch := rfl
@[simp] theorem State.gap_setSec (g : SecInt → SecInt) : (s.setSec g).gap = s.gap := rfl
@[simp] theorem State.held_setSec (g : SecInt → SecInt) : (s.setSec g).held = s.held := rfl
@[simp] theorem State.clk_setSec (g : SecInt → SecInt) : (s.setSec g).clk = s.clk := rfl
@[simp] theorem State.pwr_setSec (g : SecInt → SecInt) : (s.setSec g).pwr = s.pwr := rfl
@[simp] theorem State.mode_setSec (g : SecInt → SecInt) : (s.setSec g).mode = s.mode := rfl
@[simp] theorem State.ctl_setSec (g : SecInt → SecInt) : (s.setSec g).ctl = s.ctl := rfl
@[simp] theorem State.portCharge_setSec (g : SecInt → SecInt) : (s.setSec g).portCharge = s.portCharge := rfl
@[simp] theorem State.lsws_setSec (g : SecInt → SecInt) : (s.setSec g).lsws = s.lsws := rfl
@[simp] theorem State.lsExceeded_setSec (g : SecInt → SecInt) : (s.setSec g).lsExceeded = s.lsExceeded := rfl
@[simp] theorem State.shedNext_setSec (g : SecInt → SecInt) : (s.setSec g).shedNext = s.shedNext := rfl
@[simp] theorem State.lsPace_setSec (g : SecInt → SecInt) : (s.setSec g).lsPace = s.lsPace := rfl
@[simp] theorem State.vswLost_setSec (g : SecInt → SecInt) : (s.setSec g).vswLost = s.vswLost := rfl
@[simp] theorem State.net_setSec (g : SecInt → SecInt) : (s.setSec g).net = s.net := rfl
@[simp] theorem State.modbus_setSec (g : SecInt → SecInt) : (s.setSec g).modbus = s.modbus := rfl
@[simp] theorem State.cans_setSec (g : SecInt → SecInt) : (s.setSec g).cans = s.cans := rfl
@[simp] theorem State.plc_setSec (g : SecInt → SecInt) : (s.setSec g).plc = s.plc := rfl
@[simp] theorem State.answered_setSec (g : SecInt → SecInt) : (s.setSec g).answered = s.answered := rfl
@[simp] theorem State.alloc_setSec (g : SecInt → SecInt) : (s.setSec g).alloc = s.alloc := rfl
@[simp] theorem State.met_setSec (g : SecInt → SecInt) : (s.setSec g).met = s.met := rfl
@[simp] theorem State.bill_setSec (g : SecInt → SecInt) : (s.setSec g).bill = s.bill := rfl
@[simp] theorem State.sess_setSec (g : SecInt → SecInt) : (s.setSec g).sess = s.sess := rfl
@[simp] theorem State.t1Req_setSec (g : SecInt → SecInt) : (s.setSec g).t1Req = s.t1Req := rfl
@[simp] theorem State.ocpp_setSec (g : SecInt → SecInt) : (s.setSec g).ocpp = s.ocpp := rfl
@[simp] theorem State.cool_setSec (g : SecInt → SecInt) : (s.setSec g).cool = s.cool := rfl
@[simp] theorem State.buf_setSec (g : SecInt → SecInt) : (s.setSec g).buf = s.buf := rfl
@[simp] theorem State.vault_setSec (g : SecInt → SecInt) : (s.setSec g).vault = s.vault := rfl
@[simp] theorem State.f_setSec (g : SecInt → SecInt) (y : Fld) : (s.setSec g).f y = s.f y := rfl
@[simp] theorem State.fb_setSec (g : SecInt → SecInt) (y : Fld) : (s.setSec g).fb y = s.fb y := rfl
@[simp] theorem State.fi_setSec (g : SecInt → SecInt) (y : Fld) : (s.setSec g).fi y = s.fi y := rfl
@[simp] theorem State.eng_setSec (g : SecInt → SecInt) (j : Nat) : (s.setSec g).eng j = s.eng j := rfl
@[simp] theorem State.rdB_setSec (g : SecInt → SecInt) (a : Nat) : (s.setSec g).rdB a = s.rdB a := rfl
@[simp] theorem State.queue_setSec (g : SecInt → SecInt) (i : QId) : (s.setSec g).queue i = s.queue i := rfl
@[simp] theorem State.dt_setSec (g : SecInt → SecInt) : (s.setSec g).dt = s.dt := rfl
@[simp] theorem State.period_setSec (g : SecInt → SecInt) (i j : Nat) : (s.setSec g).period i j = s.period i j := rfl
@[simp] theorem State.tripped_setSec (g : SecInt → SecInt) (z : Scope) : (s.setSec g).tripped z = s.tripped z := rfl

/-! ## `setVault` writes `vault` -/

@[simp] theorem State.now_setVault (g : Vault → Vault) : (s.setVault g).now = s.now := rfl
@[simp] theorem State.pending_setVault (g : Vault → Vault) : (s.setVault g).pending = s.pending := rfl
@[simp] theorem State.free_setVault (g : Vault → Vault) : (s.setVault g).free = s.free := rfl
@[simp] theorem State.fields_setVault (g : Vault → Vault) : (s.setVault g).fields = s.fields := rfl
@[simp] theorem State.mem_setVault (g : Vault → Vault) : (s.setVault g).mem = s.mem := rfl
@[simp] theorem State.ecc_setVault (g : Vault → Vault) : (s.setVault g).ecc = s.ecc := rfl
@[simp] theorem State.engs_setVault (g : Vault → Vault) : (s.setVault g).engs = s.engs := rfl
@[simp] theorem State.mailbox_setVault (g : Vault → Vault) : (s.setVault g).mailbox = s.mailbox := rfl
@[simp] theorem State.outIdx_setVault (g : Vault → Vault) : (s.setVault g).outIdx = s.outIdx := rfl
@[simp] theorem State.outbox_setVault (g : Vault → Vault) : (s.setVault g).outbox = s.outbox := rfl
@[simp] theorem State.notices_setVault (g : Vault → Vault) : (s.setVault g).notices = s.notices := rfl
@[simp] theorem State.periods_setVault (g : Vault → Vault) : (s.setVault g).periods = s.periods := rfl
@[simp] theorem State.trips_setVault (g : Vault → Vault) : (s.setVault g).trips = s.trips := rfl
@[simp] theorem State.dtNs_setVault (g : Vault → Vault) : (s.setVault g).dtNs = s.dtNs := rfl
@[simp] theorem State.dtFrac_setVault (g : Vault → Vault) : (s.setVault g).dtFrac = s.dtFrac := rfl
@[simp] theorem State.maq_setVault (g : Vault → Vault) : (s.setVault g).maq = s.maq := rfl
@[simp] theorem State.phus_setVault (g : Vault → Vault) : (s.setVault g).phus = s.phus := rfl
@[simp] theorem State.lanes_setVault (g : Vault → Vault) : (s.setVault g).lanes = s.lanes := rfl
@[simp] theorem State.conns_setVault (g : Vault → Vault) : (s.setVault g).conns = s.conns := rfl
@[simp] theorem State.dests_setVault (g : Vault → Vault) : (s.setVault g).dests = s.dests := rfl
@[simp] theorem State.coils_setVault (g : Vault → Vault) : (s.setVault g).coils = s.coils := rfl
@[simp] theorem State.coilsOff_setVault (g : Vault → Vault) : (s.setVault g).coilsOff = s.coilsOff := rfl
@[simp] theorem State.epoch_setVault (g : Vault → Vault) : (s.setVault g).epoch = s.epoch := rfl
@[simp] theorem State.gap_setVault (g : Vault → Vault) : (s.setVault g).gap = s.gap := rfl
@[simp] theorem State.held_setVault (g : Vault → Vault) : (s.setVault g).held = s.held := rfl
@[simp] theorem State.clk_setVault (g : Vault → Vault) : (s.setVault g).clk = s.clk := rfl
@[simp] theorem State.pwr_setVault (g : Vault → Vault) : (s.setVault g).pwr = s.pwr := rfl
@[simp] theorem State.mode_setVault (g : Vault → Vault) : (s.setVault g).mode = s.mode := rfl
@[simp] theorem State.ctl_setVault (g : Vault → Vault) : (s.setVault g).ctl = s.ctl := rfl
@[simp] theorem State.portCharge_setVault (g : Vault → Vault) : (s.setVault g).portCharge = s.portCharge := rfl
@[simp] theorem State.lsws_setVault (g : Vault → Vault) : (s.setVault g).lsws = s.lsws := rfl
@[simp] theorem State.lsExceeded_setVault (g : Vault → Vault) : (s.setVault g).lsExceeded = s.lsExceeded := rfl
@[simp] theorem State.shedNext_setVault (g : Vault → Vault) : (s.setVault g).shedNext = s.shedNext := rfl
@[simp] theorem State.lsPace_setVault (g : Vault → Vault) : (s.setVault g).lsPace = s.lsPace := rfl
@[simp] theorem State.vswLost_setVault (g : Vault → Vault) : (s.setVault g).vswLost = s.vswLost := rfl
@[simp] theorem State.net_setVault (g : Vault → Vault) : (s.setVault g).net = s.net := rfl
@[simp] theorem State.modbus_setVault (g : Vault → Vault) : (s.setVault g).modbus = s.modbus := rfl
@[simp] theorem State.cans_setVault (g : Vault → Vault) : (s.setVault g).cans = s.cans := rfl
@[simp] theorem State.plc_setVault (g : Vault → Vault) : (s.setVault g).plc = s.plc := rfl
@[simp] theorem State.answered_setVault (g : Vault → Vault) : (s.setVault g).answered = s.answered := rfl
@[simp] theorem State.alloc_setVault (g : Vault → Vault) : (s.setVault g).alloc = s.alloc := rfl
@[simp] theorem State.met_setVault (g : Vault → Vault) : (s.setVault g).met = s.met := rfl
@[simp] theorem State.bill_setVault (g : Vault → Vault) : (s.setVault g).bill = s.bill := rfl
@[simp] theorem State.sess_setVault (g : Vault → Vault) : (s.setVault g).sess = s.sess := rfl
@[simp] theorem State.t1Req_setVault (g : Vault → Vault) : (s.setVault g).t1Req = s.t1Req := rfl
@[simp] theorem State.ocpp_setVault (g : Vault → Vault) : (s.setVault g).ocpp = s.ocpp := rfl
@[simp] theorem State.cool_setVault (g : Vault → Vault) : (s.setVault g).cool = s.cool := rfl
@[simp] theorem State.buf_setVault (g : Vault → Vault) : (s.setVault g).buf = s.buf := rfl
@[simp] theorem State.sec_setVault (g : Vault → Vault) : (s.setVault g).sec = s.sec := rfl
@[simp] theorem State.f_setVault (g : Vault → Vault) (y : Fld) : (s.setVault g).f y = s.f y := rfl
@[simp] theorem State.fb_setVault (g : Vault → Vault) (y : Fld) : (s.setVault g).fb y = s.fb y := rfl
@[simp] theorem State.fi_setVault (g : Vault → Vault) (y : Fld) : (s.setVault g).fi y = s.fi y := rfl
@[simp] theorem State.eng_setVault (g : Vault → Vault) (j : Nat) : (s.setVault g).eng j = s.eng j := rfl
@[simp] theorem State.rdB_setVault (g : Vault → Vault) (a : Nat) : (s.setVault g).rdB a = s.rdB a := rfl
@[simp] theorem State.queue_setVault (g : Vault → Vault) (i : QId) : (s.setVault g).queue i = s.queue i := rfl
@[simp] theorem State.dt_setVault (g : Vault → Vault) : (s.setVault g).dt = s.dt := rfl
@[simp] theorem State.period_setVault (g : Vault → Vault) (i j : Nat) : (s.setVault g).period i j = s.period i j := rfl
@[simp] theorem State.tripped_setVault (g : Vault → Vault) (z : Scope) : (s.setVault g).tripped z = s.tripped z := rfl

/-! ## What an operation can do, said once

`s.Wrote t`: t is s but for its memory and the ECC errors in it. `s.Posted t`: but for those, fields and engines. `s.Answered t`: but for those, the
mailbox, the outbound ring's index, the outbox, the notices and the Modbus answers. -/

def State.Wrote (s t : State) : Prop := ∃ m c, t = { s with mem := m, ecc := c }
def State.Posted (s t : State) : Prop := ∃ f m c e, t = { s with fields := f, mem := m, ecc := c, engs := e }
def State.Answered (s t : State) : Prop :=
  ∃ f m c e b i o n a, t = { s with fields := f, mem := m, ecc := c, engs := e, mailbox := b, outIdx := i, outbox := o, notices := n, modbus := a }

variable {s} {t u : State}

theorem State.Wrote.refl : s.Wrote s := ⟨s.mem, s.ecc, rfl⟩
theorem State.Posted.refl : s.Posted s := ⟨s.fields, s.mem, s.ecc, s.engs, rfl⟩
theorem State.Answered.refl : s.Answered s := ⟨s.fields, s.mem, s.ecc, s.engs, s.mailbox, s.outIdx, s.outbox, s.notices, s.modbus, rfl⟩
theorem State.Wrote.trans (h : s.Wrote t) (k : t.Wrote u) : s.Wrote u := by
  obtain ⟨_, _, rfl⟩ := h; obtain ⟨m, c, rfl⟩ := k; exact ⟨m, c, rfl⟩
theorem State.Posted.trans (h : s.Posted t) (k : t.Posted u) : s.Posted u := by
  obtain ⟨_, _, _, _, rfl⟩ := h; obtain ⟨a, b, c, d, rfl⟩ := k; exact ⟨a, b, c, d, rfl⟩
theorem State.Answered.trans (h : s.Answered t) (k : t.Answered u) : s.Answered u := by
  obtain ⟨_, _, _, _, _, _, _, _, _, rfl⟩ := h; obtain ⟨a, b, c, d, e, f, g, i, j, rfl⟩ := k; exact ⟨a, b, c, d, e, f, g, i, j, rfl⟩
theorem State.Wrote.toPosted (h : s.Wrote t) : s.Posted t := by
  obtain ⟨m, c, rfl⟩ := h; exact ⟨s.fields, m, c, s.engs, rfl⟩
theorem State.Posted.toAnswered (h : s.Posted t) : s.Answered t := by
  obtain ⟨a, b, c, d, rfl⟩ := h; exact ⟨a, b, c, d, s.mailbox, s.outIdx, s.outbox, s.notices, s.modbus, rfl⟩

theorem State.Wrote.now (h : s.Wrote t) : t.now = s.now := by obtain ⟨_, _, rfl⟩ := h; rfl
theorem State.Wrote.pending (h : s.Wrote t) : t.pending = s.pending := by obtain ⟨_, _, rfl⟩ := h; rfl
theorem State.Wrote.free (h : s.Wrote t) : t.free = s.free := by obtain ⟨_, _, rfl⟩ := h; rfl
theorem State.Wrote.fields (h : s.Wrote t) : t.fields = s.fields := by obtain ⟨_, _, rfl⟩ := h; rfl
theorem State.Wrote.engs (h : s.Wrote t) : t.engs = s.engs := by obtain ⟨_, _, rfl⟩ := h; rfl
theorem State.Wrote.mailbox (h : s.Wrote t) : t.mailbox = s.mailbox := by obtain ⟨_, _, rfl⟩ := h; rfl
theorem State.Wrote.outIdx (h : s.Wrote t) : t.outIdx = s.outIdx := by obtain ⟨_, _, rfl⟩ := h; rfl
theorem State.Wrote.outbox (h : s.Wrote t) : t.outbox = s.outbox := by obtain ⟨_, _, rfl⟩ := h; rfl
theorem State.Wrote.notices (h : s.Wrote t) : t.notices = s.notices := by obtain ⟨_, _, rfl⟩ := h; rfl
theorem State.Wrote.periods (h : s.Wrote t) : t.periods = s.periods := by obtain ⟨_, _, rfl⟩ := h; rfl
theorem State.Wrote.trips (h : s.Wrote t) : t.trips = s.trips := by obtain ⟨_, _, rfl⟩ := h; rfl
theorem State.Wrote.dtNs (h : s.Wrote t) : t.dtNs = s.dtNs := by obtain ⟨_, _, rfl⟩ := h; rfl
theorem State.Wrote.dtFrac (h : s.Wrote t) : t.dtFrac = s.dtFrac := by obtain ⟨_, _, rfl⟩ := h; rfl
theorem State.Wrote.maq (h : s.Wrote t) : t.maq = s.maq := by obtain ⟨_, _, rfl⟩ := h; rfl
theorem State.Wrote.phus (h : s.Wrote t) : t.phus = s.phus := by obtain ⟨_, _, rfl⟩ := h; rfl
theorem State.Wrote.lanes (h : s.Wrote t) : t.lanes = s.lanes := by obtain ⟨_, _, rfl⟩ := h; rfl
theorem State.Wrote.conns (h : s.Wrote t) : t.conns = s.conns := by obtain ⟨_, _, rfl⟩ := h; rfl
theorem State.Wrote.dests (h : s.Wrote t) : t.dests = s.dests := by obtain ⟨_, _, rfl⟩ := h; rfl
theorem State.Wrote.coils (h : s.Wrote t) : t.coils = s.coils := by obtain ⟨_, _, rfl⟩ := h; rfl
theorem State.Wrote.coilsOff (h : s.Wrote t) : t.coilsOff = s.coilsOff := by obtain ⟨_, _, rfl⟩ := h; rfl
theorem State.Wrote.epoch (h : s.Wrote t) : t.epoch = s.epoch := by obtain ⟨_, _, rfl⟩ := h; rfl
theorem State.Wrote.gap (h : s.Wrote t) : t.gap = s.gap := by obtain ⟨_, _, rfl⟩ := h; rfl
theorem State.Wrote.held (h : s.Wrote t) : t.held = s.held := by obtain ⟨_, _, rfl⟩ := h; rfl
theorem State.Wrote.clk (h : s.Wrote t) : t.clk = s.clk := by obtain ⟨_, _, rfl⟩ := h; rfl
theorem State.Wrote.pwr (h : s.Wrote t) : t.pwr = s.pwr := by obtain ⟨_, _, rfl⟩ := h; rfl
theorem State.Wrote.mode (h : s.Wrote t) : t.mode = s.mode := by obtain ⟨_, _, rfl⟩ := h; rfl
theorem State.Wrote.ctl (h : s.Wrote t) : t.ctl = s.ctl := by obtain ⟨_, _, rfl⟩ := h; rfl
theorem State.Wrote.portCharge (h : s.Wrote t) : t.portCharge = s.portCharge := by obtain ⟨_, _, rfl⟩ := h; rfl
theorem State.Wrote.lsws (h : s.Wrote t) : t.lsws = s.lsws := by obtain ⟨_, _, rfl⟩ := h; rfl
theorem State.Wrote.lsExceeded (h : s.Wrote t) : t.lsExceeded = s.lsExceeded := by obtain ⟨_, _, rfl⟩ := h; rfl
theorem State.Wrote.shedNext (h : s.Wrote t) : t.shedNext = s.shedNext := by obtain ⟨_, _, rfl⟩ := h; rfl
theorem State.Wrote.lsPace (h : s.Wrote t) : t.lsPace = s.lsPace := by obtain ⟨_, _, rfl⟩ := h; rfl
theorem State.Wrote.vswLost (h : s.Wrote t) : t.vswLost = s.vswLost := by obtain ⟨_, _, rfl⟩ := h; rfl
theorem State.Wrote.net (h : s.Wrote t) : t.net = s.net := by obtain ⟨_, _, rfl⟩ := h; rfl
theorem State.Wrote.modbus (h : s.Wrote t) : t.modbus = s.modbus := by obtain ⟨_, _, rfl⟩ := h; rfl
theorem State.Wrote.cans (h : s.Wrote t) : t.cans = s.cans := by obtain ⟨_, _, rfl⟩ := h; rfl
theorem State.Wrote.plc (h : s.Wrote t) : t.plc = s.plc := by obtain ⟨_, _, rfl⟩ := h; rfl
theorem State.Wrote.answered (h : s.Wrote t) : t.answered = s.answered := by obtain ⟨_, _, rfl⟩ := h; rfl
theorem State.Wrote.alloc (h : s.Wrote t) : t.alloc = s.alloc := by obtain ⟨_, _, rfl⟩ := h; rfl
theorem State.Wrote.met (h : s.Wrote t) : t.met = s.met := by obtain ⟨_, _, rfl⟩ := h; rfl
theorem State.Wrote.bill (h : s.Wrote t) : t.bill = s.bill := by obtain ⟨_, _, rfl⟩ := h; rfl
theorem State.Wrote.sess (h : s.Wrote t) : t.sess = s.sess := by obtain ⟨_, _, rfl⟩ := h; rfl
theorem State.Wrote.t1Req (h : s.Wrote t) : t.t1Req = s.t1Req := by obtain ⟨_, _, rfl⟩ := h; rfl
theorem State.Wrote.ocpp (h : s.Wrote t) : t.ocpp = s.ocpp := by obtain ⟨_, _, rfl⟩ := h; rfl
theorem State.Wrote.cool (h : s.Wrote t) : t.cool = s.cool := by obtain ⟨_, _, rfl⟩ := h; rfl
theorem State.Wrote.buf (h : s.Wrote t) : t.buf = s.buf := by obtain ⟨_, _, rfl⟩ := h; rfl
theorem State.Wrote.vault (h : s.Wrote t) : t.vault = s.vault := by obtain ⟨_, _, rfl⟩ := h; rfl
theorem State.Wrote.sec (h : s.Wrote t) : t.sec = s.sec := by obtain ⟨_, _, rfl⟩ := h; rfl
theorem State.Wrote.f (h : s.Wrote t) (y : Fld) : t.f y = s.f y := by obtain ⟨_, _, rfl⟩ := h; rfl
theorem State.Wrote.fb (h : s.Wrote t) (y : Fld) : t.fb y = s.fb y := by obtain ⟨_, _, rfl⟩ := h; rfl
theorem State.Wrote.fi (h : s.Wrote t) (y : Fld) : t.fi y = s.fi y := by obtain ⟨_, _, rfl⟩ := h; rfl
theorem State.Wrote.eng (h : s.Wrote t) (j : Nat) : t.eng j = s.eng j := by obtain ⟨_, _, rfl⟩ := h; rfl
theorem State.Wrote.queue (h : s.Wrote t) (i : QId) : t.queue i = s.queue i := by obtain ⟨_, _, rfl⟩ := h; rfl
theorem State.Wrote.dt (h : s.Wrote t) : t.dt = s.dt := h.dtNs
theorem State.Wrote.period (h : s.Wrote t) (i j : Nat) : t.period i j = s.period i j := by obtain ⟨_, _, rfl⟩ := h; rfl
theorem State.Wrote.tripped (h : s.Wrote t) (z : Scope) : t.tripped z = s.tripped z := by obtain ⟨_, _, rfl⟩ := h; rfl

theorem State.Posted.now (h : s.Posted t) : t.now = s.now := by obtain ⟨_, _, _, _, rfl⟩ := h; rfl
theorem State.Posted.pending (h : s.Posted t) : t.pending = s.pending := by obtain ⟨_, _, _, _, rfl⟩ := h; rfl
theorem State.Posted.free (h : s.Posted t) : t.free = s.free := by obtain ⟨_, _, _, _, rfl⟩ := h; rfl
theorem State.Posted.mailbox (h : s.Posted t) : t.mailbox = s.mailbox := by obtain ⟨_, _, _, _, rfl⟩ := h; rfl
theorem State.Posted.outIdx (h : s.Posted t) : t.outIdx = s.outIdx := by obtain ⟨_, _, _, _, rfl⟩ := h; rfl
theorem State.Posted.outbox (h : s.Posted t) : t.outbox = s.outbox := by obtain ⟨_, _, _, _, rfl⟩ := h; rfl
theorem State.Posted.notices (h : s.Posted t) : t.notices = s.notices := by obtain ⟨_, _, _, _, rfl⟩ := h; rfl
theorem State.Posted.periods (h : s.Posted t) : t.periods = s.periods := by obtain ⟨_, _, _, _, rfl⟩ := h; rfl
theorem State.Posted.trips (h : s.Posted t) : t.trips = s.trips := by obtain ⟨_, _, _, _, rfl⟩ := h; rfl
theorem State.Posted.dtNs (h : s.Posted t) : t.dtNs = s.dtNs := by obtain ⟨_, _, _, _, rfl⟩ := h; rfl
theorem State.Posted.dtFrac (h : s.Posted t) : t.dtFrac = s.dtFrac := by obtain ⟨_, _, _, _, rfl⟩ := h; rfl
theorem State.Posted.maq (h : s.Posted t) : t.maq = s.maq := by obtain ⟨_, _, _, _, rfl⟩ := h; rfl
theorem State.Posted.phus (h : s.Posted t) : t.phus = s.phus := by obtain ⟨_, _, _, _, rfl⟩ := h; rfl
theorem State.Posted.lanes (h : s.Posted t) : t.lanes = s.lanes := by obtain ⟨_, _, _, _, rfl⟩ := h; rfl
theorem State.Posted.conns (h : s.Posted t) : t.conns = s.conns := by obtain ⟨_, _, _, _, rfl⟩ := h; rfl
theorem State.Posted.dests (h : s.Posted t) : t.dests = s.dests := by obtain ⟨_, _, _, _, rfl⟩ := h; rfl
theorem State.Posted.coils (h : s.Posted t) : t.coils = s.coils := by obtain ⟨_, _, _, _, rfl⟩ := h; rfl
theorem State.Posted.coilsOff (h : s.Posted t) : t.coilsOff = s.coilsOff := by obtain ⟨_, _, _, _, rfl⟩ := h; rfl
theorem State.Posted.epoch (h : s.Posted t) : t.epoch = s.epoch := by obtain ⟨_, _, _, _, rfl⟩ := h; rfl
theorem State.Posted.gap (h : s.Posted t) : t.gap = s.gap := by obtain ⟨_, _, _, _, rfl⟩ := h; rfl
theorem State.Posted.held (h : s.Posted t) : t.held = s.held := by obtain ⟨_, _, _, _, rfl⟩ := h; rfl
theorem State.Posted.clk (h : s.Posted t) : t.clk = s.clk := by obtain ⟨_, _, _, _, rfl⟩ := h; rfl
theorem State.Posted.pwr (h : s.Posted t) : t.pwr = s.pwr := by obtain ⟨_, _, _, _, rfl⟩ := h; rfl
theorem State.Posted.mode (h : s.Posted t) : t.mode = s.mode := by obtain ⟨_, _, _, _, rfl⟩ := h; rfl
theorem State.Posted.ctl (h : s.Posted t) : t.ctl = s.ctl := by obtain ⟨_, _, _, _, rfl⟩ := h; rfl
theorem State.Posted.portCharge (h : s.Posted t) : t.portCharge = s.portCharge := by obtain ⟨_, _, _, _, rfl⟩ := h; rfl
theorem State.Posted.lsws (h : s.Posted t) : t.lsws = s.lsws := by obtain ⟨_, _, _, _, rfl⟩ := h; rfl
theorem State.Posted.lsExceeded (h : s.Posted t) : t.lsExceeded = s.lsExceeded := by obtain ⟨_, _, _, _, rfl⟩ := h; rfl
theorem State.Posted.shedNext (h : s.Posted t) : t.shedNext = s.shedNext := by obtain ⟨_, _, _, _, rfl⟩ := h; rfl
theorem State.Posted.lsPace (h : s.Posted t) : t.lsPace = s.lsPace := by obtain ⟨_, _, _, _, rfl⟩ := h; rfl
theorem State.Posted.vswLost (h : s.Posted t) : t.vswLost = s.vswLost := by obtain ⟨_, _, _, _, rfl⟩ := h; rfl
theorem State.Posted.net (h : s.Posted t) : t.net = s.net := by obtain ⟨_, _, _, _, rfl⟩ := h; rfl
theorem State.Posted.modbus (h : s.Posted t) : t.modbus = s.modbus := by obtain ⟨_, _, _, _, rfl⟩ := h; rfl
theorem State.Posted.cans (h : s.Posted t) : t.cans = s.cans := by obtain ⟨_, _, _, _, rfl⟩ := h; rfl
theorem State.Posted.plc (h : s.Posted t) : t.plc = s.plc := by obtain ⟨_, _, _, _, rfl⟩ := h; rfl
theorem State.Posted.answered (h : s.Posted t) : t.answered = s.answered := by obtain ⟨_, _, _, _, rfl⟩ := h; rfl
theorem State.Posted.alloc (h : s.Posted t) : t.alloc = s.alloc := by obtain ⟨_, _, _, _, rfl⟩ := h; rfl
theorem State.Posted.met (h : s.Posted t) : t.met = s.met := by obtain ⟨_, _, _, _, rfl⟩ := h; rfl
theorem State.Posted.bill (h : s.Posted t) : t.bill = s.bill := by obtain ⟨_, _, _, _, rfl⟩ := h; rfl
theorem State.Posted.sess (h : s.Posted t) : t.sess = s.sess := by obtain ⟨_, _, _, _, rfl⟩ := h; rfl
theorem State.Posted.t1Req (h : s.Posted t) : t.t1Req = s.t1Req := by obtain ⟨_, _, _, _, rfl⟩ := h; rfl
theorem State.Posted.ocpp (h : s.Posted t) : t.ocpp = s.ocpp := by obtain ⟨_, _, _, _, rfl⟩ := h; rfl
theorem State.Posted.cool (h : s.Posted t) : t.cool = s.cool := by obtain ⟨_, _, _, _, rfl⟩ := h; rfl
theorem State.Posted.buf (h : s.Posted t) : t.buf = s.buf := by obtain ⟨_, _, _, _, rfl⟩ := h; rfl
theorem State.Posted.vault (h : s.Posted t) : t.vault = s.vault := by obtain ⟨_, _, _, _, rfl⟩ := h; rfl
theorem State.Posted.sec (h : s.Posted t) : t.sec = s.sec := by obtain ⟨_, _, _, _, rfl⟩ := h; rfl
theorem State.Posted.dt (h : s.Posted t) : t.dt = s.dt := h.dtNs
theorem State.Posted.period (h : s.Posted t) (i j : Nat) : t.period i j = s.period i j := by obtain ⟨_, _, _, _, rfl⟩ := h; rfl
theorem State.Posted.tripped (h : s.Posted t) (z : Scope) : t.tripped z = s.tripped z := by obtain ⟨_, _, _, _, rfl⟩ := h; rfl

theorem State.Answered.now (h : s.Answered t) : t.now = s.now := by obtain ⟨_, _, _, _, _, _, _, _, _, rfl⟩ := h; rfl
theorem State.Answered.pending (h : s.Answered t) : t.pending = s.pending := by obtain ⟨_, _, _, _, _, _, _, _, _, rfl⟩ := h; rfl
theorem State.Answered.free (h : s.Answered t) : t.free = s.free := by obtain ⟨_, _, _, _, _, _, _, _, _, rfl⟩ := h; rfl
theorem State.Answered.periods (h : s.Answered t) : t.periods = s.periods := by obtain ⟨_, _, _, _, _, _, _, _, _, rfl⟩ := h; rfl
theorem State.Answered.trips (h : s.Answered t) : t.trips = s.trips := by obtain ⟨_, _, _, _, _, _, _, _, _, rfl⟩ := h; rfl
theorem State.Answered.dtNs (h : s.Answered t) : t.dtNs = s.dtNs := by obtain ⟨_, _, _, _, _, _, _, _, _, rfl⟩ := h; rfl
theorem State.Answered.dtFrac (h : s.Answered t) : t.dtFrac = s.dtFrac := by obtain ⟨_, _, _, _, _, _, _, _, _, rfl⟩ := h; rfl
theorem State.Answered.maq (h : s.Answered t) : t.maq = s.maq := by obtain ⟨_, _, _, _, _, _, _, _, _, rfl⟩ := h; rfl
theorem State.Answered.phus (h : s.Answered t) : t.phus = s.phus := by obtain ⟨_, _, _, _, _, _, _, _, _, rfl⟩ := h; rfl
theorem State.Answered.lanes (h : s.Answered t) : t.lanes = s.lanes := by obtain ⟨_, _, _, _, _, _, _, _, _, rfl⟩ := h; rfl
theorem State.Answered.conns (h : s.Answered t) : t.conns = s.conns := by obtain ⟨_, _, _, _, _, _, _, _, _, rfl⟩ := h; rfl
theorem State.Answered.dests (h : s.Answered t) : t.dests = s.dests := by obtain ⟨_, _, _, _, _, _, _, _, _, rfl⟩ := h; rfl
theorem State.Answered.coils (h : s.Answered t) : t.coils = s.coils := by obtain ⟨_, _, _, _, _, _, _, _, _, rfl⟩ := h; rfl
theorem State.Answered.coilsOff (h : s.Answered t) : t.coilsOff = s.coilsOff := by obtain ⟨_, _, _, _, _, _, _, _, _, rfl⟩ := h; rfl
theorem State.Answered.epoch (h : s.Answered t) : t.epoch = s.epoch := by obtain ⟨_, _, _, _, _, _, _, _, _, rfl⟩ := h; rfl
theorem State.Answered.gap (h : s.Answered t) : t.gap = s.gap := by obtain ⟨_, _, _, _, _, _, _, _, _, rfl⟩ := h; rfl
theorem State.Answered.held (h : s.Answered t) : t.held = s.held := by obtain ⟨_, _, _, _, _, _, _, _, _, rfl⟩ := h; rfl
theorem State.Answered.clk (h : s.Answered t) : t.clk = s.clk := by obtain ⟨_, _, _, _, _, _, _, _, _, rfl⟩ := h; rfl
theorem State.Answered.pwr (h : s.Answered t) : t.pwr = s.pwr := by obtain ⟨_, _, _, _, _, _, _, _, _, rfl⟩ := h; rfl
theorem State.Answered.mode (h : s.Answered t) : t.mode = s.mode := by obtain ⟨_, _, _, _, _, _, _, _, _, rfl⟩ := h; rfl
theorem State.Answered.ctl (h : s.Answered t) : t.ctl = s.ctl := by obtain ⟨_, _, _, _, _, _, _, _, _, rfl⟩ := h; rfl
theorem State.Answered.portCharge (h : s.Answered t) : t.portCharge = s.portCharge := by obtain ⟨_, _, _, _, _, _, _, _, _, rfl⟩ := h; rfl
theorem State.Answered.lsws (h : s.Answered t) : t.lsws = s.lsws := by obtain ⟨_, _, _, _, _, _, _, _, _, rfl⟩ := h; rfl
theorem State.Answered.lsExceeded (h : s.Answered t) : t.lsExceeded = s.lsExceeded := by obtain ⟨_, _, _, _, _, _, _, _, _, rfl⟩ := h; rfl
theorem State.Answered.shedNext (h : s.Answered t) : t.shedNext = s.shedNext := by obtain ⟨_, _, _, _, _, _, _, _, _, rfl⟩ := h; rfl
theorem State.Answered.lsPace (h : s.Answered t) : t.lsPace = s.lsPace := by obtain ⟨_, _, _, _, _, _, _, _, _, rfl⟩ := h; rfl
theorem State.Answered.vswLost (h : s.Answered t) : t.vswLost = s.vswLost := by obtain ⟨_, _, _, _, _, _, _, _, _, rfl⟩ := h; rfl
theorem State.Answered.net (h : s.Answered t) : t.net = s.net := by obtain ⟨_, _, _, _, _, _, _, _, _, rfl⟩ := h; rfl
theorem State.Answered.cans (h : s.Answered t) : t.cans = s.cans := by obtain ⟨_, _, _, _, _, _, _, _, _, rfl⟩ := h; rfl
theorem State.Answered.plc (h : s.Answered t) : t.plc = s.plc := by obtain ⟨_, _, _, _, _, _, _, _, _, rfl⟩ := h; rfl
theorem State.Answered.answered (h : s.Answered t) : t.answered = s.answered := by obtain ⟨_, _, _, _, _, _, _, _, _, rfl⟩ := h; rfl
theorem State.Answered.alloc (h : s.Answered t) : t.alloc = s.alloc := by obtain ⟨_, _, _, _, _, _, _, _, _, rfl⟩ := h; rfl
theorem State.Answered.met (h : s.Answered t) : t.met = s.met := by obtain ⟨_, _, _, _, _, _, _, _, _, rfl⟩ := h; rfl
theorem State.Answered.bill (h : s.Answered t) : t.bill = s.bill := by obtain ⟨_, _, _, _, _, _, _, _, _, rfl⟩ := h; rfl
theorem State.Answered.sess (h : s.Answered t) : t.sess = s.sess := by obtain ⟨_, _, _, _, _, _, _, _, _, rfl⟩ := h; rfl
theorem State.Answered.t1Req (h : s.Answered t) : t.t1Req = s.t1Req := by obtain ⟨_, _, _, _, _, _, _, _, _, rfl⟩ := h; rfl
theorem State.Answered.ocpp (h : s.Answered t) : t.ocpp = s.ocpp := by obtain ⟨_, _, _, _, _, _, _, _, _, rfl⟩ := h; rfl
theorem State.Answered.cool (h : s.Answered t) : t.cool = s.cool := by obtain ⟨_, _, _, _, _, _, _, _, _, rfl⟩ := h; rfl
theorem State.Answered.buf (h : s.Answered t) : t.buf = s.buf := by obtain ⟨_, _, _, _, _, _, _, _, _, rfl⟩ := h; rfl
theorem State.Answered.vault (h : s.Answered t) : t.vault = s.vault := by obtain ⟨_, _, _, _, _, _, _, _, _, rfl⟩ := h; rfl
theorem State.Answered.sec (h : s.Answered t) : t.sec = s.sec := by obtain ⟨_, _, _, _, _, _, _, _, _, rfl⟩ := h; rfl
theorem State.Answered.dt (h : s.Answered t) : t.dt = s.dt := h.dtNs
theorem State.Answered.period (h : s.Answered t) (i j : Nat) : t.period i j = s.period i j := by obtain ⟨_, _, _, _, _, _, _, _, _, rfl⟩ := h; rfl
theorem State.Answered.tripped (h : s.Answered t) (z : Scope) : t.tripped z = s.tripped z := by obtain ⟨_, _, _, _, _, _, _, _, _, rfl⟩ := h; rfl

variable (s)

theorem State.posted_setF (x : Fld) (v : Nat) : s.Posted (s.setF x v) := ⟨_, s.mem, s.ecc, s.engs, rfl⟩
theorem State.posted_setB (x : Fld) (b : Bool) : s.Posted (s.setB x b) := s.posted_setF x _
theorem State.posted_addSat (x : Fld) (n : Nat) : s.Posted (s.addSat x n) := s.posted_setF x _
theorem State.posted_setEng (e : Nat) (n : Engine) : s.Posted (s.setEng e n) := ⟨s.fields, s.mem, s.ecc, _, rfl⟩
theorem State.answers_setQueue (q : QId) (x : Queue) : s.Answered (s.setQueue q x) := by
  cases q with
  | queue e q => exact (s.posted_setEng e _).toAnswered
  | mailbox => exact ⟨s.fields, s.mem, s.ecc, s.engs, x, s.outIdx, s.outbox, s.notices, s.modbus, rfl⟩

theorem State.wrote_wrB (k : Nat) (b : Byte) : s.Wrote (s.wrB k b) := ⟨_, _, rfl⟩
theorem State.wrote_clearMem (lo hi : Nat) : s.Wrote (s.clearMem lo hi) := ⟨_, _, rfl⟩
theorem State.wrote_wr (k n v : Nat) : s.Wrote (s.wr k n v) := by
  induction n generalizing s k v with
  | zero => exact .refl
  | succ n ih => exact (s.wrote_wrB k _).trans (ih ..)
theorem State.wrote_wrBytes (k : Nat) (l : List Byte) : s.Wrote (s.wrBytes k l) := by
  induction l generalizing s k with
  | nil => exact .refl
  | cons b l ih => exact (s.wrote_wrB k b).trans (ih ..)

theorem State.posted_postTo (n w a : Nat) : s.Posted (s.postTo n w a) := by
  unfold State.postTo; dsimp only; split
  · exact (State.Posted.trans (State.Posted.trans (State.Posted.trans (s.wrote_wr ..).toPosted (State.wrote_wr ..).toPosted) (State.posted_setF ..)) (State.posted_setEng ..)).trans (State.posted_setB ..)
  · exact State.Posted.trans (State.Posted.trans (State.Posted.trans (s.wrote_wr ..).toPosted (State.wrote_wr ..).toPosted) (State.posted_setF ..)) (State.posted_setEng ..)
theorem State.posted_postList (w a : Nat) (l : List Nat) : s.Posted (s.postList w a l) := by
  induction l generalizing s with
  | nil => exact .refl
  | cons n l ih => exact (s.posted_postTo n w a).trans (ih _)
theorem State.posted_unitRecord (c e n : Nat) (z : Scope) (o d : Nat) (l : List Nat) : s.Posted (s.unitRecord c e n z o d l) := s.posted_postList _ _ _
theorem State.posted_clampRecord (e n : Nat) (z : Scope) : s.Posted (s.clampRecord e n z) := s.posted_unitRecord ..
theorem State.posted_setEvent (x : Fld) (e : Nat) (z : Scope) (l : List Nat) : s.Posted (s.setEvent x e z l) :=
  (s.posted_setF x 1).trans (State.posted_unitRecord ..)
theorem State.posted_accessRecord (i w a : Nat) : s.Posted (s.accessRecord i w a) := s.posted_unitRecord ..
theorem State.posted_trap (e c : Nat) (x : DWord) : s.Posted (s.trap e c x) := by
  have h : ∀ (a b d p : Nat), s.Posted ((((s.setF (ENG_TRAP_CAUSE_cause e) a).setF (ENG_TRAP_CAUSE_ctx e) b).addSat (ENG_TRAP_CAUSE_count e) d).setF (ENG_TRAP_PC_pc e) p) :=
    fun a b d p => (((s.posted_setF ..).trans (State.posted_setF ..)).trans (State.posted_addSat ..)).trans (State.posted_setF ..)
  unfold State.trap; dsimp only; split
  · exact (((h ..).trans (State.posted_setEng ..)).trans (State.posted_setB ..)).trans (State.posted_setB ..)
  · exact (h ..).trans (State.posted_setEng ..)

theorem State.answers_modbusReply (r : Result) : s.Answered (s.modbusReply r) := by
  unfold State.modbusReply; dsimp only; generalize (if r.status = 4 then r.detail else r.status) = v; split
  · exact ⟨s.fields, s.mem, s.ecc, s.engs, s.mailbox, s.outIdx, s.outbox, s.notices, _, rfl⟩
  · exact .refl
theorem State.posted_resultAt (n : Nat) (r : Result) : s.Posted (s.resultAt n r) := by
  unfold State.resultAt; split
  · exact .refl
  · dsimp only; split
    · exact (((s.wrote_wr ..).toPosted.trans (State.posted_setF ..)).trans (State.posted_setEng ..)).trans (State.posted_setB ..)
    · exact ((s.wrote_wr ..).toPosted.trans (State.posted_setF ..)).trans (State.posted_setEng ..)
theorem State.answers_result (q : QId) (r : Result) : s.Answered (s.result q r) := by
  cases q with
  | mailbox =>
    refine (s.wrote_wr (0x21001000 + 16 * s.outIdx) 16 (resultNat r)).toPosted.toAnswered.trans ?_
    exact ⟨_, _, _, _, _, (s.outIdx + 1) % 64, _, _, _, rfl⟩
  | queue e q =>
    simp only [State.result]
    split
    · exact (s.posted_resultAt ..).toAnswered
    · exact State.Answered.trans ⟨s.fields, s.mem, s.ecc, s.engs, s.mailbox, s.outIdx, s.outbox ++ [r], s.notices, s.modbus, rfl⟩ (State.answers_modbusReply ..)
theorem State.answers_completionEvent (q : QId) (r : Req) (v : Nat) : s.Answered (s.completionEvent q r v) := by
  unfold State.completionEvent; split
  · split
    · exact (s.posted_unitRecord ..).toAnswered
    · exact ⟨s.fields, s.mem, s.ecc, s.engs, s.mailbox, s.outIdx, s.outbox, _, s.modbus, rfl⟩
  · exact .refl
theorem State.answers_reply (q : QId) (r : Req) (v d : Nat) (x : DWord) : s.Answered (s.reply q r v d x) :=
  (s.answers_result ..).trans (State.answers_completionEvent ..)
theorem State.answers_complete (q : QId) (r : Req) (v d : Nat) (x : DWord) : s.Answered (s.complete q r v d x) := by
  unfold State.complete; dsimp only
  exact ((s.answers_setQueue ..).trans (State.answers_result ..)).trans (State.answers_completionEvent ..)
theorem State.answers_discardEach (q : QId) (l : List Queued) : s.Answered (s.discardEach q l) := by
  induction l generalizing s with
  | nil => exact .refl
  | cons r l ih => exact (s.answers_complete ..).trans (ih _)
theorem State.answers_discardWhere (q : QId) (p : Req → Bool) : s.Answered (s.discardWhere q p).2 :=
  (s.answers_setQueue ..).trans (State.answers_discardEach ..)
theorem State.answers_discardQueues (p : Req → Bool) (l : List QId) : s.Answered (s.discardQueues p l).2 := by
  induction l generalizing s with
  | nil => exact .refl
  | cons q l ih => exact (s.answers_discardWhere q p).trans (ih _)
/-- Discards over the engines do what an answer does, where the records posted do no more. -/
theorem State.answers_discardAll (p : Req → Bool) (also : List Nat) (post : State → Nat → Nat → State) (hp : ∀ (x : State) i n, x.Answered (post x i n))
    (l : List (Fin 8)) : s.Answered (s.discardAll p also post l) := by
  induction l generalizing s with
  | nil => exact .refl
  | cons e l ih =>
    simp only [State.discardAll]
    refine (s.answers_discardQueues p (queuesOf e)).trans ?_
    split
    · exact ih _
    · exact (hp ..).trans (ih _)
theorem State.answers_faultDiscard (c : Nat) (z : Scope) (g r : List Nat) (m : Nat) (also : List Nat) : s.Answered (s.faultDiscard c z g r m also) :=
  s.answers_discardAll _ _ _ (fun x _ _ => (x.posted_unitRecord ..).toAnswered) _
theorem State.answers_drainPeriod (k i : Nat) : s.Answered (s.drainPeriod k i) :=
  s.answers_discardAll _ _ _ (fun x _ _ => (x.posted_unitRecord ..).toAnswered) _
theorem State.answers_supersedeTaken (e : Nat) (r : Req) (c : Nat) : s.Answered (s.supersedeTaken e r c) := by
  unfold State.supersedeTaken; dsimp only; split
  · split
    · exact (s.posted_setEng ..).toAnswered.trans (State.answers_complete ..)
    · exact .refl
  · exact .refl
theorem State.answers_supersede (q : QId) (r : Req) : s.Answered (s.supersede q r) := by
  unfold State.supersede; split
  · have h : ∀ (l : List Nat) (x : State), x.Answered (l.foldl (fun s c => s.supersedeTaken q.owner r c) x) := by
      intro l; induction l with
      | nil => exact fun _ => .refl
      | cons c l ih => exact fun x => (x.answers_supersedeTaken q.owner r c).trans (ih _)
    exact (s.answers_discardQueues ..).trans (h ..)
  · exact .refl
theorem State.answers_touchLint (q : QId) (o : BitVec 16) (t : State) (h : s.touchLint q o = some t) : s.Answered t := by
  unfold State.touchLint at h; dsimp only at h
  split at h
  · cases h; exact s.answers_setQueue ..
  · split at h
    · cases h; exact s.answers_setQueue ..
    · split at h
      · cases h
      · cases h; exact (s.answers_setQueue ..).trans (State.posted_unitRecord ..).toAnswered
/-- The arrival of a request writes nothing but queues, answers and records (R33). -/
theorem State.answers_arriveB (q : QId) (r : Req) : s.Answered (s.arriveB q r).2 := by
  unfold State.arriveB
  split
  · exact s.answers_reply ..
  split
  · exact s.answers_reply ..
  split
  · exact s.answers_reply ..
  next t ht =>
    refine (s.answers_touchLint q r.origId t ht).trans ?_
    dsimp only
    split
    · exact t.answers_reply ..
    · repeat' split
      all_goals first
        | exact t.answers_reply ..
        | exact ((t.answers_setQueue ..).trans (State.answers_supersede ..)).trans (State.answers_setQueue ..)
theorem State.answers_arrive (q : QId) (r : Req) : s.Answered (s.arrive q r) := s.answers_arriveB q r

@[simp] theorem State.now_setQueue (q : QId) (x : Queue) : (s.setQueue q x).now = s.now := (s.answers_setQueue q x).now
@[simp] theorem State.pending_setQueue (q : QId) (x : Queue) : (s.setQueue q x).pending = s.pending := (s.answers_setQueue q x).pending
@[simp] theorem State.free_setQueue (q : QId) (x : Queue) : (s.setQueue q x).free = s.free := (s.answers_setQueue q x).free
@[simp] theorem State.periods_setQueue (q : QId) (x : Queue) : (s.setQueue q x).periods = s.periods := (s.answers_setQueue q x).periods
@[simp] theorem State.trips_setQueue (q : QId) (x : Queue) : (s.setQueue q x).trips = s.trips := (s.answers_setQueue q x).trips
@[simp] theorem State.dtNs_setQueue (q : QId) (x : Queue) : (s.setQueue q x).dtNs = s.dtNs := (s.answers_setQueue q x).dtNs
@[simp] theorem State.dtFrac_setQueue (q : QId) (x : Queue) : (s.setQueue q x).dtFrac = s.dtFrac := (s.answers_setQueue q x).dtFrac
@[simp] theorem State.maq_setQueue (q : QId) (x : Queue) : (s.setQueue q x).maq = s.maq := (s.answers_setQueue q x).maq
@[simp] theorem State.phus_setQueue (q : QId) (x : Queue) : (s.setQueue q x).phus = s.phus := (s.answers_setQueue q x).phus
@[simp] theorem State.lanes_setQueue (q : QId) (x : Queue) : (s.setQueue q x).lanes = s.lanes := (s.answers_setQueue q x).lanes
@[simp] theorem State.conns_setQueue (q : QId) (x : Queue) : (s.setQueue q x).conns = s.conns := (s.answers_setQueue q x).conns
@[simp] theorem State.dests_setQueue (q : QId) (x : Queue) : (s.setQueue q x).dests = s.dests := (s.answers_setQueue q x).dests
@[simp] theorem State.coils_setQueue (q : QId) (x : Queue) : (s.setQueue q x).coils = s.coils := (s.answers_setQueue q x).coils
@[simp] theorem State.coilsOff_setQueue (q : QId) (x : Queue) : (s.setQueue q x).coilsOff = s.coilsOff := (s.answers_setQueue q x).coilsOff
@[simp] theorem State.epoch_setQueue (q : QId) (x : Queue) : (s.setQueue q x).epoch = s.epoch := (s.answers_setQueue q x).epoch
@[simp] theorem State.gap_setQueue (q : QId) (x : Queue) : (s.setQueue q x).gap = s.gap := (s.answers_setQueue q x).gap
@[simp] theorem State.held_setQueue (q : QId) (x : Queue) : (s.setQueue q x).held = s.held := (s.answers_setQueue q x).held
@[simp] theorem State.clk_setQueue (q : QId) (x : Queue) : (s.setQueue q x).clk = s.clk := (s.answers_setQueue q x).clk
@[simp] theorem State.pwr_setQueue (q : QId) (x : Queue) : (s.setQueue q x).pwr = s.pwr := (s.answers_setQueue q x).pwr
@[simp] theorem State.mode_setQueue (q : QId) (x : Queue) : (s.setQueue q x).mode = s.mode := (s.answers_setQueue q x).mode
@[simp] theorem State.ctl_setQueue (q : QId) (x : Queue) : (s.setQueue q x).ctl = s.ctl := (s.answers_setQueue q x).ctl
@[simp] theorem State.portCharge_setQueue (q : QId) (x : Queue) : (s.setQueue q x).portCharge = s.portCharge := (s.answers_setQueue q x).portCharge
@[simp] theorem State.lsws_setQueue (q : QId) (x : Queue) : (s.setQueue q x).lsws = s.lsws := (s.answers_setQueue q x).lsws
@[simp] theorem State.lsExceeded_setQueue (q : QId) (x : Queue) : (s.setQueue q x).lsExceeded = s.lsExceeded := (s.answers_setQueue q x).lsExceeded
@[simp] theorem State.shedNext_setQueue (q : QId) (x : Queue) : (s.setQueue q x).shedNext = s.shedNext := (s.answers_setQueue q x).shedNext
@[simp] theorem State.lsPace_setQueue (q : QId) (x : Queue) : (s.setQueue q x).lsPace = s.lsPace := (s.answers_setQueue q x).lsPace
@[simp] theorem State.vswLost_setQueue (q : QId) (x : Queue) : (s.setQueue q x).vswLost = s.vswLost := (s.answers_setQueue q x).vswLost
@[simp] theorem State.net_setQueue (q : QId) (x : Queue) : (s.setQueue q x).net = s.net := (s.answers_setQueue q x).net
@[simp] theorem State.cans_setQueue (q : QId) (x : Queue) : (s.setQueue q x).cans = s.cans := (s.answers_setQueue q x).cans
@[simp] theorem State.plc_setQueue (q : QId) (x : Queue) : (s.setQueue q x).plc = s.plc := (s.answers_setQueue q x).plc
@[simp] theorem State.answered_setQueue (q : QId) (x : Queue) : (s.setQueue q x).answered = s.answered := (s.answers_setQueue q x).answered
@[simp] theorem State.alloc_setQueue (q : QId) (x : Queue) : (s.setQueue q x).alloc = s.alloc := (s.answers_setQueue q x).alloc
@[simp] theorem State.met_setQueue (q : QId) (x : Queue) : (s.setQueue q x).met = s.met := (s.answers_setQueue q x).met
@[simp] theorem State.bill_setQueue (q : QId) (x : Queue) : (s.setQueue q x).bill = s.bill := (s.answers_setQueue q x).bill
@[simp] theorem State.sess_setQueue (q : QId) (x : Queue) : (s.setQueue q x).sess = s.sess := (s.answers_setQueue q x).sess
@[simp] theorem State.t1Req_setQueue (q : QId) (x : Queue) : (s.setQueue q x).t1Req = s.t1Req := (s.answers_setQueue q x).t1Req
@[simp] theorem State.ocpp_setQueue (q : QId) (x : Queue) : (s.setQueue q x).ocpp = s.ocpp := (s.answers_setQueue q x).ocpp
@[simp] theorem State.cool_setQueue (q : QId) (x : Queue) : (s.setQueue q x).cool = s.cool := (s.answers_setQueue q x).cool
@[simp] theorem State.buf_setQueue (q : QId) (x : Queue) : (s.setQueue q x).buf = s.buf := (s.answers_setQueue q x).buf
@[simp] theorem State.vault_setQueue (q : QId) (x : Queue) : (s.setQueue q x).vault = s.vault := (s.answers_setQueue q x).vault
@[simp] theorem State.sec_setQueue (q : QId) (x : Queue) : (s.setQueue q x).sec = s.sec := (s.answers_setQueue q x).sec
@[simp] theorem State.dt_setQueue (q : QId) (x : Queue) : (s.setQueue q x).dt = s.dt := (s.answers_setQueue q x).dt 
@[simp] theorem State.period_setQueue (q : QId) (x : Queue) (i0 j0 : Nat) : (s.setQueue q x).period i0 j0 = s.period i0 j0 := (s.answers_setQueue q x).period i0 j0
@[simp] theorem State.tripped_setQueue (q : QId) (x : Queue) (z0 : Scope) : (s.setQueue q x).tripped z0 = s.tripped z0 := (s.answers_setQueue q x).tripped z0

@[simp] theorem State.now_modbusReply (r : Result) : (s.modbusReply r).now = s.now := (s.answers_modbusReply r).now
@[simp] theorem State.pending_modbusReply (r : Result) : (s.modbusReply r).pending = s.pending := (s.answers_modbusReply r).pending
@[simp] theorem State.free_modbusReply (r : Result) : (s.modbusReply r).free = s.free := (s.answers_modbusReply r).free
@[simp] theorem State.periods_modbusReply (r : Result) : (s.modbusReply r).periods = s.periods := (s.answers_modbusReply r).periods
@[simp] theorem State.trips_modbusReply (r : Result) : (s.modbusReply r).trips = s.trips := (s.answers_modbusReply r).trips
@[simp] theorem State.dtNs_modbusReply (r : Result) : (s.modbusReply r).dtNs = s.dtNs := (s.answers_modbusReply r).dtNs
@[simp] theorem State.dtFrac_modbusReply (r : Result) : (s.modbusReply r).dtFrac = s.dtFrac := (s.answers_modbusReply r).dtFrac
@[simp] theorem State.maq_modbusReply (r : Result) : (s.modbusReply r).maq = s.maq := (s.answers_modbusReply r).maq
@[simp] theorem State.phus_modbusReply (r : Result) : (s.modbusReply r).phus = s.phus := (s.answers_modbusReply r).phus
@[simp] theorem State.lanes_modbusReply (r : Result) : (s.modbusReply r).lanes = s.lanes := (s.answers_modbusReply r).lanes
@[simp] theorem State.conns_modbusReply (r : Result) : (s.modbusReply r).conns = s.conns := (s.answers_modbusReply r).conns
@[simp] theorem State.dests_modbusReply (r : Result) : (s.modbusReply r).dests = s.dests := (s.answers_modbusReply r).dests
@[simp] theorem State.coils_modbusReply (r : Result) : (s.modbusReply r).coils = s.coils := (s.answers_modbusReply r).coils
@[simp] theorem State.coilsOff_modbusReply (r : Result) : (s.modbusReply r).coilsOff = s.coilsOff := (s.answers_modbusReply r).coilsOff
@[simp] theorem State.epoch_modbusReply (r : Result) : (s.modbusReply r).epoch = s.epoch := (s.answers_modbusReply r).epoch
@[simp] theorem State.gap_modbusReply (r : Result) : (s.modbusReply r).gap = s.gap := (s.answers_modbusReply r).gap
@[simp] theorem State.held_modbusReply (r : Result) : (s.modbusReply r).held = s.held := (s.answers_modbusReply r).held
@[simp] theorem State.clk_modbusReply (r : Result) : (s.modbusReply r).clk = s.clk := (s.answers_modbusReply r).clk
@[simp] theorem State.pwr_modbusReply (r : Result) : (s.modbusReply r).pwr = s.pwr := (s.answers_modbusReply r).pwr
@[simp] theorem State.mode_modbusReply (r : Result) : (s.modbusReply r).mode = s.mode := (s.answers_modbusReply r).mode
@[simp] theorem State.ctl_modbusReply (r : Result) : (s.modbusReply r).ctl = s.ctl := (s.answers_modbusReply r).ctl
@[simp] theorem State.portCharge_modbusReply (r : Result) : (s.modbusReply r).portCharge = s.portCharge := (s.answers_modbusReply r).portCharge
@[simp] theorem State.lsws_modbusReply (r : Result) : (s.modbusReply r).lsws = s.lsws := (s.answers_modbusReply r).lsws
@[simp] theorem State.lsExceeded_modbusReply (r : Result) : (s.modbusReply r).lsExceeded = s.lsExceeded := (s.answers_modbusReply r).lsExceeded
@[simp] theorem State.shedNext_modbusReply (r : Result) : (s.modbusReply r).shedNext = s.shedNext := (s.answers_modbusReply r).shedNext
@[simp] theorem State.lsPace_modbusReply (r : Result) : (s.modbusReply r).lsPace = s.lsPace := (s.answers_modbusReply r).lsPace
@[simp] theorem State.vswLost_modbusReply (r : Result) : (s.modbusReply r).vswLost = s.vswLost := (s.answers_modbusReply r).vswLost
@[simp] theorem State.net_modbusReply (r : Result) : (s.modbusReply r).net = s.net := (s.answers_modbusReply r).net
@[simp] theorem State.cans_modbusReply (r : Result) : (s.modbusReply r).cans = s.cans := (s.answers_modbusReply r).cans
@[simp] theorem State.plc_modbusReply (r : Result) : (s.modbusReply r).plc = s.plc := (s.answers_modbusReply r).plc
@[simp] theorem State.answered_modbusReply (r : Result) : (s.modbusReply r).answered = s.answered := (s.answers_modbusReply r).answered
@[simp] theorem State.alloc_modbusReply (r : Result) : (s.modbusReply r).alloc = s.alloc := (s.answers_modbusReply r).alloc
@[simp] theorem State.met_modbusReply (r : Result) : (s.modbusReply r).met = s.met := (s.answers_modbusReply r).met
@[simp] theorem State.bill_modbusReply (r : Result) : (s.modbusReply r).bill = s.bill := (s.answers_modbusReply r).bill
@[simp] theorem State.sess_modbusReply (r : Result) : (s.modbusReply r).sess = s.sess := (s.answers_modbusReply r).sess
@[simp] theorem State.t1Req_modbusReply (r : Result) : (s.modbusReply r).t1Req = s.t1Req := (s.answers_modbusReply r).t1Req
@[simp] theorem State.ocpp_modbusReply (r : Result) : (s.modbusReply r).ocpp = s.ocpp := (s.answers_modbusReply r).ocpp
@[simp] theorem State.cool_modbusReply (r : Result) : (s.modbusReply r).cool = s.cool := (s.answers_modbusReply r).cool
@[simp] theorem State.buf_modbusReply (r : Result) : (s.modbusReply r).buf = s.buf := (s.answers_modbusReply r).buf
@[simp] theorem State.vault_modbusReply (r : Result) : (s.modbusReply r).vault = s.vault := (s.answers_modbusReply r).vault
@[simp] theorem State.sec_modbusReply (r : Result) : (s.modbusReply r).sec = s.sec := (s.answers_modbusReply r).sec
@[simp] theorem State.dt_modbusReply (r : Result) : (s.modbusReply r).dt = s.dt := (s.answers_modbusReply r).dt 
@[simp] theorem State.period_modbusReply (r : Result) (i0 j0 : Nat) : (s.modbusReply r).period i0 j0 = s.period i0 j0 := (s.answers_modbusReply r).period i0 j0
@[simp] theorem State.tripped_modbusReply (r : Result) (z0 : Scope) : (s.modbusReply r).tripped z0 = s.tripped z0 := (s.answers_modbusReply r).tripped z0

@[simp] theorem State.now_result (q : QId) (r : Result) : (s.result q r).now = s.now := (s.answers_result q r).now
@[simp] theorem State.pending_result (q : QId) (r : Result) : (s.result q r).pending = s.pending := (s.answers_result q r).pending
@[simp] theorem State.free_result (q : QId) (r : Result) : (s.result q r).free = s.free := (s.answers_result q r).free
@[simp] theorem State.periods_result (q : QId) (r : Result) : (s.result q r).periods = s.periods := (s.answers_result q r).periods
@[simp] theorem State.trips_result (q : QId) (r : Result) : (s.result q r).trips = s.trips := (s.answers_result q r).trips
@[simp] theorem State.dtNs_result (q : QId) (r : Result) : (s.result q r).dtNs = s.dtNs := (s.answers_result q r).dtNs
@[simp] theorem State.dtFrac_result (q : QId) (r : Result) : (s.result q r).dtFrac = s.dtFrac := (s.answers_result q r).dtFrac
@[simp] theorem State.maq_result (q : QId) (r : Result) : (s.result q r).maq = s.maq := (s.answers_result q r).maq
@[simp] theorem State.phus_result (q : QId) (r : Result) : (s.result q r).phus = s.phus := (s.answers_result q r).phus
@[simp] theorem State.lanes_result (q : QId) (r : Result) : (s.result q r).lanes = s.lanes := (s.answers_result q r).lanes
@[simp] theorem State.conns_result (q : QId) (r : Result) : (s.result q r).conns = s.conns := (s.answers_result q r).conns
@[simp] theorem State.dests_result (q : QId) (r : Result) : (s.result q r).dests = s.dests := (s.answers_result q r).dests
@[simp] theorem State.coils_result (q : QId) (r : Result) : (s.result q r).coils = s.coils := (s.answers_result q r).coils
@[simp] theorem State.coilsOff_result (q : QId) (r : Result) : (s.result q r).coilsOff = s.coilsOff := (s.answers_result q r).coilsOff
@[simp] theorem State.epoch_result (q : QId) (r : Result) : (s.result q r).epoch = s.epoch := (s.answers_result q r).epoch
@[simp] theorem State.gap_result (q : QId) (r : Result) : (s.result q r).gap = s.gap := (s.answers_result q r).gap
@[simp] theorem State.held_result (q : QId) (r : Result) : (s.result q r).held = s.held := (s.answers_result q r).held
@[simp] theorem State.clk_result (q : QId) (r : Result) : (s.result q r).clk = s.clk := (s.answers_result q r).clk
@[simp] theorem State.pwr_result (q : QId) (r : Result) : (s.result q r).pwr = s.pwr := (s.answers_result q r).pwr
@[simp] theorem State.mode_result (q : QId) (r : Result) : (s.result q r).mode = s.mode := (s.answers_result q r).mode
@[simp] theorem State.ctl_result (q : QId) (r : Result) : (s.result q r).ctl = s.ctl := (s.answers_result q r).ctl
@[simp] theorem State.portCharge_result (q : QId) (r : Result) : (s.result q r).portCharge = s.portCharge := (s.answers_result q r).portCharge
@[simp] theorem State.lsws_result (q : QId) (r : Result) : (s.result q r).lsws = s.lsws := (s.answers_result q r).lsws
@[simp] theorem State.lsExceeded_result (q : QId) (r : Result) : (s.result q r).lsExceeded = s.lsExceeded := (s.answers_result q r).lsExceeded
@[simp] theorem State.shedNext_result (q : QId) (r : Result) : (s.result q r).shedNext = s.shedNext := (s.answers_result q r).shedNext
@[simp] theorem State.lsPace_result (q : QId) (r : Result) : (s.result q r).lsPace = s.lsPace := (s.answers_result q r).lsPace
@[simp] theorem State.vswLost_result (q : QId) (r : Result) : (s.result q r).vswLost = s.vswLost := (s.answers_result q r).vswLost
@[simp] theorem State.net_result (q : QId) (r : Result) : (s.result q r).net = s.net := (s.answers_result q r).net
@[simp] theorem State.cans_result (q : QId) (r : Result) : (s.result q r).cans = s.cans := (s.answers_result q r).cans
@[simp] theorem State.plc_result (q : QId) (r : Result) : (s.result q r).plc = s.plc := (s.answers_result q r).plc
@[simp] theorem State.answered_result (q : QId) (r : Result) : (s.result q r).answered = s.answered := (s.answers_result q r).answered
@[simp] theorem State.alloc_result (q : QId) (r : Result) : (s.result q r).alloc = s.alloc := (s.answers_result q r).alloc
@[simp] theorem State.met_result (q : QId) (r : Result) : (s.result q r).met = s.met := (s.answers_result q r).met
@[simp] theorem State.bill_result (q : QId) (r : Result) : (s.result q r).bill = s.bill := (s.answers_result q r).bill
@[simp] theorem State.sess_result (q : QId) (r : Result) : (s.result q r).sess = s.sess := (s.answers_result q r).sess
@[simp] theorem State.t1Req_result (q : QId) (r : Result) : (s.result q r).t1Req = s.t1Req := (s.answers_result q r).t1Req
@[simp] theorem State.ocpp_result (q : QId) (r : Result) : (s.result q r).ocpp = s.ocpp := (s.answers_result q r).ocpp
@[simp] theorem State.cool_result (q : QId) (r : Result) : (s.result q r).cool = s.cool := (s.answers_result q r).cool
@[simp] theorem State.buf_result (q : QId) (r : Result) : (s.result q r).buf = s.buf := (s.answers_result q r).buf
@[simp] theorem State.vault_result (q : QId) (r : Result) : (s.result q r).vault = s.vault := (s.answers_result q r).vault
@[simp] theorem State.sec_result (q : QId) (r : Result) : (s.result q r).sec = s.sec := (s.answers_result q r).sec
@[simp] theorem State.dt_result (q : QId) (r : Result) : (s.result q r).dt = s.dt := (s.answers_result q r).dt 
@[simp] theorem State.period_result (q : QId) (r : Result) (i0 j0 : Nat) : (s.result q r).period i0 j0 = s.period i0 j0 := (s.answers_result q r).period i0 j0
@[simp] theorem State.tripped_result (q : QId) (r : Result) (z0 : Scope) : (s.result q r).tripped z0 = s.tripped z0 := (s.answers_result q r).tripped z0

@[simp] theorem State.now_completionEvent (q : QId) (r : Req) (v : Nat) : (s.completionEvent q r v).now = s.now := (s.answers_completionEvent q r v).now
@[simp] theorem State.pending_completionEvent (q : QId) (r : Req) (v : Nat) : (s.completionEvent q r v).pending = s.pending := (s.answers_completionEvent q r v).pending
@[simp] theorem State.free_completionEvent (q : QId) (r : Req) (v : Nat) : (s.completionEvent q r v).free = s.free := (s.answers_completionEvent q r v).free
@[simp] theorem State.periods_completionEvent (q : QId) (r : Req) (v : Nat) : (s.completionEvent q r v).periods = s.periods := (s.answers_completionEvent q r v).periods
@[simp] theorem State.trips_completionEvent (q : QId) (r : Req) (v : Nat) : (s.completionEvent q r v).trips = s.trips := (s.answers_completionEvent q r v).trips
@[simp] theorem State.dtNs_completionEvent (q : QId) (r : Req) (v : Nat) : (s.completionEvent q r v).dtNs = s.dtNs := (s.answers_completionEvent q r v).dtNs
@[simp] theorem State.dtFrac_completionEvent (q : QId) (r : Req) (v : Nat) : (s.completionEvent q r v).dtFrac = s.dtFrac := (s.answers_completionEvent q r v).dtFrac
@[simp] theorem State.maq_completionEvent (q : QId) (r : Req) (v : Nat) : (s.completionEvent q r v).maq = s.maq := (s.answers_completionEvent q r v).maq
@[simp] theorem State.phus_completionEvent (q : QId) (r : Req) (v : Nat) : (s.completionEvent q r v).phus = s.phus := (s.answers_completionEvent q r v).phus
@[simp] theorem State.lanes_completionEvent (q : QId) (r : Req) (v : Nat) : (s.completionEvent q r v).lanes = s.lanes := (s.answers_completionEvent q r v).lanes
@[simp] theorem State.conns_completionEvent (q : QId) (r : Req) (v : Nat) : (s.completionEvent q r v).conns = s.conns := (s.answers_completionEvent q r v).conns
@[simp] theorem State.dests_completionEvent (q : QId) (r : Req) (v : Nat) : (s.completionEvent q r v).dests = s.dests := (s.answers_completionEvent q r v).dests
@[simp] theorem State.coils_completionEvent (q : QId) (r : Req) (v : Nat) : (s.completionEvent q r v).coils = s.coils := (s.answers_completionEvent q r v).coils
@[simp] theorem State.coilsOff_completionEvent (q : QId) (r : Req) (v : Nat) : (s.completionEvent q r v).coilsOff = s.coilsOff := (s.answers_completionEvent q r v).coilsOff
@[simp] theorem State.epoch_completionEvent (q : QId) (r : Req) (v : Nat) : (s.completionEvent q r v).epoch = s.epoch := (s.answers_completionEvent q r v).epoch
@[simp] theorem State.gap_completionEvent (q : QId) (r : Req) (v : Nat) : (s.completionEvent q r v).gap = s.gap := (s.answers_completionEvent q r v).gap
@[simp] theorem State.held_completionEvent (q : QId) (r : Req) (v : Nat) : (s.completionEvent q r v).held = s.held := (s.answers_completionEvent q r v).held
@[simp] theorem State.clk_completionEvent (q : QId) (r : Req) (v : Nat) : (s.completionEvent q r v).clk = s.clk := (s.answers_completionEvent q r v).clk
@[simp] theorem State.pwr_completionEvent (q : QId) (r : Req) (v : Nat) : (s.completionEvent q r v).pwr = s.pwr := (s.answers_completionEvent q r v).pwr
@[simp] theorem State.mode_completionEvent (q : QId) (r : Req) (v : Nat) : (s.completionEvent q r v).mode = s.mode := (s.answers_completionEvent q r v).mode
@[simp] theorem State.ctl_completionEvent (q : QId) (r : Req) (v : Nat) : (s.completionEvent q r v).ctl = s.ctl := (s.answers_completionEvent q r v).ctl
@[simp] theorem State.portCharge_completionEvent (q : QId) (r : Req) (v : Nat) : (s.completionEvent q r v).portCharge = s.portCharge := (s.answers_completionEvent q r v).portCharge
@[simp] theorem State.lsws_completionEvent (q : QId) (r : Req) (v : Nat) : (s.completionEvent q r v).lsws = s.lsws := (s.answers_completionEvent q r v).lsws
@[simp] theorem State.lsExceeded_completionEvent (q : QId) (r : Req) (v : Nat) : (s.completionEvent q r v).lsExceeded = s.lsExceeded := (s.answers_completionEvent q r v).lsExceeded
@[simp] theorem State.shedNext_completionEvent (q : QId) (r : Req) (v : Nat) : (s.completionEvent q r v).shedNext = s.shedNext := (s.answers_completionEvent q r v).shedNext
@[simp] theorem State.lsPace_completionEvent (q : QId) (r : Req) (v : Nat) : (s.completionEvent q r v).lsPace = s.lsPace := (s.answers_completionEvent q r v).lsPace
@[simp] theorem State.vswLost_completionEvent (q : QId) (r : Req) (v : Nat) : (s.completionEvent q r v).vswLost = s.vswLost := (s.answers_completionEvent q r v).vswLost
@[simp] theorem State.net_completionEvent (q : QId) (r : Req) (v : Nat) : (s.completionEvent q r v).net = s.net := (s.answers_completionEvent q r v).net
@[simp] theorem State.cans_completionEvent (q : QId) (r : Req) (v : Nat) : (s.completionEvent q r v).cans = s.cans := (s.answers_completionEvent q r v).cans
@[simp] theorem State.plc_completionEvent (q : QId) (r : Req) (v : Nat) : (s.completionEvent q r v).plc = s.plc := (s.answers_completionEvent q r v).plc
@[simp] theorem State.answered_completionEvent (q : QId) (r : Req) (v : Nat) : (s.completionEvent q r v).answered = s.answered := (s.answers_completionEvent q r v).answered
@[simp] theorem State.alloc_completionEvent (q : QId) (r : Req) (v : Nat) : (s.completionEvent q r v).alloc = s.alloc := (s.answers_completionEvent q r v).alloc
@[simp] theorem State.met_completionEvent (q : QId) (r : Req) (v : Nat) : (s.completionEvent q r v).met = s.met := (s.answers_completionEvent q r v).met
@[simp] theorem State.bill_completionEvent (q : QId) (r : Req) (v : Nat) : (s.completionEvent q r v).bill = s.bill := (s.answers_completionEvent q r v).bill
@[simp] theorem State.sess_completionEvent (q : QId) (r : Req) (v : Nat) : (s.completionEvent q r v).sess = s.sess := (s.answers_completionEvent q r v).sess
@[simp] theorem State.t1Req_completionEvent (q : QId) (r : Req) (v : Nat) : (s.completionEvent q r v).t1Req = s.t1Req := (s.answers_completionEvent q r v).t1Req
@[simp] theorem State.ocpp_completionEvent (q : QId) (r : Req) (v : Nat) : (s.completionEvent q r v).ocpp = s.ocpp := (s.answers_completionEvent q r v).ocpp
@[simp] theorem State.cool_completionEvent (q : QId) (r : Req) (v : Nat) : (s.completionEvent q r v).cool = s.cool := (s.answers_completionEvent q r v).cool
@[simp] theorem State.buf_completionEvent (q : QId) (r : Req) (v : Nat) : (s.completionEvent q r v).buf = s.buf := (s.answers_completionEvent q r v).buf
@[simp] theorem State.vault_completionEvent (q : QId) (r : Req) (v : Nat) : (s.completionEvent q r v).vault = s.vault := (s.answers_completionEvent q r v).vault
@[simp] theorem State.sec_completionEvent (q : QId) (r : Req) (v : Nat) : (s.completionEvent q r v).sec = s.sec := (s.answers_completionEvent q r v).sec
@[simp] theorem State.dt_completionEvent (q : QId) (r : Req) (v : Nat) : (s.completionEvent q r v).dt = s.dt := (s.answers_completionEvent q r v).dt 
@[simp] theorem State.period_completionEvent (q : QId) (r : Req) (v : Nat) (i0 j0 : Nat) : (s.completionEvent q r v).period i0 j0 = s.period i0 j0 := (s.answers_completionEvent q r v).period i0 j0
@[simp] theorem State.tripped_completionEvent (q : QId) (r : Req) (v : Nat) (z0 : Scope) : (s.completionEvent q r v).tripped z0 = s.tripped z0 := (s.answers_completionEvent q r v).tripped z0

@[simp] theorem State.now_reply (q : QId) (r : Req) (v d : Nat) (x : DWord) : (s.reply q r v d x).now = s.now := (s.answers_reply q r v d x).now
@[simp] theorem State.pending_reply (q : QId) (r : Req) (v d : Nat) (x : DWord) : (s.reply q r v d x).pending = s.pending := (s.answers_reply q r v d x).pending
@[simp] theorem State.free_reply (q : QId) (r : Req) (v d : Nat) (x : DWord) : (s.reply q r v d x).free = s.free := (s.answers_reply q r v d x).free
@[simp] theorem State.periods_reply (q : QId) (r : Req) (v d : Nat) (x : DWord) : (s.reply q r v d x).periods = s.periods := (s.answers_reply q r v d x).periods
@[simp] theorem State.trips_reply (q : QId) (r : Req) (v d : Nat) (x : DWord) : (s.reply q r v d x).trips = s.trips := (s.answers_reply q r v d x).trips
@[simp] theorem State.dtNs_reply (q : QId) (r : Req) (v d : Nat) (x : DWord) : (s.reply q r v d x).dtNs = s.dtNs := (s.answers_reply q r v d x).dtNs
@[simp] theorem State.dtFrac_reply (q : QId) (r : Req) (v d : Nat) (x : DWord) : (s.reply q r v d x).dtFrac = s.dtFrac := (s.answers_reply q r v d x).dtFrac
@[simp] theorem State.maq_reply (q : QId) (r : Req) (v d : Nat) (x : DWord) : (s.reply q r v d x).maq = s.maq := (s.answers_reply q r v d x).maq
@[simp] theorem State.phus_reply (q : QId) (r : Req) (v d : Nat) (x : DWord) : (s.reply q r v d x).phus = s.phus := (s.answers_reply q r v d x).phus
@[simp] theorem State.lanes_reply (q : QId) (r : Req) (v d : Nat) (x : DWord) : (s.reply q r v d x).lanes = s.lanes := (s.answers_reply q r v d x).lanes
@[simp] theorem State.conns_reply (q : QId) (r : Req) (v d : Nat) (x : DWord) : (s.reply q r v d x).conns = s.conns := (s.answers_reply q r v d x).conns
@[simp] theorem State.dests_reply (q : QId) (r : Req) (v d : Nat) (x : DWord) : (s.reply q r v d x).dests = s.dests := (s.answers_reply q r v d x).dests
@[simp] theorem State.coils_reply (q : QId) (r : Req) (v d : Nat) (x : DWord) : (s.reply q r v d x).coils = s.coils := (s.answers_reply q r v d x).coils
@[simp] theorem State.coilsOff_reply (q : QId) (r : Req) (v d : Nat) (x : DWord) : (s.reply q r v d x).coilsOff = s.coilsOff := (s.answers_reply q r v d x).coilsOff
@[simp] theorem State.epoch_reply (q : QId) (r : Req) (v d : Nat) (x : DWord) : (s.reply q r v d x).epoch = s.epoch := (s.answers_reply q r v d x).epoch
@[simp] theorem State.gap_reply (q : QId) (r : Req) (v d : Nat) (x : DWord) : (s.reply q r v d x).gap = s.gap := (s.answers_reply q r v d x).gap
@[simp] theorem State.held_reply (q : QId) (r : Req) (v d : Nat) (x : DWord) : (s.reply q r v d x).held = s.held := (s.answers_reply q r v d x).held
@[simp] theorem State.clk_reply (q : QId) (r : Req) (v d : Nat) (x : DWord) : (s.reply q r v d x).clk = s.clk := (s.answers_reply q r v d x).clk
@[simp] theorem State.pwr_reply (q : QId) (r : Req) (v d : Nat) (x : DWord) : (s.reply q r v d x).pwr = s.pwr := (s.answers_reply q r v d x).pwr
@[simp] theorem State.mode_reply (q : QId) (r : Req) (v d : Nat) (x : DWord) : (s.reply q r v d x).mode = s.mode := (s.answers_reply q r v d x).mode
@[simp] theorem State.ctl_reply (q : QId) (r : Req) (v d : Nat) (x : DWord) : (s.reply q r v d x).ctl = s.ctl := (s.answers_reply q r v d x).ctl
@[simp] theorem State.portCharge_reply (q : QId) (r : Req) (v d : Nat) (x : DWord) : (s.reply q r v d x).portCharge = s.portCharge := (s.answers_reply q r v d x).portCharge
@[simp] theorem State.lsws_reply (q : QId) (r : Req) (v d : Nat) (x : DWord) : (s.reply q r v d x).lsws = s.lsws := (s.answers_reply q r v d x).lsws
@[simp] theorem State.lsExceeded_reply (q : QId) (r : Req) (v d : Nat) (x : DWord) : (s.reply q r v d x).lsExceeded = s.lsExceeded := (s.answers_reply q r v d x).lsExceeded
@[simp] theorem State.shedNext_reply (q : QId) (r : Req) (v d : Nat) (x : DWord) : (s.reply q r v d x).shedNext = s.shedNext := (s.answers_reply q r v d x).shedNext
@[simp] theorem State.lsPace_reply (q : QId) (r : Req) (v d : Nat) (x : DWord) : (s.reply q r v d x).lsPace = s.lsPace := (s.answers_reply q r v d x).lsPace
@[simp] theorem State.vswLost_reply (q : QId) (r : Req) (v d : Nat) (x : DWord) : (s.reply q r v d x).vswLost = s.vswLost := (s.answers_reply q r v d x).vswLost
@[simp] theorem State.net_reply (q : QId) (r : Req) (v d : Nat) (x : DWord) : (s.reply q r v d x).net = s.net := (s.answers_reply q r v d x).net
@[simp] theorem State.cans_reply (q : QId) (r : Req) (v d : Nat) (x : DWord) : (s.reply q r v d x).cans = s.cans := (s.answers_reply q r v d x).cans
@[simp] theorem State.plc_reply (q : QId) (r : Req) (v d : Nat) (x : DWord) : (s.reply q r v d x).plc = s.plc := (s.answers_reply q r v d x).plc
@[simp] theorem State.answered_reply (q : QId) (r : Req) (v d : Nat) (x : DWord) : (s.reply q r v d x).answered = s.answered := (s.answers_reply q r v d x).answered
@[simp] theorem State.alloc_reply (q : QId) (r : Req) (v d : Nat) (x : DWord) : (s.reply q r v d x).alloc = s.alloc := (s.answers_reply q r v d x).alloc
@[simp] theorem State.met_reply (q : QId) (r : Req) (v d : Nat) (x : DWord) : (s.reply q r v d x).met = s.met := (s.answers_reply q r v d x).met
@[simp] theorem State.bill_reply (q : QId) (r : Req) (v d : Nat) (x : DWord) : (s.reply q r v d x).bill = s.bill := (s.answers_reply q r v d x).bill
@[simp] theorem State.sess_reply (q : QId) (r : Req) (v d : Nat) (x : DWord) : (s.reply q r v d x).sess = s.sess := (s.answers_reply q r v d x).sess
@[simp] theorem State.t1Req_reply (q : QId) (r : Req) (v d : Nat) (x : DWord) : (s.reply q r v d x).t1Req = s.t1Req := (s.answers_reply q r v d x).t1Req
@[simp] theorem State.ocpp_reply (q : QId) (r : Req) (v d : Nat) (x : DWord) : (s.reply q r v d x).ocpp = s.ocpp := (s.answers_reply q r v d x).ocpp
@[simp] theorem State.cool_reply (q : QId) (r : Req) (v d : Nat) (x : DWord) : (s.reply q r v d x).cool = s.cool := (s.answers_reply q r v d x).cool
@[simp] theorem State.buf_reply (q : QId) (r : Req) (v d : Nat) (x : DWord) : (s.reply q r v d x).buf = s.buf := (s.answers_reply q r v d x).buf
@[simp] theorem State.vault_reply (q : QId) (r : Req) (v d : Nat) (x : DWord) : (s.reply q r v d x).vault = s.vault := (s.answers_reply q r v d x).vault
@[simp] theorem State.sec_reply (q : QId) (r : Req) (v d : Nat) (x : DWord) : (s.reply q r v d x).sec = s.sec := (s.answers_reply q r v d x).sec
@[simp] theorem State.dt_reply (q : QId) (r : Req) (v d : Nat) (x : DWord) : (s.reply q r v d x).dt = s.dt := (s.answers_reply q r v d x).dt 
@[simp] theorem State.period_reply (q : QId) (r : Req) (v d : Nat) (x : DWord) (i0 j0 : Nat) : (s.reply q r v d x).period i0 j0 = s.period i0 j0 := (s.answers_reply q r v d x).period i0 j0
@[simp] theorem State.tripped_reply (q : QId) (r : Req) (v d : Nat) (x : DWord) (z0 : Scope) : (s.reply q r v d x).tripped z0 = s.tripped z0 := (s.answers_reply q r v d x).tripped z0

@[simp] theorem State.now_complete (q : QId) (r : Req) (v d : Nat) (x : DWord) : (s.complete q r v d x).now = s.now := (s.answers_complete q r v d x).now
@[simp] theorem State.pending_complete (q : QId) (r : Req) (v d : Nat) (x : DWord) : (s.complete q r v d x).pending = s.pending := (s.answers_complete q r v d x).pending
@[simp] theorem State.free_complete (q : QId) (r : Req) (v d : Nat) (x : DWord) : (s.complete q r v d x).free = s.free := (s.answers_complete q r v d x).free
@[simp] theorem State.periods_complete (q : QId) (r : Req) (v d : Nat) (x : DWord) : (s.complete q r v d x).periods = s.periods := (s.answers_complete q r v d x).periods
@[simp] theorem State.trips_complete (q : QId) (r : Req) (v d : Nat) (x : DWord) : (s.complete q r v d x).trips = s.trips := (s.answers_complete q r v d x).trips
@[simp] theorem State.dtNs_complete (q : QId) (r : Req) (v d : Nat) (x : DWord) : (s.complete q r v d x).dtNs = s.dtNs := (s.answers_complete q r v d x).dtNs
@[simp] theorem State.dtFrac_complete (q : QId) (r : Req) (v d : Nat) (x : DWord) : (s.complete q r v d x).dtFrac = s.dtFrac := (s.answers_complete q r v d x).dtFrac
@[simp] theorem State.maq_complete (q : QId) (r : Req) (v d : Nat) (x : DWord) : (s.complete q r v d x).maq = s.maq := (s.answers_complete q r v d x).maq
@[simp] theorem State.phus_complete (q : QId) (r : Req) (v d : Nat) (x : DWord) : (s.complete q r v d x).phus = s.phus := (s.answers_complete q r v d x).phus
@[simp] theorem State.lanes_complete (q : QId) (r : Req) (v d : Nat) (x : DWord) : (s.complete q r v d x).lanes = s.lanes := (s.answers_complete q r v d x).lanes
@[simp] theorem State.conns_complete (q : QId) (r : Req) (v d : Nat) (x : DWord) : (s.complete q r v d x).conns = s.conns := (s.answers_complete q r v d x).conns
@[simp] theorem State.dests_complete (q : QId) (r : Req) (v d : Nat) (x : DWord) : (s.complete q r v d x).dests = s.dests := (s.answers_complete q r v d x).dests
@[simp] theorem State.coils_complete (q : QId) (r : Req) (v d : Nat) (x : DWord) : (s.complete q r v d x).coils = s.coils := (s.answers_complete q r v d x).coils
@[simp] theorem State.coilsOff_complete (q : QId) (r : Req) (v d : Nat) (x : DWord) : (s.complete q r v d x).coilsOff = s.coilsOff := (s.answers_complete q r v d x).coilsOff
@[simp] theorem State.epoch_complete (q : QId) (r : Req) (v d : Nat) (x : DWord) : (s.complete q r v d x).epoch = s.epoch := (s.answers_complete q r v d x).epoch
@[simp] theorem State.gap_complete (q : QId) (r : Req) (v d : Nat) (x : DWord) : (s.complete q r v d x).gap = s.gap := (s.answers_complete q r v d x).gap
@[simp] theorem State.held_complete (q : QId) (r : Req) (v d : Nat) (x : DWord) : (s.complete q r v d x).held = s.held := (s.answers_complete q r v d x).held
@[simp] theorem State.clk_complete (q : QId) (r : Req) (v d : Nat) (x : DWord) : (s.complete q r v d x).clk = s.clk := (s.answers_complete q r v d x).clk
@[simp] theorem State.pwr_complete (q : QId) (r : Req) (v d : Nat) (x : DWord) : (s.complete q r v d x).pwr = s.pwr := (s.answers_complete q r v d x).pwr
@[simp] theorem State.mode_complete (q : QId) (r : Req) (v d : Nat) (x : DWord) : (s.complete q r v d x).mode = s.mode := (s.answers_complete q r v d x).mode
@[simp] theorem State.ctl_complete (q : QId) (r : Req) (v d : Nat) (x : DWord) : (s.complete q r v d x).ctl = s.ctl := (s.answers_complete q r v d x).ctl
@[simp] theorem State.portCharge_complete (q : QId) (r : Req) (v d : Nat) (x : DWord) : (s.complete q r v d x).portCharge = s.portCharge := (s.answers_complete q r v d x).portCharge
@[simp] theorem State.lsws_complete (q : QId) (r : Req) (v d : Nat) (x : DWord) : (s.complete q r v d x).lsws = s.lsws := (s.answers_complete q r v d x).lsws
@[simp] theorem State.lsExceeded_complete (q : QId) (r : Req) (v d : Nat) (x : DWord) : (s.complete q r v d x).lsExceeded = s.lsExceeded := (s.answers_complete q r v d x).lsExceeded
@[simp] theorem State.shedNext_complete (q : QId) (r : Req) (v d : Nat) (x : DWord) : (s.complete q r v d x).shedNext = s.shedNext := (s.answers_complete q r v d x).shedNext
@[simp] theorem State.lsPace_complete (q : QId) (r : Req) (v d : Nat) (x : DWord) : (s.complete q r v d x).lsPace = s.lsPace := (s.answers_complete q r v d x).lsPace
@[simp] theorem State.vswLost_complete (q : QId) (r : Req) (v d : Nat) (x : DWord) : (s.complete q r v d x).vswLost = s.vswLost := (s.answers_complete q r v d x).vswLost
@[simp] theorem State.net_complete (q : QId) (r : Req) (v d : Nat) (x : DWord) : (s.complete q r v d x).net = s.net := (s.answers_complete q r v d x).net
@[simp] theorem State.cans_complete (q : QId) (r : Req) (v d : Nat) (x : DWord) : (s.complete q r v d x).cans = s.cans := (s.answers_complete q r v d x).cans
@[simp] theorem State.plc_complete (q : QId) (r : Req) (v d : Nat) (x : DWord) : (s.complete q r v d x).plc = s.plc := (s.answers_complete q r v d x).plc
@[simp] theorem State.answered_complete (q : QId) (r : Req) (v d : Nat) (x : DWord) : (s.complete q r v d x).answered = s.answered := (s.answers_complete q r v d x).answered
@[simp] theorem State.alloc_complete (q : QId) (r : Req) (v d : Nat) (x : DWord) : (s.complete q r v d x).alloc = s.alloc := (s.answers_complete q r v d x).alloc
@[simp] theorem State.met_complete (q : QId) (r : Req) (v d : Nat) (x : DWord) : (s.complete q r v d x).met = s.met := (s.answers_complete q r v d x).met
@[simp] theorem State.bill_complete (q : QId) (r : Req) (v d : Nat) (x : DWord) : (s.complete q r v d x).bill = s.bill := (s.answers_complete q r v d x).bill
@[simp] theorem State.sess_complete (q : QId) (r : Req) (v d : Nat) (x : DWord) : (s.complete q r v d x).sess = s.sess := (s.answers_complete q r v d x).sess
@[simp] theorem State.t1Req_complete (q : QId) (r : Req) (v d : Nat) (x : DWord) : (s.complete q r v d x).t1Req = s.t1Req := (s.answers_complete q r v d x).t1Req
@[simp] theorem State.ocpp_complete (q : QId) (r : Req) (v d : Nat) (x : DWord) : (s.complete q r v d x).ocpp = s.ocpp := (s.answers_complete q r v d x).ocpp
@[simp] theorem State.cool_complete (q : QId) (r : Req) (v d : Nat) (x : DWord) : (s.complete q r v d x).cool = s.cool := (s.answers_complete q r v d x).cool
@[simp] theorem State.buf_complete (q : QId) (r : Req) (v d : Nat) (x : DWord) : (s.complete q r v d x).buf = s.buf := (s.answers_complete q r v d x).buf
@[simp] theorem State.vault_complete (q : QId) (r : Req) (v d : Nat) (x : DWord) : (s.complete q r v d x).vault = s.vault := (s.answers_complete q r v d x).vault
@[simp] theorem State.sec_complete (q : QId) (r : Req) (v d : Nat) (x : DWord) : (s.complete q r v d x).sec = s.sec := (s.answers_complete q r v d x).sec
@[simp] theorem State.dt_complete (q : QId) (r : Req) (v d : Nat) (x : DWord) : (s.complete q r v d x).dt = s.dt := (s.answers_complete q r v d x).dt 
@[simp] theorem State.period_complete (q : QId) (r : Req) (v d : Nat) (x : DWord) (i0 j0 : Nat) : (s.complete q r v d x).period i0 j0 = s.period i0 j0 := (s.answers_complete q r v d x).period i0 j0
@[simp] theorem State.tripped_complete (q : QId) (r : Req) (v d : Nat) (x : DWord) (z0 : Scope) : (s.complete q r v d x).tripped z0 = s.tripped z0 := (s.answers_complete q r v d x).tripped z0

@[simp] theorem State.now_arrive (q : QId) (r : Req) : (s.arrive q r).now = s.now := (s.answers_arrive q r).now
@[simp] theorem State.pending_arrive (q : QId) (r : Req) : (s.arrive q r).pending = s.pending := (s.answers_arrive q r).pending
@[simp] theorem State.free_arrive (q : QId) (r : Req) : (s.arrive q r).free = s.free := (s.answers_arrive q r).free
@[simp] theorem State.periods_arrive (q : QId) (r : Req) : (s.arrive q r).periods = s.periods := (s.answers_arrive q r).periods
@[simp] theorem State.trips_arrive (q : QId) (r : Req) : (s.arrive q r).trips = s.trips := (s.answers_arrive q r).trips
@[simp] theorem State.dtNs_arrive (q : QId) (r : Req) : (s.arrive q r).dtNs = s.dtNs := (s.answers_arrive q r).dtNs
@[simp] theorem State.dtFrac_arrive (q : QId) (r : Req) : (s.arrive q r).dtFrac = s.dtFrac := (s.answers_arrive q r).dtFrac
@[simp] theorem State.maq_arrive (q : QId) (r : Req) : (s.arrive q r).maq = s.maq := (s.answers_arrive q r).maq
@[simp] theorem State.phus_arrive (q : QId) (r : Req) : (s.arrive q r).phus = s.phus := (s.answers_arrive q r).phus
@[simp] theorem State.lanes_arrive (q : QId) (r : Req) : (s.arrive q r).lanes = s.lanes := (s.answers_arrive q r).lanes
@[simp] theorem State.conns_arrive (q : QId) (r : Req) : (s.arrive q r).conns = s.conns := (s.answers_arrive q r).conns
@[simp] theorem State.dests_arrive (q : QId) (r : Req) : (s.arrive q r).dests = s.dests := (s.answers_arrive q r).dests
@[simp] theorem State.coils_arrive (q : QId) (r : Req) : (s.arrive q r).coils = s.coils := (s.answers_arrive q r).coils
@[simp] theorem State.coilsOff_arrive (q : QId) (r : Req) : (s.arrive q r).coilsOff = s.coilsOff := (s.answers_arrive q r).coilsOff
@[simp] theorem State.epoch_arrive (q : QId) (r : Req) : (s.arrive q r).epoch = s.epoch := (s.answers_arrive q r).epoch
@[simp] theorem State.gap_arrive (q : QId) (r : Req) : (s.arrive q r).gap = s.gap := (s.answers_arrive q r).gap
@[simp] theorem State.held_arrive (q : QId) (r : Req) : (s.arrive q r).held = s.held := (s.answers_arrive q r).held
@[simp] theorem State.clk_arrive (q : QId) (r : Req) : (s.arrive q r).clk = s.clk := (s.answers_arrive q r).clk
@[simp] theorem State.pwr_arrive (q : QId) (r : Req) : (s.arrive q r).pwr = s.pwr := (s.answers_arrive q r).pwr
@[simp] theorem State.mode_arrive (q : QId) (r : Req) : (s.arrive q r).mode = s.mode := (s.answers_arrive q r).mode
@[simp] theorem State.ctl_arrive (q : QId) (r : Req) : (s.arrive q r).ctl = s.ctl := (s.answers_arrive q r).ctl
@[simp] theorem State.portCharge_arrive (q : QId) (r : Req) : (s.arrive q r).portCharge = s.portCharge := (s.answers_arrive q r).portCharge
@[simp] theorem State.lsws_arrive (q : QId) (r : Req) : (s.arrive q r).lsws = s.lsws := (s.answers_arrive q r).lsws
@[simp] theorem State.lsExceeded_arrive (q : QId) (r : Req) : (s.arrive q r).lsExceeded = s.lsExceeded := (s.answers_arrive q r).lsExceeded
@[simp] theorem State.shedNext_arrive (q : QId) (r : Req) : (s.arrive q r).shedNext = s.shedNext := (s.answers_arrive q r).shedNext
@[simp] theorem State.lsPace_arrive (q : QId) (r : Req) : (s.arrive q r).lsPace = s.lsPace := (s.answers_arrive q r).lsPace
@[simp] theorem State.vswLost_arrive (q : QId) (r : Req) : (s.arrive q r).vswLost = s.vswLost := (s.answers_arrive q r).vswLost
@[simp] theorem State.net_arrive (q : QId) (r : Req) : (s.arrive q r).net = s.net := (s.answers_arrive q r).net
@[simp] theorem State.cans_arrive (q : QId) (r : Req) : (s.arrive q r).cans = s.cans := (s.answers_arrive q r).cans
@[simp] theorem State.plc_arrive (q : QId) (r : Req) : (s.arrive q r).plc = s.plc := (s.answers_arrive q r).plc
@[simp] theorem State.answered_arrive (q : QId) (r : Req) : (s.arrive q r).answered = s.answered := (s.answers_arrive q r).answered
@[simp] theorem State.alloc_arrive (q : QId) (r : Req) : (s.arrive q r).alloc = s.alloc := (s.answers_arrive q r).alloc
@[simp] theorem State.met_arrive (q : QId) (r : Req) : (s.arrive q r).met = s.met := (s.answers_arrive q r).met
@[simp] theorem State.bill_arrive (q : QId) (r : Req) : (s.arrive q r).bill = s.bill := (s.answers_arrive q r).bill
@[simp] theorem State.sess_arrive (q : QId) (r : Req) : (s.arrive q r).sess = s.sess := (s.answers_arrive q r).sess
@[simp] theorem State.t1Req_arrive (q : QId) (r : Req) : (s.arrive q r).t1Req = s.t1Req := (s.answers_arrive q r).t1Req
@[simp] theorem State.ocpp_arrive (q : QId) (r : Req) : (s.arrive q r).ocpp = s.ocpp := (s.answers_arrive q r).ocpp
@[simp] theorem State.cool_arrive (q : QId) (r : Req) : (s.arrive q r).cool = s.cool := (s.answers_arrive q r).cool
@[simp] theorem State.buf_arrive (q : QId) (r : Req) : (s.arrive q r).buf = s.buf := (s.answers_arrive q r).buf
@[simp] theorem State.vault_arrive (q : QId) (r : Req) : (s.arrive q r).vault = s.vault := (s.answers_arrive q r).vault
@[simp] theorem State.sec_arrive (q : QId) (r : Req) : (s.arrive q r).sec = s.sec := (s.answers_arrive q r).sec
@[simp] theorem State.dt_arrive (q : QId) (r : Req) : (s.arrive q r).dt = s.dt := (s.answers_arrive q r).dt 
@[simp] theorem State.period_arrive (q : QId) (r : Req) (i0 j0 : Nat) : (s.arrive q r).period i0 j0 = s.period i0 j0 := (s.answers_arrive q r).period i0 j0
@[simp] theorem State.tripped_arrive (q : QId) (r : Req) (z0 : Scope) : (s.arrive q r).tripped z0 = s.tripped z0 := (s.answers_arrive q r).tripped z0

@[simp] theorem State.now_postTo (n w a : Nat) : (s.postTo n w a).now = s.now := (s.posted_postTo n w a).now
@[simp] theorem State.pending_postTo (n w a : Nat) : (s.postTo n w a).pending = s.pending := (s.posted_postTo n w a).pending
@[simp] theorem State.free_postTo (n w a : Nat) : (s.postTo n w a).free = s.free := (s.posted_postTo n w a).free
@[simp] theorem State.mailbox_postTo (n w a : Nat) : (s.postTo n w a).mailbox = s.mailbox := (s.posted_postTo n w a).mailbox
@[simp] theorem State.outIdx_postTo (n w a : Nat) : (s.postTo n w a).outIdx = s.outIdx := (s.posted_postTo n w a).outIdx
@[simp] theorem State.outbox_postTo (n w a : Nat) : (s.postTo n w a).outbox = s.outbox := (s.posted_postTo n w a).outbox
@[simp] theorem State.notices_postTo (n w a : Nat) : (s.postTo n w a).notices = s.notices := (s.posted_postTo n w a).notices
@[simp] theorem State.periods_postTo (n w a : Nat) : (s.postTo n w a).periods = s.periods := (s.posted_postTo n w a).periods
@[simp] theorem State.trips_postTo (n w a : Nat) : (s.postTo n w a).trips = s.trips := (s.posted_postTo n w a).trips
@[simp] theorem State.dtNs_postTo (n w a : Nat) : (s.postTo n w a).dtNs = s.dtNs := (s.posted_postTo n w a).dtNs
@[simp] theorem State.dtFrac_postTo (n w a : Nat) : (s.postTo n w a).dtFrac = s.dtFrac := (s.posted_postTo n w a).dtFrac
@[simp] theorem State.maq_postTo (n w a : Nat) : (s.postTo n w a).maq = s.maq := (s.posted_postTo n w a).maq
@[simp] theorem State.phus_postTo (n w a : Nat) : (s.postTo n w a).phus = s.phus := (s.posted_postTo n w a).phus
@[simp] theorem State.lanes_postTo (n w a : Nat) : (s.postTo n w a).lanes = s.lanes := (s.posted_postTo n w a).lanes
@[simp] theorem State.conns_postTo (n w a : Nat) : (s.postTo n w a).conns = s.conns := (s.posted_postTo n w a).conns
@[simp] theorem State.dests_postTo (n w a : Nat) : (s.postTo n w a).dests = s.dests := (s.posted_postTo n w a).dests
@[simp] theorem State.coils_postTo (n w a : Nat) : (s.postTo n w a).coils = s.coils := (s.posted_postTo n w a).coils
@[simp] theorem State.coilsOff_postTo (n w a : Nat) : (s.postTo n w a).coilsOff = s.coilsOff := (s.posted_postTo n w a).coilsOff
@[simp] theorem State.epoch_postTo (n w a : Nat) : (s.postTo n w a).epoch = s.epoch := (s.posted_postTo n w a).epoch
@[simp] theorem State.gap_postTo (n w a : Nat) : (s.postTo n w a).gap = s.gap := (s.posted_postTo n w a).gap
@[simp] theorem State.held_postTo (n w a : Nat) : (s.postTo n w a).held = s.held := (s.posted_postTo n w a).held
@[simp] theorem State.clk_postTo (n w a : Nat) : (s.postTo n w a).clk = s.clk := (s.posted_postTo n w a).clk
@[simp] theorem State.pwr_postTo (n w a : Nat) : (s.postTo n w a).pwr = s.pwr := (s.posted_postTo n w a).pwr
@[simp] theorem State.mode_postTo (n w a : Nat) : (s.postTo n w a).mode = s.mode := (s.posted_postTo n w a).mode
@[simp] theorem State.ctl_postTo (n w a : Nat) : (s.postTo n w a).ctl = s.ctl := (s.posted_postTo n w a).ctl
@[simp] theorem State.portCharge_postTo (n w a : Nat) : (s.postTo n w a).portCharge = s.portCharge := (s.posted_postTo n w a).portCharge
@[simp] theorem State.lsws_postTo (n w a : Nat) : (s.postTo n w a).lsws = s.lsws := (s.posted_postTo n w a).lsws
@[simp] theorem State.lsExceeded_postTo (n w a : Nat) : (s.postTo n w a).lsExceeded = s.lsExceeded := (s.posted_postTo n w a).lsExceeded
@[simp] theorem State.shedNext_postTo (n w a : Nat) : (s.postTo n w a).shedNext = s.shedNext := (s.posted_postTo n w a).shedNext
@[simp] theorem State.lsPace_postTo (n w a : Nat) : (s.postTo n w a).lsPace = s.lsPace := (s.posted_postTo n w a).lsPace
@[simp] theorem State.vswLost_postTo (n w a : Nat) : (s.postTo n w a).vswLost = s.vswLost := (s.posted_postTo n w a).vswLost
@[simp] theorem State.net_postTo (n w a : Nat) : (s.postTo n w a).net = s.net := (s.posted_postTo n w a).net
@[simp] theorem State.modbus_postTo (n w a : Nat) : (s.postTo n w a).modbus = s.modbus := (s.posted_postTo n w a).modbus
@[simp] theorem State.cans_postTo (n w a : Nat) : (s.postTo n w a).cans = s.cans := (s.posted_postTo n w a).cans
@[simp] theorem State.plc_postTo (n w a : Nat) : (s.postTo n w a).plc = s.plc := (s.posted_postTo n w a).plc
@[simp] theorem State.answered_postTo (n w a : Nat) : (s.postTo n w a).answered = s.answered := (s.posted_postTo n w a).answered
@[simp] theorem State.alloc_postTo (n w a : Nat) : (s.postTo n w a).alloc = s.alloc := (s.posted_postTo n w a).alloc
@[simp] theorem State.met_postTo (n w a : Nat) : (s.postTo n w a).met = s.met := (s.posted_postTo n w a).met
@[simp] theorem State.bill_postTo (n w a : Nat) : (s.postTo n w a).bill = s.bill := (s.posted_postTo n w a).bill
@[simp] theorem State.sess_postTo (n w a : Nat) : (s.postTo n w a).sess = s.sess := (s.posted_postTo n w a).sess
@[simp] theorem State.t1Req_postTo (n w a : Nat) : (s.postTo n w a).t1Req = s.t1Req := (s.posted_postTo n w a).t1Req
@[simp] theorem State.ocpp_postTo (n w a : Nat) : (s.postTo n w a).ocpp = s.ocpp := (s.posted_postTo n w a).ocpp
@[simp] theorem State.cool_postTo (n w a : Nat) : (s.postTo n w a).cool = s.cool := (s.posted_postTo n w a).cool
@[simp] theorem State.buf_postTo (n w a : Nat) : (s.postTo n w a).buf = s.buf := (s.posted_postTo n w a).buf
@[simp] theorem State.vault_postTo (n w a : Nat) : (s.postTo n w a).vault = s.vault := (s.posted_postTo n w a).vault
@[simp] theorem State.sec_postTo (n w a : Nat) : (s.postTo n w a).sec = s.sec := (s.posted_postTo n w a).sec
@[simp] theorem State.dt_postTo (n w a : Nat) : (s.postTo n w a).dt = s.dt := (s.posted_postTo n w a).dt 
@[simp] theorem State.period_postTo (n w a : Nat) (i0 j0 : Nat) : (s.postTo n w a).period i0 j0 = s.period i0 j0 := (s.posted_postTo n w a).period i0 j0
@[simp] theorem State.tripped_postTo (n w a : Nat) (z0 : Scope) : (s.postTo n w a).tripped z0 = s.tripped z0 := (s.posted_postTo n w a).tripped z0

@[simp] theorem State.now_unitRecord (c e n : Nat) (z : Scope) (o d : Nat) (l : List Nat) : (s.unitRecord c e n z o d l).now = s.now := (s.posted_unitRecord c e n z o d l).now
@[simp] theorem State.pending_unitRecord (c e n : Nat) (z : Scope) (o d : Nat) (l : List Nat) : (s.unitRecord c e n z o d l).pending = s.pending := (s.posted_unitRecord c e n z o d l).pending
@[simp] theorem State.free_unitRecord (c e n : Nat) (z : Scope) (o d : Nat) (l : List Nat) : (s.unitRecord c e n z o d l).free = s.free := (s.posted_unitRecord c e n z o d l).free
@[simp] theorem State.mailbox_unitRecord (c e n : Nat) (z : Scope) (o d : Nat) (l : List Nat) : (s.unitRecord c e n z o d l).mailbox = s.mailbox := (s.posted_unitRecord c e n z o d l).mailbox
@[simp] theorem State.outIdx_unitRecord (c e n : Nat) (z : Scope) (o d : Nat) (l : List Nat) : (s.unitRecord c e n z o d l).outIdx = s.outIdx := (s.posted_unitRecord c e n z o d l).outIdx
@[simp] theorem State.outbox_unitRecord (c e n : Nat) (z : Scope) (o d : Nat) (l : List Nat) : (s.unitRecord c e n z o d l).outbox = s.outbox := (s.posted_unitRecord c e n z o d l).outbox
@[simp] theorem State.notices_unitRecord (c e n : Nat) (z : Scope) (o d : Nat) (l : List Nat) : (s.unitRecord c e n z o d l).notices = s.notices := (s.posted_unitRecord c e n z o d l).notices
@[simp] theorem State.periods_unitRecord (c e n : Nat) (z : Scope) (o d : Nat) (l : List Nat) : (s.unitRecord c e n z o d l).periods = s.periods := (s.posted_unitRecord c e n z o d l).periods
@[simp] theorem State.trips_unitRecord (c e n : Nat) (z : Scope) (o d : Nat) (l : List Nat) : (s.unitRecord c e n z o d l).trips = s.trips := (s.posted_unitRecord c e n z o d l).trips
@[simp] theorem State.dtNs_unitRecord (c e n : Nat) (z : Scope) (o d : Nat) (l : List Nat) : (s.unitRecord c e n z o d l).dtNs = s.dtNs := (s.posted_unitRecord c e n z o d l).dtNs
@[simp] theorem State.dtFrac_unitRecord (c e n : Nat) (z : Scope) (o d : Nat) (l : List Nat) : (s.unitRecord c e n z o d l).dtFrac = s.dtFrac := (s.posted_unitRecord c e n z o d l).dtFrac
@[simp] theorem State.maq_unitRecord (c e n : Nat) (z : Scope) (o d : Nat) (l : List Nat) : (s.unitRecord c e n z o d l).maq = s.maq := (s.posted_unitRecord c e n z o d l).maq
@[simp] theorem State.phus_unitRecord (c e n : Nat) (z : Scope) (o d : Nat) (l : List Nat) : (s.unitRecord c e n z o d l).phus = s.phus := (s.posted_unitRecord c e n z o d l).phus
@[simp] theorem State.lanes_unitRecord (c e n : Nat) (z : Scope) (o d : Nat) (l : List Nat) : (s.unitRecord c e n z o d l).lanes = s.lanes := (s.posted_unitRecord c e n z o d l).lanes
@[simp] theorem State.conns_unitRecord (c e n : Nat) (z : Scope) (o d : Nat) (l : List Nat) : (s.unitRecord c e n z o d l).conns = s.conns := (s.posted_unitRecord c e n z o d l).conns
@[simp] theorem State.dests_unitRecord (c e n : Nat) (z : Scope) (o d : Nat) (l : List Nat) : (s.unitRecord c e n z o d l).dests = s.dests := (s.posted_unitRecord c e n z o d l).dests
@[simp] theorem State.coils_unitRecord (c e n : Nat) (z : Scope) (o d : Nat) (l : List Nat) : (s.unitRecord c e n z o d l).coils = s.coils := (s.posted_unitRecord c e n z o d l).coils
@[simp] theorem State.coilsOff_unitRecord (c e n : Nat) (z : Scope) (o d : Nat) (l : List Nat) : (s.unitRecord c e n z o d l).coilsOff = s.coilsOff := (s.posted_unitRecord c e n z o d l).coilsOff
@[simp] theorem State.epoch_unitRecord (c e n : Nat) (z : Scope) (o d : Nat) (l : List Nat) : (s.unitRecord c e n z o d l).epoch = s.epoch := (s.posted_unitRecord c e n z o d l).epoch
@[simp] theorem State.gap_unitRecord (c e n : Nat) (z : Scope) (o d : Nat) (l : List Nat) : (s.unitRecord c e n z o d l).gap = s.gap := (s.posted_unitRecord c e n z o d l).gap
@[simp] theorem State.held_unitRecord (c e n : Nat) (z : Scope) (o d : Nat) (l : List Nat) : (s.unitRecord c e n z o d l).held = s.held := (s.posted_unitRecord c e n z o d l).held
@[simp] theorem State.clk_unitRecord (c e n : Nat) (z : Scope) (o d : Nat) (l : List Nat) : (s.unitRecord c e n z o d l).clk = s.clk := (s.posted_unitRecord c e n z o d l).clk
@[simp] theorem State.pwr_unitRecord (c e n : Nat) (z : Scope) (o d : Nat) (l : List Nat) : (s.unitRecord c e n z o d l).pwr = s.pwr := (s.posted_unitRecord c e n z o d l).pwr
@[simp] theorem State.mode_unitRecord (c e n : Nat) (z : Scope) (o d : Nat) (l : List Nat) : (s.unitRecord c e n z o d l).mode = s.mode := (s.posted_unitRecord c e n z o d l).mode
@[simp] theorem State.ctl_unitRecord (c e n : Nat) (z : Scope) (o d : Nat) (l : List Nat) : (s.unitRecord c e n z o d l).ctl = s.ctl := (s.posted_unitRecord c e n z o d l).ctl
@[simp] theorem State.portCharge_unitRecord (c e n : Nat) (z : Scope) (o d : Nat) (l : List Nat) : (s.unitRecord c e n z o d l).portCharge = s.portCharge := (s.posted_unitRecord c e n z o d l).portCharge
@[simp] theorem State.lsws_unitRecord (c e n : Nat) (z : Scope) (o d : Nat) (l : List Nat) : (s.unitRecord c e n z o d l).lsws = s.lsws := (s.posted_unitRecord c e n z o d l).lsws
@[simp] theorem State.lsExceeded_unitRecord (c e n : Nat) (z : Scope) (o d : Nat) (l : List Nat) : (s.unitRecord c e n z o d l).lsExceeded = s.lsExceeded := (s.posted_unitRecord c e n z o d l).lsExceeded
@[simp] theorem State.shedNext_unitRecord (c e n : Nat) (z : Scope) (o d : Nat) (l : List Nat) : (s.unitRecord c e n z o d l).shedNext = s.shedNext := (s.posted_unitRecord c e n z o d l).shedNext
@[simp] theorem State.lsPace_unitRecord (c e n : Nat) (z : Scope) (o d : Nat) (l : List Nat) : (s.unitRecord c e n z o d l).lsPace = s.lsPace := (s.posted_unitRecord c e n z o d l).lsPace
@[simp] theorem State.vswLost_unitRecord (c e n : Nat) (z : Scope) (o d : Nat) (l : List Nat) : (s.unitRecord c e n z o d l).vswLost = s.vswLost := (s.posted_unitRecord c e n z o d l).vswLost
@[simp] theorem State.net_unitRecord (c e n : Nat) (z : Scope) (o d : Nat) (l : List Nat) : (s.unitRecord c e n z o d l).net = s.net := (s.posted_unitRecord c e n z o d l).net
@[simp] theorem State.modbus_unitRecord (c e n : Nat) (z : Scope) (o d : Nat) (l : List Nat) : (s.unitRecord c e n z o d l).modbus = s.modbus := (s.posted_unitRecord c e n z o d l).modbus
@[simp] theorem State.cans_unitRecord (c e n : Nat) (z : Scope) (o d : Nat) (l : List Nat) : (s.unitRecord c e n z o d l).cans = s.cans := (s.posted_unitRecord c e n z o d l).cans
@[simp] theorem State.plc_unitRecord (c e n : Nat) (z : Scope) (o d : Nat) (l : List Nat) : (s.unitRecord c e n z o d l).plc = s.plc := (s.posted_unitRecord c e n z o d l).plc
@[simp] theorem State.answered_unitRecord (c e n : Nat) (z : Scope) (o d : Nat) (l : List Nat) : (s.unitRecord c e n z o d l).answered = s.answered := (s.posted_unitRecord c e n z o d l).answered
@[simp] theorem State.alloc_unitRecord (c e n : Nat) (z : Scope) (o d : Nat) (l : List Nat) : (s.unitRecord c e n z o d l).alloc = s.alloc := (s.posted_unitRecord c e n z o d l).alloc
@[simp] theorem State.met_unitRecord (c e n : Nat) (z : Scope) (o d : Nat) (l : List Nat) : (s.unitRecord c e n z o d l).met = s.met := (s.posted_unitRecord c e n z o d l).met
@[simp] theorem State.bill_unitRecord (c e n : Nat) (z : Scope) (o d : Nat) (l : List Nat) : (s.unitRecord c e n z o d l).bill = s.bill := (s.posted_unitRecord c e n z o d l).bill
@[simp] theorem State.sess_unitRecord (c e n : Nat) (z : Scope) (o d : Nat) (l : List Nat) : (s.unitRecord c e n z o d l).sess = s.sess := (s.posted_unitRecord c e n z o d l).sess
@[simp] theorem State.t1Req_unitRecord (c e n : Nat) (z : Scope) (o d : Nat) (l : List Nat) : (s.unitRecord c e n z o d l).t1Req = s.t1Req := (s.posted_unitRecord c e n z o d l).t1Req
@[simp] theorem State.ocpp_unitRecord (c e n : Nat) (z : Scope) (o d : Nat) (l : List Nat) : (s.unitRecord c e n z o d l).ocpp = s.ocpp := (s.posted_unitRecord c e n z o d l).ocpp
@[simp] theorem State.cool_unitRecord (c e n : Nat) (z : Scope) (o d : Nat) (l : List Nat) : (s.unitRecord c e n z o d l).cool = s.cool := (s.posted_unitRecord c e n z o d l).cool
@[simp] theorem State.buf_unitRecord (c e n : Nat) (z : Scope) (o d : Nat) (l : List Nat) : (s.unitRecord c e n z o d l).buf = s.buf := (s.posted_unitRecord c e n z o d l).buf
@[simp] theorem State.vault_unitRecord (c e n : Nat) (z : Scope) (o d : Nat) (l : List Nat) : (s.unitRecord c e n z o d l).vault = s.vault := (s.posted_unitRecord c e n z o d l).vault
@[simp] theorem State.sec_unitRecord (c e n : Nat) (z : Scope) (o d : Nat) (l : List Nat) : (s.unitRecord c e n z o d l).sec = s.sec := (s.posted_unitRecord c e n z o d l).sec
@[simp] theorem State.dt_unitRecord (c e n : Nat) (z : Scope) (o d : Nat) (l : List Nat) : (s.unitRecord c e n z o d l).dt = s.dt := (s.posted_unitRecord c e n z o d l).dt 
@[simp] theorem State.period_unitRecord (c e n : Nat) (z : Scope) (o d : Nat) (l : List Nat) (i0 j0 : Nat) : (s.unitRecord c e n z o d l).period i0 j0 = s.period i0 j0 := (s.posted_unitRecord c e n z o d l).period i0 j0
@[simp] theorem State.tripped_unitRecord (c e n : Nat) (z : Scope) (o d : Nat) (l : List Nat) (z0 : Scope) : (s.unitRecord c e n z o d l).tripped z0 = s.tripped z0 := (s.posted_unitRecord c e n z o d l).tripped z0

@[simp] theorem State.now_setEvent (x : Fld) (e : Nat) (z : Scope) (l : List Nat) : (s.setEvent x e z l).now = s.now := (s.posted_setEvent x e z l).now
@[simp] theorem State.pending_setEvent (x : Fld) (e : Nat) (z : Scope) (l : List Nat) : (s.setEvent x e z l).pending = s.pending := (s.posted_setEvent x e z l).pending
@[simp] theorem State.free_setEvent (x : Fld) (e : Nat) (z : Scope) (l : List Nat) : (s.setEvent x e z l).free = s.free := (s.posted_setEvent x e z l).free
@[simp] theorem State.mailbox_setEvent (x : Fld) (e : Nat) (z : Scope) (l : List Nat) : (s.setEvent x e z l).mailbox = s.mailbox := (s.posted_setEvent x e z l).mailbox
@[simp] theorem State.outIdx_setEvent (x : Fld) (e : Nat) (z : Scope) (l : List Nat) : (s.setEvent x e z l).outIdx = s.outIdx := (s.posted_setEvent x e z l).outIdx
@[simp] theorem State.outbox_setEvent (x : Fld) (e : Nat) (z : Scope) (l : List Nat) : (s.setEvent x e z l).outbox = s.outbox := (s.posted_setEvent x e z l).outbox
@[simp] theorem State.notices_setEvent (x : Fld) (e : Nat) (z : Scope) (l : List Nat) : (s.setEvent x e z l).notices = s.notices := (s.posted_setEvent x e z l).notices
@[simp] theorem State.periods_setEvent (x : Fld) (e : Nat) (z : Scope) (l : List Nat) : (s.setEvent x e z l).periods = s.periods := (s.posted_setEvent x e z l).periods
@[simp] theorem State.trips_setEvent (x : Fld) (e : Nat) (z : Scope) (l : List Nat) : (s.setEvent x e z l).trips = s.trips := (s.posted_setEvent x e z l).trips
@[simp] theorem State.dtNs_setEvent (x : Fld) (e : Nat) (z : Scope) (l : List Nat) : (s.setEvent x e z l).dtNs = s.dtNs := (s.posted_setEvent x e z l).dtNs
@[simp] theorem State.dtFrac_setEvent (x : Fld) (e : Nat) (z : Scope) (l : List Nat) : (s.setEvent x e z l).dtFrac = s.dtFrac := (s.posted_setEvent x e z l).dtFrac
@[simp] theorem State.maq_setEvent (x : Fld) (e : Nat) (z : Scope) (l : List Nat) : (s.setEvent x e z l).maq = s.maq := (s.posted_setEvent x e z l).maq
@[simp] theorem State.phus_setEvent (x : Fld) (e : Nat) (z : Scope) (l : List Nat) : (s.setEvent x e z l).phus = s.phus := (s.posted_setEvent x e z l).phus
@[simp] theorem State.lanes_setEvent (x : Fld) (e : Nat) (z : Scope) (l : List Nat) : (s.setEvent x e z l).lanes = s.lanes := (s.posted_setEvent x e z l).lanes
@[simp] theorem State.conns_setEvent (x : Fld) (e : Nat) (z : Scope) (l : List Nat) : (s.setEvent x e z l).conns = s.conns := (s.posted_setEvent x e z l).conns
@[simp] theorem State.dests_setEvent (x : Fld) (e : Nat) (z : Scope) (l : List Nat) : (s.setEvent x e z l).dests = s.dests := (s.posted_setEvent x e z l).dests
@[simp] theorem State.coils_setEvent (x : Fld) (e : Nat) (z : Scope) (l : List Nat) : (s.setEvent x e z l).coils = s.coils := (s.posted_setEvent x e z l).coils
@[simp] theorem State.coilsOff_setEvent (x : Fld) (e : Nat) (z : Scope) (l : List Nat) : (s.setEvent x e z l).coilsOff = s.coilsOff := (s.posted_setEvent x e z l).coilsOff
@[simp] theorem State.epoch_setEvent (x : Fld) (e : Nat) (z : Scope) (l : List Nat) : (s.setEvent x e z l).epoch = s.epoch := (s.posted_setEvent x e z l).epoch
@[simp] theorem State.gap_setEvent (x : Fld) (e : Nat) (z : Scope) (l : List Nat) : (s.setEvent x e z l).gap = s.gap := (s.posted_setEvent x e z l).gap
@[simp] theorem State.held_setEvent (x : Fld) (e : Nat) (z : Scope) (l : List Nat) : (s.setEvent x e z l).held = s.held := (s.posted_setEvent x e z l).held
@[simp] theorem State.clk_setEvent (x : Fld) (e : Nat) (z : Scope) (l : List Nat) : (s.setEvent x e z l).clk = s.clk := (s.posted_setEvent x e z l).clk
@[simp] theorem State.pwr_setEvent (x : Fld) (e : Nat) (z : Scope) (l : List Nat) : (s.setEvent x e z l).pwr = s.pwr := (s.posted_setEvent x e z l).pwr
@[simp] theorem State.mode_setEvent (x : Fld) (e : Nat) (z : Scope) (l : List Nat) : (s.setEvent x e z l).mode = s.mode := (s.posted_setEvent x e z l).mode
@[simp] theorem State.ctl_setEvent (x : Fld) (e : Nat) (z : Scope) (l : List Nat) : (s.setEvent x e z l).ctl = s.ctl := (s.posted_setEvent x e z l).ctl
@[simp] theorem State.portCharge_setEvent (x : Fld) (e : Nat) (z : Scope) (l : List Nat) : (s.setEvent x e z l).portCharge = s.portCharge := (s.posted_setEvent x e z l).portCharge
@[simp] theorem State.lsws_setEvent (x : Fld) (e : Nat) (z : Scope) (l : List Nat) : (s.setEvent x e z l).lsws = s.lsws := (s.posted_setEvent x e z l).lsws
@[simp] theorem State.lsExceeded_setEvent (x : Fld) (e : Nat) (z : Scope) (l : List Nat) : (s.setEvent x e z l).lsExceeded = s.lsExceeded := (s.posted_setEvent x e z l).lsExceeded
@[simp] theorem State.shedNext_setEvent (x : Fld) (e : Nat) (z : Scope) (l : List Nat) : (s.setEvent x e z l).shedNext = s.shedNext := (s.posted_setEvent x e z l).shedNext
@[simp] theorem State.lsPace_setEvent (x : Fld) (e : Nat) (z : Scope) (l : List Nat) : (s.setEvent x e z l).lsPace = s.lsPace := (s.posted_setEvent x e z l).lsPace
@[simp] theorem State.vswLost_setEvent (x : Fld) (e : Nat) (z : Scope) (l : List Nat) : (s.setEvent x e z l).vswLost = s.vswLost := (s.posted_setEvent x e z l).vswLost
@[simp] theorem State.net_setEvent (x : Fld) (e : Nat) (z : Scope) (l : List Nat) : (s.setEvent x e z l).net = s.net := (s.posted_setEvent x e z l).net
@[simp] theorem State.modbus_setEvent (x : Fld) (e : Nat) (z : Scope) (l : List Nat) : (s.setEvent x e z l).modbus = s.modbus := (s.posted_setEvent x e z l).modbus
@[simp] theorem State.cans_setEvent (x : Fld) (e : Nat) (z : Scope) (l : List Nat) : (s.setEvent x e z l).cans = s.cans := (s.posted_setEvent x e z l).cans
@[simp] theorem State.plc_setEvent (x : Fld) (e : Nat) (z : Scope) (l : List Nat) : (s.setEvent x e z l).plc = s.plc := (s.posted_setEvent x e z l).plc
@[simp] theorem State.answered_setEvent (x : Fld) (e : Nat) (z : Scope) (l : List Nat) : (s.setEvent x e z l).answered = s.answered := (s.posted_setEvent x e z l).answered
@[simp] theorem State.alloc_setEvent (x : Fld) (e : Nat) (z : Scope) (l : List Nat) : (s.setEvent x e z l).alloc = s.alloc := (s.posted_setEvent x e z l).alloc
@[simp] theorem State.met_setEvent (x : Fld) (e : Nat) (z : Scope) (l : List Nat) : (s.setEvent x e z l).met = s.met := (s.posted_setEvent x e z l).met
@[simp] theorem State.bill_setEvent (x : Fld) (e : Nat) (z : Scope) (l : List Nat) : (s.setEvent x e z l).bill = s.bill := (s.posted_setEvent x e z l).bill
@[simp] theorem State.sess_setEvent (x : Fld) (e : Nat) (z : Scope) (l : List Nat) : (s.setEvent x e z l).sess = s.sess := (s.posted_setEvent x e z l).sess
@[simp] theorem State.t1Req_setEvent (x : Fld) (e : Nat) (z : Scope) (l : List Nat) : (s.setEvent x e z l).t1Req = s.t1Req := (s.posted_setEvent x e z l).t1Req
@[simp] theorem State.ocpp_setEvent (x : Fld) (e : Nat) (z : Scope) (l : List Nat) : (s.setEvent x e z l).ocpp = s.ocpp := (s.posted_setEvent x e z l).ocpp
@[simp] theorem State.cool_setEvent (x : Fld) (e : Nat) (z : Scope) (l : List Nat) : (s.setEvent x e z l).cool = s.cool := (s.posted_setEvent x e z l).cool
@[simp] theorem State.buf_setEvent (x : Fld) (e : Nat) (z : Scope) (l : List Nat) : (s.setEvent x e z l).buf = s.buf := (s.posted_setEvent x e z l).buf
@[simp] theorem State.vault_setEvent (x : Fld) (e : Nat) (z : Scope) (l : List Nat) : (s.setEvent x e z l).vault = s.vault := (s.posted_setEvent x e z l).vault
@[simp] theorem State.sec_setEvent (x : Fld) (e : Nat) (z : Scope) (l : List Nat) : (s.setEvent x e z l).sec = s.sec := (s.posted_setEvent x e z l).sec
@[simp] theorem State.dt_setEvent (x : Fld) (e : Nat) (z : Scope) (l : List Nat) : (s.setEvent x e z l).dt = s.dt := (s.posted_setEvent x e z l).dt 
@[simp] theorem State.period_setEvent (x : Fld) (e : Nat) (z : Scope) (l : List Nat) (i0 j0 : Nat) : (s.setEvent x e z l).period i0 j0 = s.period i0 j0 := (s.posted_setEvent x e z l).period i0 j0
@[simp] theorem State.tripped_setEvent (x : Fld) (e : Nat) (z : Scope) (l : List Nat) (z0 : Scope) : (s.setEvent x e z l).tripped z0 = s.tripped z0 := (s.posted_setEvent x e z l).tripped z0

@[simp] theorem State.now_clampRecord (e n : Nat) (z : Scope) : (s.clampRecord e n z).now = s.now := (s.posted_clampRecord e n z).now
@[simp] theorem State.pending_clampRecord (e n : Nat) (z : Scope) : (s.clampRecord e n z).pending = s.pending := (s.posted_clampRecord e n z).pending
@[simp] theorem State.free_clampRecord (e n : Nat) (z : Scope) : (s.clampRecord e n z).free = s.free := (s.posted_clampRecord e n z).free
@[simp] theorem State.mailbox_clampRecord (e n : Nat) (z : Scope) : (s.clampRecord e n z).mailbox = s.mailbox := (s.posted_clampRecord e n z).mailbox
@[simp] theorem State.outIdx_clampRecord (e n : Nat) (z : Scope) : (s.clampRecord e n z).outIdx = s.outIdx := (s.posted_clampRecord e n z).outIdx
@[simp] theorem State.outbox_clampRecord (e n : Nat) (z : Scope) : (s.clampRecord e n z).outbox = s.outbox := (s.posted_clampRecord e n z).outbox
@[simp] theorem State.notices_clampRecord (e n : Nat) (z : Scope) : (s.clampRecord e n z).notices = s.notices := (s.posted_clampRecord e n z).notices
@[simp] theorem State.periods_clampRecord (e n : Nat) (z : Scope) : (s.clampRecord e n z).periods = s.periods := (s.posted_clampRecord e n z).periods
@[simp] theorem State.trips_clampRecord (e n : Nat) (z : Scope) : (s.clampRecord e n z).trips = s.trips := (s.posted_clampRecord e n z).trips
@[simp] theorem State.dtNs_clampRecord (e n : Nat) (z : Scope) : (s.clampRecord e n z).dtNs = s.dtNs := (s.posted_clampRecord e n z).dtNs
@[simp] theorem State.dtFrac_clampRecord (e n : Nat) (z : Scope) : (s.clampRecord e n z).dtFrac = s.dtFrac := (s.posted_clampRecord e n z).dtFrac
@[simp] theorem State.maq_clampRecord (e n : Nat) (z : Scope) : (s.clampRecord e n z).maq = s.maq := (s.posted_clampRecord e n z).maq
@[simp] theorem State.phus_clampRecord (e n : Nat) (z : Scope) : (s.clampRecord e n z).phus = s.phus := (s.posted_clampRecord e n z).phus
@[simp] theorem State.lanes_clampRecord (e n : Nat) (z : Scope) : (s.clampRecord e n z).lanes = s.lanes := (s.posted_clampRecord e n z).lanes
@[simp] theorem State.conns_clampRecord (e n : Nat) (z : Scope) : (s.clampRecord e n z).conns = s.conns := (s.posted_clampRecord e n z).conns
@[simp] theorem State.dests_clampRecord (e n : Nat) (z : Scope) : (s.clampRecord e n z).dests = s.dests := (s.posted_clampRecord e n z).dests
@[simp] theorem State.coils_clampRecord (e n : Nat) (z : Scope) : (s.clampRecord e n z).coils = s.coils := (s.posted_clampRecord e n z).coils
@[simp] theorem State.coilsOff_clampRecord (e n : Nat) (z : Scope) : (s.clampRecord e n z).coilsOff = s.coilsOff := (s.posted_clampRecord e n z).coilsOff
@[simp] theorem State.epoch_clampRecord (e n : Nat) (z : Scope) : (s.clampRecord e n z).epoch = s.epoch := (s.posted_clampRecord e n z).epoch
@[simp] theorem State.gap_clampRecord (e n : Nat) (z : Scope) : (s.clampRecord e n z).gap = s.gap := (s.posted_clampRecord e n z).gap
@[simp] theorem State.held_clampRecord (e n : Nat) (z : Scope) : (s.clampRecord e n z).held = s.held := (s.posted_clampRecord e n z).held
@[simp] theorem State.clk_clampRecord (e n : Nat) (z : Scope) : (s.clampRecord e n z).clk = s.clk := (s.posted_clampRecord e n z).clk
@[simp] theorem State.pwr_clampRecord (e n : Nat) (z : Scope) : (s.clampRecord e n z).pwr = s.pwr := (s.posted_clampRecord e n z).pwr
@[simp] theorem State.mode_clampRecord (e n : Nat) (z : Scope) : (s.clampRecord e n z).mode = s.mode := (s.posted_clampRecord e n z).mode
@[simp] theorem State.ctl_clampRecord (e n : Nat) (z : Scope) : (s.clampRecord e n z).ctl = s.ctl := (s.posted_clampRecord e n z).ctl
@[simp] theorem State.portCharge_clampRecord (e n : Nat) (z : Scope) : (s.clampRecord e n z).portCharge = s.portCharge := (s.posted_clampRecord e n z).portCharge
@[simp] theorem State.lsws_clampRecord (e n : Nat) (z : Scope) : (s.clampRecord e n z).lsws = s.lsws := (s.posted_clampRecord e n z).lsws
@[simp] theorem State.lsExceeded_clampRecord (e n : Nat) (z : Scope) : (s.clampRecord e n z).lsExceeded = s.lsExceeded := (s.posted_clampRecord e n z).lsExceeded
@[simp] theorem State.shedNext_clampRecord (e n : Nat) (z : Scope) : (s.clampRecord e n z).shedNext = s.shedNext := (s.posted_clampRecord e n z).shedNext
@[simp] theorem State.lsPace_clampRecord (e n : Nat) (z : Scope) : (s.clampRecord e n z).lsPace = s.lsPace := (s.posted_clampRecord e n z).lsPace
@[simp] theorem State.vswLost_clampRecord (e n : Nat) (z : Scope) : (s.clampRecord e n z).vswLost = s.vswLost := (s.posted_clampRecord e n z).vswLost
@[simp] theorem State.net_clampRecord (e n : Nat) (z : Scope) : (s.clampRecord e n z).net = s.net := (s.posted_clampRecord e n z).net
@[simp] theorem State.modbus_clampRecord (e n : Nat) (z : Scope) : (s.clampRecord e n z).modbus = s.modbus := (s.posted_clampRecord e n z).modbus
@[simp] theorem State.cans_clampRecord (e n : Nat) (z : Scope) : (s.clampRecord e n z).cans = s.cans := (s.posted_clampRecord e n z).cans
@[simp] theorem State.plc_clampRecord (e n : Nat) (z : Scope) : (s.clampRecord e n z).plc = s.plc := (s.posted_clampRecord e n z).plc
@[simp] theorem State.answered_clampRecord (e n : Nat) (z : Scope) : (s.clampRecord e n z).answered = s.answered := (s.posted_clampRecord e n z).answered
@[simp] theorem State.alloc_clampRecord (e n : Nat) (z : Scope) : (s.clampRecord e n z).alloc = s.alloc := (s.posted_clampRecord e n z).alloc
@[simp] theorem State.met_clampRecord (e n : Nat) (z : Scope) : (s.clampRecord e n z).met = s.met := (s.posted_clampRecord e n z).met
@[simp] theorem State.bill_clampRecord (e n : Nat) (z : Scope) : (s.clampRecord e n z).bill = s.bill := (s.posted_clampRecord e n z).bill
@[simp] theorem State.sess_clampRecord (e n : Nat) (z : Scope) : (s.clampRecord e n z).sess = s.sess := (s.posted_clampRecord e n z).sess
@[simp] theorem State.t1Req_clampRecord (e n : Nat) (z : Scope) : (s.clampRecord e n z).t1Req = s.t1Req := (s.posted_clampRecord e n z).t1Req
@[simp] theorem State.ocpp_clampRecord (e n : Nat) (z : Scope) : (s.clampRecord e n z).ocpp = s.ocpp := (s.posted_clampRecord e n z).ocpp
@[simp] theorem State.cool_clampRecord (e n : Nat) (z : Scope) : (s.clampRecord e n z).cool = s.cool := (s.posted_clampRecord e n z).cool
@[simp] theorem State.buf_clampRecord (e n : Nat) (z : Scope) : (s.clampRecord e n z).buf = s.buf := (s.posted_clampRecord e n z).buf
@[simp] theorem State.vault_clampRecord (e n : Nat) (z : Scope) : (s.clampRecord e n z).vault = s.vault := (s.posted_clampRecord e n z).vault
@[simp] theorem State.sec_clampRecord (e n : Nat) (z : Scope) : (s.clampRecord e n z).sec = s.sec := (s.posted_clampRecord e n z).sec
@[simp] theorem State.dt_clampRecord (e n : Nat) (z : Scope) : (s.clampRecord e n z).dt = s.dt := (s.posted_clampRecord e n z).dt 
@[simp] theorem State.period_clampRecord (e n : Nat) (z : Scope) (i0 j0 : Nat) : (s.clampRecord e n z).period i0 j0 = s.period i0 j0 := (s.posted_clampRecord e n z).period i0 j0
@[simp] theorem State.tripped_clampRecord (e n : Nat) (z : Scope) (z0 : Scope) : (s.clampRecord e n z).tripped z0 = s.tripped z0 := (s.posted_clampRecord e n z).tripped z0

@[simp] theorem State.now_accessRecord (i w a : Nat) : (s.accessRecord i w a).now = s.now := (s.posted_accessRecord i w a).now
@[simp] theorem State.pending_accessRecord (i w a : Nat) : (s.accessRecord i w a).pending = s.pending := (s.posted_accessRecord i w a).pending
@[simp] theorem State.free_accessRecord (i w a : Nat) : (s.accessRecord i w a).free = s.free := (s.posted_accessRecord i w a).free
@[simp] theorem State.mailbox_accessRecord (i w a : Nat) : (s.accessRecord i w a).mailbox = s.mailbox := (s.posted_accessRecord i w a).mailbox
@[simp] theorem State.outIdx_accessRecord (i w a : Nat) : (s.accessRecord i w a).outIdx = s.outIdx := (s.posted_accessRecord i w a).outIdx
@[simp] theorem State.outbox_accessRecord (i w a : Nat) : (s.accessRecord i w a).outbox = s.outbox := (s.posted_accessRecord i w a).outbox
@[simp] theorem State.notices_accessRecord (i w a : Nat) : (s.accessRecord i w a).notices = s.notices := (s.posted_accessRecord i w a).notices
@[simp] theorem State.periods_accessRecord (i w a : Nat) : (s.accessRecord i w a).periods = s.periods := (s.posted_accessRecord i w a).periods
@[simp] theorem State.trips_accessRecord (i w a : Nat) : (s.accessRecord i w a).trips = s.trips := (s.posted_accessRecord i w a).trips
@[simp] theorem State.dtNs_accessRecord (i w a : Nat) : (s.accessRecord i w a).dtNs = s.dtNs := (s.posted_accessRecord i w a).dtNs
@[simp] theorem State.dtFrac_accessRecord (i w a : Nat) : (s.accessRecord i w a).dtFrac = s.dtFrac := (s.posted_accessRecord i w a).dtFrac
@[simp] theorem State.maq_accessRecord (i w a : Nat) : (s.accessRecord i w a).maq = s.maq := (s.posted_accessRecord i w a).maq
@[simp] theorem State.phus_accessRecord (i w a : Nat) : (s.accessRecord i w a).phus = s.phus := (s.posted_accessRecord i w a).phus
@[simp] theorem State.lanes_accessRecord (i w a : Nat) : (s.accessRecord i w a).lanes = s.lanes := (s.posted_accessRecord i w a).lanes
@[simp] theorem State.conns_accessRecord (i w a : Nat) : (s.accessRecord i w a).conns = s.conns := (s.posted_accessRecord i w a).conns
@[simp] theorem State.dests_accessRecord (i w a : Nat) : (s.accessRecord i w a).dests = s.dests := (s.posted_accessRecord i w a).dests
@[simp] theorem State.coils_accessRecord (i w a : Nat) : (s.accessRecord i w a).coils = s.coils := (s.posted_accessRecord i w a).coils
@[simp] theorem State.coilsOff_accessRecord (i w a : Nat) : (s.accessRecord i w a).coilsOff = s.coilsOff := (s.posted_accessRecord i w a).coilsOff
@[simp] theorem State.epoch_accessRecord (i w a : Nat) : (s.accessRecord i w a).epoch = s.epoch := (s.posted_accessRecord i w a).epoch
@[simp] theorem State.gap_accessRecord (i w a : Nat) : (s.accessRecord i w a).gap = s.gap := (s.posted_accessRecord i w a).gap
@[simp] theorem State.held_accessRecord (i w a : Nat) : (s.accessRecord i w a).held = s.held := (s.posted_accessRecord i w a).held
@[simp] theorem State.clk_accessRecord (i w a : Nat) : (s.accessRecord i w a).clk = s.clk := (s.posted_accessRecord i w a).clk
@[simp] theorem State.pwr_accessRecord (i w a : Nat) : (s.accessRecord i w a).pwr = s.pwr := (s.posted_accessRecord i w a).pwr
@[simp] theorem State.mode_accessRecord (i w a : Nat) : (s.accessRecord i w a).mode = s.mode := (s.posted_accessRecord i w a).mode
@[simp] theorem State.ctl_accessRecord (i w a : Nat) : (s.accessRecord i w a).ctl = s.ctl := (s.posted_accessRecord i w a).ctl
@[simp] theorem State.portCharge_accessRecord (i w a : Nat) : (s.accessRecord i w a).portCharge = s.portCharge := (s.posted_accessRecord i w a).portCharge
@[simp] theorem State.lsws_accessRecord (i w a : Nat) : (s.accessRecord i w a).lsws = s.lsws := (s.posted_accessRecord i w a).lsws
@[simp] theorem State.lsExceeded_accessRecord (i w a : Nat) : (s.accessRecord i w a).lsExceeded = s.lsExceeded := (s.posted_accessRecord i w a).lsExceeded
@[simp] theorem State.shedNext_accessRecord (i w a : Nat) : (s.accessRecord i w a).shedNext = s.shedNext := (s.posted_accessRecord i w a).shedNext
@[simp] theorem State.lsPace_accessRecord (i w a : Nat) : (s.accessRecord i w a).lsPace = s.lsPace := (s.posted_accessRecord i w a).lsPace
@[simp] theorem State.vswLost_accessRecord (i w a : Nat) : (s.accessRecord i w a).vswLost = s.vswLost := (s.posted_accessRecord i w a).vswLost
@[simp] theorem State.net_accessRecord (i w a : Nat) : (s.accessRecord i w a).net = s.net := (s.posted_accessRecord i w a).net
@[simp] theorem State.modbus_accessRecord (i w a : Nat) : (s.accessRecord i w a).modbus = s.modbus := (s.posted_accessRecord i w a).modbus
@[simp] theorem State.cans_accessRecord (i w a : Nat) : (s.accessRecord i w a).cans = s.cans := (s.posted_accessRecord i w a).cans
@[simp] theorem State.plc_accessRecord (i w a : Nat) : (s.accessRecord i w a).plc = s.plc := (s.posted_accessRecord i w a).plc
@[simp] theorem State.answered_accessRecord (i w a : Nat) : (s.accessRecord i w a).answered = s.answered := (s.posted_accessRecord i w a).answered
@[simp] theorem State.alloc_accessRecord (i w a : Nat) : (s.accessRecord i w a).alloc = s.alloc := (s.posted_accessRecord i w a).alloc
@[simp] theorem State.met_accessRecord (i w a : Nat) : (s.accessRecord i w a).met = s.met := (s.posted_accessRecord i w a).met
@[simp] theorem State.bill_accessRecord (i w a : Nat) : (s.accessRecord i w a).bill = s.bill := (s.posted_accessRecord i w a).bill
@[simp] theorem State.sess_accessRecord (i w a : Nat) : (s.accessRecord i w a).sess = s.sess := (s.posted_accessRecord i w a).sess
@[simp] theorem State.t1Req_accessRecord (i w a : Nat) : (s.accessRecord i w a).t1Req = s.t1Req := (s.posted_accessRecord i w a).t1Req
@[simp] theorem State.ocpp_accessRecord (i w a : Nat) : (s.accessRecord i w a).ocpp = s.ocpp := (s.posted_accessRecord i w a).ocpp
@[simp] theorem State.cool_accessRecord (i w a : Nat) : (s.accessRecord i w a).cool = s.cool := (s.posted_accessRecord i w a).cool
@[simp] theorem State.buf_accessRecord (i w a : Nat) : (s.accessRecord i w a).buf = s.buf := (s.posted_accessRecord i w a).buf
@[simp] theorem State.vault_accessRecord (i w a : Nat) : (s.accessRecord i w a).vault = s.vault := (s.posted_accessRecord i w a).vault
@[simp] theorem State.sec_accessRecord (i w a : Nat) : (s.accessRecord i w a).sec = s.sec := (s.posted_accessRecord i w a).sec
@[simp] theorem State.dt_accessRecord (i w a : Nat) : (s.accessRecord i w a).dt = s.dt := (s.posted_accessRecord i w a).dt 
@[simp] theorem State.period_accessRecord (i w a : Nat) (i0 j0 : Nat) : (s.accessRecord i w a).period i0 j0 = s.period i0 j0 := (s.posted_accessRecord i w a).period i0 j0
@[simp] theorem State.tripped_accessRecord (i w a : Nat) (z0 : Scope) : (s.accessRecord i w a).tripped z0 = s.tripped z0 := (s.posted_accessRecord i w a).tripped z0

@[simp] theorem State.now_trap (e c : Nat) (x : DWord) : (s.trap e c x).now = s.now := (s.posted_trap e c x).now
@[simp] theorem State.pending_trap (e c : Nat) (x : DWord) : (s.trap e c x).pending = s.pending := (s.posted_trap e c x).pending
@[simp] theorem State.free_trap (e c : Nat) (x : DWord) : (s.trap e c x).free = s.free := (s.posted_trap e c x).free
@[simp] theorem State.mailbox_trap (e c : Nat) (x : DWord) : (s.trap e c x).mailbox = s.mailbox := (s.posted_trap e c x).mailbox
@[simp] theorem State.outIdx_trap (e c : Nat) (x : DWord) : (s.trap e c x).outIdx = s.outIdx := (s.posted_trap e c x).outIdx
@[simp] theorem State.outbox_trap (e c : Nat) (x : DWord) : (s.trap e c x).outbox = s.outbox := (s.posted_trap e c x).outbox
@[simp] theorem State.notices_trap (e c : Nat) (x : DWord) : (s.trap e c x).notices = s.notices := (s.posted_trap e c x).notices
@[simp] theorem State.periods_trap (e c : Nat) (x : DWord) : (s.trap e c x).periods = s.periods := (s.posted_trap e c x).periods
@[simp] theorem State.trips_trap (e c : Nat) (x : DWord) : (s.trap e c x).trips = s.trips := (s.posted_trap e c x).trips
@[simp] theorem State.dtNs_trap (e c : Nat) (x : DWord) : (s.trap e c x).dtNs = s.dtNs := (s.posted_trap e c x).dtNs
@[simp] theorem State.dtFrac_trap (e c : Nat) (x : DWord) : (s.trap e c x).dtFrac = s.dtFrac := (s.posted_trap e c x).dtFrac
@[simp] theorem State.maq_trap (e c : Nat) (x : DWord) : (s.trap e c x).maq = s.maq := (s.posted_trap e c x).maq
@[simp] theorem State.phus_trap (e c : Nat) (x : DWord) : (s.trap e c x).phus = s.phus := (s.posted_trap e c x).phus
@[simp] theorem State.lanes_trap (e c : Nat) (x : DWord) : (s.trap e c x).lanes = s.lanes := (s.posted_trap e c x).lanes
@[simp] theorem State.conns_trap (e c : Nat) (x : DWord) : (s.trap e c x).conns = s.conns := (s.posted_trap e c x).conns
@[simp] theorem State.dests_trap (e c : Nat) (x : DWord) : (s.trap e c x).dests = s.dests := (s.posted_trap e c x).dests
@[simp] theorem State.coils_trap (e c : Nat) (x : DWord) : (s.trap e c x).coils = s.coils := (s.posted_trap e c x).coils
@[simp] theorem State.coilsOff_trap (e c : Nat) (x : DWord) : (s.trap e c x).coilsOff = s.coilsOff := (s.posted_trap e c x).coilsOff
@[simp] theorem State.epoch_trap (e c : Nat) (x : DWord) : (s.trap e c x).epoch = s.epoch := (s.posted_trap e c x).epoch
@[simp] theorem State.gap_trap (e c : Nat) (x : DWord) : (s.trap e c x).gap = s.gap := (s.posted_trap e c x).gap
@[simp] theorem State.held_trap (e c : Nat) (x : DWord) : (s.trap e c x).held = s.held := (s.posted_trap e c x).held
@[simp] theorem State.clk_trap (e c : Nat) (x : DWord) : (s.trap e c x).clk = s.clk := (s.posted_trap e c x).clk
@[simp] theorem State.pwr_trap (e c : Nat) (x : DWord) : (s.trap e c x).pwr = s.pwr := (s.posted_trap e c x).pwr
@[simp] theorem State.mode_trap (e c : Nat) (x : DWord) : (s.trap e c x).mode = s.mode := (s.posted_trap e c x).mode
@[simp] theorem State.ctl_trap (e c : Nat) (x : DWord) : (s.trap e c x).ctl = s.ctl := (s.posted_trap e c x).ctl
@[simp] theorem State.portCharge_trap (e c : Nat) (x : DWord) : (s.trap e c x).portCharge = s.portCharge := (s.posted_trap e c x).portCharge
@[simp] theorem State.lsws_trap (e c : Nat) (x : DWord) : (s.trap e c x).lsws = s.lsws := (s.posted_trap e c x).lsws
@[simp] theorem State.lsExceeded_trap (e c : Nat) (x : DWord) : (s.trap e c x).lsExceeded = s.lsExceeded := (s.posted_trap e c x).lsExceeded
@[simp] theorem State.shedNext_trap (e c : Nat) (x : DWord) : (s.trap e c x).shedNext = s.shedNext := (s.posted_trap e c x).shedNext
@[simp] theorem State.lsPace_trap (e c : Nat) (x : DWord) : (s.trap e c x).lsPace = s.lsPace := (s.posted_trap e c x).lsPace
@[simp] theorem State.vswLost_trap (e c : Nat) (x : DWord) : (s.trap e c x).vswLost = s.vswLost := (s.posted_trap e c x).vswLost
@[simp] theorem State.net_trap (e c : Nat) (x : DWord) : (s.trap e c x).net = s.net := (s.posted_trap e c x).net
@[simp] theorem State.modbus_trap (e c : Nat) (x : DWord) : (s.trap e c x).modbus = s.modbus := (s.posted_trap e c x).modbus
@[simp] theorem State.cans_trap (e c : Nat) (x : DWord) : (s.trap e c x).cans = s.cans := (s.posted_trap e c x).cans
@[simp] theorem State.plc_trap (e c : Nat) (x : DWord) : (s.trap e c x).plc = s.plc := (s.posted_trap e c x).plc
@[simp] theorem State.answered_trap (e c : Nat) (x : DWord) : (s.trap e c x).answered = s.answered := (s.posted_trap e c x).answered
@[simp] theorem State.alloc_trap (e c : Nat) (x : DWord) : (s.trap e c x).alloc = s.alloc := (s.posted_trap e c x).alloc
@[simp] theorem State.met_trap (e c : Nat) (x : DWord) : (s.trap e c x).met = s.met := (s.posted_trap e c x).met
@[simp] theorem State.bill_trap (e c : Nat) (x : DWord) : (s.trap e c x).bill = s.bill := (s.posted_trap e c x).bill
@[simp] theorem State.sess_trap (e c : Nat) (x : DWord) : (s.trap e c x).sess = s.sess := (s.posted_trap e c x).sess
@[simp] theorem State.t1Req_trap (e c : Nat) (x : DWord) : (s.trap e c x).t1Req = s.t1Req := (s.posted_trap e c x).t1Req
@[simp] theorem State.ocpp_trap (e c : Nat) (x : DWord) : (s.trap e c x).ocpp = s.ocpp := (s.posted_trap e c x).ocpp
@[simp] theorem State.cool_trap (e c : Nat) (x : DWord) : (s.trap e c x).cool = s.cool := (s.posted_trap e c x).cool
@[simp] theorem State.buf_trap (e c : Nat) (x : DWord) : (s.trap e c x).buf = s.buf := (s.posted_trap e c x).buf
@[simp] theorem State.vault_trap (e c : Nat) (x : DWord) : (s.trap e c x).vault = s.vault := (s.posted_trap e c x).vault
@[simp] theorem State.sec_trap (e c : Nat) (x : DWord) : (s.trap e c x).sec = s.sec := (s.posted_trap e c x).sec
@[simp] theorem State.dt_trap (e c : Nat) (x : DWord) : (s.trap e c x).dt = s.dt := (s.posted_trap e c x).dt 
@[simp] theorem State.period_trap (e c : Nat) (x : DWord) (i0 j0 : Nat) : (s.trap e c x).period i0 j0 = s.period i0 j0 := (s.posted_trap e c x).period i0 j0
@[simp] theorem State.tripped_trap (e c : Nat) (x : DWord) (z0 : Scope) : (s.trap e c x).tripped z0 = s.tripped z0 := (s.posted_trap e c x).tripped z0

@[simp] theorem State.now_wr (k n v : Nat) : (s.wr k n v).now = s.now := (s.wrote_wr k n v).now
@[simp] theorem State.pending_wr (k n v : Nat) : (s.wr k n v).pending = s.pending := (s.wrote_wr k n v).pending
@[simp] theorem State.free_wr (k n v : Nat) : (s.wr k n v).free = s.free := (s.wrote_wr k n v).free
@[simp] theorem State.fields_wr (k n v : Nat) : (s.wr k n v).fields = s.fields := (s.wrote_wr k n v).fields
@[simp] theorem State.engs_wr (k n v : Nat) : (s.wr k n v).engs = s.engs := (s.wrote_wr k n v).engs
@[simp] theorem State.mailbox_wr (k n v : Nat) : (s.wr k n v).mailbox = s.mailbox := (s.wrote_wr k n v).mailbox
@[simp] theorem State.outIdx_wr (k n v : Nat) : (s.wr k n v).outIdx = s.outIdx := (s.wrote_wr k n v).outIdx
@[simp] theorem State.outbox_wr (k n v : Nat) : (s.wr k n v).outbox = s.outbox := (s.wrote_wr k n v).outbox
@[simp] theorem State.notices_wr (k n v : Nat) : (s.wr k n v).notices = s.notices := (s.wrote_wr k n v).notices
@[simp] theorem State.periods_wr (k n v : Nat) : (s.wr k n v).periods = s.periods := (s.wrote_wr k n v).periods
@[simp] theorem State.trips_wr (k n v : Nat) : (s.wr k n v).trips = s.trips := (s.wrote_wr k n v).trips
@[simp] theorem State.dtNs_wr (k n v : Nat) : (s.wr k n v).dtNs = s.dtNs := (s.wrote_wr k n v).dtNs
@[simp] theorem State.dtFrac_wr (k n v : Nat) : (s.wr k n v).dtFrac = s.dtFrac := (s.wrote_wr k n v).dtFrac
@[simp] theorem State.maq_wr (k n v : Nat) : (s.wr k n v).maq = s.maq := (s.wrote_wr k n v).maq
@[simp] theorem State.phus_wr (k n v : Nat) : (s.wr k n v).phus = s.phus := (s.wrote_wr k n v).phus
@[simp] theorem State.lanes_wr (k n v : Nat) : (s.wr k n v).lanes = s.lanes := (s.wrote_wr k n v).lanes
@[simp] theorem State.conns_wr (k n v : Nat) : (s.wr k n v).conns = s.conns := (s.wrote_wr k n v).conns
@[simp] theorem State.dests_wr (k n v : Nat) : (s.wr k n v).dests = s.dests := (s.wrote_wr k n v).dests
@[simp] theorem State.coils_wr (k n v : Nat) : (s.wr k n v).coils = s.coils := (s.wrote_wr k n v).coils
@[simp] theorem State.coilsOff_wr (k n v : Nat) : (s.wr k n v).coilsOff = s.coilsOff := (s.wrote_wr k n v).coilsOff
@[simp] theorem State.epoch_wr (k n v : Nat) : (s.wr k n v).epoch = s.epoch := (s.wrote_wr k n v).epoch
@[simp] theorem State.gap_wr (k n v : Nat) : (s.wr k n v).gap = s.gap := (s.wrote_wr k n v).gap
@[simp] theorem State.held_wr (k n v : Nat) : (s.wr k n v).held = s.held := (s.wrote_wr k n v).held
@[simp] theorem State.clk_wr (k n v : Nat) : (s.wr k n v).clk = s.clk := (s.wrote_wr k n v).clk
@[simp] theorem State.pwr_wr (k n v : Nat) : (s.wr k n v).pwr = s.pwr := (s.wrote_wr k n v).pwr
@[simp] theorem State.mode_wr (k n v : Nat) : (s.wr k n v).mode = s.mode := (s.wrote_wr k n v).mode
@[simp] theorem State.ctl_wr (k n v : Nat) : (s.wr k n v).ctl = s.ctl := (s.wrote_wr k n v).ctl
@[simp] theorem State.portCharge_wr (k n v : Nat) : (s.wr k n v).portCharge = s.portCharge := (s.wrote_wr k n v).portCharge
@[simp] theorem State.lsws_wr (k n v : Nat) : (s.wr k n v).lsws = s.lsws := (s.wrote_wr k n v).lsws
@[simp] theorem State.lsExceeded_wr (k n v : Nat) : (s.wr k n v).lsExceeded = s.lsExceeded := (s.wrote_wr k n v).lsExceeded
@[simp] theorem State.shedNext_wr (k n v : Nat) : (s.wr k n v).shedNext = s.shedNext := (s.wrote_wr k n v).shedNext
@[simp] theorem State.lsPace_wr (k n v : Nat) : (s.wr k n v).lsPace = s.lsPace := (s.wrote_wr k n v).lsPace
@[simp] theorem State.vswLost_wr (k n v : Nat) : (s.wr k n v).vswLost = s.vswLost := (s.wrote_wr k n v).vswLost
@[simp] theorem State.net_wr (k n v : Nat) : (s.wr k n v).net = s.net := (s.wrote_wr k n v).net
@[simp] theorem State.modbus_wr (k n v : Nat) : (s.wr k n v).modbus = s.modbus := (s.wrote_wr k n v).modbus
@[simp] theorem State.cans_wr (k n v : Nat) : (s.wr k n v).cans = s.cans := (s.wrote_wr k n v).cans
@[simp] theorem State.plc_wr (k n v : Nat) : (s.wr k n v).plc = s.plc := (s.wrote_wr k n v).plc
@[simp] theorem State.answered_wr (k n v : Nat) : (s.wr k n v).answered = s.answered := (s.wrote_wr k n v).answered
@[simp] theorem State.alloc_wr (k n v : Nat) : (s.wr k n v).alloc = s.alloc := (s.wrote_wr k n v).alloc
@[simp] theorem State.met_wr (k n v : Nat) : (s.wr k n v).met = s.met := (s.wrote_wr k n v).met
@[simp] theorem State.bill_wr (k n v : Nat) : (s.wr k n v).bill = s.bill := (s.wrote_wr k n v).bill
@[simp] theorem State.sess_wr (k n v : Nat) : (s.wr k n v).sess = s.sess := (s.wrote_wr k n v).sess
@[simp] theorem State.t1Req_wr (k n v : Nat) : (s.wr k n v).t1Req = s.t1Req := (s.wrote_wr k n v).t1Req
@[simp] theorem State.ocpp_wr (k n v : Nat) : (s.wr k n v).ocpp = s.ocpp := (s.wrote_wr k n v).ocpp
@[simp] theorem State.cool_wr (k n v : Nat) : (s.wr k n v).cool = s.cool := (s.wrote_wr k n v).cool
@[simp] theorem State.buf_wr (k n v : Nat) : (s.wr k n v).buf = s.buf := (s.wrote_wr k n v).buf
@[simp] theorem State.vault_wr (k n v : Nat) : (s.wr k n v).vault = s.vault := (s.wrote_wr k n v).vault
@[simp] theorem State.sec_wr (k n v : Nat) : (s.wr k n v).sec = s.sec := (s.wrote_wr k n v).sec
@[simp] theorem State.f_wr (k n v : Nat) (y0 : Fld) : (s.wr k n v).f y0 = s.f y0 := (s.wrote_wr k n v).f y0
@[simp] theorem State.fb_wr (k n v : Nat) (y0 : Fld) : (s.wr k n v).fb y0 = s.fb y0 := (s.wrote_wr k n v).fb y0
@[simp] theorem State.fi_wr (k n v : Nat) (y0 : Fld) : (s.wr k n v).fi y0 = s.fi y0 := (s.wrote_wr k n v).fi y0
@[simp] theorem State.eng_wr (k n v : Nat) (j0 : Nat) : (s.wr k n v).eng j0 = s.eng j0 := (s.wrote_wr k n v).eng j0
@[simp] theorem State.queue_wr (k n v : Nat) (i0 : QId) : (s.wr k n v).queue i0 = s.queue i0 := (s.wrote_wr k n v).queue i0
@[simp] theorem State.dt_wr (k n v : Nat) : (s.wr k n v).dt = s.dt := (s.wrote_wr k n v).dt 
@[simp] theorem State.period_wr (k n v : Nat) (i0 j0 : Nat) : (s.wr k n v).period i0 j0 = s.period i0 j0 := (s.wrote_wr k n v).period i0 j0
@[simp] theorem State.tripped_wr (k n v : Nat) (z0 : Scope) : (s.wr k n v).tripped z0 = s.tripped z0 := (s.wrote_wr k n v).tripped z0

@[simp] theorem State.now_wrBytes (k : Nat) (l : List Byte) : (s.wrBytes k l).now = s.now := (s.wrote_wrBytes k l).now
@[simp] theorem State.pending_wrBytes (k : Nat) (l : List Byte) : (s.wrBytes k l).pending = s.pending := (s.wrote_wrBytes k l).pending
@[simp] theorem State.free_wrBytes (k : Nat) (l : List Byte) : (s.wrBytes k l).free = s.free := (s.wrote_wrBytes k l).free
@[simp] theorem State.fields_wrBytes (k : Nat) (l : List Byte) : (s.wrBytes k l).fields = s.fields := (s.wrote_wrBytes k l).fields
@[simp] theorem State.engs_wrBytes (k : Nat) (l : List Byte) : (s.wrBytes k l).engs = s.engs := (s.wrote_wrBytes k l).engs
@[simp] theorem State.mailbox_wrBytes (k : Nat) (l : List Byte) : (s.wrBytes k l).mailbox = s.mailbox := (s.wrote_wrBytes k l).mailbox
@[simp] theorem State.outIdx_wrBytes (k : Nat) (l : List Byte) : (s.wrBytes k l).outIdx = s.outIdx := (s.wrote_wrBytes k l).outIdx
@[simp] theorem State.outbox_wrBytes (k : Nat) (l : List Byte) : (s.wrBytes k l).outbox = s.outbox := (s.wrote_wrBytes k l).outbox
@[simp] theorem State.notices_wrBytes (k : Nat) (l : List Byte) : (s.wrBytes k l).notices = s.notices := (s.wrote_wrBytes k l).notices
@[simp] theorem State.periods_wrBytes (k : Nat) (l : List Byte) : (s.wrBytes k l).periods = s.periods := (s.wrote_wrBytes k l).periods
@[simp] theorem State.trips_wrBytes (k : Nat) (l : List Byte) : (s.wrBytes k l).trips = s.trips := (s.wrote_wrBytes k l).trips
@[simp] theorem State.dtNs_wrBytes (k : Nat) (l : List Byte) : (s.wrBytes k l).dtNs = s.dtNs := (s.wrote_wrBytes k l).dtNs
@[simp] theorem State.dtFrac_wrBytes (k : Nat) (l : List Byte) : (s.wrBytes k l).dtFrac = s.dtFrac := (s.wrote_wrBytes k l).dtFrac
@[simp] theorem State.maq_wrBytes (k : Nat) (l : List Byte) : (s.wrBytes k l).maq = s.maq := (s.wrote_wrBytes k l).maq
@[simp] theorem State.phus_wrBytes (k : Nat) (l : List Byte) : (s.wrBytes k l).phus = s.phus := (s.wrote_wrBytes k l).phus
@[simp] theorem State.lanes_wrBytes (k : Nat) (l : List Byte) : (s.wrBytes k l).lanes = s.lanes := (s.wrote_wrBytes k l).lanes
@[simp] theorem State.conns_wrBytes (k : Nat) (l : List Byte) : (s.wrBytes k l).conns = s.conns := (s.wrote_wrBytes k l).conns
@[simp] theorem State.dests_wrBytes (k : Nat) (l : List Byte) : (s.wrBytes k l).dests = s.dests := (s.wrote_wrBytes k l).dests
@[simp] theorem State.coils_wrBytes (k : Nat) (l : List Byte) : (s.wrBytes k l).coils = s.coils := (s.wrote_wrBytes k l).coils
@[simp] theorem State.coilsOff_wrBytes (k : Nat) (l : List Byte) : (s.wrBytes k l).coilsOff = s.coilsOff := (s.wrote_wrBytes k l).coilsOff
@[simp] theorem State.epoch_wrBytes (k : Nat) (l : List Byte) : (s.wrBytes k l).epoch = s.epoch := (s.wrote_wrBytes k l).epoch
@[simp] theorem State.gap_wrBytes (k : Nat) (l : List Byte) : (s.wrBytes k l).gap = s.gap := (s.wrote_wrBytes k l).gap
@[simp] theorem State.held_wrBytes (k : Nat) (l : List Byte) : (s.wrBytes k l).held = s.held := (s.wrote_wrBytes k l).held
@[simp] theorem State.clk_wrBytes (k : Nat) (l : List Byte) : (s.wrBytes k l).clk = s.clk := (s.wrote_wrBytes k l).clk
@[simp] theorem State.pwr_wrBytes (k : Nat) (l : List Byte) : (s.wrBytes k l).pwr = s.pwr := (s.wrote_wrBytes k l).pwr
@[simp] theorem State.mode_wrBytes (k : Nat) (l : List Byte) : (s.wrBytes k l).mode = s.mode := (s.wrote_wrBytes k l).mode
@[simp] theorem State.ctl_wrBytes (k : Nat) (l : List Byte) : (s.wrBytes k l).ctl = s.ctl := (s.wrote_wrBytes k l).ctl
@[simp] theorem State.portCharge_wrBytes (k : Nat) (l : List Byte) : (s.wrBytes k l).portCharge = s.portCharge := (s.wrote_wrBytes k l).portCharge
@[simp] theorem State.lsws_wrBytes (k : Nat) (l : List Byte) : (s.wrBytes k l).lsws = s.lsws := (s.wrote_wrBytes k l).lsws
@[simp] theorem State.lsExceeded_wrBytes (k : Nat) (l : List Byte) : (s.wrBytes k l).lsExceeded = s.lsExceeded := (s.wrote_wrBytes k l).lsExceeded
@[simp] theorem State.shedNext_wrBytes (k : Nat) (l : List Byte) : (s.wrBytes k l).shedNext = s.shedNext := (s.wrote_wrBytes k l).shedNext
@[simp] theorem State.lsPace_wrBytes (k : Nat) (l : List Byte) : (s.wrBytes k l).lsPace = s.lsPace := (s.wrote_wrBytes k l).lsPace
@[simp] theorem State.vswLost_wrBytes (k : Nat) (l : List Byte) : (s.wrBytes k l).vswLost = s.vswLost := (s.wrote_wrBytes k l).vswLost
@[simp] theorem State.net_wrBytes (k : Nat) (l : List Byte) : (s.wrBytes k l).net = s.net := (s.wrote_wrBytes k l).net
@[simp] theorem State.modbus_wrBytes (k : Nat) (l : List Byte) : (s.wrBytes k l).modbus = s.modbus := (s.wrote_wrBytes k l).modbus
@[simp] theorem State.cans_wrBytes (k : Nat) (l : List Byte) : (s.wrBytes k l).cans = s.cans := (s.wrote_wrBytes k l).cans
@[simp] theorem State.plc_wrBytes (k : Nat) (l : List Byte) : (s.wrBytes k l).plc = s.plc := (s.wrote_wrBytes k l).plc
@[simp] theorem State.answered_wrBytes (k : Nat) (l : List Byte) : (s.wrBytes k l).answered = s.answered := (s.wrote_wrBytes k l).answered
@[simp] theorem State.alloc_wrBytes (k : Nat) (l : List Byte) : (s.wrBytes k l).alloc = s.alloc := (s.wrote_wrBytes k l).alloc
@[simp] theorem State.met_wrBytes (k : Nat) (l : List Byte) : (s.wrBytes k l).met = s.met := (s.wrote_wrBytes k l).met
@[simp] theorem State.bill_wrBytes (k : Nat) (l : List Byte) : (s.wrBytes k l).bill = s.bill := (s.wrote_wrBytes k l).bill
@[simp] theorem State.sess_wrBytes (k : Nat) (l : List Byte) : (s.wrBytes k l).sess = s.sess := (s.wrote_wrBytes k l).sess
@[simp] theorem State.t1Req_wrBytes (k : Nat) (l : List Byte) : (s.wrBytes k l).t1Req = s.t1Req := (s.wrote_wrBytes k l).t1Req
@[simp] theorem State.ocpp_wrBytes (k : Nat) (l : List Byte) : (s.wrBytes k l).ocpp = s.ocpp := (s.wrote_wrBytes k l).ocpp
@[simp] theorem State.cool_wrBytes (k : Nat) (l : List Byte) : (s.wrBytes k l).cool = s.cool := (s.wrote_wrBytes k l).cool
@[simp] theorem State.buf_wrBytes (k : Nat) (l : List Byte) : (s.wrBytes k l).buf = s.buf := (s.wrote_wrBytes k l).buf
@[simp] theorem State.vault_wrBytes (k : Nat) (l : List Byte) : (s.wrBytes k l).vault = s.vault := (s.wrote_wrBytes k l).vault
@[simp] theorem State.sec_wrBytes (k : Nat) (l : List Byte) : (s.wrBytes k l).sec = s.sec := (s.wrote_wrBytes k l).sec
@[simp] theorem State.f_wrBytes (k : Nat) (l : List Byte) (y0 : Fld) : (s.wrBytes k l).f y0 = s.f y0 := (s.wrote_wrBytes k l).f y0
@[simp] theorem State.fb_wrBytes (k : Nat) (l : List Byte) (y0 : Fld) : (s.wrBytes k l).fb y0 = s.fb y0 := (s.wrote_wrBytes k l).fb y0
@[simp] theorem State.fi_wrBytes (k : Nat) (l : List Byte) (y0 : Fld) : (s.wrBytes k l).fi y0 = s.fi y0 := (s.wrote_wrBytes k l).fi y0
@[simp] theorem State.eng_wrBytes (k : Nat) (l : List Byte) (j0 : Nat) : (s.wrBytes k l).eng j0 = s.eng j0 := (s.wrote_wrBytes k l).eng j0
@[simp] theorem State.queue_wrBytes (k : Nat) (l : List Byte) (i0 : QId) : (s.wrBytes k l).queue i0 = s.queue i0 := (s.wrote_wrBytes k l).queue i0
@[simp] theorem State.dt_wrBytes (k : Nat) (l : List Byte) : (s.wrBytes k l).dt = s.dt := (s.wrote_wrBytes k l).dt 
@[simp] theorem State.period_wrBytes (k : Nat) (l : List Byte) (i0 j0 : Nat) : (s.wrBytes k l).period i0 j0 = s.period i0 j0 := (s.wrote_wrBytes k l).period i0 j0
@[simp] theorem State.tripped_wrBytes (k : Nat) (l : List Byte) (z0 : Scope) : (s.wrBytes k l).tripped z0 = s.tripped z0 := (s.wrote_wrBytes k l).tripped z0

end Sys2Proof.Machine
end

