-- ==== Sys2Proof/Laws/Memory.lean ====
section
/-!
SUPPORT. Laws of memory: a byte just written reads as written, every other byte as before, and every operation on memory keeps its
canonical form.
-/
namespace Sys2Proof.Machine

variable (s : State)

/-! ## Reading after writing -/

@[simp] theorem State.rdB_wrB_same (k : Nat) (b : Byte) : (s.wrB k b).rdB k = b := by simp [State.rdB, State.wrB]

theorem State.rdB_wrB_ne (k j : Nat) (b : Byte) (h : j ≠ k) : (s.wrB k b).rdB j = s.rdB j := SMap.get_set_ne _ _ _ _ _ _ h

/-- A write of n bytes leaves every byte outside them. -/
theorem State.rdB_wr_out (k n v j : Nat) (h : j < k ∨ k + n ≤ j) : (s.wr k n v).rdB j = s.rdB j := by
  induction n generalizing s k v with
  | zero => rfl
  | succ n ih => rw [State.wr, ih _ _ _ (by omega), State.rdB_wrB_ne _ _ _ _ (by omega)]

/-- Byte i of a write of n bytes is byte i of the value (R6: little-endian). -/
theorem State.rdB_wr_in (k n v i : Nat) (h : i < n) : (s.wr k n v).rdB (k + i) = BitVec.ofNat 8 (v / 256 ^ i) := by
  induction n generalizing s k v i with
  | zero => omega
  | succ n ih =>
    rw [State.wr]
    cases i with
    | zero => rw [State.rdB_wr_out _ _ _ _ _ (by omega)]; simp
    | succ i =>
      have := ih (s.wrB k (BitVec.ofNat 8 v)) (k + 1) (v / 256) i (by omega)
      rw [show k + (i + 1) = k + 1 + i by omega, this, Nat.div_div_eq_div_mul, Nat.pow_succ, Nat.mul_comm]

/-- A read depends on the bytes it reads, and on nothing else. -/
theorem State.rd_congr (t : State) (k n : Nat) (h : ∀ i, i < n → t.rdB (k + i) = s.rdB (k + i)) : t.rd k n = s.rd k n := by
  induction n generalizing k with
  | zero => rfl
  | succ n ih =>
    have h0 := h 0 (by omega)
    have h1 : ∀ i, i < n → t.rdB (k + 1 + i) = s.rdB (k + 1 + i) := fun i hi => by have := h (i + 1) (by omega); rwa [show k + (i + 1) = k + 1 + i by omega] at this
    simp only [Nat.add_zero] at h0
    simp only [State.rd, h0, ih (k + 1) h1]

/-- A read outside the bytes written gives what it gave before. -/
theorem State.rd_wr_out (k n v j m : Nat) (h : j + m ≤ k ∨ k + n ≤ j) : (s.wr k n v).rd j m = s.rd j m :=
  State.rd_congr _ _ _ _ fun i hi => State.rdB_wr_out _ _ _ _ _ (by omega)

/-- A read of the bytes just written gives the value, cut to them. -/
@[simp] theorem State.rd_wr_same (k n v : Nat) : (s.wr k n v).rd k n = v % 256 ^ n := by
  induction n generalizing s k v with
  | zero => simp [State.rd, Nat.mod_one]
  | succ n ih =>
    rw [State.rd, State.wr, State.rdB_wr_out _ _ _ _ _ (by omega), ih, State.rdB_wrB_same, BitVec.toNat_ofNat, show 256 ^ (n + 1) = 256 * 256 ^ n from by rw [Nat.pow_succ, Nat.mul_comm]]
    exact (Nat.mod_mul).symm

/-- A write of a list of bytes leaves every byte outside them. -/
theorem State.rdB_wrBytes_out (k : Nat) (l : List Byte) (j : Nat) (h : j < k ∨ k + l.length ≤ j) : (s.wrBytes k l).rdB j = s.rdB j := by
  induction l generalizing s k with
  | nil => rfl
  | cons b l ih => simp only [List.length_cons] at h; rw [State.wrBytes, ih _ _ (by omega), State.rdB_wrB_ne _ _ _ _ (by omega)]

/-- Reading back a list of bytes gives the list. -/
@[simp] theorem State.rdBytes_wrBytes (k : Nat) (l : List Byte) : (s.wrBytes k l).rdBytes k l.length = l := by
  induction l generalizing s k with
  | nil => rfl
  | cons b l ih => rw [List.length_cons, State.rdBytes, State.wrBytes, ih, State.rdB_wrBytes_out _ _ _ _ (by omega), State.rdB_wrB_same]

/-! ## The canonical form -/

theorem wf_wrB (k : Nat) (b : Byte) (h : Memory.wf s.mem) : Memory.wf (s.wrB k b).mem := SMap.wf_set _ _ _ _ h

theorem wf_clearMem (lo hi : Nat) (h : Memory.wf s.mem) : Memory.wf (s.clearMem lo hi).mem := SMap.wf_filter _ _ _ h

theorem wf_wr (k n v : Nat) (h : Memory.wf s.mem) : Memory.wf (s.wr k n v).mem := by
  induction n generalizing s k v with
  | zero => exact h
  | succ n ih => exact ih _ _ _ (wf_wrB s k _ h)

theorem wf_wrBytes (k : Nat) (l : List Byte) (h : Memory.wf s.mem) : Memory.wf (s.wrBytes k l).mem := by
  induction l generalizing s k with
  | nil => exact h
  | cons b l ih => exact ih _ _ (wf_wrB s k b h)

theorem wf_dmaWrB (k : Nat) (b : Byte) (h : Memory.wf s.mem) : Memory.wf (s.dmaWrB k b).mem := by
  unfold State.dmaWrB; split
  · exact wf_wrB s k b h
  · exact h

theorem wf_dmaWr (k n v : Nat) (h : Memory.wf s.mem) : Memory.wf (s.dmaWr k n v).mem := by
  induction n generalizing s k v with
  | zero => exact h
  | succ n ih => exact ih _ _ _ (wf_dmaWrB s k _ h)

theorem wf_dmaWrBytes (k : Nat) (l : List Byte) (h : Memory.wf s.mem) : Memory.wf (s.dmaWrBytes k l).mem := by
  induction l generalizing s k with
  | nil => exact h
  | cons b l ih => exact ih _ _ (wf_dmaWrB s k b h)

theorem wf_writeBack (c : CacheLine) (h : Memory.wf s.mem) : Memory.wf (s.writeBack c).mem := by
  unfold State.writeBack; split
  · exact wf_wrBytes s _ _ h
  · exact h

theorem wf_postTo (n w a : Nat) (h : Memory.wf s.mem) : Memory.wf (s.postTo n w a).mem := by
  unfold State.postTo; dsimp only; split <;> simp only [State.mem_setB, State.mem_setEng, State.mem_setF] <;> exact wf_wr _ _ _ _ (wf_wr _ _ _ _ h)

theorem wf_postList (w a : Nat) (l : List Nat) (h : Memory.wf s.mem) : Memory.wf (s.postList w a l).mem := by
  induction l generalizing s with
  | nil => exact h
  | cons n l ih => exact ih _ (wf_postTo s n w a h)

theorem wf_unitRecord (c e n : Nat) (z : Scope) (o d : Nat) (l : List Nat) (h : Memory.wf s.mem) : Memory.wf (s.unitRecord c e n z o d l).mem :=
  wf_postList s _ _ _ h

theorem wf_clampRecord (e n : Nat) (z : Scope) (h : Memory.wf s.mem) : Memory.wf (s.clampRecord e n z).mem := wf_unitRecord s _ _ _ _ _ _ _ h
theorem wf_setEvent (x : Fld) (e : Nat) (z : Scope) (l : List Nat) (h : Memory.wf s.mem) : Memory.wf (s.setEvent x e z l).mem :=
  wf_unitRecord _ _ _ _ _ _ _ _ h
theorem wf_accessRecord (i w a : Nat) (h : Memory.wf s.mem) : Memory.wf (s.accessRecord i w a).mem := wf_unitRecord s _ _ _ _ _ _ _ h

theorem mem_modbusReply (r : Result) : (s.modbusReply r).mem = s.mem := by
  unfold State.modbusReply; dsimp only; generalize (if r.status = 4 then r.detail else r.status) = v; split <;> rfl

theorem mem_countResult (t : State) (n i : Nat) :
    (let s := t.setF (ENG_QUEUE_STAT_result_idx n) (i + 1)
     let en := s.eng n
     let s := s.setEng n { en with resultWrites := en.resultWrites + 1 }
     if 257 ≤ en.resultWrites + 1 then s.setB (ENG_QUEUE_STAT_result_ovf n) true else s).mem = t.mem := by
  dsimp only; split <;> rfl

theorem wf_resultAt (n : Nat) (r : Result) (h : Memory.wf s.mem) : Memory.wf (s.resultAt n r).mem := by
  unfold State.resultAt; split
  · exact h
  · exact mem_countResult (s.wr (sramKey n (0x1001F000 + 16 * s.f (ENG_QUEUE_STAT_result_idx n))) 16 (resultNat r)) n _ ▸ wf_wr s _ _ _ h

theorem wf_result (q : QId) (r : Result) (h : Memory.wf s.mem) : Memory.wf (s.result q r).mem := by
  unfold State.result
  split
  · dsimp only; exact wf_wr s _ _ _ h
  · split
    · exact wf_resultAt s _ _ h
    · rw [mem_modbusReply]; exact h

theorem wf_completionEvent (q : QId) (r : Req) (v : Nat) (h : Memory.wf s.mem) : Memory.wf (s.completionEvent q r v).mem := by
  unfold State.completionEvent; split
  · split
    · exact wf_unitRecord s _ _ _ _ _ _ _ h
    · exact h
  · exact h

theorem wf_reply (q : QId) (r : Req) (v d : Nat) (x : DWord) (h : Memory.wf s.mem) : Memory.wf (s.reply q r v d x).mem :=
  wf_completionEvent _ _ _ _ (wf_result _ _ _ h)

theorem mem_setQueue (q : QId) (x : Queue) : (s.setQueue q x).mem = s.mem := by cases q <;> rfl

theorem wf_complete (q : QId) (r : Req) (v d : Nat) (x : DWord) (h : Memory.wf s.mem) : Memory.wf (s.complete q r v d x).mem := by
  unfold State.complete; dsimp only
  exact wf_completionEvent _ _ _ _ (wf_result _ _ _ (by rw [mem_setQueue]; exact h))

theorem wf_discardEach (q : QId) (l : List Queued) (h : Memory.wf s.mem) : Memory.wf (s.discardEach q l).mem := by
  induction l generalizing s with
  | nil => exact h
  | cons r l ih => exact ih _ (wf_complete s _ _ _ _ _ h)

theorem wf_discardWhere (q : QId) (p : Req → Bool) (h : Memory.wf s.mem) : Memory.wf (s.discardWhere q p).2.mem :=
  wf_discardEach _ _ _ (by rw [mem_setQueue]; exact h)

theorem wf_discardQueues (p : Req → Bool) (l : List QId) (h : Memory.wf s.mem) : Memory.wf (s.discardQueues p l).2.mem := by
  induction l generalizing s with
  | nil => exact h
  | cons q l ih => exact ih _ (wf_discardWhere s q p h)

theorem wf_discardAll (p : Req → Bool) (also : List Nat) (post : State → Nat → Nat → State)
    (hp : ∀ (x : State) i n, Memory.wf x.mem → Memory.wf (post x i n).mem) (l : List (Fin 8)) (h : Memory.wf s.mem) :
    Memory.wf (s.discardAll p also post l).mem := by
  induction l generalizing s with
  | nil => exact h
  | cons e l ih =>
    simp only [State.discardAll]
    have := wf_discardQueues s p (queuesOf e) h
    split
    · exact ih _ this
    · exact ih _ (hp _ _ _ this)

theorem wf_faultDiscard (c : Nat) (z : Scope) (g r : List Nat) (m : Nat) (also : List Nat) (h : Memory.wf s.mem) : Memory.wf (s.faultDiscard c z g r m also).mem :=
  wf_discardAll s _ _ _ (fun x _ _ => wf_unitRecord x _ _ _ _ _ _ _) _ h

theorem wf_drainPeriod (k i : Nat) (h : Memory.wf s.mem) : Memory.wf (s.drainPeriod k i).mem :=
  wf_discardAll s _ _ _ (fun x _ _ => wf_unitRecord x _ _ _ _ _ _ _) _ h

theorem wf_supersedeTaken (e : Nat) (r : Req) (c : Nat) (h : Memory.wf s.mem) : Memory.wf (s.supersedeTaken e r c).mem := by
  unfold State.supersedeTaken; dsimp only; split
  · split
    · exact wf_complete _ _ _ _ _ _ h
    · exact h
  · exact h

theorem wf_supersede (q : QId) (r : Req) (h : Memory.wf s.mem) : Memory.wf (s.supersede q r).mem := by
  unfold State.supersede; split
  · have g : ∀ (l : List Nat) (x : State), Memory.wf x.mem → Memory.wf (l.foldl (fun s c => s.supersedeTaken q.owner r c) x).mem := by
      intro l; induction l with
      | nil => exact fun _ k => k
      | cons c l ih => exact fun x k => ih _ (wf_supersedeTaken x q.owner r c k)
    exact g _ _ (wf_discardQueues s _ _ h)
  · exact h

theorem wf_touchLint (q : QId) (o : BitVec 16) (t : State) (e : s.touchLint q o = some t) (h : Memory.wf s.mem) : Memory.wf t.mem := by
  unfold State.touchLint at e; dsimp only at e
  split at e
  · cases e; rw [mem_setQueue]; exact h
  · split at e
    · cases e; rw [mem_setQueue]; exact h
    · split at e
      · cases e
      · cases e; exact wf_unitRecord _ _ _ _ _ _ _ _ (by rw [mem_setQueue]; exact h)

/-- The arrival of a request keeps the canonical form. -/
theorem wf_arrive (q : QId) (r : Req) (h : Memory.wf s.mem) : Memory.wf (s.arrive q r).mem := by
  unfold State.arrive State.arriveB
  split
  · exact wf_reply s _ _ _ _ _ h
  split
  · exact wf_reply s _ _ _ _ _ h
  split
  · exact wf_reply s _ _ _ _ _ h
  next t ht =>
    have k := wf_touchLint s q r.origId t ht h
    dsimp only
    split
    · exact wf_reply t _ _ _ _ _ k
    · repeat' split
      all_goals first
        | exact wf_reply t _ _ _ _ _ k
        | (rw [mem_setQueue]; exact wf_supersede _ _ _ (by rw [mem_setQueue]; exact k))

theorem wf_trap (e c : Nat) (x : DWord) (h : Memory.wf s.mem) : Memory.wf (s.trap e c x).mem := by
  unfold State.trap; dsimp only; split <;> simpa using h

end Sys2Proof.Machine
end

