-- ==== Sys2Proof/Tests/Slice0.lean ====
section
/-!
SUPPORT. Tests: ill-formed commands are refused, words of the spec's encodings decode, worked examples, and for the statements concrete states and
operands that meet their hypotheses.
-/
set_option Elab.async false

namespace Sys2Proof.Tests
open Sys2Proof.Machine Sys2Proof.Claims

/-! ## Small states -/

/-- The reset state at boot step 11, in which the clocks run, with some register fields set. -/
def st (l : List (Fld × Nat)) : State := State.reset.setAll ((SEC_BOOT_STAT_stage, 11) :: l)
/-- A state in which engine e runs. -/
def run (e : Nat) : State := st [(ENG_CTRL_run e, 1)]
/-- A state at a tick. -/
def atTick (n : Nat) (s : State) : State := { s with now := n }
/-- A general register of an engine set. -/
def reg (s : State) (e : Nat) (r : Fin 32) (v : DWord) : State := s.setEng e ((s.eng e).setG r v)
/-- A request. -/
def req (orig op id : Nat) (sc : Scope) (payload : Nat) : Req :=
  ⟨BitVec.ofNat 16 orig, BitVec.ofNat 16 op, BitVec.ofNat 32 id, sc, 0, 0, false, false, 16, BitVec.ofNat 128 payload⟩
/-- The state in which T's table step serves a request that its queue has stored. -/
def served (s : State) (x : Sender) (q : QId) (r : Req) : State := (s.commitB x q r).2.unqueue q

theorem served_of_commit (s : State) (x : Sender) (q : QId) (r : Req) (h0 : s.clocked = true) (h : (s.commitB x q r).1 = true) : Served s x q r (served s x q r) :=
  ⟨h0, (s.commitB x q r).2, by rw [← h], rfl⟩

/-- One field after a command. -/
def after (i : Instr) (s : State) (x : Fld) : Option Nat :=
  match exec i s with
  | .next t => some (t.f x)
  | _ => none
/-- A general register of engine e after a command. -/
def regAfter (i : Instr) (s : State) (e : Nat) (r : Fin 32) : Option DWord :=
  match exec i s with
  | .next t => some ((t.eng e).g r)
  | _ => none

/-- What the register rules say of a store: 0 outside, 1 ignored, 2 refused, 3 granted. -/
def right (s : State) (e a : Nat) : Nat :=
  match s.regRight e a with
  | .outside => 0
  | .ignored => 1
  | .refused _ => 2
  | .granted _ _ => 3

/-! ## Well-formed commands -/

theorem test_wf_request : (Instr.powerReq (.engine 1) (req 2 0x0101 1 (connScope 0) 0)).wf = true ∧ (Instr.powerReq (.engine 1) (req 2 0x0102 1 (connScope 0) 0)).wf = false := by decide
theorem test_wf_job : (Instr.slotTick 0 0 .alloc).wf = true ∧ (Instr.slotTick 1 0 .alloc).wf = false := by decide
theorem test_wf_register : (Instr.registerWrite 7 0x40030000 2).wf = true ∧ (Instr.registerWrite 7 0x40030002 2).wf = false ∧ (Instr.registerWrite 7 0x40700000 2).wf = false := by decide
theorem test_wf_can : (Instr.canFrameReceived 0 ⟨1, 0, 2, [1, 2], false⟩).wf = true ∧ (Instr.canFrameReceived 0 ⟨1, 0, 2, [1], false⟩).wf = false := by decide
theorem test_wf_plc : (Instr.plcBurstReceived (List.replicate 16 0) 0 0).wf = true ∧ (Instr.plcBurstReceived (List.replicate 15 0) 0 0).wf = false := by decide
theorem test_wf_registers : (Instr.registerWrite 4 0x40700000 0).wf = false ∧ (Instr.registerWrite 4 0x406FFFFC 0).wf = true := by decide

/-! ## Words written out from the encodings of R80 and R87 to R98 -/

/-- Format A: opcode, rd, rs1, rs2, n, func. -/
theorem test_word_add : decodeTocon 0 (0b000000#6 ++ 3#5 ++ 4#5 ++ 5#5 ++ 0#5 ++ 0b000001#6) = some (.add 0 3 4 5) := by decide
theorem test_word_qmac : decodeTocon 1 (0b000001#6 ++ 7#5 ++ 6#5 ++ 8#5 ++ 30#5 ++ 0b000110#6) = some (.qmac 1 7 6 8 30) := by decide
theorem test_word_heartbeat : decodeTocon 2 (0b000010#6 ++ 0#5 ++ 0#5 ++ 0#5 ++ 0#5 ++ 0b000110#6) = some (.heartbeat 2) := by decide
/-- Formats I, M and B: opcode, two registers, imm16. -/
theorem test_word_addi : decodeTocon 3 (0x04#6 ++ 2#5 ++ 1#5 ++ 0xFFFF#16) = some (.addi 3 2 1 0xFFFF) := by decide
theorem test_word_lw : decodeTocon 4 (0x14#6 ++ 3#5 ++ 2#5 ++ 0#16) = some (.lw 4 3 2 0) := by decide
theorem test_word_sd : decodeTocon 4 (0x1B#6 ++ 3#5 ++ 2#5 ++ 8#16) = some (.sd 4 3 2 8) := by decide
theorem test_word_cinv : decodeTocon 4 (0x1D#6 ++ 0#5 ++ 2#5 ++ 8#16) = some (.cinv 4 2 8) := by decide
theorem test_word_bgeu : decodeTocon 5 (0x25#6 ++ 1#5 ++ 2#5 ++ 3#16) = some (.bgeu 5 1 2 3) := by decide
/-- Format U: opcode, three registers, imm11. -/
theorem test_word_ucmd : decodeTocon 6 (0x28#6 ++ 13#5 ++ 4#5 ++ 3#5 ++ 0x200#11) = some (.ucmdStaged 6 13 4 3 0) := by decide
theorem test_word_uwait : decodeTocon 6 (0x29#6 ++ 13#5 ++ 4#5 ++ 3#5 ++ 33#11) = some (.uwait 6 13 4 3 33) := by decide
theorem test_word_evpost : decodeTocon 7 (0x2A#6 ++ 7#5 ++ 0#5 ++ 1#5 ++ 0x0E7#11) = some (.evpost 7 7 0 1 0x0E7) := by decide
theorem test_word_rqdone : decodeTocon 7 (0x2C#6 ++ 0#5 ++ 1#5 ++ 2#5 ++ 1#11) = some (.rqdone 7 1 2 1) := by decide
theorem test_word_rinse : decodeTocon 7 (0x2E#6 ++ 14#5 ++ 0#5 ++ 0#5 ++ 1#11) = some (.rinse 7 14 0 1) := by decide
theorem test_word_step : decodeTocon 7 (0x30#6 ++ 1#5 ++ 0#3 ++ 0#18) = some (.step 7 1 0) := by decide
/-- A field that must be zero, and opcodes and functions that are reserved. -/
theorem test_word_reserved : decodeTocon 0 0x00642841 = none ∧ decodeTocon 0 0x0000003F = none ∧ decodeTocon 0 0xFC000000 = none := by decide

/-! ## The instruction set -/

/-- In the statements about instructions the one hypothesis on every form is that the engine is ready; further ones are below. -/
theorem witness_ready : ∀ e : Fin 8, (run e).ready e = true := by decide +kernel
theorem witness_DivideGroup : (reg (run 0) 0 1 (-7)).ready 0 = true ∧ ((reg (run 0) 0 1 (-7)).eng 0).g 1 ≠ 0 ∧ ((reg (run 0) 0 1 (-7)).eng 0).g 2 = 0 := by decide +kernel
/-- -7 / 2 is -3 with remainder -1 (R87). -/
theorem test_div : regAfter (.div 0 3 1 2) (reg (reg (run 0) 0 1 (-7)) 0 2 2) 0 3 = some (-3) ∧ regAfter (.rem 0 3 1 2) (reg (reg (run 0) 0 1 (-7)) 0 2 2) 0 3 = some (-1) := by decide +kernel
theorem witness_JumpsAndBranches :
    let s := reg (reg (run 0) 0 1 0x100) 0 2 0x102
    s.ready 0 = true ∧ (0 : DWord) + BitVec.ofInt 64 ((3 : BitVec 16).toInt * 4) = 12 ∧ ¬0x20000 ≤ (12 : DWord).toNat ∧ 0x20000 ≤ ((0 : DWord) + BitVec.ofInt 64 ((0xFFFF : BitVec 16).toInt * 4)).toNat ∧
    ((s.eng 0).g 1).toNat % 4 = 0 ∧ ((s.eng 0).g 2).toNat % 4 ≠ 0 := by decide +kernel
/-- Branches reach backwards: offset -1 from pc 8 is 4 (R81). -/
theorem test_branch_back : ((match exec (.beq 0 0 0 0xFFFF) ((run 0).setEng 0 (((run 0).eng 0).setPc 8)) with | .next t => (t.eng 0).pc | _ => 0)) = 4 := by decide +kernel
theorem witness_QFormatGroup : low (((reg (run 0) 0 1 0x100000000).eng 0).g 1) = 0 ∧ low (((reg (run 0) 0 1 3).eng 0).g 1) ≠ 0 ∧ ((reg (run 0) 0 1 3)).ready 0 = true := by decide +kernel
/-- The largest Q value plus one saturates (R86). -/
theorem test_qadd : regAfter (.qadd 0 3 1 2) (reg (reg (run 0) 0 1 0x7FFFFFFF) 0 2 1) 0 3 = some 0x7FFFFFFF ∧ regAfter (.qmul 0 3 1 2 1) (reg (reg (run 0) 0 1 3) 0 2 1) 0 3 = some 2 := by decide +kernel
theorem witness_SystemGroup :
    let s := (run 1).setEng 1 { (run 1).eng 1 with inTrap := [8] }
    s.ready 1 = true ∧ (s.eng 1).ctx ∈ (s.eng 1).inTrap ∧ (run 1).ready 1 = true ∧ ((run 1).eng 1).ctx ∉ ((run 1).eng 1).inTrap ∧ (run 1).haltRefusal 1 ≠ none ∧
    ((run 1).setF SEC_DBG_STAT_granted 2).haltRefusal 1 = none ∧ ((s.eng 1).g 1).toNat < 0x20000 := by decide +kernel
theorem witness_FenceCompletes :
    let s := (run 1).setEng 1 { (run 1).eng 1 with fence := true }
    (s.eng 1).fence = true ∧ s.lowestSlot 1 = 8 := by decide +kernel

/-! ## Memory -/

theorem witness_Loads :
    let s := reg (run 0) 0 1 0x10000100
    s.ready 0 = true ∧ plain (regionOf ((s.eng 0).g 1).toNat) = true ∧ mayLoad 0 (regionOf ((s.eng 0).g 1).toNat) = true ∧ mayStore 0 (regionOf ((s.eng 0).g 1).toNat) = true ∧ ((s.eng 0).g 1).toNat % 8 = 0 ∧ s.eccHit (memKey 0 ((s.eng 0).g 1).toNat) 8 = false ∧
    { s with ecc := [memKey 0 0x10000107] }.eccHit (memKey 0 ((s.eng 0).g 1).toNat) 8 = true := by decide +kernel
/-- A byte 0x80 is loaded with its sign by LB and without by LBU (R87). -/
theorem test_lb : regAfter (.lb 0 2 1 0) ((reg (run 0) 0 1 0x10000100).wrB (sramKey 0 0x10000100) 0x80) 0 2 = some (-128) ∧
    regAfter (.lbu 0 2 1 0) ((reg (run 0) 0 1 0x10000100).wrB (sramKey 0 0x10000100) 0x80) 0 2 = some 128 := by decide +kernel
theorem witness_MemoryTraps :
    (0x10000101 : Nat) % 2 ≠ 0 ∧ mayLoad 0 (regionOf 0x60000000) = false ∧ mayStore 0 (regionOf 0x100) = false ∧ regionOf 0x100 ≠ .outbox ∧ regionOf 0x40030000 = .csr ∧ 0x40030000 % 8 = 0 := by decide +kernel
theorem witness_RegisterAccess :
    right (run 7) 7 SEC_MODE = 3 ∧ right (run 7) 7 0x40030004 = 1 ∧ right (run 7) 7 0x406FF000 = 0 ∧ right (run 0) 0 SEC_MODE = 2 ∧ ((run 7).csrLoad 7 SEC_MODE).isSome = true ∧ regionOf SEC_MODE = .csr := by decide +kernel
theorem witness_Cache :
    let s := (reg (run 0) 0 1 0x100000040).setEng 0 { (reg (run 0) 0 1 0x100000040).eng 0 with cache := [⟨0x4000001, true, List.replicate 64 7⟩] }
    s.ready 0 = true ∧ s.pwr.dramAsleep = false ∧ regionOf ((s.eng 0).g 1).toNat = .dram ∧ ((s.eng 0).g 1).toNat % 8 = 0 ∧ (takeLine (((s.eng 0).g 1).toNat / 64) (s.eng 0).cache).isSome = true ∧
    regAfter (.ld 0 2 1 0) s 0 2 = some 0x0707070707070707 ∧
    s.dirtyLine 0 (((s.eng 0).g 1).toNat / 64) = true ∧ { s with ecc := [0x10000007F] }.eccHit (64 * (((s.eng 0).g 1).toNat / 64)) 64 = true ∧ s.eccHit 0x100000040 64 = false ∧
    (takeLine 5 (s.eng 0).cache).isNone = true ∧ { s with pwr := { s.pwr with dramAsleep := true } }.pwr.dramAsleep = true := by decide +kernel
/-- The three forms that complete: a granted, an ignored, an outside and a refused write, and a ready engine. -/
theorem witness_WritesAndCacheComplete :
    SEC_MODE % 4 = 0 ∧ right State.reset 7 SEC_MODE = 3 ∧ right State.reset 7 0x40030004 = 1 ∧ right State.reset 7 0x406FF000 = 0 ∧ right State.reset 0 SEC_MODE = 2 ∧ (run 4).ready 4 = true ∧ (run 0).pwr.dramAsleep = false := by
  decide +kernel

/-! ## Unit commands, waits, events, requests, frames -/

/-- Engine e in a frame of slot k with a table of rows at a base. -/
def framed (s : State) (e k base rows : Nat) : State :=
  let n := s.eng e
  s.setEng e (({ n with ctx := k, tp := SMap.set 0 n.tp k (BitVec.ofNat 64 base) }).setSlot k { Slot.reset with st := .active, cur := ⟨base, 64, rows, 1, 0⟩, left := rows })

theorem witness_UnitCommands :
    let s := framed (reg (run 7) 7 16 (BitVec.ofNat 64 SEC_MODE)) 7 0 0x10004000 2
    s.ready 7 = true ∧ (s.eng 7).g 16 = BitVec.ofNat 64 SEC_MODE ∧ right s 7 SEC_MODE = 3 ∧ s.gap = false ∧ (s.eng 7).ctx ≠ 8 ∧ (s.eng 7).staging.length + (s.eng 7).releasing.length < 512 ∧
    ((run 7).eng 7).ctx = 8 ∧ { s with gap := true }.gap = true := by decide +kernel
theorem witness_ScrubAndRelease :
    let n := { (run 7).eng 7 with staging := [⟨8, SEC_MODE, 2⟩, ⟨0, SEC_MODE, 2⟩], releasing := [⟨0, SEC_MODE, 2⟩] }
    let s := (run 7).setEng 7 n
    s.ready 7 = true ∧ s.clocked = true ∧ { s with gap := true }.clocked = true ∧ s.gap = false ∧ (s.eng 7).releasing = [⟨0, SEC_MODE, 2⟩] ∧ right s 7 SEC_MODE = 3 ∧ ((run 7).eng 7).releasing = [] ∧
    (n.staging.filter fun x => x.ctx == 8).length = 1 := by decide +kernel
theorem witness_UnitWaits :
    let s := reg (run 7) 7 1 (BitVec.ofNat 64 SEC_MODE)
    let w := fun c => s.setEng 7 { s.eng 7 with wait := some ⟨SEC_MODE, 0, true, 5, 2, 0⟩, cycles := c }
    s.ready 7 = true ∧ (s.csrLoad 7 SEC_MODE).map (·.1) = some 1 ∧ (1 : Nat).testBit 0 = true ∧ (1 : Nat).testBit 1 = false ∧ s.csrLoad 7 0x406FF000 = none ∧ ((w 39).waiting 7).isSome = true ∧ (w 39).lowestSlot 7 = 8 ∧
    ((w 39).eng 7).cycles < 0 + 8 * 5 ∧ 0 + 8 * 5 ≤ ((w 40).eng 7).cycles ∧ (w 40).clocked = true := by decide +kernel
theorem witness_Posting :
    let s := reg (run 2) 2 1 0x7000000100000000
    s.ready 2 = true ∧ (∀ n < 8, s.f (ENG_QUEUE_STAT_event_idx n) < 256) ∧ ((s.eng 2).g 1).toNat / 2 ^ 32 % 2 ^ 16 = 1 ∧ (7 : BitVec 5).toNat ∈ [0, 1, 7] := by decide +kernel
/-- A queue that holds one request. -/
def asked : State := (run 1).setQueue (.queue 1 0) ⟨[⟨req 2 0x0101 5 (connScope 0) 0, []⟩], [], []⟩
theorem witness_RequestsTaken :
    let s := reg asked 1 1 0x10001000
    let m := reg { (run 4) with mailbox := ⟨[⟨req 2 0x0401 5 (connScope 0) 0, []⟩], [], []⟩ } 4 1 0x10001000
    s.ready 1 = true ∧ (s.eng 1).takenIn 8 = none ∧ (s.queue (.queue 1 0)).items.length = 1 ∧ (s.queue (.queue 1 1)).items = [] ∧ ((s.eng 1).g 1).toNat % 32 = 0 ∧ m.ready 4 = true ∧ m.mailbox.items.length = 1 ∧
    ((s.eng 1).setTaken 8 (some ⟨.queue 1 0, ⟨req 2 0x0101 5 (connScope 0) 0, []⟩, false⟩)).takenIn 8 ≠ none := by decide +kernel
theorem witness_RequestsDone :
    let x : Taken := ⟨.queue 1 0, ⟨req 3 0x0101 5 (connScope 0) 0, []⟩, false⟩
    let s := (run 1).setEng 1 (((run 1).eng 1).setTaken 8 (some x))
    s.ready 1 = true ∧ (s.eng 1).takenIn 8 = some x ∧ x.item.req.periodKind = 0 ∧ x.item.req.origId.toNat = (2 : Fin 8).val + 1 ∧ x.item.req.replyWanted = false ∧ (s.eng 2).restarting = false ∧
    s.f (ENG_QUEUE_STAT_result_idx 2) < 256 := by decide +kernel
theorem witness_PeriodRinse :
    ownsPeriod 0 2 = true ∧ ownsPeriod 0 3 = false ∧ ownsPeriod 1 8 = true ∧ ownsPeriod 2 1 = true ∧ ((run 1).eng 1).g 0 = 0 ∧ (((reg (run 1) 1 1 8).eng 1).g 1).toNat = 8 ∧ (reg (run 1) 1 1 8).ready 1 = true := by decide +kernel
/-- RINSE of T0's period gives the new count (R97). -/
theorem test_rinse : regAfter (.rinse 0 3 0 2) (run 0) 0 3 = some 1 ∧ regAfter (.rinse 2 3 0 1) (run 2) 2 3 = some 0 := by decide +kernel

theorem witness_TableStep :
    let s := framed (run 0) 0 2 0x10004000 3
    let z := framed (run 0) 0 2 0x10004000 0
    let p := s.setEng 0 ((s.eng 0).setSlot 1 { Slot.reset with st := .pending })
    let o := s.setEng 0 ((s.eng 0).setSlot 2 { (s.eng 0).slot 2 with ovr := true })
    (run 0).ready 0 = true ∧ ((run 0).eng 0).ctx ≠ 2 ∧ s.ready 0 = true ∧ (s.eng 0).ctx = 2 ∧ ((s.eng 0).slot 2).ovr = false ∧ ((s.eng 0).slot 2).left = 3 ∧
    (∀ j < 2, ((s.eng 0).slot j).st = .idle) ∧ ((z.eng 0).slot 2).left = 0 ∧ ((z.eng 0).slot 2).held = false ∧ (∀ j < 8, j ≠ 2 → ((z.eng 0).slot j).st = .idle) ∧
    ((p.eng 0).slot 0).st = .idle ∧ ((p.eng 0).slot 1).st = .pending ∧ (o.eng 0).ctx = 2 ∧ o.ready 0 = true ∧ ((o.eng 0).slot 2).ovr = true := by decide +kernel

/-! ## Slots, cores and queues -/

theorem witness_SlotTicks :
    let z := st [(ENG_CTRL_run 0, 1), (ENG_SLOT_CFG_en 0 2, 1)]
    let timed := fun (now epoch : Nat) (last : Option Nat) (s : State) => let s := s.setEng 0 ((s.eng 0).setSlot 2 { (s.eng 0).slot 2 with per := 100, ofs := 128, lastAt := last }); { s with now := now, epoch := epoch }
    let s := timed 2000 0 none z
    let a := timed 10000 4000 (some 6000) (framed z 0 2 0x10004000 3)
    let p := timed 10000 4000 (some 3999) (framed (z.setEng 0 ((z.eng 0).setSlot 2 { Slot.reset with st := .pending })) 0 5 0x10004000 3)
    let on := fun s : State => let x := (s.eng 0).slot 2; let first := s.epoch + 40 * (x.ofs * x.per / 256)
      s.fb (ENG_SLOT_CFG_en 0 2) && s.fb (ENG_CTRL_run 0) && s.clocked && decide (x.per ≠ 0 ∧ first ≤ s.now ∧ (s.now - first) % (40 * x.per) = 0) &&
        match x.lastAt with
        | none => true
        | some t => decide (if t < s.epoch then t + 40 * x.per ≤ s.now else t < s.now)
    on s = true ∧ on a = true ∧ on p = true ∧ on (timed 2001 0 none z) = false ∧ on (timed 1999 0 none z) = false ∧ on (timed 2000 0 (some 2000) z) = false ∧ on (timed 6000 4000 (some 2001) z) = false ∧
    on (timed 2000 0 none (z.setF SEC_BOOT_STAT_stage 3)) = false ∧ ((s.eng 0).slot 2).st = .idle ∧ (s.eng 0).ctx = 8 ∧ (s.eng 0).fence = false ∧ s.fb (ENG_STATUS_halted 0) = false ∧ (∀ j < 8, ((s.eng 0).slot j).st = .idle) ∧
    ((a.eng 0).slot 2).st = .active ∧ (a.eng 0).ctx = 2 ∧ ((p.eng 0).slot 2).st = .pending ∧ (p.eng 0).ctx ≠ 8 ∧ (p.eng 0).ctx = 5 ∧ s.f (ENG_SLOT_PERIOD_period 0 0) = 0 ∧
    (st [(ENG_SLOT_PERIOD_period 0 0, 100)]).f (ENG_SLOT_PERIOD_period 0 0) ≠ 0 := by decide +kernel
theorem witness_SlotEnables :
    let s := st [(ENG_SLOT_PERIOD_period 1 2, 9999), (ENG_SLOT_BASE_base 1 2, 0x1000000)]
    let p := s.f (ENG_SLOT_PERIOD_period 1 2)
    let base := fun s : State => 16 * s.f (ENG_SLOT_BASE_base 1 2)
    0 < p ∧ p < 10000 ∧ 0x10000000 ≤ base s ∧ base s < 0x10020000 ∧ base State.reset < 0x10000000 ∧ s.fb (ENG_SLOT_CFG_en 1 2) = false ∧
    (s.setF (ENG_SLOT_CFG_en 1 2) 1).fb (ENG_SLOT_CFG_en 1 2) = true ∧ (s.eng 1).takenIn 2 = none ∧ (∀ j < 8, ((s.eng 1).slot j).ovr = false) := by decide +kernel
theorem witness_EngineCores :
    let boot := fun s : State => { s with mode := { s.mode with booted := true } }
    let s := boot (run 1)
    let i := s.maq.imgBuf
    let r := boot ((st []).setEng 1 { Engine.reset with restarting := true })
    let p := (r.wrBytes (i + 0x14) [1, 0]).wrBytes (i + 0x40) ([1, 1, 0, 0] ++ bytesOf 0x100 4 ++ bytesOf 8 4 ++ bytesOf 0 4 ++ bytesOf 0x1FFF8 8)
    s.mode.booted = true ∧ s.f SEC_BOOT_STAT_stage ≠ 10 ∧ (s.eng 1).restarting = false ∧ s.fb (ENG_CTRL_run 1) = true ∧ r.fb (ENG_CTRL_run 1) = false ∧ (boot (st [])).fb (ENG_CTRL_run 1) = false ∧ (r.eng 1).restarting = true ∧
    (p.eng 1).restarting = true ∧ p.imageOf 1 = i ∧ p.rd (i + 0x14) 2 = 1 ∧ p.secEntry i 0 = (1, 1, 0x100, 8, 0x1FFF8) ∧ 0x1FFF8 + 8 ≤ 0x20000 ∧ Memory.wf p.mem = true ∧ i + 0x100 + 8 ≤ sramKey 0 0 := by decide +kernel
theorem witness_Halts :
    let s := st [(ENG_CTRL_run 1, 1), (SEC_DBG_STAT_granted, 2), (ENG_STATUS_halted 1, 1), (ENG_CTRL_halt_req 1, 1)]
    let w := (framed s 1 0 0x10004000 2).wrBytes (sramKey 1 0) [0x06, 0, 0, 0x08]
    w.haltRefusal 1 = none ∧ w.fb (ENG_CTRL_run 1) = true ∧ w.debugHalted 1 = true ∧ w.frozen = false ∧ (w.eng 1).ctx ≠ 8 ∧ (w.eng 1).wait = none ∧ (w.eng 1).fence = false ∧ (w.eng 1).pc = 0 ∧
    w.rd (sramKey 1 0) 4 = 0x08000006 ∧ w.eccHit (sramKey 1 0) 4 = false ∧ (run 1).haltRefusal 1 ≠ none := by decide +kernel
/-- Q1 of T0 is bit 1 of q_en. -/
theorem witness_QueueGates :
    let s := st [(ENG_CTRL_q_en 0, 2)]
    s.queueDisabled (.queue 0 1) = false ∧ s.queueDisabled (.queue 0 0) = true ∧ s.f (ENG_CTRL_q_en 0) < 16 ∧ after (.queueEnable 7 0 0) s (ENG_CTRL_q_en 0) = some 3 ∧
    after (.queueDisable 7 0 1) s (ENG_CTRL_q_en 0) = some 0 := by decide +kernel
/-- An adapter's request to Q2 of T1, with its originator's list set up. -/
def arriving (en : Nat) : State := (st [(ENG_CTRL_q_en 1, en)]).setQueue (.queue 1 2) ⟨[], [], [⟨0x10, []⟩]⟩
theorem witness_RequestStored :
    let q := QId.queue 1 2
    let r := { req 0x10 0x0501 5 (connScope 0) 0 with replyWanted := false }
    let s := arriving 15
    let t := { s with trips := [⟨7, 3, siteScope, [], [], []⟩] }
    let f := s.setQueue q ⟨List.replicate 128 ⟨r, []⟩, [], [⟨0x10, []⟩]⟩
    maySend .adapter q = true ∧ origValid r.origId = true ∧ (s.queue q).lints.find? (·.orig == r.origId) = some ⟨0x10, []⟩ ∧ s.queueDisabled q = false ∧ s.tripped r.scope = false ∧
    s.clocked = true ∧ (s.queue q).items.length ≠ 128 ∧ r.periodKind = 0 ∧ superseding r.opcode = false ∧ origEngine r.origId = none ∧ (arriving 0).queueDisabled q = true ∧ t.queueDisabled q = false ∧ t.tripped r.scope = true ∧
    (f.queue q).items.length = 128 ∧ f.tripped r.scope = false := by decide +kernel
theorem witness_RequestUnentitled : maySend (.engine 2) (.queue 4 0) = false ∧ maySend .adapter .mailbox = false ∧ maySend .service (.queue 0 0) = false ∧ (st []).clocked = true := by decide +kernel
/-- An access record goes to T7 for a write of another engine's register (R17). -/
theorem witness_WritesRefused : after (.kick 1 0 0) State.reset (ENG_QUEUE_STAT_event_idx 7) = some 1 ∧ after (.kick 1 0 0) State.reset (ENG_STATUS_cfg_err 0) = some 0 ∧
    after (.kick 7 0 0) State.reset (ENG_STATUS_cfg_err 0) = some 1 ∧ State.reset.coilEng 100 = 1 := by decide +kernel
theorem witness_RegisterWrites :
    right State.reset 7 SEC_MODE = 3 ∧ right State.reset 0 SEC_MODE = 2 ∧ right State.reset 7 0x40030004 = 1 ∧ right State.reset 7 0x406FF000 = 0 ∧ SEC_MODE % 4 = 0 ∧
    (PHU_EVENTS_sense_fail 255).key / 32 % 4 = 0 ∧ phuEng 255 = 3 := by decide +kernel

/-! ## Clock and supply -/

/-- A PLL state. -/
def pllAt (k : Nat) : State :=
  let s := st [(CLK_STATUS_state, k)]
  { s with clk := { s.clk with begun := true } }
theorem witness_LockWindows :
    let with_ := fun (k : Nat) (hard pulled : Bool) (inLock windows : Nat) => { pllAt k with clk := { (pllAt k).clk with hard := hard, pulled := pulled, inLock := inLock, acqWindows := windows } }
    let phu := fun s : State => s.setF (PHU_CTRL_en 255) 1
    State.reset.clk.begun = false ∧ (pllAt 0).clk.begun = true ∧ (pllAt 0).mode.keep = false ∧ (with_ 0 true false 3 62).pll = 0 ∧ (with_ 0 true false 3 62).clk.hard = true ∧ (with_ 0 true false 3 62).clk.inLock = 3 ∧
    (with_ 0 true false 2 62).clk.acqWindows < 63 ∧ 63 ≤ (with_ 0 true false 2 63).clk.acqWindows ∧ (with_ 3 false true 3 0).clk.pulled = true ∧ (with_ 3 false true 3 0).pll = 3 ∧ (with_ 3 false true 3 0).clk.hard = false ∧
    (phu (with_ 0 false false 0 0)).phuAny = true ∧ ((phu (with_ 0 false false 0 0)).setF CLK_SLEW_CFG_slew_max 0).f CLK_SLEW_CFG_slew_max = 0 ∧ ((phu (with_ 0 false false 0 0)).setF CLK_SLEW_CFG_slew_max 9).f CLK_SLEW_CFG_slew_max ≠ 0 ∧
    (pllAt 1).pll = 1 ∧ (pllAt 2).pll = 2 ∧ ((pllAt 2).setF CLK_CTRL_pll_en 1).fb CLK_CTRL_pll_en = true ∧ ((pllAt 2).setF CLK_CTRL_pll_en 0).fb CLK_CTRL_pll_en = false ∧ (pllAt 4).pll = 4 ∧
    (3 : Int).natAbs ≤ 8 ∧ 8 < (9 : Int).natAbs ∧ (-2 : Int).natAbs ≤ 2 := by decide +kernel
theorem witness_Acquisitions :
    let f := st [(CLK_STATUS_state, 4), (SEC_BOOT_STAT_stage, 3), (SEC_BOOT_STAT_fail, 1), (CLK_STATUS_src, 0)]
    let c := st [(SEC_BOOT_STAT_stage, 3)]
    f.pll = 4 ∧ f.f SEC_BOOT_STAT_stage = 3 ∧ f.f SEC_BOOT_STAT_fail = 1 ∧ f.mode.booted = false ∧ f.f CLK_STATUS_src = 0 ∧ c.clk.begun = false ∧ (atTick 2000000 c).now ≤ c.mode.released + 2000000 ∧
    c.mode.released + 2000000 ≤ (atTick 2000000 c).now ∧ f.clk.xinAt + 400000000 ≤ (atTick 400000000 f).now ∧ ¬(f.clk.xinAt + 400000000 ≤ (atTick 399999999 f).now) ∧ State.reset.f SEC_BOOT_STAT_stage ≠ 3 ∧
    (pllAt 1).pll = 1 ∧ (pllAt 4).pll = 4 := by decide +kernel
/-- An acquisition that began at tick 5, and a hard return. -/
def acquiring (n : Nat) : State := atTick n { pllAt 0 with clk := { (pllAt 0).clk with acqAt := 5 } }
def returning : State := { pllAt 3 with clk := { (pllAt 3).clk with hard := true } }
theorem witness_AcquisitionEnds :
    (acquiring 67108869).f CLK_STATUS_src ≠ 1 ∧ (acquiring 0).clk.begun = true ∧ (acquiring 0).pll = 0 ∧ (acquiring 0).phuAny = false ∧ 5 + 64 * 1048576 ≤ (acquiring 67108869).now ∧ (acquiring 67108868).now < 5 + 64 * 1048576 ∧
    returning.pll = 3 ∧ returning.clk.hard = true ∧ (acquiring 67108869).mode.booted = false ∧ ((acquiring 67108869).setF SEC_BOOT_STAT_stage 3).f SEC_BOOT_STAT_stage = 3 := by decide +kernel
theorem witness_ClockCommands :
    (pllAt 1).pll = 1 ∧ (pllAt 1).phuAny = false ∧ (pllAt 0).pll ≠ 1 ∧ (st [(PHU_CTRL_en 0, 1)]).phuAny = true ∧ (st [(CLK_CTRL_pll_en, 0)]).fb CLK_CTRL_pll_en = false ∧
    (st [(CLK_CTRL_pll_en, 1)]).fb CLK_CTRL_pll_en = true := by decide +kernel
/-- Boot step 3 with a lane that is up and a release pending. -/
def releasing : State :=
  let s := st [(SEC_BOOT_STAT_stage, 3), (LANE_STATUS_state 31, 2), (SEC_LIFECYCLE_state, 2)]
  { s with clk := { s.clk with relPending := true } }
theorem witness_Releases :
    let r := atTick 400 releasing
    let d := fun n => atTick n (st [(CLK_STATUS_src, 3), (CLK_PPS_CFG_en, 1)])
    r.onPps = false ∧ r.clk.relPending = true ∧ r.clk.relAt + 400 ≤ r.now ∧ (atTick 399 releasing).now < releasing.clk.relAt + 400 ∧ r.frozen = false ∧ r.mode.keep = false ∧ r.phuAny = false ∧ State.reset.clk.relPending = false ∧
    (r.setF (PHU_CTRL_en 255) 1).phuAny = true ∧ ((r.setF CLK_STATUS_src 3).setF CLK_PPS_CFG_epoch_on_pps 1).onPps = true ∧ r.f (LANE_STATUS_state 31) = 2 ∧ r.f SEC_BOOT_STAT_stage = 3 ∧ r.lifecycle ≠ blank ∧
    ((r.setF SEC_LIFECYCLE_state 0).lifecycle = blank) ∧ (d 0).f CLK_STATUS_src = 3 ∧ (d 0).fb CLK_PPS_CFG_en = true ∧ (d 0).clk.ppsAt + 800000000 ≤ (d 800000000).now ∧ (d 799999999).now < (d 0).clk.ppsAt + 800000000 ∧
    { (d 0) with clk := { (d 0).clk with ppsRun := true } }.clk.ppsRun = true ∧ (⟨2, 0, false, 0⟩ : BootTests).dramFails = 2 ∧ (⟨1, 0, false, 0⟩ : BootTests).dramFails ≠ 2 := by decide +kernel
theorem witness_Feeds :
    let s := State.reset
    let g := { s with gap := true }
    let p := fun n => atTick n { s with pwr := { s.pwr with gapPfw := true, gapAt := 1 } }
    let e := st [(PWR_CTRL_selftest_en, 1)]
    s.gap = false ∧ s.fb PWR_STATUS_pfw = false ∧ s.mode.keep = false ∧ g.gap = true ∧ s.held = [] ∧ (p 8001).pwr.gapPfw = true ∧ (p 8001).now ≤ (p 8001).pwr.gapAt + 8000 ∧ (p 8002).pwr.gapAt + 8000 < (p 8002).now ∧ s.pwr.gapPfw = false ∧
    e.fb PWR_CTRL_selftest_en = true ∧ e.pwr.testAt + 4000000000 ≤ (atTick 4000000000 e).now ∧ (atTick 4000000000 e).mayTest = true ∧ ¬(e.pwr.testAt + 4000000000 ≤ (atTick 3999999999 e).now) ∧
    (st [(PWR_CTRL_selftest_en, 0)]).fb PWR_CTRL_selftest_en = false ∧ s.mayTest = true ∧ g.mayTest = false ∧ g.pwr.badInGap = 0 ∧ (∀ k < 128, g.fb (MTX_COIL_STAT_on k) = g.coilWanted k) ∧
    { s with mode := { s.mode with keep := true } }.mode.keep = true ∧ (s.setF PWR_STATUS_pfw 1).fb PWR_STATUS_pfw = true := by decide +kernel
theorem witness_HoldUp :
    let s := State.reset
    let b := st [(PWR_CTRL_boost_en, 1)]
    let r := st [(PWR_HOLD_STAT_cap, 47), (PWR_STATUS_hold_ready, 1), (PWR_HOLD_STAT_vhold, 208)]
    let m := r.setF SEC_MODE_mode 3
    s.mode.keep = false ∧ b.fb PWR_CTRL_boost_en = true ∧ b.fb PWR_STATUS_pfw = false ∧ (st [(PWR_CTRL_boost_en, 0)]).fb PWR_CTRL_boost_en = false ∧ s.f PWR_HOLD_STAT_cap < 47 ∧ 47 ≤ r.f PWR_HOLD_STAT_cap ∧ 208 ≤ r.f PWR_HOLD_STAT_vhold ∧
    (r.setF PWR_HOLD_STAT_vhold 207).f PWR_HOLD_STAT_vhold < 208 ∧ s.fb PWR_STATUS_hold_ready = false ∧ r.fb PWR_STATUS_hold_ready = true ∧ r.devMode ≠ 3 ∧ m.devMode = 3 ∧ s.pwr.nv = [] ∧ r.mode.f3 = 0 ∧
    (r.f PWR_HOLD_STAT_cap : Int) * 170 * (((64 : Nat) : Int) * (64 : Nat) - 4096) = 23040 * (0 : Nat) ∧ ((48 : Nat) : Int) * 170 * (((208 : Nat) : Int) * (208 : Nat) - 4096) = 23040 * (13872 : Nat) := by decide +kernel
theorem witness_PowerFail :
    let s := State.reset
    let p := fun n => atTick n { s.setF PWR_STATUS_pfw 1 with pwr := { s.pwr with pfwAt := some 7 } }
    let e := { p 0 with pwr := { (p 0).pwr with holdEnded := true } }
    let k := { s with mode := { s.mode with keep := true } }
    let c := fun n => atTick n { s with pwr := { s.pwr with cause := 1, causeAt := 9 } }
    let l := { k with pwr := { k.pwr with latch := true } }
    s.fb PWR_STATUS_pfw = false ∧ s.mode.keep = false ∧ s.held = [] ∧ s.pwr.cause = 0 ∧ (p 0).fb PWR_STATUS_pfw = true ∧ (p 0).pwr.cause = 0 ∧ (p 0).pwr.pfwAt = some 7 ∧ 7 + 4800000 ≤ (p 4800007).now ∧ ¬(7 + 4800000 ≤ (p 4800006).now) ∧
    (p 0).pwr.nv = [] ∧ (p 0).pwr.holdEnded = false ∧ e.pwr.holdEnded = true ∧ k.mode.keep = true ∧ k.pwr.latch = false ∧ (c 0).pwr.cause ≠ 0 ∧ (c 0).mode.keep = false ∧ 9 + 4800000 ≤ (c 4800009).now ∧ (c 4800008).now < 9 + 4800000 ∧
    s.f SEC_BOOT_STAT_stage = 1 ∧ l.pwr.latch = true ∧ (s.setF SEC_BOOT_STAT_stage 3).f SEC_BOOT_STAT_stage ≠ 1 ∧ ((p 0).setF (PWR_FEED_STAT_voltage 1) 4500).f (PWR_FEED_STAT_voltage 1) = 4500 ∧
    (p 0).f (PWR_FEED_STAT_voltage 0) < 4500 ∧ (p 0).f (PWR_FEED_STAT_voltage 1) < 4500 := by decide +kernel
/-- An operation taken by channel 4. -/
def nvTaken (resolve : Bool) : State := { st [] with pwr := { State.reset.pwr with nv := [⟨4, resolve, 0, 16, 0, 0, 0, 1, 0, List.replicate 16 7, false⟩] } }
theorem witness_NonVolatile :
    let s := st [(PWR_HOLD_STAT_budget_us, 65535)]
    let b := st [(PWR_NVW_CTRL_status 4, 1)]
    nvEng 4 = 7 ∧ s.nvRefusal 4 false = none ∧ s.f (PWR_NVW_CTRL_status 4) ≠ 1 ∧ b.f (PWR_NVW_CTRL_status 4) = 1 ∧ s.nvRefusal 4 true = none ∧ State.reset.nvRefusal 4 false ≠ none ∧
    slotAddr 4 0 16 0 + 64 * slotBlocks 16 ≤ 0x72000000 ∧ (nvTaken true).clocked = true ∧ State.reset.clocked = false ∧ (nvTaken true).nvWinner 4 0 0 16 = none ∧ (∀ j < 8, (nvTaken true).f (ENG_QUEUE_STAT_event_idx j) < 256) := by decide +kernel
theorem witness_Housekeeping :
    let s := st []
    let c := fun k : Nat => { s with pwr := { s.pwr with hkNext := k } }
    let d := st [(PWR_STATUS_die_level, 2)]
    s.mode.keep = false ∧ (c 16).pwr.hkNext = 16 ∧ (c 16).pwr.hkNext < 24 ∧ (st [(PWR_CTRL_hk_en, 0)]).fb PWR_CTRL_hk_en = false ∧ s.fb PWR_CTRL_hk_en = true ∧ s.pwr.hkNext = 0 ∧ d.f PWR_STATUS_die_level = 2 ∧ d.pwr.div4 = false ∧ s.clocked = true ∧ State.reset.clocked = false ∧
    { d with pwr := { d.pwr with thrAt := some 3 } }.pwr.thrAt = some 3 ∧ 3 + 400000000 ≤ (atTick 400000003 d).now ∧ (atTick 400000002 d).now < 3 + 400000000 ∧ s.pwr.thrAt = none ∧
    { s with pwr := { s.pwr with tamperRead := 1 } }.pwr.tamperRead / 2 ^ 0 % 2 = 1 ∧
    s.f PWR_STATUS_die_level ≠ 2 ∧ s.fb PWR_KEEP_STAT_on_vbak = false ∧ (s.setF PWR_KEEP_STAT_on_vbak 1).fb PWR_KEEP_STAT_on_vbak = true ∧ s.pwr.rtcNew = none ∧
    { s with pwr := { s.pwr with rtcNew := some 5 } }.pwr.rtcNew = some 5 ∧ (s.setF (loopEn 1) 1).fb (loopEn 1) = true ∧ s.fb (loopEn 1) = false ∧ s.pwr.tamper / 4 % 4 = 0 ∧ s.f PWR_TAMPER_log_idx < 8 := by decide +kernel

/-! ## Resets, watchdogs, modes -/

theorem witness_WarmResets :
    let s := State.reset
    let w := { s with mode := { s.mode with warden := true } }
    s.fb PWR_STATUS_pfw = false ∧ s.pwr.cause = 0 ∧ s.mode.keep = false ∧ w.mode.warden = true ∧ s.mode.warden = false ∧ (s.setF PWR_STATUS_pfw 1).fb PWR_STATUS_pfw = true ∧ s.pwr.nv = [] ∧
    s.mode.estA = false ∧ s.mode.estB = false := by decide +kernel
theorem witness_Watchdogs :
    let w := st [(LANE_STATUS_state 31, 2), (ENG_CTRL_run 7, 1)]
    (∀ e : Fin 8, (run e).fb (ENG_CTRL_run e) = true ∧ (run e).debugHalted e = false ∧ State.reset.fb (ENG_CTRL_run e) = false ∧ (run e).clocked = true ∧ ((run e).eng e).hbAt + 40000000 ≤ (atTick 40000000 (run e)).now ∧
      ¬((run e).eng e).hbAt + 40000000 ≤ (atTick 39999999 (run e)).now ∧ ((run e).setF (ENG_STATUS_double_trap e) 1).fb (ENG_STATUS_double_trap e) = true) ∧
    ((run 3).eng 3).hbAt + 40000 ≤ (atTick 40000 (run 3)).now ∧ w.mode.keep = false ∧ w.frozen = false ∧ w.f (LANE_STATUS_state 31) = 2 := by decide +kernel
theorem witness_ModeWrites :
    let m := fun k => st [(SEC_MODE_mode, k)]
    let h := m 5
    let v := { h with mode := { h.mode with svcHalt := true } }
    let c := fun k => (m k).setF SEC_ESTOP_tripped 1
    let o := (List.range 8).foldl (fun s e => s.setAll [(ENG_CTRL_run e, 1), (ENG_HB_hb_count e, 1)]) (st [(MET_STATUS_running, 1)])
    (m 2).devMode = 2 ∧ (m 2).syncCauses.anyCause = false ∧ (m 3).devMode = 3 ∧ (m 3).noGrant = true ∧ (m 3).phuAny = false ∧ (c 3).syncCauses.anyCause = true ∧ (m 4).devMode = 4 ∧ (m 4).syncCauses.anyCause = false ∧
    (∀ k < 8, (SMap.get SessInt.reset (m 2).sess k).step = 0) ∧ h.devMode = 5 ∧ h.mode.svcHalt = false ∧ v.mode.svcHalt = true ∧ v.fb PWR_STATUS_pfw = false ∧ v.pwr.cause = 0 ∧ v.mode.keep = false ∧
    o.devMode = 1 ∧ o.bootOver = true ∧ o.mode.sramBad = 0 ∧ { o with mode := { o.mode with sramBad := 2 } }.bootOver = true ∧ o.syncCauses.anyCause = false ∧ (o.setF SEC_ESTOP_tripped 1).syncCauses.anyCause = true ∧
    (o.setF SEC_ESTOP_tripped 1).bootOver = true ∧ (m 2).bootOver = false := by decide +kernel
theorem witness_EmergencyStop :
    let s := State.reset
    let a := fun n => atTick n { s with mode := { s.mode with estA := true, estAt := some (false, 11) } }
    let h := { s with now := 40000000, mode := { s.mode with estHigh := some 0 } }
    let t := h.setF SEC_ESTOP_tripped 1
    let f3 := fun k => { t with mode := { t.mode with f3 := k } }
    s.mode.estA = false ∧ s.mode.estB = false ∧ s.mode.keep = false ∧ s.frozen = false ∧ (s.setF SEC_FREEZE_STAT_state 2).frozen = true ∧ (a 0).mode.estA = true ∧ (a 0).mode.estAt = some (false, 11) ∧ 11 + 200000000 ≤ (a 200000011).now ∧
    ¬(11 + 200000000 ≤ (a 200000010).now) ∧ s.mode.estAt = none ∧ h.mode.estHigh = some 0 ∧ 0 + 40000000 ≤ h.now ∧ ¬(1 + 40000000 ≤ h.now) ∧ h.fb SEC_ESTOP_discrepancy = false ∧ t.fb SEC_ESTOP_tripped = true ∧
    (f3 (2 ^ 8)).mode.f3 ≠ 0 ∧ (∀ k < 13, k ≠ 8 → ¬(f3 (2 ^ 8)).mode.f3 / 2 ^ k % 2 = 1) ∧ (f3 (2 ^ 8 + 2 ^ 12)).mode.f3 / 2 ^ 12 % 2 = 1 ∧ (f3 (2 ^ 12)).causeStands 12 = true := by decide +kernel
theorem witness_EccErrors :
    let t := st [(ENG_CTRL_run 7, 1), (ENG_SLOT_CFG_en 7 3, 1)]
    let s := t.setEng 7 ((t.eng 7).setSlot 3 { Slot.reset with per := 100 })
    (s.timerTick 7 3).freshFrame 7 3 = true ∧ (t.timerTick 7 3).freshFrame 7 3 = false := by decide +kernel

/-! ## Cell lanes and phase units -/

theorem witness_LaneStates :
    let s := st [(LANE_CTRL_en 31, 1), (LANE_STATUS_state 31, 3)]
    let at_ := fun (k now : Nat) (l : LaneInt) => atTick now ((s.setF (LANE_STATUS_state 31) k).setLane 31 l)
    let tr := fun t => { LaneInt.reset with train := t, trainAt := 5 }
    let go := fun (n e : Nat) => { LaneInt.reset with train := .go 64, goN := n, echoes := e }
    laneEng 31 = 3 ∧ laneEng 0 = 2 ∧ s.clocked = true ∧ State.reset.clocked = false ∧ s.fb (LANE_CTRL_en 31) = true ∧ s.f (LANE_STATUS_state 31) = 3 ∧ (∀ k < 8, s.fb (PHU_CTRL_en (8 * 31 + k)) = false) ∧
    s.fb SEC_ESTOP_tripped = false ∧ s.fb PWR_STATUS_pfw = false ∧ s.fb SEC_FREEZE_STAT_state = false ∧ (at_ 1 12006 (tr (.align 3))).f (LANE_STATUS_state 31) = 1 ∧ 5 + 12000 < (at_ 1 12006 (tr (.align 3))).now ∧
    (at_ 1 12005 (tr (.align 3))).now ≤ 5 + 12000 ∧ ((at_ 1 0 (tr (.ident 64 none (some (1, 16))))).lane 31).train = .ident 64 none (some (1, 16)) ∧ halfDone none = false ∧
    ((at_ 1 0 (go 191 0)).lane 31).echoes / 2 ^ (319 - ((at_ 1 0 (go 191 0)).lane 31).goN) % 2 = 0 ∧ ((at_ 1 0 (go 191 (2 ^ 128))).lane 31).echoes / 2 ^ (319 - 191) % 2 = 1 ∧ ((at_ 2 0 (go 319 1)).lane 31).goN = 319 ∧
    ((at_ 2 0 (go 192 0)).lane 31).goN = 192 ∧ (at_ 2 0 (go 192 0)).f (LANE_STATUS_state 31) = 2 ∧ 100 ≤ ((at_ 2 400 LaneInt.reset).lane 31).badRun + (400 - ((at_ 2 400 LaneInt.reset).lane 31).upAt) / 4 ∧
    ((at_ 2 399 LaneInt.reset).lane 31).badRun + (399 - ((at_ 2 399 LaneInt.reset).lane 31).upAt) / 4 < 100 ∧ (st [(LANE_CTRL_en 31, 0)]).fb (LANE_CTRL_en 31) = false ∧ 3 ≤ (st []).f (LANE_STATUS_state 31) ∧
    ((st []).lane 31).parksLeft = 0 ∧ (((st []).setLane 31 { LaneInt.reset with parksLeft := 1 }).lane 31).parksLeft ≠ 0 := by decide +kernel
/-- A word 0x00000ABC's CRC-8 is computed, and a flipped bit is found. -/
theorem witness_LaneFrames :
    let data := fun w => BitVec.ofNat 40 (lineOf false false w).1
    let w := crcUp 0xABC * 2 ^ 24 + 0xABC
    let at_ := fun (k now : Nat) (l : LaneInt) => atTick now ((st [(LANE_STATUS_state 5, k), (LANE_CTRL_en 5, 1)]).setLane 5 l)
    let t := at_ 1 12000 { LaneInt.reset with train := .align 63 }
    let b := at_ 2 4 { LaneInt.reset with badRun := 99 }
    let x := at_ 3 4 { LaneInt.reset with parksLeft := 1 }
    let a := (at_ 2 4 { LaneInt.reset with auxN := 256 })
    rxFrame false (data w).toNat = .data w ∧ rxFrame false (data (w + 1)).toNat = .bad ∧ rxFrame false 0 = .bad ∧ rxFrame false (lineOf false true (trainFrame 0xB1 1)).1 = .train 0xB1 1 ∧
    rxFrame false (lineOf false true (trainFrame 0xB1 2)).1 = .train 0xB1 2 ∧ b.clocked = true ∧ (b.now - (b.lane 5).upAt) / 4 ≤ 1 ∧ (b.lane 5).badRun + 1 = 100 ∧ ((at_ 2 4 LaneInt.reset).lane 5).badRun + 1 < 100 ∧
    (b.now - b.epoch) % 4 = 0 ∧ (b.lane 5).sentAt ≠ some b.now ∧ t.f (LANE_STATUS_state 5) = 1 ∧ (t.lane 5).train = .align 63 ∧ t.now ≤ (t.lane 5).trainAt + 12000 ∧ ((at_ 1 12001 LaneInt.reset).lane 5).trainAt + 12000 < 12001 ∧
    ((at_ 2 3 LaneInt.reset).now - 0) % 4 ≠ 0 ∧ (at_ 0 4 LaneInt.reset).f (LANE_STATUS_state 5) = 0 ∧ ((at_ 1 4 { LaneInt.reset with train := .ident 63 none none }).lane 5).train = .ident 63 none none ∧
    x.f (LANE_STATUS_state 5) = 3 ∧ x.fb (LANE_CTRL_en 5) = true ∧ (x.setF (LANE_CTRL_en 5) 0).fb (LANE_CTRL_en 5) = false ∧ (x.lane 5).parksLeft ≠ 0 ∧ (b.lane 5).goN < 191 ∧ b.fb (LANE_CTRL_loopback 5) = false ∧
    (a.lane 5).auxN = 256 ∧ (b.lane 5).auxN < 256 ∧ sinc3 256 (SMap.get 0 (a.lane 5).hist 10) = 0 ∧ (65534 * (0 : Nat) : Int) = 2 ^ 24 * (-32767 + 32767) ∧
    b.now < SMap.get 0 (b.lane 5).itemAt 7 + 2048 ∧ ¬(2048 < SMap.get 0 (b.lane 5).itemAt 7 + 2048) ∧ (b.setStageT 5 7 100).stageT (8 * 5 + 7) ≠ 0x8000 ∧ (b.setStageT 5 7 0x8000).stageT (8 * 5 + 7) = 0x8000 := by decide +kernel
/-- D21.5 is 1010101010 at either disparity, K28.5 0011111010 at a negative one; D11.7 at a positive one takes the alternate form (IEEE 802.3 Clause 36, log 226). -/
theorem test_code_groups : encByte false 0xB5 = (0b1010101010, false) ∧ encByte true 0xB5 = (0b1010101010, true) ∧ (encComma false).1 = 0b0011111010 ∧ (encByte true 0xEB).1 = 0b1101001000 ∧
    decGroup false 0b1010101010 = some (false, 0xB5) := by decide +kernel
/-- A filter of 256 over all ones is at full scale. -/
theorem test_sinc3 : sinc3 256 (2 ^ 768 - 1) = 2 ^ 24 ∧ sinc3 256 0 = 0 := by decide +kernel
theorem witness_PhaseCommands :
    let s := st [(LANE_STATUS_state 31, 2), (PHU_CTRL_en 248, 1), (PHU_STATUS_latch_ot 249, 1)]
    phuEng 255 = 3 ∧ s.fb (PHU_CTRL_en 255) = false ∧ s.f (LANE_STATUS_state 31) = 2 ∧ s.fb (PHU_CTRL_en 248) = true ∧ State.reset.f (LANE_STATUS_state 31) ≠ 2 ∧ s.fb (PHU_STATUS_latch_ot 249) = true ∧
    s.fb (PHU_STATUS_latch_open 255) = false ∧ s.fb (PHU_STATUS_latch_sense 255) = false ∧ s.fb (PHU_STATUS_latch_ot 255) = false ∧ s.senseSrc 248 = none ∧ s.fb (PHU_STATUS_latch_open 248) = false ∧ (s.setF (PHU_STATUS_latch_open 248) 1).fb (PHU_STATUS_latch_open 248) = true ∧ s.stageT 248 = 0x8000 ∧
    (s.setStageT 31 7 0x8000).stageT 255 = 0x8000 ∧ (let c := (s.setStageT 31 7 100); c.stageT 255 ≠ 0x8000 ∧ toSigned 16 (c.stageT 255) < (c.f (PHU_STAGE_shut 255) : Int) - c.f (PHU_STAGE_hyst 255)) := by decide +kernel
theorem witness_PhaseCycle :
    let s := st [(LANE_STATUS_state 31, 2), (PHU_CTRL_en 255, 1), (PHU_CTRL_toff_min 255, 5), (PHU_FAULT_rise_min 255, 1), (PHU_FAULT_dens_lo 255, 10), (PHU_FAULT_dens_hi 255, 246)]
    let p := fun x : PhuInt => s.setPhu 255 x
    let r := { PhuInt.reset with waitSlot := false, fallAt := some 0, cyc := true, iCnt := 2, iSum := 65536 }
    let d := { r with delayed := true }
    let g := fun now => atTick now ((p { PhuInt.reset with riseAt := 100, tOn := 50, maxOn := 40 }).setF (PHU_STATUS_gate 255) 1)
    let f := (p { PhuInt.reset with first := some 0, due := [(9, true)] }).setF (PHU_STATUS_open_run 255) 2
    let w := fun x : SenseWin => s.setLane 31 { LaneInt.reset with win := [(7, x)] }
    s.clocked = true ∧ s.fb (PHU_CTRL_en 255) = true ∧ s.unlatched 255 = true ∧ s.fb (PHU_STATUS_gate 255) = false ∧ (s.phu 255).waitSlot = true ∧ s.fb (PHU_CTRL_burst 255) = false ∧ s.slotPhase 255 = 0 ∧
    s.atReference 255 (s.iFiltered 255) = true ∧ ((p r).phu 255).waitSlot = false ∧ ((p r).phu 255).fallAt = some 0 ∧ 0 + s.f (PHU_CTRL_toff_min 255) ≤ (atTick 5 s).now ∧ ¬(0 + s.f (PHU_CTRL_toff_min 255) ≤ (atTick 4 s).now) ∧
    ((p d).phu 255).delayed = true ∧ r.iSum = 1 * (r.iCnt * 32768 : Nat) ∧ (g 140).fb (PHU_STATUS_gate 255) = true ∧ ((g 140).phu 255).riseAt + Nat.min ((g 140).phu 255).tOn ((g 140).phu 255).maxOn ≤ (g 140).now ∧
    ¬(((g 139).phu 255).riseAt + Nat.min ((g 139).phu 255).tOn ((g 139).phu 255).maxOn ≤ (g 139).now) ∧ (f.phu 255).due = [(9, true)] ∧ (f.phu 255).first = some 0 ∧ (atTick 9 f).now = 9 ∧ (f.lane 31).flagged = false ∧
    f.iFiltered 255 - 0 < f.f (PHU_FAULT_rise_min 255) * 32768 ∧ f.f (PHU_STATUS_open_run 255) = 2 ∧ s.f (PHU_STATUS_open_run 255) < 2 ∧ (s.setF (PHU_FAULT_rise_min 255) 0).f (PHU_FAULT_rise_min 255) * 32768 ≤ f.iFiltered 255 - f.iFiltered 255 ∧
    s.f (LANE_STATUS_state 31) = 2 ∧ s.fb (PHU_STATUS_latch_sense 255) = false ∧ (SMap.get SenseWin.reset ((w ⟨64, 64, 0, 0⟩).lane 31).win 7).run = 64 ∧ (SMap.get SenseWin.reset ((w ⟨1, 256, 0, 9⟩).lane 31).win 7).count < s.f (PHU_FAULT_dens_lo 255) ∧
    (SMap.get SenseWin.reset ((w ⟨63, 255, 0, 9⟩).lane 31).win 8) = SenseWin.reset := by decide +kernel

/-! ## Connectors, ports, coils -/

/-- After one control frame the reference of an enabled connector has moved by its rate, 500 mV/ms over 0.01 ms (R196). -/
theorem witness_ControlFrame :
    let s := st [(CONN_CTRL_en 7, 1), (CONN_VSET_target 7, 400000)]
    s.clocked = true ∧ s.epoch ≤ s.now ∧ (s.now - s.epoch) % 4000 = 0 ∧ s.clk.frameAt = none ∧ ((atTick 3999 s).now - s.epoch) % 4000 ≠ 0 ∧ { s with clk := { s.clk with frameAt := some 0 } }.clk.frameAt = some s.now ∧
    s.fb (CONN_CTRL_en 7) = true ∧ s.fb (CONN_CTRL_en 0) = false ∧ (s.setPhu 255 { PhuInt.reset with shadow := some (1, 2) }).phu 255 = { PhuInt.reset with shadow := some (1, 2) } ∧
    (match exec .controlFrameBoundary s with | .next t => (t.conn 7).vref | _ => 0) = 500 * 65536 / 100 := by decide +kernel
theorem witness_ConnectorOutputs :
    let s := st []
    let c := s.setConn 7 { ConnInt.reset with steps := [(5, 9)], matchFrom := some 3, zeroFrom := some 3 }
    let m := (st [(CONN_MATCH_CFG_tol 7, 10), (CONN_MATCH_CFG_hold 7, 1), (CONN_MEAS_V_v 7, 150000), (CONN_MEAS_VBUS_v 7, 150000)]).setConn 7 { ConnInt.reset with matchFrom := some 3 }
    let b := st [(PHU_CTRL_dest 255, 7), (PHU_CTRL_en 255, 1)]
    let tap := fun x : Option Nat => (s.setDest 7 { DestInt.reset with tapAt := x })
    s.connEng 7 = 1 ∧ (c.conn 7).steps = [(5, 9)] ∧ (atTick 8 c).now < 9 ∧ ¬((atTick 9 c).now < 9) ∧ (s.conn 7).steps = [] ∧ 150000 ≤ m.fi (CONN_MEAS_V_v 7) ∧ m.fi (CONN_MEAS_VBUS_v 7) = 150000 ∧
    3 + m.f (CONN_MATCH_CFG_hold 7) * 400000 ≤ (atTick 400003 m).now ∧ ¬(3 + m.f (CONN_MATCH_CFG_hold 7) * 400000 ≤ (atTick 400002 m).now) ∧ (m.conn 7).matchFrom = some 3 ∧ s.clocked = true ∧ State.reset.clocked = false ∧
    b.f (PHU_CTRL_dest 255) = 7 ∧ b.fb (PHU_CTRL_en 255) = true ∧ (∀ n < 256, s.fb (PHU_CTRL_en n) = false) ∧ (s.fi (CONN_MEAS_I_i 7)).natAbs ≤ s.f (CONN_MATCH_CFG_i_zero 7) * 16384 ∧ (c.conn 7).zeroFrom = some 3 ∧
    3 + 400000 ≤ (atTick 400003 c).now ∧ s.fb (CONN_CTRL_en 7) = false ∧ (s.setF (CONN_CTRL_en 7) 1).fb (CONN_CTRL_en 7) = true ∧ ((tap none).dest 7).tapAt = none ∧ ((tap (some 0)).dest 7).tapAt = some 0 ∧ 0 + 1280 ≤ (atTick 1280 s).now ∧
    s.fb (BUF_PORT_CTRL_en 3) = false ∧ (st [(BUF_PORT_CTRL_en 3, 1)]).fb (BUF_PORT_CTRL_en 3) = true ∧ (s.conn 7).imdAt + 40000000 * (s.f (CONN_IMD_age 7) + 1) ≤ (atTick (40000000 * (s.f (CONN_IMD_age 7) + 1)) s).now ∧
    (st [(MTX_COIL_CMD_cmd (96 - 4), 1), (MTX_COIL_STAT_on (96 - 4), 1)]).leadOf 8 ≠ 0 ∧ s.portEng 0 < 8 := by decide +kernel
/-- A coil that is on with its feedback open. -/
def disagreeing (agreed : Bool) : State :=
  { st [(MTX_COIL_CMD_fb_mode 5, 1), (MTX_COIL_STAT_on 5, 1)] with coils := SMap.set CoilInt.reset [] 5 { CoilInt.reset with agreed := agreed, offFrom := some 8 } }
theorem witness_Coils :
    State.reset.coilEng 127 = 7 ∧ State.reset.coilEng 5 = 0 ∧ State.reset.closeRefused 0 5 = false ∧ (st [(MTX_COIL_CMD_cmd 0, 1)]).closeRefused 0 5 = true ∧ (disagreeing false).disagrees 5 = true ∧
    (disagreeing true).disagrees 5 = true ∧ State.reset.disagrees 5 = false ∧ (SMap.get CoilInt.reset (disagreeing true).coils 5).agreed = true ∧ (SMap.get CoilInt.reset (disagreeing false).coils 5).agreed = false ∧
    (disagreeing true).fb (MTX_COIL_STAT_on 5) = true ∧
    (disagreeing true).clocked = true ∧ (SMap.get CoilInt.reset (disagreeing true).coils 5).told = false ∧ (SMap.get CoilInt.reset (disagreeing true).coils 5).offFrom = some 8 ∧ 8 + 2000000 ≤ (atTick 2000008 (disagreeing true)).now ∧
    ¬(8 + 2000000 ≤ (atTick 2000007 (disagreeing true)).now) ∧ (SMap.get CoilInt.reset (disagreeing false).coils 5).onAt + 40000000 ≤ (atTick 40000000 (disagreeing false)).now ∧
    (disagreeing true).now < (SMap.get CoilInt.reset (disagreeing true).coils 5).onAt + (disagreeing true).f (MTX_COIL_CMD_pull 5) * 400000 ∧ (st [(MET_MEN_en 7, 1)]).fb (MET_MEN_en 7) = true := by decide +kernel

/-! ## Requests that the image's table step serves -/

/-- A state whose queues take requests. -/
def open_ : State := st [(ENG_CTRL_run 7, 1), (SEC_SVC_STAT_open, 1), (SEC_SVC_STAT_authorised, 3), (SEC_LIFECYCLE_state, 1)]
/-- Each kind of request is stored in its queue, so that Served holds of some state. -/
theorem witness_Served : ∀ p ∈ [(Sender.engine 4, QId.queue 1 1, req 5 0x0101 1 (connScope 7) 0), (.engine 1, .queue 0 1, req 2 0x0201 2 (connScope 7) 0), (.engine 5, .queue 0 1, req 6 0x0203 3 (connScope 7) 0),
      (.engine 6, .queue 0 1, req 7 0x0204 4 (portScope 3) 0), (.engine 6, .queue 0 1, req 7 0x0205 5 siteScope 0), (.adapter, .queue 0 2, req 0x20 0x0205 6 siteScope 0), (.engine 0, .queue 1 1, req 1 0x0101 7 (connScope 7) 0),
      (.engine 6, .queue 5 1, req 7 0x0581 8 (portScope 3) 0), (.engine 6, .queue 7 1, req 7 0x0501 9 (portScope 3) 0), (.engine 1, .mailbox, req 2 0x0401 10 (connScope 7) 0), (.engine 0, .mailbox, req 1 0x0404 11 siteScope 0),
      (.engine 7, .mailbox, req 8 0x0409 12 deviceScope 0), (.engine 0, .queue 6 1, req 1 0x0601 13 (unitScope 1 0) 0), (.adapter, .queue 6 2, req 0x10 0x0601 14 (unitScope 1 0) 0), (.service, svcQ, req 0xF000 0x0701 15 deviceScope 0)],
    (open_.commitB p.1 p.2.1 p.2.2).1 = true := by decide +kernel
theorem witness_Setpoints :
    let s := st [(MTX_COIL_CMD_cmd 0, 1), (MTX_COIL_STAT_on 0, 1)]
    (∀ d < 12, State.reset.leadOf d = 0) ∧ (∃ d < 12, s.leadOf d ≠ 0) := by decide +kernel
theorem witness_AllocationRequests :
    let r := req 2 0x0201 1 (connScope 7) (3 * 2 ^ 48)
    let h := req 6 0x0203 1 (connScope 7) 0
    let b := req 7 0x0204 1 (portScope 3) 0
    r.origId = 2 ∧ r.scope.kind = 3 ∧ r.scope.inst.toNat < 8 ∧ 2 < r.payload.toNat / 2 ^ 48 % 256 ∧ h.origId = 6 ∧ h.scope.kind = 3 ∧ b.origId = 7 ∧ b.scope.kind = 4 ∧ b.scope.inst.toNat < 4 ∧
    siteQ .adapter = .queue 0 2 ∧ (req 7 0x0205 1 siteScope 0).scope = siteScope ∧ (req 7 0x0205 1 siteScope 0).origId = 7 := by decide
theorem witness_AllocationFrame :
    let s := st [(ENG_SLOT_CFG_en 0 0, 1), (ENG_CTRL_run 0, 1), (SEC_MODE_mode, 4)]
    let t := atTick 4000 (s.setEng 0 ((s.eng 0).setSlot 0 { Slot.reset with per := 100 }))
    t.devMode = 4 ∧ (t.timerTick 0 0).freshFrame 0 0 = true ∧ (s.timerTick 0 0).freshFrame 0 0 = false ∧
    ∀ n < 96, t.fb (MTX_COIL_STAT_fail_close n) = false ∧ t.fb (MTX_COIL_STAT_fail_open n) = false := by decide +kernel
theorem witness_SessionRequests :
    let s := State.reset
    let t := s.setSes 7 fun x => { x with step := 4 }
    let o := (s.setTx 7 fun x => { x with isOpen := true, number := 5 }).setSes 7 fun x => { x with step := 10 }
    let q := o.setSes 7 fun x => { x with step := 11 }
    (s.ses 7).step = 0 ∧ (t.ses 7).step = 4 ∧ (o.tx 7).isOpen = true ∧ (o.tx 7).number = 5 ∧ (o.ses 7).step < 11 ∧ 11 ≤ (q.ses 7).step ∧ (s.tx 7).isOpen = false ∧ s.ocpp.events.length < 4096 ∧
    s.mayUnlock 7 = true ∧ (s.setF (CONN_MEAS_V_v 7) 60000).mayUnlock 7 = false ∧ s.fb (SESS_STATUS_locked 7) = false ∧ (s.setF (SESS_STATUS_locked 7) 1).fb (SESS_STATUS_locked 7) = true ∧
    (req 2 0 0 (connScope 7) 0).scope.inst.toNat < 8 := by decide +kernel
theorem witness_VesselsAndCalls :
    let s := (st [(SESS_CTRL_t1s_en 7, 1), (ENG_CTRL_q_en 1, 15), (ENG_CTRL_q_en 0, 15)])
    let v := s.setSes 7 fun x => { x with step := 3, last := some (.authorizationSetup 0) }
    let w := s.setSes 7 fun x => { x with step := 2 }
    s.lineUp = true ∧ 2 ≤ (v.ses 7).step ∧ v.fb (SESS_CTRL_t1s_en 7) = true ∧ (v.ses 7).last = some (.authorizationSetup 0) ∧ (w.ses 7).step = 2 ∧ (w.ses 7).last = none ∧ (w.queue (.queue 1 2)).lints = [] ∧
    w.queueDisabled (.queue 1 2) = false ∧ w.tripped (connScope 7) = false ∧ (w.queue (.queue 1 2)).items = [] ∧ w.f (SESS_SESSION_seq 7) % 4096 = w.period 8 7 % 4096 ∧ SMap.get [] w.ocpp.ids 15 = [] ∧
    (req 0x2F 0x0205 0 siteScope 0).opcode ≠ 0x0105 ∧ superseding (req 0x2F 0x0501 0 siteScope 0).opcode = false ∧ (w.queue (.queue 0 2)).lints = [] ∧ w.queueDisabled (.queue 0 2) = false ∧ w.tripped siteScope = false ∧
    (w.queue (.queue 0 2)).items = [] ∧ w.outbox = [] ∧ ¬2 ≤ (s.ses 7).step := by decide +kernel
theorem witness_SessionUnits :
    let s := st [(SESS_CTRL_en 7, 1), (SESS_STATUS_link 7, 1), (SESS_CPL_CFG_th0 7, 100)]
    let a := s.setSes 7 fun x => { x with await := some (true, 3), cpl := (0, 2), step := 10 }
    s.clocked = true ∧ State.reset.clocked = false ∧ (s.ses 7).await = none ∧ (a.ses 7).await = some (true, 3) ∧ 3 + 400000000 ≤ (atTick 400000003 a).now ∧ (atTick 400000002 a).now < 3 + 400000000 ∧ (a.ses 7).cpl.1 = 0 ∧
    2 ≤ (a.ses 7).cpl.2 ∧ (0 : Int) < a.f (SESS_CPL_CFG_th0 7) * 100 ∧ s.fb (SESS_CTRL_en 7) = true ∧ State.reset.fb (SESS_CTRL_en 7) = false ∧ s.fb (SESS_STATUS_link 7) = true ∧ State.reset.fb (SESS_STATUS_link 7) = false ∧
    (s.ses 7).unlockReq = none ∧ 1 ≤ (a.ses 7).step ∧ (a.ses 7).step ≤ 10 ∧ (s.ses 7).step = 0 := by decide +kernel
theorem witness_CoolingAndStrings :
    let s := st [(COOL_TS_kind 63, 1), (LSW_STATUS_tripped 31, 1), (LSW_CFG_inrush 30, 1), (LSW_HOLD_STAT_hold, 0)]
    let m := { s with maq := { s.maq with stringRelay := SMap.set 255 (SMap.set 255 s.maq.stringRelay 3 31) 4 30 } }
    let n := s.setSec fun x => { x with strNonce := SMap.set none x.strNonce 12 (some 5) }
    let r := { req 7 0 0 (portScope 3) 12 with indirect := true }
    s.clocked = true ∧ s.f (COOL_TS_kind 63) ≠ 0 ∧ State.reset.f (COOL_TS_kind 0) = 0 ∧ SMap.get 255 m.maq.stringRelay 3 = 31 ∧ 32 ≤ SMap.get 255 m.maq.stringRelay 5 ∧ m.fb (LSW_STATUS_tripped 31) = true ∧ m.lsFree 30 = true ∧
    m.fb (LSW_STATUS_out 30) = false ∧ m.fb (LSW_RAIL_STAT_uv 1) = false ∧ m.fb (LSW_CFG_inrush 30) = true ∧ SMap.get none n.sec.strNonce 12 = some 5 ∧ SMap.get none s.sec.strNonce 12 = none ∧
    r.origId = 7 ∧ r.scope = portScope (12 / 4) ∧ r.indirect = true ∧ m.gap = false ∧ m.fb LSW_HOLD_STAT_hold = false := by decide +kernel
/-- An indirect payload of 225 bytes for AUTH_VERIFY. -/
theorem witness_AuthVerify : ({ req 7 0 0 (portScope 0) (0x100000000 + 225 * 2 ^ 64) with indirect := true }).indLen = 225 := by decide

/-! ## Load switches, metering, billing -/

theorem witness_LoadSwitches :
    let s := st [(LSW_HOLD_STAT_hold, 0)]
    let e := fun n => atTick n (st [(LSW_STATUS_tripped 31, 1)])
    let o := st [(LSW_STATUS_out 31, 1), (LSW_CFG_shed_prio 31, 5), (LSW_STATUS_out 24, 1), (LSW_CFG_ol_th 31, 50)]
    let w := o.setLsw 31 { LswInt.reset with window := true, till := 4 }
    let c := fun l : LswInt => o.setLsw 31 l
    let r := (st [(LSW_RAIL_STAT_restarting 1, 1), (LSW_CTRL_cmd 31, 1)])
    let p := { r with lsPace := ⟨[(1, 9)], [(3, 9)]⟩ }
    s.lswEng = 5 ∧ (st [(LSW_HOLD_STAT_hold, 1)]).lswEng = 7 ∧ s.fb LSW_HOLD_STAT_hold = false ∧ s.gap = false ∧ (st [(LSW_HOLD_STAT_hold, 1)]).fb LSW_HOLD_STAT_hold = true ∧ s.fb (LSW_STATUS_out 31) = false ∧ s.fb (LSW_STATUS_latched 31) = false ∧
    s.fb (LSW_RAIL_STAT_uv 1) = false ∧ (st [(LSW_RAIL_STAT_uv 1, 1)]).fb (LSW_RAIL_STAT_uv 1) = true ∧ ((e 40000000).lsw 31).trippedAt + 40000000 ≤ (e 40000000).now ∧ (e 39999999).now < ((e 39999999).lsw 31).trippedAt + 40000000 ∧
    (e 0).fb (LSW_STATUS_tripped 31) = true ∧ o.fb (LSW_STATUS_out 31) = true ∧ (o.lsw 31).window = false ∧ (w.lsw 31).window = true ∧ (w.lsw 31).till ≤ (atTick 4 w).now ∧ (atTick 3 w).now < (w.lsw 31).till ∧
    ((c { LswInt.reset with high2A := 10000 }).lsw 31).high2A = 10000 ∧ ((c { LswInt.reset with high2A := 9999 }).lsw 31).high2A < 10000 ∧ ((c { LswInt.reset with lowOl := 1000 }).lsw 31).lowOl = 1000 ∧
    ((c { LswInt.reset with low2A := 9999 }).lsw 31).low2A = 9999 ∧ ((c { LswInt.reset with highOl := 999 }).lsw 31).highOl = 999 ∧ o.f (LSW_CFG_ol_th 31) * 2 = 100 ∧ s.shedNext < 16 ∧
    o.f (LSW_CFG_shed_prio 24) < o.f (LSW_CFG_shed_prio 31) ∧ r.fb (LSW_RAIL_STAT_restarting 1) = true ∧ r.lsFree 31 = true ∧ SMap.get 0 p.lsPace.rails 1 ≤ (atTick 9 p).now ∧ ¬(SMap.get 0 p.lsPace.rails 1 ≤ (atTick 8 p).now) ∧
    SMap.get 0 p.lsPace.groups 3 ≤ (atTick 9 p).now ∧ (atTick 8 p).now < SMap.get 0 p.lsPace.groups 3 ∧ State.reset.vswLost = false ∧ { s with vswLost := true }.vswLost = true ∧
    (o.f (LSW_GROUP_CFG_shed_t 3) : Int) ≤ (o.setF (LSW_GROUP_STAT_temp 3) (o.f (LSW_GROUP_CFG_shed_t 3))).fi (LSW_GROUP_STAT_temp 3) := by decide +kernel
theorem witness_MeterBlocks :
    let s := st []
    let r := (st [(MET_STATUS_running, 1), (MET_CTRL_run, 1), (MET_STATUS_samples, 1), (MET_STATUS_cut_pending, 1)])
    let c := s.setMet fun m => { m with closed := [List.replicate 0x5C0 0], unacked := 1 }
    let d := r.setMet fun m => { m with cutDue := true, slots := 99 }
    let e := r.setMet fun m => { m with slots := 100 }
    s.clocked = true ∧ s.fb MET_CTRL_run = false ∧ r.fb MET_CTRL_run = true ∧ s.epoch ≤ s.now ∧ r.fb MET_STATUS_running = true ∧ r.met.startAt ≤ r.now ∧ r.f MET_STATUS_samples ≠ 0 ∧ r.fb MET_STATUS_cut_pending = true ∧
    (r.setF MET_STATUS_cut_pending 0).fb MET_STATUS_cut_pending = false ∧ d.met.cutDue = true ∧ d.met.slots ≠ 100 ∧ d.fb MET_STATUS_cut_pending = true ∧ r.met.cutDue = false ∧ e.met.slots = 100 ∧
    s.bill.ask = none ∧ s.met.closed = [] ∧ c.met.closed = [List.replicate 0x5C0 0] ∧ (List.replicate 0x5C0 (0 : Byte)).length ≤ 0x800 ∧ c.met.unacked / 2 ^ (0 % 2) % 2 = 1 := by decide +kernel
theorem witness_MeterInputs :
    let s := st []
    let f := st [(MET_CH_STAT_failed 47, 1), (MET_STATUS_cal_locked, 1), (MET_SEG_ADDR_index, 352), (MET_INTAKE_STAT_seq_ok 1, 1), (MET_STATUS_running, 1)]
    let g := f.setMet fun m => { m with grid := SMap.set GridRun.reset (SMap.set GridRun.reset m.grid 4 { GridRun.reset with on := 4 }) 0 { GridRun.reset with off := 4 }, backs := [(46, 1)], watch := 7, halves := [(0, 20), (1, 19)], slots := 99 }
    let e := (f.setElem 5 { f.elem 5 with halfP := -3, len := 120 }).setElem 4 { f.elem 4 with crossed := true, len := 119 }
    s.clocked = true ∧ s.fb (MET_CH_STAT_failed 47) = false ∧ f.fb (MET_CH_STAT_failed 47) = true ∧ s.met.watch = 0 ∧ g.met.watch ≤ (atTick 7 g).now ∧ (atTick 6 g).now < g.met.watch ∧ SMap.get 0 s.met.backs 46 = 0 ∧
    SMap.get 0 g.met.backs 46 + 400000000 ≤ (atTick 400000000 g).now + 1 ∧ (atTick 399999999 g).now + 1 < SMap.get 0 g.met.backs 46 + 400000000 ∧ f.fb MET_STATUS_running = true ∧ f.met.startAt ≤ f.now ∧
    120 ≤ (e.elem 5).len ∧ (e.elem 5).crossed = false ∧ (e.elem 4).crossed = true ∧ (f.elem 3).crossed = false ∧ (f.elem 3).len < 120 ∧ g.met.slots < 100 ∧ g.met.startAt + (g.met.slots + 1) * 40000 ≤ (atTick 4000000 g).now ∧
    ¬(g.met.startAt + (g.met.slots + 1) * 40000 ≤ (atTick 3999999 g).now) ∧ s.fb MET_NOMINAL_f_nom = false ∧ 20 ≤ SMap.get 0 g.met.halves 0 ∧ SMap.get 0 g.met.halves 1 < 20 ∧ (s.setF MET_NOMINAL_f_nom 1).fb MET_NOMINAL_f_nom = true ∧
    90000 ≤ 120000 % 360000 ∧ 120000 % 360000 ≤ 150000 ∧ (SMap.get GridRun.reset g.met.grid 4).on = 4 ∧ (SMap.get GridRun.reset g.met.grid 0).off = 4 ∧ s.f (MET_INTAKE_STAT_v_absent 1) = 0 ∧
    f.fb (MET_INTAKE_STAT_seq_ok 1) = true ∧ s.fb (MET_INTAKE_STAT_seq_ok 1) = false ∧ f.fb MET_STATUS_cal_locked = true ∧ s.fb MET_STATUS_cal_locked = false ∧ 352 ≤ f.f MET_SEG_ADDR_index ∧
    (e.elem 5).halfP ≠ 0 := by decide +kernel

/-- A T4 that has started. -/
def started : State := (st []).setBill fun b => { b with started := true }
theorem witness_BillingRequests :
    let s := started
    let o := s.setTx 7 fun x => { x with isOpen := true, number := 9 }
    let r := fun (orig : Nat) sc => req orig 0x0401 1 sc (9 * 2 ^ 64)
    State.reset.bill.started = false ∧ s.clocked = true ∧ s.bill.started = true ∧ s.bill.todo = [] ∧ s.outIdx < 64 ∧ (r 2 (connScope 7)).origId = 2 ∧ (r 2 (connScope 7)).scope.inst.toNat < 8 ∧ s.bill.excl / 2 ^ 13 % 2 = 0 ∧
    (s.setBill fun b => { b with excl := 2 ^ 13 }).bill.excl / 2 ^ 13 % 2 = 1 ∧ ((s.setTx 7 fun x => { x with blocked := true }).tx 7).blocked = true ∧ (s.tx 7).blocked = false ∧ s.ringLow = false ∧
    (s.setBill fun b => { b with unconf := [(1, 1)], rseq := 20000 }).ringLow = true ∧ (o.tx 7).isOpen = true ∧ (s.tx 7).isOpen = false ∧ s.bill.stopped = false ∧ (o.tx 7).exhausted = false ∧
    (o.tx 7).number = (r 1 (connScope 7)).payload.toNat / 2 ^ 64 % 2 ^ 32 ∧ s.bill.ask = none ∧ s.devMode ≠ 5 ∧ (st [(SEC_MODE_mode, 5)]).devMode = 5 ∧ s.fbClosed 110 = false ∧ s.fbClosed 111 = false := by decide +kernel
/-- Record 5 stands in its slot. -/
theorem witness_RecordRead :
    let a := 0x70200000 + 5 % 20480 * 256
    let s := (started.setBill fun b => { b with rseq := 6 }).wrBytes a (bytesOf 0x43455253 4 ++ bytesOf 0 4 ++ bytesOf 5 8)
    5 < s.bill.rseq ∧ s.bill.rseq ≤ 5 + 20480 ∧ s.rd a 4 = 0x43455253 ∧ s.rd (a + 6) 2 = s.f SEC_EPOCH_epoch ∧ s.rd (a + 8) 8 = 5 := by decide +kernel
theorem witness_Flush :
    let s := (started.setAll [(MET_STATUS_running, 1), (MET_STATUS_samples, 1)])
    s.metRuns = true ∧ s.f MET_STATUS_samples ≠ 0 ∧ s.met.block - s.met.closed.length ≤ s.bill.next ∧ (s.setBill fun b => { b with ask := some ⟨2, false⟩ }).bill.ask = some ⟨2, false⟩ := by decide +kernel
theorem witness_BillingEvents :
    let s := (started.setBill fun b => { b with todo := [.record 5 (List.replicate 128 1) [.nothing]] })
    let o := (started.setTx 7 fun x => { x with isOpen := true }).setBill fun b => { b with todo := [.record 5 (List.replicate 128 1) [.txOpen 7 (req 2 0x0401 1 (connScope 7) 0) 0]] }
    let d := started.setF BILL_DISP_CTRL_en 128
    s.clocked = true ∧ s.bill.ask = none ∧ s.bill.todo = [.record 5 (List.replicate 128 1) [.nothing]] ∧ o.bill.todo = [.record 5 (List.replicate 128 1) [.txOpen 7 (req 2 0x0401 1 (connScope 7) 0) 0]] ∧ (o.tx 7).isOpen = true ∧
    (o.tx 7).exhausted = false ∧ (o.tx 7).excluded = false ∧ d.f BILL_DISP_CTRL_en / 2 ^ 7 % 2 = 1 ∧ started.f BILL_DISP_CTRL_en / 2 ^ 7 % 2 = 0 := by decide +kernel

/-! ## Signatures -/

/-- What the law of a signature with both multipliers one asks. -/
def unitSigned (key msg sig : List Byte) : Bool :=
  let q := pair256 key
  let e := beNat (sha256 msg)
  let (r, s) := pair256 sig
  e * invMod p256n s % p256n == 1 && r * invMod p256n s % p256n == 1 && onCurve q && decide (0 < r ∧ r < p256n ∧ 0 < s ∧ s < p256n) &&
    (addPoint (some p256g) (some q)).map (fun x => x.1 % p256n) == some r
theorem signed_of_unit (key msg sig : List Byte) (h : unitSigned key msg sig = true) : signed key msg sig = true := by
  simp only [unitSigned, Bool.and_eq_true, beq_iff_eq, decide_eq_true_eq] at h
  obtain ⟨⟨⟨⟨he, hr⟩, hq⟩, hb⟩, hx⟩ := h
  exact ecdsaOk_of_unit _ _ _ _ he hr hq hb hx

/-- A tariff object with a demand interval. -/
def tariffBody (len ident : Nat) : List Byte :=
  bytesOf 0x544E5645 4 ++ bytesOf 1 2 ++ bytesOf 0 1 ++ bytesOf 1 1 ++ bytesOf ident 4 ++ List.replicate 12 0 ++ bytesOf len 1 ++ List.replicate 167 0 ++
    (List.replicate 8 (bytesOf 0x4000 48)).flatten ++ List.replicate 288 0
/-- Its signature: r and s are both the hash. -/
def tariffSig (e : Nat) : List Byte := beBytes e 32 ++ beBytes e 32
def goodSig : Nat := 0x7ad49f1606c3254d4870e3156aa081e91ea4455b1046bb1252727d61bcdda727
def goodKey : List Byte := beBytes 0xa0699ede4ed22bb66b4ab0e071223a66f2b31aa0ff7020d4e22910f1f52d396a 32 ++ beBytes 0xb212b1fda4ba311b86e84b920b912d9a16c4934ee95f160cc12b0d2a58fddf42 32
def badSig : Nat := 0xfe92880c1ac681d4719f26fc20fa8839a11697971011a6fd05daf42d7583a2db
def badKey : List Byte := beBytes 0xa8869ceb8a00c3e08210bb1cde2751f88cb0c565bc8183bdc9c1b983755cc057 32 ++ beBytes 0xfbdf98e23a64369d57a707d57b1719caa9b917532f1b58becb44758b90e5b295 32
theorem tariff_signed : signed goodKey (tariffBody 15 1) (tariffSig goodSig) = true := signed_of_unit _ _ _ (by decide +kernel)
theorem tariffSigned_of (s : State) (o key body sig : List Byte) (k : Nat) (hk : fieldAt o 6 1 = k) (hs : SMap.get [] s.maq.tariffKeys k = key) (hl : o.length = 928) (hb : o.take 0x360 = body)
    (hg : o.drop 0x360 = sig) (h : signed key body sig = true) : s.tariffSigned o = true := by
  unfold State.tariffSigned
  rw [hl, hk, hs, hb, hg, h]
  rfl
/-- An object that is signed and in range, and a state that holds its key: its identifier is above those held. -/
def keyed : State := { started with maq := { started.maq with tariffKeys := SMap.set [] [] 0 goodKey } }
def goodTariff : List Byte := tariffBody 15 1 ++ tariffSig goodSig
theorem witness_TariffLoad :
    keyed.tariffSigned goodTariff = true ∧ tariffInRange goodTariff = true ∧ tarId keyed.bill.active < tarId goodTariff ∧ tarId keyed.bill.pend < tarId goodTariff ∧
    tarId goodTariff ≤ tarId (keyed.setBill fun b => { b with pend := goodTariff }).bill.pend ∧ keyed.tariffSigned [] = false := by
  refine ⟨?_, by decide +kernel, by decide +kernel, by decide +kernel, by decide +kernel, by decide +kernel⟩
  exact tariffSigned_of _ _ goodKey (tariffBody 15 1) (tariffSig goodSig) 0 (by decide +kernel) (by decide +kernel) (by decide +kernel) (by decide +kernel) (by decide +kernel) tariff_signed
/-- An object that is signed and out of range: a demand interval of 7 minutes. -/
theorem witness_TariffOutOfRange :
    ({ started with maq := { started.maq with tariffKeys := SMap.set [] [] 0 badKey } } : State).tariffSigned (tariffBody 7 2 ++ tariffSig badSig) = true ∧
    tariffInRange (tariffBody 7 2 ++ tariffSig badSig) = false := by
  refine ⟨?_, by decide +kernel⟩
  exact tariffSigned_of _ _ badKey (tariffBody 7 2) (tariffSig badSig) 0 (by decide +kernel) (by decide +kernel) (by decide +kernel) (by decide +kernel) (by decide +kernel) (signed_of_unit _ _ _ (by decide +kernel))

/-! ## Points, time, rings, CAN, power line -/

/-- A point of type 5 and class 0 that can be written, of a protocol: its descriptor in the table. -/
def writablePoint (proto : Nat) : State := (st []).wrBytes (ptAddr 7) (bytesOf 0x305 2 ++ bytesOf proto 2)
theorem witness_PointCommands :
    let s := st []
    let m := { s with maq := { s.maq with modbusMap := SMap.set 0 s.maq.modbusMap 40001 7 } }
    s.ptWritable 7 = false ∧ (s.eng 6).cache = [] ∧ s.net.openAt = none ∧ s.ptProfile 7 = 0 ∧ s.writePending 7 = false ∧ SMap.get 0 m.maq.modbusMap 40001 = 7 ∧ SMap.get 0 s.maq.modbusMap 40001 = 0 ∧
    s.modbusUp (.tcp 0 1 3) = true ∧ State.reset.modbusUp (.tcp 0 1 3) = false ∧ (writablePoint 0).dropOldWrites 7 = writablePoint 0 ∧ (writablePoint 0).ptWritable 7 = true ∧ (writablePoint 0).ptOutside 7 0 = false ∧ (writablePoint 0).ptProto 7 = 0 ∧ (writablePoint 1).ptProto 7 ≠ 0 ∧ (writablePoint 1).ptClass 7 < 6 ∧
    ((writablePoint 0).rdB (ptAddr 7 + 0x1E)).toNat / 16 % 2 = 0 ∧ ((writablePoint 0).wrB (ptAddr 7 + 0x1E) 16).rdB (ptAddr 7 + 0x1E) = 16 := by decide +kernel
theorem witness_TimeCommands :
    let s := st [(NET_PTP_CTRL_en 1, 1), (CLK_REF_CFG_pps_port, 1)]
    let e := { s with net := { s.net with phcs := SMap.set PhcInt.reset s.net.phcs 1 { PhcInt.reset with edge := true } } }
    s.dtEng < 8 ∧ (1000000 : BitVec 32).toInt.natAbs ≤ 1000000 ∧ 1000000 < (-1000001 : BitVec 32).toInt.natAbs ∧ (e.phc 1).edge = true ∧ (s.phc 1).edge = false ∧ s.clocked = true ∧ s.f CLK_REF_CFG_pps_port = 1 ∧
    ((s.dtNs : Int) - (s.phc 1).ns).natAbs < 2 ^ 31 := by decide +kernel
theorem witness_EthernetRings :
    let rx := ringOf false (.eth 5)
    let tx := ringOf true (.eth 5)
    let s := st [(NET_ETH_CTRL_en 5, 1), (NET_ETH_CTRL_promisc 5, 1), (rx.sw, 3), (tx.sw, 2), (rx.base, 0x1000000), (tx.base, 0x1000010)]
    let b := s.wrBytes 0x100000000 (bytesOf 0x100002000 8)
    s.lineUp = true ∧ State.reset.lineUp = false ∧ s.fb (NET_ETH_CTRL_en 5) = true ∧ State.reset.fb (NET_ETH_CTRL_en 5) = false ∧ s.ethPasses 5 (List.replicate 64 0xFF) = true ∧ State.reset.ethPasses 5 (List.replicate 64 2) = false ∧
    s.ringUsed rx = 3 ∧ s.ringUsed tx = 2 ∧ State.reset.ringUsed rx = 0 ∧ s.stamps 5 false = false ∧ s.descAt rx (s.f rx.hw) = 0x100000000 ∧ s.descAt tx (s.f tx.hw) = 0x100001000 ∧ b.rd 0x100000000 8 = 0x100002000 ∧
    0x100002000 + 64 ≤ 0x200000000 ∧ 5 ∉ s.net.begun := by decide +kernel
theorem witness_UartsAndTransfers :
    let rx := ringOf false (.uart 3)
    let tx := ringOf true (.uart 3)
    let s := st [(NET_U_CTRL_en 3, 1), (rx.sw, 3), (tx.sw, 2), (rx.base, 0x1000000), (tx.base, 0x1000010), (NET_BT_STATUS_state 1, 1), (NET_BT_WIN_SIZE_blocks 0, 8), (NET_BT_WIN_SIZE_blocks 1, 0), (NET_BT_DRAM_HI_addr 1, 1)]
    s.clocked = true ∧ s.fb (NET_U_CTRL_en 3) = true ∧ s.fb (NET_U_CTRL_en 0) = false ∧ s.ringUsed rx = 3 ∧ s.ringUsed (ringOf false (.uart 0)) = 0 ∧ s.ringUsed tx = 2 ∧ s.descAt rx (s.f rx.hw) = 0x100000000 ∧
    s.descAt tx (s.f tx.hw) = 0x100001000 ∧ 8 + 3 ∉ s.net.begun ∧ btEng 1 < 8 ∧ s.f (NET_BT_STATUS_state 1) = 1 ∧ s.f (NET_BT_STATUS_state 0) ≠ 1 ∧ s.net.histBusy = false ∧ s.sec.arch.busy = false ∧
    s.f (NET_BT_DRAM_LO_addr 1) + 2 ^ 32 * s.f (NET_BT_DRAM_HI_addr 1) = 0x100000000 ∧ s.f (NET_BT_WIN_SIZE_blocks 1) < s.f (NET_BT_LBA_lba 1) + 0 + 1 ∧
    ¬(s.f (NET_BT_WIN_SIZE_blocks 0) < s.f (NET_BT_LBA_lba 0) + 7 + 1) := by decide +kernel
/-- A CAN controller at 1 Mbit/s. -/
def slowBit : State := st [(CAN_NBT_brp_m1 7, 9), (CAN_NBT_tseg1_m1 7, 28), (CAN_NBT_tseg2_m1 7, 9), (CAN_DBT_brp_m1 7, 1), (CAN_DBT_tseg1_m1 7, 20), (CAN_DBT_tseg2_m1 7, 2), (CAN_TDC_en 7, 1)]
theorem witness_CanTransmission :
    let s := st [(CAN_CTRL_en 7, 1), (CAN_TX_IDX_sw 7, 1), (CAN_TX_BASE_HI_addr 7, 1)]
    let o := st [(CAN_STATUS_state 7, 2)]
    let d := { o with trips := [⟨6, 2, canScope 7, [], [], []⟩] }
    let r := fun n => atTick n (slowBit.setF (CAN_STATUS_state 7) 3)
    s.lineUp = true ∧ State.reset.lineUp = false ∧ s.fb (CAN_CTRL_en 7) = true ∧ s.fb (CAN_CTRL_listen 7) = false ∧ s.f (CAN_STATUS_state 7) < 2 ∧ (s.f (CAN_TX_IDX_sw 7) + 64 - s.f (CAN_TX_IDX_hw 7)) % 64 = 1 ∧ (s.can 7).oneShot = none ∧
    (s.can 7).queued = [] ∧ s.txEntry 7 (s.f (CAN_TX_IDX_hw 7)) = 0x100000000 ∧ s.entryOk 7 (s.txEntry 7 0) = true ∧ o.f (CAN_STATUS_state 7) = 2 ∧ o.fb (CAN_CTRL_en 7) = false ∧ (r 0).f (CAN_STATUS_state 7) = 3 ∧
    ((r 0).can 7).recAt + 1408 * (r 0).nominalBit 7 ≤ (r 563200).now ∧ ¬(((r 0).can 7).recAt + 1408 * (r 0).nominalBit 7 ≤ (r 563199).now) ∧
    (400 ≤ (slowBit.nominalBit 7) ∧ 50 ≤ slowBit.dataBit 7 ∧ slowBit.fb (CAN_TDC_en 7) = true) ∧ s.f (CAN_ERRCNT_tec 7) < 128 ∧ s.f (CAN_ERRCNT_rec 7) + 8 < 128 ∧
    128 ≤ (s.setF (CAN_ERRCNT_rec 7) 127).f (CAN_ERRCNT_rec 7) + 1 ∧ 32 < ((33 : BitVec 6).toNat + 64 - o.f (CAN_TX_IDX_hw 7)) % 64 ∧ o.trips = [] ∧ o.busOffDue 7 = true ∧ d.busOffDue 7 = false ∧
    (∃ x ∈ d.trips, x.eng = 6 ∧ x.cls = 2 ∧ x.scope = unitScope 1 7) := by decide +kernel
theorem witness_CanReceptionAndPlc :
    let s := st [(CAN_CTRL_en 7, 1), (CAN_RX_BASE_HI_addr 7, 1), (PLC_CTRL_en, 1), (PLC_TX_IDX_sw, 1), (PLC_RX_IDX_sw, 1), (PLC_TX_RING_base, 0x1000000), (PLC_CFG_cycle, 10), (PLC_CFG_dl_max, 4)]
    let f := (⟨1, 0, 2, [1, 2], false⟩ : CanFrame)
    let u := s.setF (CAN_RX_IDX_hw 7) 256
    s.lineUp = true ∧ f.flags.toNat % 2 = 0 ∧ f.own = false ∧ f.data.length ≤ 64 ∧ 256 ≤ (u.f (CAN_RX_IDX_hw 7) + 512 - u.f (CAN_RX_IDX_sw 7)) % 512 ∧ s.f (CAN_RX_IDX_hw 7) = 0 ∧ s.rxBase 7 = 0x100000000 ∧ s.maq.canCmds = [] ∧
    s.ptList = [] ∧ s.rxBase 7 + 128 ≤ ptAddr 0 ∧ s.fb PLC_CTRL_en = true ∧ State.reset.fb PLC_CTRL_en = false ∧ s.ringUsed (ringOf true .plc) = 1 ∧ s.ringUsed (ringOf false .plc) = 1 ∧ s.link 255 = PlcLink.reset ∧
    s.descAt (ringOf true .plc) 0 = 0x100000000 ∧ State.reset.ringUsed (ringOf true .plc) = 0 ∧ (s.now - s.epoch) % (400000 * s.f PLC_CFG_cycle) = 0 ∧ ((atTick 1 s).now - s.epoch) % (400000 * s.f PLC_CFG_cycle) ≠ 0 ∧
    ¬400000 * s.f PLC_CFG_dl_max < ((atTick 1600000 s).now - s.epoch) % (400000 * s.f PLC_CFG_cycle) ∧ 400000 * s.f PLC_CFG_dl_max < ((atTick 1600001 s).now - s.epoch) % (400000 * s.f PLC_CFG_cycle) ∧
    leNat (([0, 0, 0, 0, 0, 0, 0, 5] : List Byte).drop 7 |>.take 1) ≠ 0 := by decide +kernel

/-! ## Security -/

/-- A service request of opcode op reaches T7 in open_, whatever the opcode: Asked holds. -/
theorem asked_of_commit (s : State) (r : Req) (h7 : s.t7Serves = true) (hs : r.scope = deviceScope) (hl : (served (s.setSec fun a => { a with lastReq := s.now }) .service svcQ (s.portOrig r)).lifecycle ≠ 0)
    (hf : (served (s.setSec fun a => { a with lastReq := s.now }) .service svcQ (s.portOrig r)).failOpcode (s.portOrig r).opcode = true) (h0 : (s.setSec fun a => { a with lastReq := s.now }).clocked = true)
    (hc : ((s.setSec fun a => { a with lastReq := s.now }).commitB .service svcQ (s.portOrig r)).1 = true) :
    Asked s .service svcQ r (s.portOrig r) (served (s.setSec fun a => { a with lastReq := s.now }) .service svcQ (s.portOrig r)) :=
  ⟨h7, rfl, hs, fun h => absurd h hl, hf, served_of_commit _ _ _ _ h0 hc⟩
/-- A service request and the state in which T7 serves it. -/
def svcReq (op payload : Nat) : Req := req 0 op 1 deviceScope payload
def svcU (s : State) (r : Req) : State := served (s.setSec fun a => { a with lastReq := s.now }) .service svcQ (s.portOrig r)
theorem witness_Asked : Asked open_ .service svcQ (svcReq 0x0703 0) (open_.portOrig (svcReq 0x0703 0)) (svcU open_ (svcReq 0x0703 0)) :=
  asked_of_commit _ _ (by decide +kernel) rfl (by decide +kernel) (by decide +kernel) (by decide +kernel) (by decide +kernel)
theorem witness_ServiceSessions :
    let u := svcU open_ (svcReq 0x0705 1)
    let n := { open_ with now := 240000000000, sec := { open_.sec with nonceAt := some 1 } }
    u.fb SEC_SVC_STAT_open = true ∧ u.f SEC_SVC_STAT_authorised = 3 ∧ u.devMode ≠ 5 ∧ u.lifecycle ≠ 0 ∧ (u.setF SEC_SVC_STAT_open 0).fb SEC_SVC_STAT_open = false ∧ (u.setF SEC_SVC_STAT_authorised 0).f SEC_SVC_STAT_authorised = 0 ∧
    (u.setF SEC_MODE_mode 5).devMode = 5 ∧ u.mode.svcHalt = false ∧ open_.sec.nonceAt = none ∧ n.sec.nonceAt = some 1 ∧ 1 + 24000000000 ≤ n.now ∧ n.sec.lastReq + 240000000000 ≤ n.now ∧ open_.t7Serves = true ∧ open_.now < open_.sec.lastReq + 240000000000 := by
  decide +kernel

/-- The bytes of an AUTHORISE: operation, argument, key and signature. -/
def authBytes (op arg : Nat) (key : List Byte) (e : Nat) : List Byte := [BitVec.ofNat 8 op, BitVec.ofNat 8 arg, 0, 0] ++ key ++ beBytes e 32 ++ beBytes e 32
def levelKey : List Byte := beBytes 0x20dff62475826089fa8178a60e7a1cde2bed4533eeebe218ab12cdad51ad346d 32 ++ beBytes 0x93e4fb76e146baa94c61ff8cfc018e39be613f9e4f483d64d3edb1fbb509de99 32
def levelSig : Nat := 0x279011696eca986999857fc4aebd657da2ce73d85516e79c8f09481655c04665
def retireKey : List Byte := beBytes 0x793eae3cf4b1abfd3eedff16c4c58ebf48c8b2facbeadb8c1c9cb40c45da3341 32 ++ beBytes 0xc7a69c003fceef2d6ce852f7495be163f270ccb683a35bbc7635f6582423b5c3 32
def retireSig : Nat := 0xaa551514f8bf076521ce224063ee76d4297c9cb724c806fcbb6ccfe56411e387
/-- A provisioned device in SERVICE with a session, a nonce, power held up, a key's hash in the fuses and the 132 bytes staged. -/
def staged (op arg : Nat) (key : List Byte) (e : Nat) : State :=
  let s := st [(ENG_CTRL_run 7, 1), (SEC_SVC_STAT_open, 1), (SEC_LIFECYCLE_state, 1), (SEC_MODE_mode, 5), (PWR_STATUS_hold_ready, 1), (SEC_CHAL_nonce 0, 2)]
  let s := s.setSec fun a => { a with nonceAt := some 0 }
  let s := s.setVault fun v => { v with hashes := SMap.set [] v.hashes 0 (sha256 key) }
  s.wrBytes (stagingKey 0) (authBytes op arg key e)
def authReq : Req := { svcReq 0x0704 (132 * 2 ^ 64) with indirect := true }
def authU (op arg : Nat) (key : List Byte) (e : Nat) : State := svcU (staged op arg key e) authReq
theorem authOk_of (s : State) (b key msg sig : List Byte) (op arg : Nat) (ho : fieldAt b 0 1 = op) (ha : fieldAt b 1 1 = arg) (hk : (b.drop 4).take 64 = key) (hs : b.drop 68 = sig) (hm : s.authMessage op arg = msg)
    (hg : authArg op arg = true) (hh : (SMap.get [] s.vault.hashes (if op = 2 ∨ op = 3 then 1 else 0) == sha256 key) = true) (h : signed key msg sig = true) : s.authOk b = true := by
  unfold State.authOk
  simp only [ho, ha, hk, hs, hm, hg, hh, h, Bool.and_self]
/-- Level 2, and the retirement: both authorise, with the nonce held; the retirement is not refused, nor is it in a state without hold-up power allowed. -/
theorem witness_AuthoriseLevel : (authU 1 2 levelKey levelSig).authOk (authBytes 1 2 levelKey levelSig) = true :=
  authOk_of _ _ levelKey (bytesOf 0x414E5645 4 ++ [1, 2] ++ bytesOf 0xF000 2 ++ bytesOf 2 32 ++ bytesOf 0 32 ++ bytesOf 0 2 ++ [1, 0]) (beBytes levelSig 32 ++ beBytes levelSig 32) 1 2
    (by decide +kernel) (by decide +kernel) (by decide +kernel) (by decide +kernel) (by decide +kernel) (by decide +kernel) (by decide +kernel) (signed_of_unit _ _ _ (by decide +kernel))
theorem witness_AuthoriseRetire : (authU 4 0 retireKey retireSig).authOk (authBytes 4 0 retireKey retireSig) = true :=
  authOk_of _ _ retireKey (bytesOf 0x414E5645 4 ++ [4, 0] ++ bytesOf 0xF000 2 ++ bytesOf 2 32 ++ bytesOf 0 32 ++ bytesOf 0 2 ++ [1, 0]) (beBytes retireSig 32 ++ beBytes retireSig 32) 4 0
    (by decide +kernel) (by decide +kernel) (by decide +kernel) (by decide +kernel) (by decide +kernel) (by decide +kernel) (by decide +kernel) (signed_of_unit _ _ _ (by decide +kernel))
theorem witness_Authorise :
    let u := authU 4 0 retireKey retireSig
    inStaging authReq 132 = true ∧ u.staged authReq = authBytes 4 0 retireKey retireSig ∧ u.fb SEC_AUTH_STAT_lockout = false ∧ u.fb SEC_SVC_STAT_open = true ∧ u.sec.nonceAt = some 0 ∧ u.now < 24000000000 ∧
    u.transitionRefusal 4 0 = none ∧ (u.setF PWR_STATUS_hold_ready 0).transitionRefusal 4 0 = some 0x44 ∧ u.bill.started = false ∧ u.devMode ≠ 1 ∧ (u.setF SEC_AUTH_STAT_lockout 1).fb SEC_AUTH_STAT_lockout = true := by decide +kernel
theorem witness_AuthoriseArrives : Asked (staged 4 0 retireKey retireSig) .service svcQ authReq ((staged 4 0 retireKey retireSig).portOrig authReq) (authU 4 0 retireKey retireSig) :=
  asked_of_commit _ _ (by decide +kernel) rfl (by decide +kernel) (by decide +kernel) (by decide +kernel) (by decide +kernel)
/-- A BLANK device at boot step 6 accepts PROVISION. -/
theorem witness_Provision :
    let s := st [(ENG_CTRL_run 7, 1), (SEC_BOOT_STAT_stage, 6), (PWR_STATUS_hold_ready, 1)]
    let r := { svcReq 0x070B (192 * 2 ^ 64) with indirect := true }
    let u := svcU s r
    u.lifecycle = 0 ∧ u.f SEC_BOOT_STAT_stage = 6 ∧ u.fb PWR_STATUS_hold_ready = true ∧ u.fb PWR_STATUS_pfw = false ∧ u.pwr.cause = 0 ∧ u.sec.prog = none ∧ u.f SEC_LC_CTRL_status ≠ 1 ∧ inStaging r 192 = true ∧
    blankOpcode r.opcode = true ∧ ((s.setSec fun a => { a with lastReq := s.now }).commitB .service svcQ (s.portOrig r)).1 = true ∧ s.t7Serves = true ∧ u.failOpcode r.opcode = true ∧ (s.setSec fun a => { a with lastReq := s.now }).clocked = true := by decide +kernel
theorem witness_Fuses :
    let s := State.reset.setSec fun x => { x with prog := some (5, 3), latch := some (5, 3, 0) }
    let t := { s with now := 4000000 }
    let v := (State.reset.setVault fun v => { v with mainCount := 9, lockTill := 5 }).setF SEC_AUTH_STAT_lockout 1
    State.reset.f SEC_LC_CTRL_status ≠ 1 ∧ State.reset.lifecycle = 0 ∧ s.sec.prog = some (5, 3) ∧ s.sec.latch = some (5, 3, 0) ∧ 0 + 4000000 ≤ t.now ∧ s.now < 0 + 4000000 ∧ Nat.min 255 (v.rd 0x60000010 4) ≤ v.vault.mainCount ∧
    (State.reset.wrB 0x60000010 9).vault.mainCount < Nat.min 255 ((State.reset.wrB 0x60000010 9).rd (if (State.reset.wrB 0x60000010 9).fb SEC_BOOT_STAT_image then 0x61800000 else 0x60000000 + 0x10) 4) ∧
    v.fb SEC_AUTH_STAT_lockout = true ∧ v.now < v.vault.lockTill ∧ State.reset.sec.prog = none ∧ State.reset.sec.latch = none ∧ State.reset.vault.lockTill ≤ State.reset.now := by decide +kernel
theorem witness_ServiceRequests :
    let u := svcU (open_.setF SEC_MODE_mode 2) (svcReq 0x0706 1)
    let v := (u.setF SEC_MODE_mode 5).setF SEC_DBG_STAT_granted 1
    u.f SEC_SVC_STAT_authorised ≠ 0 ∧ u.fb SEC_SVC_STAT_open = true ∧ u.fb PWR_STATUS_pfw = false ∧ u.pwr.cause = 0 ∧ (svcReq 0x0706 1).payload.toNat % 2 = 1 ∧ u.devMode = 2 ∧ u.syncCauses.anyCause = false ∧ u.phuAny = false ∧ (∀ c < 8, (u.ses c).step = 0) ∧
    v.devMode = 5 ∧ v.mode.svcHalt = false ∧ v.imageRefusal = none ∧ u.imageRefusal = some 0x44 ∧ u.lifecycle = 1 ∧ (st [(SEC_MODE_mode, 1), (SEC_BOOT_STAT_fail, 3)]).imageRefusal = none ∧ secReadable 4 = true ∧ secReadable 0x17C = true ∧ SEC_MODE = 0x40030000 ∧
    keyQ .service = .queue 7 3 ∧ keyQ (.engine 0) = .queue 7 1 := by decide +kernel
theorem witness_KeyRead : SMap.get [] open_.vault.hashes 0 = [] ∧ SMap.get [] (staged 4 0 retireKey retireSig).vault.hashes 0 = sha256 retireKey ∧ (sha256 retireKey).length = 32 := by decide +kernel
theorem witness_Freezing :
    let s := st [(SEC_MODE_mode, 5), (SEC_DBG_STAT_granted, 3)]
    let e := { (s.setF SEC_FREEZE_STAT_state 1) with now := 2000000 }
    let a := e.setSec fun x => { x with step4At := some 5, arch := { x.arch with openAt := some 7 } }
    s.devMode = 5 ∧ s.f SEC_DBG_STAT_granted = 3 ∧ s.fb PWR_STATUS_pfw = false ∧ s.pwr.cause = 0 ∧ s.sec.prog = none ∧ s.f SEC_FREEZE_STAT_state = 0 ∧ e.f SEC_FREEZE_STAT_state = 1 ∧ e.sec.step4At = none ∧
    e.sec.goAt + 2000000 ≤ e.now ∧ s.now < s.sec.goAt + 2000000 ∧ a.sec.step4At = some 5 ∧ 5 + 80 ≤ a.now ∧ (a.now - a.epoch) % 80 = 0 ∧ ((atTick 2000001 a).now - a.epoch) % 80 ≠ 0 ∧ e.now < e.sec.goAt + 24000000000 * e.f SEC_FREEZE_CTRL_limit ∧ a.mode.keep = false ∧
    (e.setF SEC_FREEZE_CTRL_limit 0).sec.goAt + 24000000000 * (e.setF SEC_FREEZE_CTRL_limit 0).f SEC_FREEZE_CTRL_limit ≤ e.now ∧ a.sec.arch.openAt = some 7 ∧ s.sec.arch.openAt = none := by decide +kernel
/-- One answer to the port is unread. -/
def answeredPort : State := { st [] with outbox := [⟨0xF000, 1, 0, 5, 0⟩, ⟨0x10, 1, 0, 6, 0⟩] }
theorem witness_SvcUnread : answeredPort.svcUnread = [⟨0xF000, 1, 0, 5, 0⟩] := by decide
/-- In KEEP. -/
theorem witness_Keep : ({ State.reset with mode := { State.reset.mode with keep := true } } : State).mode.keep = true := rfl
/-- A frozen device at D3 with a halted T0, and a running T0 at D2. -/
def frozenPort : State := st [(SEC_LIFECYCLE_state, 1), (SEC_DBG_STAT_granted, 3), (SEC_FREEZE_STAT_state, 2), (ENG_STATUS_halted 0, 1)]
def runningPort : State := st [(SEC_LIFECYCLE_state, 1), (SEC_DBG_STAT_granted, 2), (ENG_CTRL_run 0, 1)]
theorem witness_PortScans :
    frozenPort.mode.keep = false ∧ frozenPort.lifecycle = 1 ∧ State.reset.lifecycle = 0 ∧ frozenPort.debugLevel = 3 ∧ (st [(SEC_LIFECYCLE_state, 1)]).debugLevel = 0 ∧ frozenPort.frozen = true ∧
    frozenPort.fb (ENG_STATUS_halted 0) = true ∧ runningPort.debugLevel = 2 ∧ runningPort.frozen = false ∧ runningPort.fb (ENG_CTRL_run 0) = true ∧ runningPort.fb (ENG_CTRL_halt_req 0) = false := by decide +kernel
theorem witness_PortRegions : regionOf 0x1001FFFC = .dsram ∧ regionOf 0 = .isram ∧ (svcReq 0x0701 0).opcode.toNat = 0x0701 := by decide

/-! ## All commands, idle, encodings, memory -/

/-- The requests of a sender that may not use the queue are not stored; a halted T7 serves nothing. -/
theorem witness_RequestsNotStored :
    State.reset.clocked = false ∧ (st []).clocked = true ∧ ((st []).commitB .adapter (.queue 0 1) (req 0x10 0x0201 1 (connScope 0) 0)).1 = false ∧
    ((st [(ENG_CTRL_q_en 7, 0)]).commitB .service svcQ (req 0xF000 0x0701 1 deviceScope 0)).1 = false ∧ (st []).bill.started = false ∧ (st []).t7Serves = false ∧
    ((st []).commitB (.engine 4) .mailbox (req 5 0x0401 1 (connScope 0) 0)).1 = false := by decide +kernel
theorem witness_IdleTick :
    let s := st []
    let r := { s with pwr := { s.pwr with rtcFrac := 399999999 } }
    s.pending = [] ∧ (s.eng 0).stepDue = false ∧ s.sec.resetDue = false ∧ (∀ e < 8, s.fb (ENG_STATUS_double_trap e) = false) ∧ s.pwr.rtcNew = none ∧ { r with pwr := { r.pwr with rtcNew := some 9 } }.pwr.rtcNew = some 9 ∧ s.clocked = true ∧ State.reset.clocked = false ∧ s.net.dtStep = none ∧ s.fi NET_DT_SLEW_slew = 0 ∧ s.pwr.rtcFrac + 32768 < 400000000 ∧ 400000000 ≤ r.pwr.rtcFrac + 32768 ∧
    s.f PWR_RTC_SUB_sub < 32767 ∧ (s.setF PWR_RTC_SUB_sub 32767).f PWR_RTC_SUB_sub = 32767 := by decide +kernel
/-- A command at the front of the queue is taken, and only it. -/
theorem test_step_front : (match step { State.reset with pending := [.kick 7 0 0, .kick 7 1 0] } with
    | .next t => t.pending == [.kick 7 1 0] && t.fb (ENG_STATUS_cfg_err 0) && !t.fb (ENG_STATUS_cfg_err 1)
    | _ => false) = true := by decide +kernel
theorem witness_EncodingRoundTrip : encodeTocon (.add 0 3 4 5) = some 0x00642801 ∧ (encodeTocon .trst).isSome = false := by decide +kernel
theorem witness_MemoryKept : Memory.wf State.reset.mem = true ∧ Memory.wf [(5, 1), (5, 2)] = false ∧ Memory.wf [(5, 0)] = false := by decide +kernel

end Sys2Proof.Tests
end

section
/-!
SUPPORT. Jumps, branches and traps (R55, R70, R81, R87): how an engine goes on to a pc, how it takes a trap, and what the jumps and branches
of the instruction set do with both.
-/
namespace Sys2Proof.Machine

variable {s t : State}

/-! ## Targets (R81) -/

/-- The pc-relative target in integer arithmetic: pc + sext(off16) × 4. -/
theorem Engine.target_eq_ofInt (n : Engine) (off : BitVec 16) : n.target off = n.pc + BitVec.ofInt 64 (off.toInt * 4) := by
  simp [Engine.target, sext16, BitVec.signExtend, BitVec.ofInt_mul]

/-- A jump into the instruction SRAM is a write of the pc. -/
theorem State.jump_of_lt (e : Nat) (v : DWord) (hv : v.toNat < 0x20000) : s.jump e v = s.setEng e ((s.eng e).setPc v) := by
  simp [State.jump, hv]

/-- A jump out of the instruction SRAM traps with the target as pc and operand. -/
theorem State.jump_of_ge (e : Nat) (v : DWord) (hv : 0x20000 ≤ v.toNat) : s.jump e v = (s.setEng e ((s.eng e).setPc v)).trap e 0x03 v := by
  simp [State.jump, Nat.not_lt.2 hv]

/-! ## Engine registers -/

@[simp] theorem Engine.ctx_setPc (n : Engine) (v : DWord) : (n.setPc v).ctx = n.ctx := rfl
@[simp] theorem Engine.inTrap_setPc (n : Engine) (v : DWord) : (n.setPc v).inTrap = n.inTrap := rfl

/-- Writes of g0 are ignored (R54). -/
@[simp] theorem Engine.setG_zero (n : Engine) (v : DWord) : n.setG 0 v = n := rfl

/-! ## Traps (R55, R70) -/

/-- The state with a trap of engine e recorded in TRAP_CAUSE and TRAP_PC. -/
def State.trapRecorded (s : State) (e code : Nat) : State :=
  (((s.setF (ENG_TRAP_CAUSE_cause e) code).setF (ENG_TRAP_CAUSE_ctx e) (s.eng e).ctx).addSat (ENG_TRAP_CAUSE_count e) 1).setF
    (ENG_TRAP_PC_pc e) (s.eng e).pc.toNat

/-- The engine with the pc and the operand of a trap in s5 and s6. -/
def Engine.trapSaved (n : Engine) (val : DWord) : Engine := { n with trapPc := n.pc, trapVal := val }

/-- The engine in trap state in its running context too, at the trap entry. -/
def Engine.trapEntered (n : Engine) (val : DWord) : Engine := { n.trapSaved val with inTrap := n.ctx :: n.inTrap }.setPc 0x40

/-- A trap in trap state halts the engine (R70). -/
theorem State.trap_of_mem (e code : Nat) (val : DWord) (h : (s.eng e).ctx ∈ (s.eng e).inTrap) :
    s.trap e code val =
      (((s.trapRecorded e code).setEng e ((s.eng e).trapSaved val)).setB (ENG_STATUS_halted e) true).setB (ENG_STATUS_double_trap e) true :=
  if_pos (List.contains_iff_mem.2 h)

/-- A trap outside trap state enters it (R70). -/
theorem State.trap_of_notMem (e code : Nat) (val : DWord) (h : (s.eng e).ctx ∉ (s.eng e).inTrap) :
    s.trap e code val = (s.trapRecorded e code).setEng e ((s.eng e).trapEntered val) :=
  if_neg fun hc => h (List.contains_iff_mem.1 hc)

@[simp] theorem State.eng_trapRecorded (e code j : Nat) : (s.trapRecorded e code).eng j = s.eng j := rfl
@[simp] theorem State.mem_trapRecorded (e code : Nat) : (s.trapRecorded e code).mem = s.mem := rfl

@[simp] theorem Engine.trapPc_trapSaved (n : Engine) (val : DWord) : (n.trapSaved val).trapPc = n.pc := rfl
@[simp] theorem Engine.trapVal_trapSaved (n : Engine) (val : DWord) : (n.trapSaved val).trapVal = val := rfl
@[simp] theorem Engine.g_trapSaved (n : Engine) (val : DWord) (r : Fin 32) : (n.trapSaved val).g r = n.g r := rfl
@[simp] theorem Engine.trapPc_trapEntered (n : Engine) (val : DWord) : (n.trapEntered val).trapPc = n.pc := rfl
@[simp] theorem Engine.trapVal_trapEntered (n : Engine) (val : DWord) : (n.trapEntered val).trapVal = val := rfl
@[simp] theorem Engine.g_trapEntered (n : Engine) (val : DWord) (r : Fin 32) : (n.trapEntered val).g r = n.g r := rfl
@[simp] theorem Engine.pc_trapEntered (n : Engine) (val : DWord) : (n.trapEntered val).pc = 0x40 := by simp [Engine.trapEntered]
@[simp] theorem Engine.inTrap_trapEntered (n : Engine) (val : DWord) : (n.trapEntered val).inTrap = n.ctx :: n.inTrap := rfl

/-- The register fields that a trap of engine e writes. -/
def trapFields (e : Nat) : List Fld :=
  [ENG_TRAP_CAUSE_cause e, ENG_TRAP_CAUSE_ctx e, ENG_TRAP_CAUSE_count e, ENG_TRAP_PC_pc e, ENG_STATUS_halted e, ENG_STATUS_double_trap e]

theorem trapFields_keys_ne (e : Nat) : (trapFields e).Pairwise fun x y => y.key ≠ x.key ∧ x.key ≠ y.key := by
  simp [trapFields, ENG_TRAP_CAUSE_cause, ENG_TRAP_CAUSE_ctx, ENG_TRAP_CAUSE_count, ENG_TRAP_PC_pc, ENG_STATUS_halted, ENG_STATUS_double_trap, ENG_TRAP_CAUSE,
    ENG_TRAP_PC, ENG_STATUS]
  omega

/-- What a recorded trap leaves in the registers of its engine: cause, pc and count, and the halt bit as it was. -/
theorem State.f_trapRecorded (e code : Nat) (hc : code < 256) :
    (s.trapRecorded e code).f (ENG_TRAP_CAUSE_cause e) = code ∧ (s.trapRecorded e code).f (ENG_TRAP_PC_pc e) = (s.eng e).pc.toNat % 2 ^ 17 ∧
      (s.trapRecorded e code).f (ENG_TRAP_CAUSE_count e) = min (s.f (ENG_TRAP_CAUSE_count e) + 1) (2 ^ (ENG_TRAP_CAUSE_count e).w - 1) ∧
      (s.trapRecorded e code).f (ENG_STATUS_halted e) = s.f (ENG_STATUS_halted e) := by
  have hne := trapFields_keys_ne e
  simp only [trapFields, List.pairwise_cons, List.mem_cons, forall_eq_or_imp] at hne
  have hcause : code % 2 ^ (ENG_TRAP_CAUSE_cause e).w = code := Nat.mod_eq_of_lt hc
  have hcount : ∀ m, min m (2 ^ (ENG_TRAP_CAUSE_count e).w - 1) % 2 ^ (ENG_TRAP_CAUSE_count e).w = min m (2 ^ (ENG_TRAP_CAUSE_count e).w - 1) := fun m =>
    Nat.mod_eq_of_lt (by have := Nat.two_pow_pos (ENG_TRAP_CAUSE_count e).w; omega)
  simp [State.trapRecorded, State.addSat, State.f_setF_ne, hne, hcause, hcount]
  rfl

end Sys2Proof.Machine

namespace Sys2Proof.Claims
open Sys2Proof.Machine

variable {s t : State} {e : Fin 8}

/-! ## An instruction of a ready engine -/

/-- An instruction of a ready engine ends in the state that its meaning gives. -/
theorem next_of_ready {i : Instr} {g : State} {P : State → Prop} (hr : s.ready e = true) (hx : exec i s = s.instr e g) (hP : P g) : Next i s P :=
  ⟨g, by rw [hx, State.instr, if_pos hr], hP⟩

/-! ## Going on to a pc -/

theorem onlyEngines_refl : OnlyEngines s s := rfl

theorem OnlyEngines.setEng (h : OnlyEngines s t) (j : Nat) (n : Engine) : OnlyEngines s (t.setEng j n) := by
  rw [OnlyEngines] at h; rw [← h]; rfl

/-- Writing a general register and the pc changes nothing else of an engine. -/
theorem onlyContext_setG_setPc (n : Engine) (r : Fin 32) (v pc : DWord) : OnlyContext n ((n.setG r v).setPc pc) := by
  have hpcs : ∀ c, c ≠ n.ctx → SMap.get 0 (SMap.set 0 n.pcs n.ctx pc) c = SMap.get 0 n.pcs c := fun c hc => SMap.get_set_ne _ _ _ _ _ _ hc
  unfold Engine.setG
  split
  · exact ⟨rfl, fun _ _ => rfl, fun c hc => ⟨rfl, hpcs c hc⟩⟩
  split
  · refine ⟨rfl, fun k hk => SMap.get_set_ne _ _ _ _ _ _ ?_, fun c hc => ⟨rfl, hpcs c hc⟩⟩
    omega
  · exact ⟨rfl, fun _ _ => rfl, fun c hc => ⟨rfl, hpcs c hc⟩⟩

/-- `Wrote` of a state that differs in engine e alone, by a write of rd and the pc. -/
theorem wrote_of_eng {rd : Fin 32} {v pc : DWord} (hs : OnlyEngines s t) (hj : ∀ j, j ≠ e.val → t.eng j = s.eng j)
    (he : t.eng e = ((s.eng e).setG rd v).setPc pc) : Wrote s e rd v pc t := by
  refine ⟨hs, hj, he ▸ onlyContext_setG_setPc .., by simp [he], fun r => ?_⟩
  rw [he, Engine.g_setPc, Engine.g_setG]

/-- rd ← v, pc ← t with t in the instruction SRAM. -/
theorem wrote_setG_jump (rd : Fin 32) (v pc : DWord) (hpc : pc.toNat < 0x20000) :
    Wrote s e rd v pc ((s.setEng e ((s.eng e).setG rd v)).jump e pc) := by
  rw [State.jump_of_lt _ _ hpc]
  refine wrote_of_eng ((onlyEngines_refl.setEng ..).setEng ..) (fun j hj => ?_) (by simp)
  rw [State.eng_setEng_ne _ _ _ _ hj, State.eng_setEng_ne _ _ _ _ hj]

theorem s0_setG_jump (rd : Fin 32) (v pc : DWord) (hpc : pc.toNat < 0x20000) :
    (((s.setEng e ((s.eng e).setG rd v)).jump e pc).eng e).s0 = (s.eng e).s0 := by
  simp [State.jump_of_lt _ _ hpc]

theorem went_setPc (pc : DWord) : Went s e pc (s.setEng e ((s.eng e).setPc pc)) :=
  ⟨wrote_of_eng (onlyEngines_refl.setEng ..) (fun _ hj => State.eng_setEng_ne _ _ _ _ hj) (by simp), by simp⟩

theorem went_advance : Went s e ((s.eng e).pc + 4) (s.advance e) := went_setPc _

theorem went_jump (pc : DWord) (hpc : pc.toNat < 0x20000) : Went s e pc (s.jump e pc) := by
  rw [State.jump_of_lt _ _ hpc]; exact went_setPc pc

/-! ## Traps -/

/-- Taking a trap (R55, R70) does all of what `Trapped` says, at the engine's pc. -/
theorem trapped_trap (code : Nat) (val : DWord) (hc : code < 256) : Trapped s e code (s.eng e).pc val (s.trap e code val) := by
  obtain ⟨hcause, hpc, hcount, hhalted⟩ := s.f_trapRecorded e code hc
  by_cases hd : (s.eng e).ctx ∈ (s.eng e).inTrap
  · rw [State.trap_of_mem _ _ _ hd]
    have hne := trapFields_keys_ne e
    simp only [trapFields, List.pairwise_cons, List.mem_cons, forall_eq_or_imp] at hne
    refine ⟨?_, ?_, ?_, by simp, by simp, by simp, fun j hj => by simp [State.eng_setEng_ne _ _ _ _ hj], by simp, ?_⟩
    · simpa [State.setB, State.f_setF_ne, hne] using hcause
    · simpa [State.setB, State.f_setF_ne, hne] using hpc
    · simpa [State.setB, State.f_setF_ne, hne] using hcount
    · rw [if_pos hd]
      have hw : 0 < (ENG_STATUS_halted e).w ∧ 0 < (ENG_STATUS_double_trap e).w := ⟨Nat.one_pos, Nat.one_pos⟩
      simp [State.fb_setB_ne, hne, hw]
  · rw [State.trap_of_notMem _ _ _ hd]
    refine ⟨hcause, hpc, hcount, by simp, by simp, by simp, fun j hj => by simp [State.eng_setEng_ne _ _ _ _ hj], by simp, ?_⟩
    rw [if_neg hd]
    exact ⟨by simp, by simp, congrArg (· != 0) hhalted⟩

/-- A trap taken just after a write of the pc is a trap of the engine as it was before, but for the pc. -/
theorem Trapped.of_setPc {code : Nat} {v pc val : DWord} (h : Trapped (s.setEng e ((s.eng e).setPc v)) e code pc val t) : Trapped s e code pc val t := by
  obtain ⟨hcause, hpc, hcount, htpc, hval, hmem, hj, hg, hstate⟩ := h
  refine ⟨hcause, hpc, hcount, htpc, hval, hmem, fun j hne => ?_, by simpa using hg, by simpa using hstate⟩
  rw [hj j hne, State.eng_setEng_ne _ _ _ _ hne]

/-- A jump out of the instruction SRAM traps with the target in s5 (R81). -/
theorem trapped_jump (v : DWord) (hv : 0x20000 ≤ v.toNat) : Trapped s e 0x03 v v (s.jump e v) := by
  have h := trapped_trap (s := s.setEng e ((s.eng e).setPc v)) (e := e) 0x03 v (by decide)
  rw [State.eng_setEng_same, Engine.pc_setPc] at h
  rw [State.jump_of_ge _ _ hv]
  exact h.of_setPc

/-- A jump out of the instruction SRAM that has written rd first: the trap, and rd. -/
theorem trapped_setG_jump (rd : Fin 32) (v pc : DWord) (hpc : 0x20000 ≤ pc.toNat) :
    let t := (s.setEng e ((s.eng e).setG rd v)).jump e pc
    t.f (ENG_TRAP_CAUSE_cause e) = 0x03 ∧ (t.eng e).trapPc = pc ∧ (rd ≠ 0 → (t.eng e).g rd = v) := by
  obtain ⟨hcause, -, -, htpc, -, -, -, hg, -⟩ := trapped_jump (s := s.setEng e ((s.eng e).setG rd v)) (e := e) pc hpc
  refine ⟨hcause, htpc, fun hrd => ?_⟩
  rw [hg, State.eng_setEng_same, Engine.g_setG, if_neg hrd, if_pos rfl]

/-! ## Jumps and branches -/

theorem exec_jal (d : Fin 32) (imm : BitVec 16) :
    exec (.jal e d imm) s = s.instr e ((s.setEng e ((s.eng e).setG d ((s.eng e).pc + 4))).jump e ((s.eng e).target imm)) := rfl

/-- JALR to a word-aligned target (R87). -/
theorem exec_jalr_aligned (d a : Fin 32) (imm : BitVec 16) (h : ((s.eng e).g a + sext16 imm).toNat % 4 = 0) :
    exec (.jalr e d a imm) s = s.instr e ((s.setEng e ((s.eng e).setG d ((s.eng e).pc + 4))).jump e ((s.eng e).g a + sext16 imm)) :=
  congrArg (s.instr e) (if_neg (not_not_intro h))

/-- JALR to a target that is not word-aligned (R87). -/
theorem exec_jalr_misaligned (d a : Fin 32) (imm : BitVec 16) (h : ((s.eng e).g a + sext16 imm).toNat % 4 ≠ 0) :
    exec (.jalr e d a imm) s = s.instr e (s.trap e 0x02 ((s.eng e).g a + sext16 imm)) :=
  congrArg (s.instr e) (if_pos h)

/-- JAL: the link and the target (R81, R87). -/
theorem jal_spec (hr : s.ready e = true) (d : Fin 32) (imm : BitVec 16) :
    let pc := (s.eng e).pc
    let target := pc + BitVec.ofInt 64 (imm.toInt * 4)
    (target.toNat < 0x20000 → Next (.jal e d imm) s fun q => Wrote s e d (pc + 4) target q ∧ (q.eng e).s0 = (s.eng e).s0) ∧
    (0x20000 ≤ target.toNat → Next (.jal e d imm) s fun q =>
      q.f (ENG_TRAP_CAUSE_cause e) = 0x03 ∧ (q.eng e).trapPc = target ∧ (d ≠ 0 → (q.eng e).g d = pc + 4)) := by
  have hx := exec_jal (s := s) (e := e) d imm
  rw [Engine.target_eq_ofInt] at hx
  exact ⟨fun h => next_of_ready hr hx ⟨wrote_setG_jump _ _ _ h, s0_setG_jump _ _ _ h⟩, fun h => next_of_ready hr hx (trapped_setG_jump _ _ _ h)⟩

/-- JALR: the link, the target and its alignment (R81, R87). -/
theorem jalr_spec (hr : s.ready e = true) (d a : Fin 32) (imm : BitVec 16) :
    let pc := (s.eng e).pc
    let t := (s.eng e).g a + sext16 imm
    (t.toNat % 4 = 0 → t.toNat < 0x20000 → Next (.jalr e d a imm) s fun q => Wrote s e d (pc + 4) t q ∧ (q.eng e).s0 = (s.eng e).s0) ∧
    (t.toNat % 4 ≠ 0 → Next (.jalr e d a imm) s (Trapped s e 0x02 pc t)) ∧
    (t.toNat % 4 = 0 → 0x20000 ≤ t.toNat → Next (.jalr e d a imm) s fun q =>
      q.f (ENG_TRAP_CAUSE_cause e) = 0x03 ∧ (q.eng e).trapPc = t ∧ (d ≠ 0 → (q.eng e).g d = pc + 4)) :=
  ⟨fun ha h => next_of_ready hr (exec_jalr_aligned d a imm ha) ⟨wrote_setG_jump _ _ _ h, s0_setG_jump _ _ _ h⟩,
    fun ha => next_of_ready hr (exec_jalr_misaligned d a imm ha) (trapped_trap _ _ (by decide)),
    fun ha h => next_of_ready hr (exec_jalr_aligned d a imm ha) (trapped_setG_jump _ _ _ h)⟩

/-- A branch on a condition c: the next instruction, the target, or the trap of a target outside the instruction SRAM (R81). -/
theorem branch_spec {i : Instr} {a b : Fin 32} {imm : BitVec 16} {c : DWord → DWord → Bool} {taken : Bool} (hr : s.ready e = true)
    (hx : exec i s = s.instr e (s.branch e a b imm c)) (hc : c ((s.eng e).g a) ((s.eng e).g b) = taken) :
    let target := (s.eng e).pc + BitVec.ofInt 64 (imm.toInt * 4)
    (taken = false → Next i s (Went s e ((s.eng e).pc + 4))) ∧ (taken = true → target.toNat < 0x20000 → Next i s (Went s e target)) ∧
    (taken = true → 0x20000 ≤ target.toNat → Next i s (Trapped s e 0x03 target target)) := by
  rw [State.branch, Engine.target_eq_ofInt, hc] at hx
  refine ⟨fun ht => next_of_ready hr hx ?_, fun ht h => next_of_ready hr hx ?_, fun ht h => next_of_ready hr hx ?_⟩ <;> subst ht
  · exact went_advance
  · exact went_jump _ h
  · exact trapped_jump _ h

theorem not_slt_eq_decide (x y : DWord) : (!x.slt y) = decide (y.toInt ≤ x.toInt) := by simp [BitVec.slt, ← decide_not]
theorem not_ult_eq_decide (x y : DWord) : (!x.ult y) = decide (y.toNat ≤ x.toNat) := by simp [BitVec.ult, ← decide_not]

/-- Settles O3: JAL and JALR by their specs, the six branches by the one of a branch on a condition. -/
theorem jumpsAndBranches : Obligations.JumpsAndBranches := by
  intro s e d a b imm hr
  obtain ⟨hjal, hjalOut⟩ := jal_spec hr d imm
  obtain ⟨hjalr, hjalrMis, hjalrOut⟩ := jalr_spec hr d a imm
  refine ⟨hjal, hjalr, hjalrMis, hjalOut, hjalrOut, ?_⟩
  simp only [List.forall_mem_cons, List.not_mem_nil, false_implies, implies_true, and_true]
  exact ⟨branch_spec (c := fun x y => x == y) hr rfl rfl, branch_spec (c := fun x y => x != y) hr rfl (decide_not ..).symm,
    branch_spec (c := fun x y => x.slt y) hr rfl rfl, branch_spec (c := fun x y => !x.slt y) hr rfl (not_slt_eq_decide ..),
    branch_spec (c := fun x y => x.ult y) hr rfl rfl, branch_spec (c := fun x y => !x.ult y) hr rfl (not_ult_eq_decide ..)⟩

end Sys2Proof.Claims
end

section
/-!
SUPPORT. RINSE and the drain of a period (R51, R68, R97): a drain takes requests out of queues and lays none in, leaves the engines' registers, and
keeps no request with an older tag.
-/
namespace Sys2Proof.Machine

variable {s t u : State}

/-! ## Queues -/

@[simp] theorem Engine.queue_setQueue_same (n : Engine) (q : Nat) (x : Queue) : (n.setQueue q x).queue q = x := by simp [Engine.queue, Engine.setQueue]

theorem Engine.queue_setQueue_ne (n : Engine) (q p : Nat) (x : Queue) (h : p ≠ q) : (n.setQueue q x).queue p = n.queue p := by
  simp [Engine.queue, Engine.setQueue, SMap.get_set_ne _ _ _ _ _ _ h]

/-- Writing an engine with the same queues leaves every queue. -/
theorem State.queue_setEng_of_q (e : Nat) (n : Engine) (h : n.q = (s.eng e).q) (i : QId) : (s.setEng e n).queue i = s.queue i := by
  cases i with
  | mailbox => rfl
  | queue j q =>
    by_cases hj : j.val = e
    · simp [State.queue, Engine.queue, hj, h]
    · simp [State.queue, State.eng_setEng_ne _ _ _ _ hj]

@[simp] theorem State.queue_setQueue_same (i : QId) (x : Queue) : (s.setQueue i x).queue i = x := by
  cases i <;> simp [State.queue, State.setQueue]

theorem State.queue_setQueue_ne (i j : QId) (x : Queue) (h : j ≠ i) : (s.setQueue i x).queue j = s.queue j := by
  cases i with
  | mailbox =>
    cases j with
    | mailbox => exact absurd rfl h
    | queue f p => rfl
  | queue e q =>
    cases j with
    | mailbox => rfl
    | queue f p =>
      by_cases hf : f.val = e.val
      · obtain rfl := Fin.ext hf
        have hp : p.val ≠ q.val := fun hp => h (by rw [Fin.ext hp])
        simp [State.queue, State.setQueue, Engine.queue_setQueue_ne _ _ _ _ hp]
      · simp [State.queue, State.setQueue, State.eng_setEng_ne _ _ _ _ hf]

/-! ## What a drain can do, said once -/

/-- Of an engine nothing has changed but its queues and the counts of its result and event writes. -/
def Engine.Drained (a b : Engine) : Prop := ∃ q r w, b = { a with q := q, resultWrites := r, eventWrites := w }

/-- Requests may have left queues, none has come in, and of the engines nothing else has changed but their write counts. -/
def State.Drained (s t : State) : Prop := (∀ j, (s.eng j).Drained (t.eng j)) ∧ ∀ i, ∀ r ∈ (t.queue i).items, r ∈ (s.queue i).items

theorem Engine.Drained.refl (n : Engine) : n.Drained n := ⟨n.q, n.resultWrites, n.eventWrites, rfl⟩
theorem Engine.Drained.trans {a b c : Engine} (h : a.Drained b) (k : b.Drained c) : a.Drained c := by
  obtain ⟨_, _, _, rfl⟩ := h; obtain ⟨q, r, w, rfl⟩ := k; exact ⟨q, r, w, rfl⟩
theorem Engine.Drained.pc {a b : Engine} (h : a.Drained b) : b.pc = a.pc := by obtain ⟨_, _, _, rfl⟩ := h; rfl
theorem Engine.Drained.g {a b : Engine} (h : a.Drained b) (r : Fin 32) : b.g r = a.g r := by obtain ⟨_, _, _, rfl⟩ := h; rfl

theorem State.Drained.trans (h : s.Drained t) (k : t.Drained u) : s.Drained u :=
  ⟨fun j => (h.1 j).trans (k.1 j), fun i r hr => h.2 i r (k.2 i r hr)⟩

/-- A change that leaves engines and queues. -/
theorem State.drained_of_eq (he : ∀ j, t.eng j = s.eng j) (hq : ∀ i, t.queue i = s.queue i) : s.Drained t :=
  ⟨fun j => he j ▸ .refl _, fun i _ hr => hq i ▸ hr⟩

theorem State.Drained.refl : s.Drained s := State.drained_of_eq (fun _ => rfl) fun _ => rfl
theorem State.Wrote.toDrained (h : s.Wrote t) : s.Drained t := State.drained_of_eq h.eng h.queue

variable (s)

theorem State.drained_setF (x : Fld) (v : Nat) : s.Drained (s.setF x v) := State.drained_of_eq (fun _ => rfl) fun _ => rfl
theorem State.drained_setB (x : Fld) (b : Bool) : s.Drained (s.setB x b) := s.drained_setF x _

theorem State.drained_outIdx (n : Nat) : s.Drained { s with outIdx := n } := State.drained_of_eq (fun _ => rfl) fun _ => rfl
theorem State.drained_outbox (l : List Result) : s.Drained { s with outbox := l } := State.drained_of_eq (fun _ => rfl) fun _ => rfl
theorem State.drained_notices (l : List (Nat × Nat)) : s.Drained { s with notices := l } := State.drained_of_eq (fun _ => rfl) fun _ => rfl
theorem State.drained_modbus (l : List ModbusAnswer) : s.Drained { s with modbus := l } := State.drained_of_eq (fun _ => rfl) fun _ => rfl

/-- An engine's write counts are no part of its queues. -/
theorem State.drained_setEng (e : Nat) (n : Engine) (hn : (s.eng e).Drained n) (hq : n.q = (s.eng e).q) : s.Drained (s.setEng e n) := by
  refine ⟨fun j => ?_, fun i r hr => by rwa [State.queue_setEng_of_q _ _ hq] at hr⟩
  by_cases hj : j = e
  · subst hj; simpa using hn
  · rw [State.eng_setEng_ne _ _ _ _ hj]; exact .refl _

/-- A queue that is written with no request but its own. -/
theorem State.drained_setQueue (i : QId) (x : Queue) (hx : ∀ r ∈ x.items, r ∈ (s.queue i).items) : s.Drained (s.setQueue i x) := by
  constructor
  · intro j
    cases i with
    | mailbox => exact .refl _
    | queue e q =>
      by_cases hj : j = e.val
      · subst hj; simpa [State.setQueue] using ⟨_, _, _, rfl⟩
      · simp only [State.setQueue, State.eng_setEng_ne _ _ _ _ hj]; exact .refl _
  · intro j r hr
    by_cases hj : j = i
    · subst hj; rw [State.queue_setQueue_same] at hr; exact hx r hr
    · rwa [State.queue_setQueue_ne _ _ _ hj] at hr

/-- Lint lists are no part of a queue's requests. -/
theorem State.drained_setLints (i : QId) (l : List LintOrig) : s.Drained (s.setQueue i { s.queue i with lints := l }) :=
  s.drained_setQueue i { s.queue i with lints := l } fun _ h => h

/-! ## Records and answers drain nothing else -/

theorem State.drained_postTo (n w a : Nat) : s.Drained (s.postTo n w a) := by
  unfold State.postTo
  extract_lets idx s1 s2 en s3
  have h3 : s.Drained s3 := (((s.wrote_wr ..).trans (State.wrote_wr ..)).toDrained.trans (State.drained_setF ..)).trans
    (State.drained_setEng _ _ _ ⟨_, _, _, rfl⟩ rfl)
  split
  · exact h3.trans (State.drained_setB ..)
  · exact h3

theorem State.drained_postList (w a : Nat) (l : List Nat) : s.Drained (s.postList w a l) := by
  induction l generalizing s with
  | nil => exact .refl
  | cons n l ih => exact (s.drained_postTo n w a).trans (ih _)

theorem State.drained_unitRecord (c e n : Nat) (z : Scope) (o d : Nat) (l : List Nat) : s.Drained (s.unitRecord c e n z o d l) := s.drained_postList ..

theorem State.drained_modbusReply (r : Result) : s.Drained (s.modbusReply r) := by
  unfold State.modbusReply
  extract_lets st
  split
  · exact s.drained_modbus _
  · exact .refl

theorem State.drained_resultAt (n : Nat) (r : Result) : s.Drained (s.resultAt n r) := by
  unfold State.resultAt
  split
  · exact .refl
  · extract_lets idx s1 s2 en s3
    have h3 : s.Drained s3 := ((s.wrote_wr ..).toDrained.trans (State.drained_setF ..)).trans (State.drained_setEng _ _ _ ⟨_, _, _, rfl⟩ rfl)
    split
    · exact h3.trans (State.drained_setB ..)
    · exact h3

theorem State.drained_result (i : QId) (r : Result) : s.Drained (s.result i r) := by
  cases i with
  | mailbox => exact (s.wrote_wr ..).toDrained.trans (State.drained_outIdx ..)
  | queue e q =>
    simp only [State.result]
    split
    · exact s.drained_resultAt ..
    · exact (s.drained_outbox _).trans (State.drained_modbusReply ..)

theorem State.drained_completionEvent (i : QId) (r : Req) (v : Nat) : s.Drained (s.completionEvent i r v) := by
  unfold State.completionEvent
  split
  · split
    · exact s.drained_unitRecord ..
    · exact s.drained_notices _
  · exact .refl

theorem State.drained_complete (i : QId) (r : Req) (v d : Nat) (x : DWord) : s.Drained (s.complete i r v d x) := by
  unfold State.complete
  extract_lets
  exact ((s.drained_setLints ..).trans (State.drained_result ..)).trans (State.drained_completionEvent ..)

/-! ## Discards -/

theorem State.drained_discardEach (i : QId) (l : List Queued) : s.Drained (s.discardEach i l) := by
  induction l generalizing s with
  | nil => exact .refl
  | cons r l ih => exact (s.drained_complete ..).trans (ih _)

theorem State.drained_discardWhere (i : QId) (p : Req → Bool) : s.Drained (s.discardWhere i p).2 :=
  (s.drained_setQueue _ _ fun _ h => (List.mem_filter.1 h).1).trans (State.drained_discardEach ..)

theorem State.drained_discardQueues (p : Req → Bool) (l : List QId) : s.Drained (s.discardQueues p l).2 := by
  induction l generalizing s with
  | nil => exact .refl
  | cons i l ih => exact (s.drained_discardWhere i p).trans (ih _)

/-- The record of an engine's discards, where there is one. -/
theorem State.drained_ite_post (post : State → Nat → Nat → State) (hp : ∀ (x : State) j n, x.Drained (post x j n)) (c : Bool) (j n : Nat) :
    s.Drained (if c then s else post s j n) := by
  split
  · exact .refl
  · exact hp s j n

theorem State.drained_discardAll (p : Req → Bool) (also : List Nat) (post : State → Nat → Nat → State) (hp : ∀ (x : State) j n, x.Drained (post x j n))
    (l : List (Fin 8)) : s.Drained (s.discardAll p also post l) := by
  induction l generalizing s with
  | nil => exact .refl
  | cons e l ih =>
    simp only [State.discardAll]
    exact ((s.drained_discardQueues p (queuesOf e)).trans (State.drained_ite_post _ post hp _ e.val _)).trans (ih _)

/-- A queue keeps no request that its discard selects. -/
theorem State.not_of_mem_discardWhere (i : QId) (p : Req → Bool) (r : Queued) (hr : r ∈ ((s.discardWhere i p).2.queue i).items) : p r.req = false := by
  have h := (State.drained_discardEach ..).2 i r hr
  rw [State.queue_setQueue_same] at h
  simpa using (List.mem_filter.1 h).2

theorem State.not_of_mem_discardQueues (p : Req → Bool) (l : List QId) (i : QId) (hi : i ∈ l) (r : Queued)
    (hr : r ∈ ((s.discardQueues p l).2.queue i).items) : p r.req = false := by
  induction l generalizing s with
  | nil => cases hi
  | cons j l ih =>
    rcases List.mem_cons.1 hi with rfl | hi
    · exact s.not_of_mem_discardWhere i p r ((State.drained_discardQueues ..).2 i r hr)
    · exact ih _ hi hr

theorem State.not_of_mem_discardAll (p : Req → Bool) (also : List Nat) (post : State → Nat → Nat → State) (hp : ∀ (x : State) j n, x.Drained (post x j n))
    (l : List (Fin 8)) (e : Fin 8) (he : e ∈ l) (i : QId) (hi : i ∈ queuesOf e) (r : Queued) (hr : r ∈ ((s.discardAll p also post l).queue i).items) :
    p r.req = false := by
  induction l generalizing s with
  | nil => cases he
  | cons j l ih =>
    simp only [State.discardAll] at hr
    rcases List.mem_cons.1 he with rfl | he
    · have hpost := (State.drained_discardAll _ p also post hp l).2 i r hr
      exact s.not_of_mem_discardQueues p _ i hi r ((State.drained_ite_post _ post hp _ e.val _).2 i r hpost)
    · exact ih _ he hr

/-- Every queue, and the mailbox, is one of the queues of an engine. -/
theorem exists_mem_queuesOf (i : QId) : ∃ e ∈ engines, i ∈ queuesOf e := by
  cases i with
  | mailbox => exact ⟨4, by decide, by decide⟩
  | queue e q => exact ⟨e, by revert e; decide, by revert e q; decide⟩

/-! ## The drain of a period -/

theorem State.drained_periodDiscardRecord (j kind inst n : Nat) : s.Drained (s.periodDiscardRecord j kind inst n) := s.drained_unitRecord ..

theorem State.drainPeriod_eq (kind inst : Nat) :
    s.drainPeriod kind inst = s.discardAll (staleTag s kind inst) [] (fun x j n => x.periodDiscardRecord j kind inst n) engines := rfl

theorem State.drained_drainPeriod (kind inst : Nat) : s.Drained (s.drainPeriod kind inst) := by
  rw [State.drainPeriod_eq]
  exact s.drained_discardAll _ _ _ (fun x j n => x.drained_periodDiscardRecord j kind inst n) _

/-- No request with an older tag of the period stays queued (R51). -/
theorem State.staleTag_of_mem_drainPeriod (kind inst : Nat) (i : QId) (r : Queued) (hr : r ∈ ((s.drainPeriod kind inst).queue i).items) :
    staleTag s kind inst r.req = false := by
  obtain ⟨e, he, hi⟩ := exists_mem_queuesOf i
  rw [State.drainPeriod_eq] at hr
  exact s.not_of_mem_discardAll _ _ _ (fun x j n => x.drained_periodDiscardRecord j kind inst n) _ e he i hi r hr

/-- A tag that is not older, of the period's kind and instance, is the present one (R51). -/
theorem periodSeq_of_not_staleTag {s : State} {kind inst : Nat} {r : Req} (h : staleTag s kind inst r = false) (hk : r.periodKind.toNat = kind)
    (hi : tagInst r = inst) : r.periodSeq.toNat = s.period kind inst % 4096 := by
  simpa [staleTag, hk, hi] using h

theorem State.period_drainPeriod (kind inst i j : Nat) : (s.drainPeriod kind inst).period i j = s.period i j := (s.answers_drainPeriod ..).period i j

/-- The state with a period counter advanced, before the drain. -/
def State.counted (s : State) (kind inst : Nat) : State :=
  { s with periods := SMap.set 0 s.periods (16 * kind + inst) ((s.period kind inst + 1) % 2 ^ 32) }

theorem State.period_counted (kind inst : Nat) : (s.counted kind inst).period kind inst = (s.period kind inst + 1) % 2 ^ 32 := SMap.get_set_same ..
theorem State.drained_counted (kind inst : Nat) : s.Drained (s.counted kind inst) := State.drained_of_eq (fun _ => rfl) fun _ => rfl
theorem State.advancePeriod_eq (kind inst : Nat) : s.advancePeriod kind inst = (s.counted kind inst).drainPeriod kind inst := rfl

theorem State.drained_emptyVesselLint (c : Nat) : s.Drained (s.emptyVesselLint c) := s.drained_setLints ..
theorem State.period_emptyVesselLint (c i j : Nat) : (s.emptyVesselLint c).period i j = s.period i j := s.period_setQueue ..

/-! ## RINSE -/

/-- What a RINSE of a kind and instance does (R51, R68): the state and the count that it gives. -/
structure State.Rinsed (s : State) (kind inst v : Nat) (t : State) : Prop where
  count : v = if kind = 1 then s.period kind inst else (s.period kind inst + 1) % 2 ^ 32
  period : t.period kind inst = v
  drained : s.Drained t
  tags : ∀ i, ∀ r ∈ (t.queue i).items, r.req.periodKind.toNat = kind → tagInst r.req = inst → r.req.periodSeq.toNat = v % 4096

/-- A drain completes a RINSE, once the counter is as the RINSE gives it. -/
theorem State.rinsed_drainPeriod {u : State} {kind inst : Nat} (hu : s.Drained u)
    (hp : u.period kind inst = if kind = 1 then s.period kind inst else (s.period kind inst + 1) % 2 ^ 32) :
    s.Rinsed kind inst (u.period kind inst) (u.drainPeriod kind inst) where
  count := hp
  period := u.period_drainPeriod ..
  drained := hu.trans (u.drained_drainPeriod ..)
  tags := fun i r hr hk hi => periodSeq_of_not_staleTag (u.staleTag_of_mem_drainPeriod kind inst i r hr) hk hi

variable {s}

/-- A change that brings no request in and leaves the period counters comes after a RINSE unnoticed. -/
theorem State.Rinsed.trans {kind inst v : Nat} {u : State} (h : s.Rinsed kind inst v t) (k : t.Drained u) (hp : u.period kind inst = t.period kind inst) :
    s.Rinsed kind inst v u where
  count := h.count
  period := hp.trans h.period
  drained := h.drained.trans k
  tags := fun i r hr => h.tags i r (k.2 i r hr)

/-- RINSE of the model: kind 0x1 drains alone, every other kind advances first, and kind 0x8 empties the vessel's lint list. -/
theorem State.rinsed_rinse (kind inst : Nat) (h1 : kind = 1 → inst = 0) : s.Rinsed kind inst (s.rinse kind inst).1 (s.rinse kind inst).2 := by
  have hdrain : ∃ v, s.Rinsed kind inst v (if kind = 1 then s.drainPeriod 1 0 else s.advancePeriod kind inst) := by
    by_cases hk : kind = 1
    · obtain rfl := h1 hk
      subst hk
      rw [if_pos rfl]
      exact ⟨_, s.rinsed_drainPeriod .refl (if_pos rfl).symm⟩
    · rw [if_neg hk, State.advancePeriod_eq]
      exact ⟨_, s.rinsed_drainPeriod (s.drained_counted ..) (by rw [if_neg hk, State.period_counted])⟩
  obtain ⟨v, hv⟩ := hdrain
  have hlint : s.Rinsed kind inst v (s.rinse kind inst).2 := by
    unfold State.rinse
    dsimp only
    split
    · exact hv.trans (State.drained_emptyVesselLint ..) (State.period_emptyVesselLint ..)
    · exact hv
  have hcount : (s.rinse kind inst).1 = v := hlint.period
  rwa [hcount]

/-! ## The instruction (R97) -/

/-- Whether the instance in rs1 is one of the kind's (R97). -/
def instFits (kind inst : Nat) : Bool := if kind = 4 ∨ kind = 8 then decide (inst ≤ 7) else inst == 0

/-- An owned kind is one of the nine. -/
theorem kind_of_ownsPeriod {e kind : Nat} (h : ownsPeriod e kind = true) : 1 ≤ kind ∧ kind ≤ 9 := by
  unfold ownsPeriod at h
  split at h <;> simp_all

/-- Kind 0x1 has the one instance 0. -/
theorem inst_of_instFits_one {kind inst : Nat} (h : instFits kind inst = true) (hk : kind = 1) : inst = 0 := by
  subst hk; simpa [instFits] using h

/-- The kind is in the low four bits of imm11, whose others are reserved. -/
theorem toNat_ofNat_kind (kind : Fin 16) : (BitVec.ofNat 11 kind.val).toNat = kind.val := by
  rw [BitVec.toNat_ofNat]; omega

/-- RINSE of a kind, with the decisions of R97 on the kind, its owner and its instance. -/
theorem State.rinseIns_kind (e : Fin 8) (rd rs1 : Fin 32) (kind : Fin 16) :
    s.rinseIns e rd rs1 (BitVec.ofNat 11 kind.val) =
      if kind.val = 0 ∨ 9 < kind.val then s.trapFree e 0x01
      else if ownsPeriod e kind = false then s.trapFree e 0x06
      else if instFits kind ((s.eng e).g rs1).toNat = false then s.trapFree e 0x01
      else (s.rinse kind ((s.eng e).g rs1).toNat).2.setRd e rd (BitVec.ofNat 64 (s.rinse kind ((s.eng e).g rs1).toNat).1) := by
  have hlow : kind.val % 16 = kind.val := Nat.mod_eq_of_lt kind.isLt
  have hhigh : kind.val / 16 = 0 := Nat.div_eq_of_lt kind.isLt
  simp only [State.rinseIns, toNat_ofNat_kind, hlow, hhigh]
  by_cases h48 : kind.val = 4 ∨ kind.val = 8 <;> simp [instFits, h48]

end Sys2Proof.Machine

namespace Sys2Proof.Claims
open Sys2Proof.Machine

variable {s t : State} {e : Fin 8}

/-- A trap without a stated operand (R55): cause and pc. -/
theorem cause_trapFree (code : Nat) (hc : code < 256) : Cause s e code (s.trapFree e code) := by
  obtain ⟨hcause, -, -, htpc, -, hmem, -, hg, -⟩ := trapped_trap (s := s.fresh.2) (e := e) code (BitVec.ofNat 64 s.fresh.1) hc
  exact ⟨hcause, htpc, hg, hmem⟩

/-- rd ← v, pc ← pc + 4 after a drain. -/
theorem rd_setRd (h : s.Drained t) (rd : Fin 32) (v : DWord) : Rd s (t.setRd e rd v) e rd v ((s.eng e).pc + 4) := by
  have he := h.1 e
  refine ⟨by simp [State.setRd, he.pc], fun r => ?_⟩
  simp [State.setRd, Engine.g_setG, he.g]

theorem queue_setRd (rd : Fin 32) (v : DWord) (i : QId) : (s.setRd e rd v).queue i = s.queue i := by
  refine State.queue_setEng_of_q _ _ ?_ i
  unfold Engine.next Engine.setPc Engine.setG
  split
  · rfl
  · split <;> rfl

theorem exec_rinse (d a : Fin 32) (imm : BitVec 11) : exec (.rinse e d a imm) s = s.instr e (s.rinseIns e d a imm) := rfl

section
variable (hr : s.ready e = true) (d a : Fin 32) {kind : Fin 16}
include hr

/-- RINSE of no period kind (R97). -/
theorem rinse_noKind (h : kind.val = 0 ∨ 9 < kind.val) : Next (.rinse e d a (BitVec.ofNat 11 kind)) s (Cause s e 0x01) := by
  refine next_of_ready hr (exec_rinse ..) ?_
  rw [State.rinseIns_kind, if_pos h]
  exact cause_trapFree 0x01 (by decide)

/-- RINSE of another engine's kind (R97). -/
theorem rinse_notOwned (h1 : 1 ≤ kind.val) (h9 : kind.val ≤ 9) (ho : ownsPeriod e kind = false) :
    Next (.rinse e d a (BitVec.ofNat 11 kind)) s (Cause s e 0x06) := by
  refine next_of_ready hr (exec_rinse ..) ?_
  rw [State.rinseIns_kind, if_neg (by omega), if_pos ho]
  exact cause_trapFree 0x06 (by decide)

/-- RINSE of an owned kind with an instance out of range (R97). -/
theorem rinse_notFits (ho : ownsPeriod e kind = true) (hf : instFits kind ((s.eng e).g a).toNat = false) :
    Next (.rinse e d a (BitVec.ofNat 11 kind)) s (Cause s e 0x01) := by
  obtain ⟨h1, h9⟩ := kind_of_ownsPeriod ho
  refine next_of_ready hr (exec_rinse ..) ?_
  rw [State.rinseIns_kind, if_neg (by omega), if_neg (by simp [ho]), if_pos hf]
  exact cause_trapFree 0x01 (by decide)

/-- RINSE of an owned kind with an instance of it: the count, which rd takes too, and the tags that stay queued (R51, R68, R97). -/
theorem rinse_fits {now : Nat} (ho : ownsPeriod e kind = true) (hf : instFits kind ((s.eng e).g a).toNat = true)
    (hnow : now = if kind.val = 1 then s.period kind ((s.eng e).g a).toNat else (s.period kind ((s.eng e).g a).toNat + 1) % 2 ^ 32) :
    Next (.rinse e d a (BitVec.ofNat 11 kind)) s fun t =>
      t.period kind ((s.eng e).g a).toNat = now ∧ Rd s t e d (BitVec.ofNat 64 now) ((s.eng e).pc + 4) ∧
        ∀ q, ∀ r ∈ (t.queue q).items, r.req.periodKind.toNat = kind → tagInst r.req = ((s.eng e).g a).toNat → r.req.periodSeq.toNat = now % 4096 := by
  obtain ⟨h1, h9⟩ := kind_of_ownsPeriod ho
  have hrinsed := s.rinsed_rinse kind ((s.eng e).g a).toNat (inst_of_instFits_one hf)
  refine next_of_ready hr (exec_rinse ..) ?_
  rw [State.rinseIns_kind, if_neg (by omega), if_neg (by simp [ho]), if_neg (by simp [hf]), hrinsed.count, ← hnow]
  rw [hrinsed.count, ← hnow] at hrinsed
  refine ⟨hrinsed.period, rd_setRd hrinsed.drained d _, fun q r hq => ?_⟩
  rw [queue_setRd] at hq
  exact hrinsed.tags q r hq

end

/-- The owners of the period kinds (R97). -/
theorem ownsPeriod_iff (e : Fin 8) (kind : Fin 16) :
    ownsPeriod e kind = true ↔ kind = 1 ∧ (e = 2 ∨ e = 3) ∨ kind = 2 ∧ e = 0 ∨ kind = 3 ∧ e = 5 ∨ (kind = 4 ∨ kind = 9) ∧ e = 6 ∨
      (kind = 5 ∨ kind = 6 ∨ kind = 7) ∧ e = 4 ∨ kind = 8 ∧ e = 1 := by
  revert e kind; decide

theorem instFits_iff (kind : Fin 16) (inst : Nat) : instFits kind inst = true ↔ if kind = 4 ∨ kind = 8 then inst ≤ 7 else inst = 0 := by
  have h4 : kind.val = 4 ↔ kind = 4 := ⟨fun h => Fin.ext h, congrArg Fin.val⟩
  have h8 : kind.val = 8 ↔ kind = 8 := ⟨fun h => Fin.ext h, congrArg Fin.val⟩
  unfold instFits
  simp only [h4, h8]
  split <;> simp

/-- Settles O14: the decisions of RINSE case by case; a drain keeps no request with an older tag, and kind 0x1 has the one instance 0. -/
theorem periodRinse : Obligations.PeriodRinse := by
  intro s e d a kind hr n inst fits now i
  have hfits : instFits kind inst = true ↔ fits := instFits_iff kind inst
  refine ⟨fun h => rinse_noKind hr d a (h.imp (congrArg Fin.val) id), fun h1 h9 ho => rinse_notOwned hr d a h1 h9 ho, fun ho hf => ?_, fun ho hf hk => ?_,
    fun ho hf hk => ?_, ownsPeriod_iff e kind⟩
  · exact rinse_notFits hr d a ho (Bool.eq_false_iff.2 fun h => hf (hfits.1 h))
  · have hk1 : kind.val ≠ 1 := fun h => hk (Fin.ext h)
    exact rinse_fits hr d a ho (hfits.2 hf) (if_neg hk1).symm
  · have hinst : inst = 0 := inst_of_instFits_one (hfits.2 hf) (congrArg Fin.val hk)
    obtain ⟨t, hx, hperiod, hrd, htags⟩ := rinse_fits (now := s.period kind inst) hr d a ho (hfits.2 hf) (if_pos (congrArg Fin.val hk)).symm
    change t.period kind inst = _ at hperiod
    change ∀ q, ∀ r ∈ (t.queue q).items, _ → tagInst r.req = inst → _ at htags
    rw [hinst] at hperiod hrd htags
    subst hk
    refine ⟨t, hx, hperiod, hrd, fun q r hq hr1 => htags q r hq (congrArg BitVec.toNat hr1) ?_⟩
    simp [tagInst, hr1]

end Sys2Proof.Claims
end
